-- ==== Sys2Proof/Word.lean ====
section
/-! DEFINITION. The words of the GKT8-1250 and the small containers its state is laid out in. -/

namespace Sys2Proof

/-- A 32-bit word of the direct register window (R489). -/
abbrev Word := BitVec 32

/-- A byte of a frame, of an Eyelet or of the completion ring. -/
abbrev Byte := BitVec 8

/-- Phases of the inverter, in the order of R534 (subindexes 1, 2, 3). -/
inductive Phase where
  | u | v | w
  deriving DecidableEq, Repr

/-- The six gate driver dies (R18), named by their switch position. -/
inductive GdPos where
  | uh | ul | vh | vl | wh | wl
  deriving DecidableEq, Repr

/-- The eight dies (R18). -/
inductive Die where
  | hb | fc | gd (p : GdPos)
  deriving DecidableEq, Repr

/-- The two CAN channels. -/
inductive Ch where
  | a | b
  deriving DecidableEq, Repr

/-- One value for each phase. -/
structure Tri (α : Type) where
  u : α
  v : α
  w : α
  deriving DecidableEq, Repr

/-- One value for each gate driver die. -/
structure Six (α : Type) where
  uh : α
  ul : α
  vh : α
  vl : α
  wh : α
  wl : α
  deriving DecidableEq, Repr

/-- One value for each CAN channel, or for each of two like things. -/
structure Two (α : Type) where
  a : α
  b : α
  deriving DecidableEq, Repr

end Sys2Proof
end

