-- ==== Sys2Proof/Syntax.lean ====
section
/-! DEFINITION. The commands of the block: one constructor per row of the table of operations and events, with the
operands the host sends or the environment gives (what a pin, a bus or a sensor shows at that event). -/

namespace Sys2Proof

/-- Heel orders a die can hold (R35). -/
inductive HeelOrder where
  | leg (p : Phase) | ascLow | ascHigh | piSoft | pi
  deriving DecidableEq, Repr

/-- Reports a gate driver die sends to FC (R35). -/
inductive HeelRep where
  | sc | uv
  deriving DecidableEq, Repr

/-- How a host frame arrives: its four header bytes as received, as a number, the CRC that follows them and the CRC that
follows its data, whether SCLK is high as nCS falls, and whether the host clocks out the last CRC byte of the response
(R488, R492, R495, R498). -/
structure Frame where
  raw : Nat
  hcrc : Nat
  dcrc : Nat
  mode3 : Bool
  clocked : Bool
  busErr : Bool
  deriving DecidableEq, Repr

/-- What a staged image's bytes give (R78): the header's fields, the length of each part, the digest of the public key,
the digest that the header states for the FC part, the digest that the key's signature signs (none: it signs nothing),
and the digests of the rest of the header with the HB part, and of the FC part, as they stand. A digest stands for its
256 bits as a number. -/
structure ImageHdr where
  version : Nat
  secVer : Nat
  hbLen : Nat
  fcLen : Nat
  keyDigest : Nat
  fcDigest : Nat
  signed : Option Nat
  bodySum : Nat
  fcSum : Nat
  deriving DecidableEq, Repr

/-- The Loop Engine pairs (R22). -/
inductive LePair where
  | le01 | le23 | le45
  deriving DecidableEq, Repr

/-- Where a mismatch falls in a control cycle (R236): before the cycle's outputs have left the pair, after them but before
its checkpoint, or while the pair waits for the next t0. -/
inductive CyclePoint where
  | early | late | waiting
  deriving DecidableEq, Repr

/-- Contactors, numbered as R552 numbers them. -/
inductive Kont where
  | neg | pre | pos
  deriving DecidableEq, Repr

/-- What a calibration measures (R113 to R116), on the x scale: offsets, test spans and midpoints per channel and path,
the largest raw reading of a channel in the quiet test, and the largest VT line-to-line magnitude in 2^-16 V. -/
structure CalMeas where
  offA : List Int
  offB : List Int
  spanA : List Int
  spanB : List Int
  midA : List Int
  midB : List Int
  rawMax : List Int
  llMax : Int
  deriving DecidableEq, Repr

/-- One clock of a path B modulator (R108, R707): its output bit, true for +1, and its input in µV. -/
structure BClk where
  bit : Bool
  uv : Int
  deriving DecidableEq, Repr

/-- What the converters and pins show at a sampling trigger: the twelve inputs in µV; the clocks of the twelve path B
modulators since the previous trigger, oldest first; the demodulated resolver pair, the resolver's velocity in
counts/s (48.16) and acceleration in LSB/s^2, and the tracking error beyond the lag of R159; SSI_DAT ready. -/
structure Sample where
  uvA : List Int
  clkB : List (List BClk)
  resSin : Int
  resCos : Int
  resVel : Int
  resAcc : Int
  resOff : Int
  ssiReady : Bool
  deriving DecidableEq, Repr

/-- An SSI frame as decoded (R161, R163): its bits, first transmitted first, and the framing levels. -/
structure SsiFrame where
  bits : List Bool
  startLow : Bool
  endLow : Bool
  deriving DecidableEq, Repr

/-- The frames of one candidate rate (R168, R169): the four delays in ns, the sixteen test frames and those of the
confirmation run; none stands for a frame that did not start or was aborted. -/
structure SsiTry where
  trt : List Nat
  frames : List (Option SsiFrame)
  confirm : List (Option SsiFrame)
  deriving DecidableEq, Repr

/-- What a feedback start meets (R168 to R171): wire faults by input, Hall state, the demodulated resolver pair and its
phase against the excitation in 2^-16 turn, and the frames of the nine candidate rates, fastest first. -/
structure FbStart where
  wire : Nat
  hall : Nat
  resSin : Int
  resCos : Int
  resPhase : Nat
  cands : List SsiTry
  deriving DecidableEq, Repr

/-- What path A samples at the end of the first half of each pulse of an Awl sequence, in the order of R215: twelve axis
pulses, the repeat of the first, two polarity pulses; the three phase inputs of the loop's transducer set in µV. -/
structure AwlResp where
  uv : List (List Int)
  deriving DecidableEq, Repr

/-- What the off-state diagnostic measures at a die (R386, R388): for each pair whether the pin stands at the supply,
the rise time in ns if it is reached and the rise in mV by gd.diag.tr_max; and what each comparator did, in the order of
GD_DIAG.CMP_FAIL: whether it fired at 90 % of its threshold, and whether it fired in time at 110 %. -/
structure DiagMeas where
  high : List Bool
  tr : List (Option Nat)
  rise : List Nat
  cmp : List (Bool × Bool)
  deriving DecidableEq, Repr

/-- The verdict of a comparator tree of the Welt: the word it forwards names a minority copy, or no majority (R403). -/
inductive WeltVerdict where
  | noMajority
  | forward (minority : Option Nat)
  deriving DecidableEq, Repr

/-- A CAN frame (R555, R570): identifier with bit 31 set when extended, kind 0 classical, 1 FD, 2 XL, flags, the eight XL
bytes, the data and the PT stamp of its start of frame. -/
structure CanFrame where
  word : Nat
  kind : Nat
  brs : Bool
  esi : Bool
  rtr : Bool
  xl : List Byte
  data : List Byte
  pt : Nat
  deriving DecidableEq, Repr

/-- How a transmit attempt ends (R579 to R585). -/
inductive CanOutcome where
  | sent (stamp delay : Nat) | lostArbitration | error | noAck
  deriving DecidableEq, Repr

/-- Who reads a word of FC shared SRAM (R613). -/
inductive FcReader where
  | le (p : LePair) | oe (second : Bool) | pe | se | hk | host
  deriving DecidableEq, Repr

/-- The word of the partner TCM of an LE pair (R613). -/
inductive PartnerWord where
  | good | badCode | badData
  deriving DecidableEq, Repr

/-- The regions of R613, in the order of its table, with what their outcome depends on. -/
inductive MemRegion where
  | cpCode | mailbox (tag : Option Nat) | cpState (checkpointOk : Bool) | hbSafety | mram
  | fcCode (r : FcReader) | fcControl (r : FcReader) | fcSafety | leTcm (p : LePair) (w : PartnerWord)
  | oeTcm (second code : Bool) | smTcm (copy : Nat) | gdSram
  deriving DecidableEq, Repr

/-- What a read of a word finds (R602): no error, a single error with its syndrome, or an uncorrectable word with the
outcome of its reload. -/
inductive WordRead where
  | good | single (syndrome : Nat) | bad (region : MemRegion) (reloadOk : Bool)
  deriving DecidableEq, Repr

/-- What a housekeeping round collects (R133, R628, R629): the 64 conversions of each of the 24 inputs; inputs 2 to 6 and
10, whose transfer the manual does not give, in the quantity their window is stated in: the analog supply in mV, REFA,
REFB and REFDS against the main bandgap and the second bandgap against it in ppm, the excitation amplitude in mV rms;
the junction sensors by die ID and the shutdown sensors, in 0.1 °C, where received. -/
structure HkRound where
  conv : List (List Nat)
  supMv : Int
  refPpm : List Int
  excMv : Int
  jn : List (Option Int)
  shd : List (Option Int)
  deriving DecidableEq, Repr

/-- What a boot meets (R84): step 0x01 passes, the trained state of each lane by link (2 full rate, 1 half, 0 none), PT
discipline, failing cells of step 0x07 (FC memory, byte address, bit), failing partitions of step 0x08, delivery of step
0x0B, feedback start, calibration, STO path tests and output readback, the link voltage at step 0x0D in 2^-16 V, the copies that fail their check (bits 0 and 1 the user
store, 2 and 3 the device record, 4 the Last image), a bad record of the persistent log, the step during which the
boot is cut short, `half` when power fails between the two writes of that step's entry (R89), and the parts of slots A
and B that no longer read as they were written (bit 0 the key, 1 the rest of the header with the HB part, 2 the FC
part). -/
structure BootIn where
  fusesOk : Bool
  lanes : List (List Nat)
  disciplineOk : Bool
  memFails : List (Nat × Nat × Nat)
  bistFails : Nat
  deliverOk : Bool
  fb : FbStart
  cal : CalMeas
  stoA : Option Nat                 -- ns from the force to the filtered level, none if it is not registered (R446)
  stoB : Option Nat
  readback : Bool
  vdc : Int
  bad : Nat
  logBad : Option Nat
  cut : Option Nat
  half : Bool
  rot : Two Nat
  deriving DecidableEq, Repr

/-- One constructor per row of the table of operations and events. -/
inductive Instr where
  /-- REG_READ (R497): A REG_READ frame reads words of the direct register window, waiting for a class-2 access for FC and gate-driver ranges. -/
  | regRead (f : Frame) (addr count : Nat)
  /-- REG_WRITE (R505): A REG_WRITE frame writes words of the direct register window to any register that has no row of its own; RO and reserved bits are ignored. -/
  | regWrite (f : Frame) (addr : Nat) (data : List Word)
  /-- EYELET_WRITE (R506): An EYELET_WRITE frame writes command words into an Eyelet, clears its empty mark, and rings the doorbell when DB is set. -/
  | eyeletWrite (f : Frame) (db : Bool) (addr : Nat) (data : List Word)
  /-- EYELET_READ (R506): An EYELET_READ frame reads response words from an Eyelet. -/
  | eyeletRead (f : Frame) (addr count : Nat)
  /-- CQ_READ (R514): A CQ_READ frame reads entries of the completion ring. -/
  | cqRead (f : Frame) (addr count : Nat)
  /-- HELLO (R501): A HELLO frame negotiates port width and SCLK rate; the new mode applies from the next nCS fall. -/
  | hello (f : Frame) (addr : Nat) (data : List Word)
  /-- PORT_FALLBACK (R499): After eight consecutive frames answered under R498, the port returns to single-lane mode at 25 MHz and records event 0x1405. -/
  | portFallback
  /-- FRAME_STALL (R525): nCS held for 50 us without an SCLK edge abandons the frame, discards its data and sets STALL. -/
  | frameStall (f : Frame) (kind addr bytes ns : Nat)
  /-- FRAME_TRUNCATED (R525): nCS rising before the last CRC byte abandons the frame, discards its data and sets TRUNC. -/
  | frameTruncated (f : Frame) (kind addr bytes : Nat)
  /-- FIELD_ACCESS_REPLY (R497): The reply to a port class-2 field-side access arrives, and the token and data are sent. -/
  | fieldAccessReply (clocked busErr : Bool)
  /-- WAIT_TIMEOUT (R497): A field-side access not served within port.read_wait is answered WAIT_TIMEOUT and records event 0x1414. -/
  | waitTimeout
  /-- DOORBELL (R511): A doorbell, rung by a write of HB_MBX_DOORBELL or by DB, queues the tag or is answered TAG_BUSY with a violation report. -/
  | doorbell (f : Frame) (w : Word)
  /-- CQ_HEAD_WRITE (R518): A write of HB_MBX_CQ_HEAD releases completions and frees tags, or is refused as a ring overrun. -/
  | cqHeadWrite (f : Frame) (w : Word)
  /-- IRQ_STATUS_CLEAR (R519): A W1C write of HB_IRQ_STATUS clears interrupt causes and updates HOST_nIRQ. -/
  | irqStatusClear (f : Frame) (w : Word)
  /-- RC_REGISTER_READ (R495): A read of an RC field returns it and clears it once the response CRC has been clocked out. -/
  | rcRegisterRead (f : Frame) (addr : Nat)
  /-- PT_LO_READ (R49): A read of HB_PT_LO returns the low PT word and latches the upper word into HB_PT_HI. -/
  | ptLoRead (f : Frame)
  /-- SETPOS_LO_READ (R317): A read of FC_PROF_SETPOS_LO returns the low set-point word and latches FC_PROF_SETPOS_HI. -/
  | setposLoRead (f : Frame)
  /-- EVT_DATA_READ (R667): A read of HB_EVT_DATA7 advances the cursor of the selected log by one record. -/
  | evtDataRead (f : Frame)
  /-- EVT_CURSOR_WRITE (R668): A write of CURSOR sets the cursor of the selected log, limited to the fill count. -/
  | evtCursorWrite (f : Frame) (w : Word)
  /-- GD_SELECT_WRITE (R20): A write of HB_GD_SELECT names the gate driver die for later GD_ accesses; values 0 and 1 are ignored. -/
  | gdSelectWrite (f : Frame) (w : Word)
  /-- RESET_CTRL_PACKAGE_RESET (R76): A keyed HB_RESET_CTRL write of KIND 0b00 orders a package reset in the permitted states. -/
  | resetCtrlPackageReset (f : Frame) (key : Nat) (clear : Bool)
  /-- RESET_CTRL_BIST_RESET (R76): A keyed HB_RESET_CTRL write of KIND 0b01 orders a package reset with a start-time logic BIST. -/
  | resetCtrlBistReset (f : Frame) (key : Nat) (clear : Bool)
  /-- RESET_CTRL_RECOVERY_RESET (R76): A keyed HB_RESET_CTRL write of KIND 0b10 orders a package reset into recovery. -/
  | resetCtrlRecoveryReset (f : Frame) (key : Nat) (clear : Bool)
  /-- COMMAND_ADMISSION (R513): The Command Processor admits queued commands in doorbell order, running the admission checks. -/
  | commandAdmission
  /-- COMMAND_STEP (R520): The Command Processor runs one step of at most 25 us of a long command, in round robin. -/
  | commandStep (tag : Nat)
  /-- FIELD_SIDE_REPLY (R520): A field-side reply to a command is taken up as a short step. -/
  | fieldSideReply (tag : Nat)
  /-- IRQ_COALESCING_TIMEOUT (R519): port.irq.coal_us after the first counted completion, CQ is set. -/
  | irqCoalescingTimeout
  /-- NOP (R508): NOP completes ST_OK. -/
  | nop (tag : Nat)
  /-- CANCEL (R523): CANCEL ends a target tag according to its state. -/
  | cancel (tag : Nat) (sof : Bool)
  /-- PARAM_READ (R552): PARAM_READ returns the values of the listed parameter entries. -/
  | paramRead (tag : Nat)
  /-- PARAM_WRITE (R542): PARAM_WRITE judges every entry and writes all entries together, or none. -/
  | paramWrite (tag : Nat)
  /-- LAST_CONFIRM_WRITE (R479): A write of safety.last.confirm seals the Last when it equals the pending code in STANDBY. -/
  | lastConfirmWrite (tag : Nat)
  /-- TABLE_COMMIT_WRITE (R242): A write of 1 to loop.tab.commit starts copying changed shadow tables to the active bank. -/
  | tableCommitWrite (tag : Nat)
  /-- PARAM_DESC (R553): PARAM_DESC returns descriptors of defined entries from a start index. -/
  | paramDesc (tag : Nat)
  /-- BLOCK_READ (R554): BLOCK_READ returns packed data of a parameter run, the segment table or the snapshot area. -/
  | blockRead (tag : Nat)
  /-- BLOCK_WRITE (R554): BLOCK_WRITE writes a packed run of subindexes of one index under the rules of PARAM_WRITE. -/
  | blockWrite (tag : Nat)
  /-- STORE (R545): STORE writes the user-store values to the older copy in MRAM, header last. -/
  | store (tag : Nat)
  /-- RESTORE_DEFAULTS (R547): RESTORE_DEFAULTS resets the working values of the user or Last store to their defaults. -/
  | restoreDefaults (tag : Nat)
  /-- PRECHARGE (R464): PRECHARGE runs any ordered gate diagnostic, then the contactor precharge sequence toward READY. -/
  | precharge (tag : Nat)
  /-- ENABLE (R54): ENABLE runs the enable checks and start measurement, and takes READY to RUN. -/
  | enable (tag : Nat)
  /-- STOP (R308): STOP moves RUN to STOPPING and stops the Profile Engine plan. -/
  | stop (tag : Nat)
  /-- FAULT_ACK (R549): FAULT_ACK clears MAX_CLASS and ends SAFE_HOLD when the cause has gone, releasing held orders. -/
  | faultAck (tag : Nat)
  /-- DISCHARGE (R466): DISCHARGE opens the contactors and removes link energy by the resistor or the winding path. -/
  | discharge (tag : Nat)
  /-- SHUTDOWN (R95): SHUTDOWN enters SHUTDOWN and starts draining in-flight commands. -/
  | shutdown (tag : Nat)
  /-- SENSE_CAL (R113): SENSE_CAL starts the 20 ms offset and converter calibration with the gates off. -/
  | senseCal (tag : Nat)
  /-- FB_RESTART (R171): FB_RESTART repeats feedback start and clears lost sources and the index reference. -/
  | fbRestart (tag : Nat) (r : FbStart)
  /-- GD_DIAG (R384): GD_DIAG runs the off-state diagnostic at every position. -/
  | gdDiag (tag : Nat)
  /-- CONTACTOR_CHECK (R461): CONTACTOR_CHECK closes and opens one contactor and judges it again. -/
  | contactorCheck (tag : Nat)
  /-- SNAPSHOT (R51): SNAPSHOT schedules every die to latch its state at a named PT. -/
  | snapshot (tag : Nat)
  /-- MOVE_ABS (R282): MOVE_ABS gives the Profile Engine an absolute point-to-point target. -/
  | moveAbs (tag : Nat)
  /-- MOVE_REL (R282): MOVE_REL gives the Profile Engine a relative point-to-point target. -/
  | moveRel (tag : Nat)
  /-- VEL_TARGET (R285): VEL_TARGET gives the Profile Engine a velocity demand. -/
  | velTarget (tag : Nat)
  /-- TORQUE_TARGET (R258): TORQUE_TARGET sets the torque set-point in torque mode. -/
  | torqueTarget (tag : Nat)
  /-- HOME (R304): HOME starts a homing run by the configured method. -/
  | home (tag : Nat)
  /-- SEG_LOAD (R296): SEG_LOAD checks and writes a block of segment-table entries, or clears the table. -/
  | segLoad (tag : Nat)
  /-- SEG_EXEC (R297): SEG_EXEC starts execution of the segment table. -/
  | segExec (tag : Nat)
  /-- LAST_COMPUTE (R478): LAST_COMPUTE computes the code of the present Last-store values into safety.last.pending. -/
  | lastCompute (tag : Nat)
  /-- LAST_IMAGE_READ (R552): LAST_IMAGE_READ returns bytes of the Last image. -/
  | lastImageRead (tag : Nat)
  /-- UNSEAL (R480): UNSEAL, carrying the present Last code, unseals the Last and sets COMMISSIONING_REQUIRED. -/
  | unseal (tag : Nat)
  /-- FW_STAGE_BEGIN (R556): FW_STAGE_BEGIN erases the inactive slot and opens staging. -/
  | fwStageBegin (tag : Nat)
  /-- FW_STAGE_DATA (R556): FW_STAGE_DATA writes image bytes at the next offset. -/
  | fwStageData (tag : Nat)
  /-- FW_STAGE_END (R556): FW_STAGE_END verifies the staged image and sets sys.fw.staged or erases the slot. -/
  | fwStageEnd (tag : Nat) (img : ImageHdr)
  /-- FW_ACTIVATE (R556): FW_ACTIVATE records the staged slot for a trial boot at the next package reset. -/
  | fwActivate (tag : Nat)
  /-- EVENT_READ (R666): EVENT_READ returns records from a log cursor and advances the cursor. -/
  | eventRead (tag : Nat)
  /-- EVENT_CLEAR (R669): EVENT_CLEAR empties a log and then writes event 0x6002. -/
  | eventClear (tag : Nat)
  /-- SCRUB_RANGE (R618): SCRUB_RANGE scrubs a byte range of a named memory. -/
  | scrubRange (tag : Nat)
  /-- MEM_TEST (R646): MEM_TEST runs the march test over a named memory and returns the result. -/
  | memTest (tag : Nat)
  /-- CAN_TX (R578): CAN_TX queues a host frame in a transmit buffer. -/
  | canTx (tag : Nat)
  /-- CAN_RX_READ (R576): CAN_RX_READ returns accepted frames oldest first and frees their slots. -/
  | canRxRead (tag : Nat)
  /-- CAN_FILTER_LOAD (R572): CAN_FILTER_LOAD writes filter entries and extends can.filt.count. -/
  | canFilterLoad (tag : Nat)
  /-- CAN_BUS_ON (R568): CAN_BUS_ON checks the timing and takes a channel to LISTEN, JOINING or RECOVERING. -/
  | canBusOn (tag : Nat)
  /-- CAN_RATE_DETECT (R569): CAN_RATE_DETECT listens on candidate nominal rates in DETECT. -/
  | canRateDetect (tag : Nat)
  /-- CAN_BUF_WRITE (R579): CAN_BUF_WRITE loads bytes into a channel's transmit staging buffer. -/
  | canBufWrite (tag : Nat)
  /-- LE_LOCKSTEP_MISMATCH (R23): A Loop Engine pair mismatch resets the pair and restarts it from its checkpoint (event 0x1101). -/
  | leLockstepMismatch (p : LePair) (at_ : CyclePoint)
  /-- LE_PAIR_PERSISTENT (R28): A third mismatch within 1 s, or a second consecutive flagged update, declares the pair persistent (event 0x1102, F3). -/
  | lePairPersistent (p : LePair)
  /-- CP_LOCKSTEP_MISMATCH (R26): A Command Processor mismatch restarts the pair from its checkpoint and replays the journal. -/
  | cpLockstepMismatch
  /-- CP_RESTART_DONE (R27): At the end of a Command Processor restart, the held doorbells and ring writes are served. -/
  | cpRestartDone
  /-- CP_PAIR_PERSISTENT (R28): A third CP mismatch within 1 s holds the pair in reset; FC decides event 0x1104 (F2). -/
  | cpPairPersistent
  /-- CRYSTAL_CLOCK_FAULT (R31): A 10 us deviation on the HB crystal path moves HCLK to the RC oscillator and stops the CAN channels (event 0x1201). -/
  | crystalClockFault
  /-- REFERENCE_CLOCK_LOST (R31): Loss of the 25 MHz reference moves the FC PLLs to the RC oscillator (event 0x1202). -/
  | referenceClockLost
  /-- PLL_CLOCK_FAULT (R31): A 10 us deviation of a die's main PLL is a clock fault (event 0x1203, F3). -/
  | pllClockFault (d : Die)
  /-- LANE_ERROR_LIMIT (R39): A lane reaching its error limit within the window is taken out of service and retrained. -/
  | laneErrorLimit (d : Die) (lane errs : Nat)
  /-- LANE_TRAINING_DONE (R40): The end of a lane training attempt retries, falls to half rate or drops the lane. -/
  | laneTrainingDone (d : Die) (lane : Nat) (pass : Bool)
  /-- LINK_LOST (R44): 500 ns without a valid symbol on a link declares it lost, with event 0x1803 or 0x1804. -/
  | linkLost (d : Die)
  /-- GD_LINK_LOST (R44): A gate driver die that loses its link sets its outputs to high impedance. -/
  | gdLinkLost (p : GdPos)
  /-- HB_LINK_LOSS (R462): HB losing its link applies the brake, asserts FAULT and starts the contactor hold. -/
  | hbLinkLoss
  /-- HEEL_RECEIVED (R35): A die decodes a Heel order and holds the most severe order it has received. -/
  | heelReceived (d : Die) (o : HeelOrder)
  /-- HEEL_REPORT (R374): FC receives a REPORT_SC or REPORT_UV, applies the package policy and broadcasts an order.
  `also_`: further reports that reach FC in the same decision step. -/
  | heelReport (p : GdPos) (r : HeelRep) (also_ : List (GdPos × HeelRep))
  /-- HELD_ORDER_RELEASE (R35): A die receives FC's class-2 release of held orders and answers the barrier. -/
  | heldOrderRelease (d : Die)
  /-- COMPARE_SET_RECEIVED (R327): A gate driver die receives a class-1 compare set, which it discards when late or while a Heel order is held. -/
  | compareSetReceived (p : GdPos) (half : Nat)
  /-- PT_DISCIPLINE_EXCHANGE (R47): Every 10 us, FC exchanges timing with each PT copy and corrects its rate. -/
  | ptDisciplineExchange (d : Die) (offset : Int)
  /-- PT_OFFSET_WARNING (R48): A PT copy outside 300 ps for 1 ms raises event 0x1805. -/
  | ptOffsetWarning (d : Die)
  /-- BARRIER_FAILED (R52): A barrier not complete at its bound fails and reports the missing peers (event 0x1807). -/
  | barrierFailed
  /-- SNAPSHOT_LATCH (R50): At the agreed PT, every die latches its state into the snapshot area. -/
  | snapshotLatch
  /-- LOCKOUT_ENTER (R65): A rail beyond its entry threshold for 2 us puts its die in lock-out. -/
  | lockoutEnter (d : Die) (rail : Nat) (mv : Int) (retained : Bool)
  /-- LOCKOUT_LEAVE (R65): All rails inside their leave thresholds for 100 us take a die out of lock-out and reset it. -/
  | lockoutLeave (d : Die) (trained : List Nat) (cmp : List (Bool × Bool)) (vio33 : Bool) (mv : List Int)
  /-- VF_POWER_FAIL_WARNING (R66): VF below 4.65 V for 1 us issues PI_SOFT as an F4 fault (event 0x1303). -/
  | vfPowerFailWarning
  /-- NRESET_ASSERT (R74): nRESET held low for 1 us raises PI and then orders a package reset. -/
  | nresetAssert
  /-- NRESET_RELEASE (R74): nRESET returning high ends the held package reset, and boot proceeds. -/
  | nresetRelease
  /-- BOOT (R84): After a reset, the boot steps run in order and lead to STANDBY, BOOT held or recovery. -/
  | boot (b : BootIn)
  /-- GD_WAIT_TIMEOUT (R84): A gate driver die absent after sys.boot.gd_wait lets boot continue, with event 0x1341. -/
  | gdWaitTimeout (b : BootIn)
  /-- TRIAL_BOOT_TIMEOUT (R83): A trial boot not in STANDBY within 2 s is journaled as failed. -/
  | trialBootTimeout
  /-- HIGH_SIDE_TRAIN_TIMEOUT (R70): High-side dies still untrained 50 ms after enable end the command ST_FAULT (event 0x1342). -/
  | highSideTrainTimeout
  /-- SHUTDOWN_DRAIN_END (R95): At the end of the drain, the shutdown steps 0x22 to 0x25 run. -/
  | shutdownDrainEnd (bistFails : Nat) (burnFails : List Nat) (mramFails : List Nat) (cut : Option (Nat × Nat))
  /-- SAMPLING_TRIGGER (R106): At each carrier peak and valley, a sample set is taken and every per-update computation runs. -/
  | samplingTrigger (smp : Sample)
  /-- PATH_A_CONVERSION (R128): A path A conversion completes and is compared with the trip levels. -/
  | pathAConversion (ch : Nat) (uv : Int)
  /-- OVERCURRENT_TRIP (R129): sense.oc.count consecutive conversions beyond the trip level issue PI_SOFT (event 0x2001). -/
  | overcurrentTrip (ch : Nat)
  /-- OVERVOLTAGE_TRIP (R130): Two conversions above sense.vdc.ov_trip issue ASC_LOW or PI_SOFT (event 0x2002). -/
  | overvoltageTrip (ch : Nat)
  /-- PATH_COMPARISON_WINDOW (R118): At the end of each 1 ms window, the path comparisons pa and pb are judged. -/
  | pathComparisonWindow
  /-- COMPARISON_FAILED (R120): A current comparison is first declared failed, and the 3 ms verdict timer starts. -/
  | comparisonFailed (p : Phase)
  /-- CROSS_CHECK_VERDICT (R120): 3 ms after the first failure, the verdict loses a channel or set or is unattributable. -/
  | crossCheckVerdict (p : Phase)
  /-- SUM_CHECK_FAILED (R119): A set sum beyond the limit for 8 non-disturbed updates fails the set's sum check. -/
  | sumCheckFailed (set : Nat)
  /-- VDC_DISAGREEMENT (R123): VDC_A and VDC_B disagreeing for 16 updates starts arbitration against the terminal voltages. -/
  | vdcDisagreement
  /-- VDC_ARBITRATION_TIMEOUT (R124): No arbitration within 100 updates makes the disagreement unattributable. -/
  | vdcArbitrationTimeout
  /-- TERMINAL_IMPLAUSIBLE (R125): A terminal channel implausible in 16 judged updates is lost. -/
  | terminalImplausible (p : Phase)
  /-- OPEN_INPUT (R126): A code at or below 16 for 4 updates loses the channel on both paths. -/
  | openInput (ch : Nat)
  /-- STUCK_CHANNEL (R127): A current channel stuck over 64 updates is lost. -/
  | stuckChannel (ch : Nat)
  /-- PATH_B_OVERLOAD (R111): A path B overload on 8 updates loses the channel on path B (event 0x2033). -/
  | pathBOverload (ch : Nat)
  /-- OVERVOLTAGE_WARNING (R132): The link above sense.vdc.ov_warn for 10 updates raises an F1 warning. -/
  | overvoltageWarning
  /-- OVERVOLTAGE_WARNING_CLEAR (R132): Ten updates below 97 % of the warning level clear the warning. -/
  | overvoltageWarningClear
  /-- UNDERVOLTAGE (R132): The link below sense.vdc.uv for 1 ms in RUN or STOPPING is an F2 fault. -/
  | undervoltage
  /-- HOUSEKEEPING_ROUND (R629): Every 10 ms, HK scans the housekeeping inputs and sensors, checks them and judges the limits. -/
  | housekeepingRound (r : HkRound)
  /-- REFERENCE_OUT_OF_TOLERANCE (R134): A reference check failing on two rounds loses the channels that the reference serves. -/
  | referenceOutOfTolerance (ref : Nat)
  /-- BANDGAP_DISAGREEMENT (R134): A failed bandgap pair check on two rounds is event 0x2062 (F2). -/
  | bandgapDisagreement
  /-- TRANSDUCER_SUPPLY_FAULT (R135): A transducer supply outside its window on two rounds loses the set. -/
  | transducerSupplyFault (set : Nat)
  /-- HK_ADC_SUSPECT (R136): A test point outside its window on two rounds suspends the housekeeping checks. -/
  | hkAdcSuspect (input : Nat)
  /-- CALIBRATION_COMPLETE (R113): At 20 ms, the calibration evaluates and stores the offsets and converter gains. -/
  | calibrationComplete (m : CalMeas)
  /-- QUADRATURE_TRANSITION (R147): A filtered change of ENC_A or ENC_B moves the count, or counts an illegal transition. -/
  | quadratureTransition (a b : Bool) (na nb : Nat)
  /-- ILLEGAL_LIMIT_EXCEEDED (R148): Illegal transitions beyond the limit in the window lose the source (event 0x2802). -/
  | illegalLimitExceeded (src : Nat)
  /-- INDEX_LATCH (R152): A qualified Z edge latches C and checks it against C_ref. -/
  | indexLatch (illegal : Bool)
  /-- INDEX_FAULT_CHECK (R154): At the next t0 after an index fault, C is compared with the secondary source. -/
  | indexFaultCheck
  /-- HALL_STATE_CHANGE (R157): A filtered Hall state change moves the sector, or counts a sequence error. -/
  | hallStateChange (st ns : Nat)
  /-- HALL_STATE_INVALID (R158): A Hall state of 0 or 7 past the filter loses the Hall source. -/
  | hallStateInvalid (ns : Nat)
  /-- RESOLVER_AMPLITUDE_FAULT (R160): The resolver amplitude out of window on 4 updates loses the resolver. -/
  | resolverAmplitudeFault
  /-- RESOLVER_TRACKING_LOST (R160): A tracking error above 1,024 LSB on 4 updates loses the resolver. -/
  | resolverTrackingLost
  /-- RESOLVER_EXCITATION_FAULT (R160): The excitation amplitude out of window on two rounds loses the resolver. -/
  | resolverExcitationFault
  /-- SSI_FRAME_DECODED (R163): An SSI frame ends and is received or marked stale. -/
  | ssiFrameDecoded (f : SsiFrame)
  /-- SSI_FRAME_ABORT (R164): An SSI frame without a valid level or start-low for 2 bit times is aborted. -/
  | ssiFrameAbort (badNs : Option Nat)
  /-- SSI_STALE_LIMIT (R166): fb.ssi.stale_max consecutive stale samples lose the SSI source. -/
  | ssiStaleLimit
  /-- WIRE_FAULT (R173): A pair disagreeing for fb.wire.filter is a wire fault that loses its source. -/
  | wireFault (input ns : Nat)
  /-- ENCODER_SUPPLY_FAULT (R174): The encoder supply outside its window on two rounds loses the sources. -/
  | encoderSupplyFault
  /-- SOURCE_DISAGREEMENT (R176): Primary and secondary beyond fb.xchk.lim on fb.xchk.count comparisons lose both sources. -/
  | sourceDisagreement
  /-- FROZEN_SOURCE (R177): A latched value unchanged for fb.frozen.n updates while OE0 sees speed loses the source. -/
  | frozenSource (src : Nat)
  /-- OE0_VALID (R194): OE0 becomes valid after 16 updates at or above its minimum speed. -/
  | oe0Valid
  /-- OE1_VALID (R196): OE1 becomes valid after 16 updates at or above its minimum speed. -/
  | oe1Valid
  /-- RESIDUAL_DISAGREEMENT (R197): A pair of angles disagreeing for obs.res.count updates is declared and resolved. -/
  | residualDisagreement
  /-- OBSERVER_REJOIN (R200): A voted-out observer within the limits for obs.res.rejoin updates rejoins. -/
  | observerRejoin (oe1 : Bool)
  /-- START_MEASUREMENT_END (R208): The terminal or current measurement window ends and the start is decided. -/
  | startMeasurementEnd
  /-- ASC_SETTLE_END (R211): After obs.fly.asc_settle, the current-vector measurement starts or standstill is found. -/
  | ascSettleEnd
  /-- CATCH_LOCK_CHECK (R210): After obs.fly.lock, OE0 must agree with the measurement or the catch fails. -/
  | catchLockCheck
  /-- REACQUISITION_TIMEOUT (R204): A reacquisition not done within obs.fly.timeout is F3 (event 0x3024). -/
  | reacquisitionTimeout
  /-- AWL_SEQUENCE_END (R216): The Awl sequence ends, and the axis and polarity are found, or the sequence fails. -/
  | awlSequenceEnd (r : AwlResp)
  /-- BLOCK_COMMUTATION (R221): At t_comm, the block pattern commutates to the next sector. -/
  | blockCommutation
  /-- CROSSING_MISSED (R222): No crossing by 1.5 intervals forces commutation (event 0x3051). -/
  | crossingMissed
  /-- BLOCK_START_TIMEOUT (R223): A block start not synchronised by 2 x obs.blk.w_min is event 0x3052 (F2). -/
  | blockStartTimeout
  /-- SIX_STEP_CHANGE (R224): At a sector boundary, commutation changes between block and six-step. -/
  | sixStepChange
  /-- TABLE_COMMIT_COPY (R242): At its owner's update boundary, a shadow table is copied to the active bank or refused. -/
  | tableCommitCopy (table : Nat)
  /-- LOOP_MODE_CHANGE (R264): A new loop.mode takes effect at the next position update, with integrators preset. -/
  | loopModeChange
  /-- CURRENT_DEVIATION (R273): A current error beyond loop.i.dev_lim on loop.i.dev_n updates is F3 (event 0x3801). -/
  | currentDeviation
  /-- VOLTAGE_LIMIT_HELD (R273): Voltage saturation for loop.v.sat_time is event 0x3802. -/
  | voltageLimitHeld
  /-- DISTURBED_PREDICTION_LIMIT (R248): After loop.i.dist_max disturbed sets, the measured currents are used (event 0x3803). -/
  | disturbedPredictionLimit
  /-- SPEED_DEVIATION (R273): A speed error beyond its limit for loop.spd.dev_time is F2 (event 0x3811). -/
  | speedDeviation
  /-- OVERSPEED (R273): Speed above loop.spd.trip on 2 speed updates is F3 (event 0x3812). -/
  | overspeed
  /-- FOLLOWING_ERROR (R262): A position error beyond its limit for loop.pos.ferr_time is F2 (event 0x3821). -/
  | followingError
  /-- DAMPING_CLAMPED (R273): The damping term clamped on 1,000 updates is event 0x3832. -/
  | dampingClamped
  /-- PE_PLAN (R278): At the first update boundary after a motion command reaches FC, the PE makes a new plan. -/
  | pePlan
  /-- TARGET_REACHED (R283): The position within prof.win for prof.win_time sets TARGET_REACHED (event 0x4001). -/
  | targetReached
  /-- SWITCH_INPUT_CHANGE (R299): A raw change of a switch input is stamped and restarts its debounce. -/
  | switchInputChange (k : Nat) (high : Bool)
  /-- SWITCH_DEBOUNCED (R299): A switch holding a new level for prof.sw.debounce changes its debounced level. -/
  | switchDebounced (k : Nat)
  /-- SWITCH_CHATTER (R300): Transitions beyond prof.sw.chatter_n in the window mark the switch chattering. -/
  | switchChatter (k : Nat)
  /-- SWITCH_CHATTER_END (R300): A switch inactive without transition for a whole window stops chattering. -/
  | switchChatterEnd (k : Nat)
  /-- HOMING_TIMEOUT (R307): Homing not complete within prof.home.timeout fails (event 0x4033). -/
  | homingTimeout
  /-- STANDSTILL (R308): After a stop, standstill is reached and the package enters READY. -/
  | standstill
  /-- STANDSTILL_ACTION (R310): At standstill in RUN, the prof.stand.mode action is applied and PARKED is set. -/
  | standstillAction
  /-- LEG_EDGE_DECISION (R326): At t0 + 300 ns, a gate driver die places the leg edge from the new set, or holds the high side off. -/
  | legEdgeDecision (p : GdPos)
  /-- COMPARE_SETS_MISSED_TWICE (R356): Sets missing at one die on two consecutive half periods are F3 (event 0x4812). -/
  | compareSetsMissedTwice (p : GdPos)
  /-- ECHO_RECEIVED (R328): FC compares the compare echoes of both dies of a leg with the value it sent. -/
  | echoReceived (p : Phase) (hi lo : Option Nat)
  /-- DELAY_LINE_CALIBRATION (R335): Every 1 ms, each delay line is calibrated against its clock. -/
  | delayLineCalibration (d : Die) (span : Nat)
  /-- BOOTSTRAP_REFRESH (R341): A low side off for mod.bs.refresh_n periods receives a refresh pulse at the next peak. -/
  | bootstrapRefresh (p : Phase)
  /-- BOOTSTRAP_CHARGE_PULSE (R342): Every mod.bs.charge_period during enable, all low sides turn on together. -/
  | bootstrapChargePulse
  /-- LEG_LOSS_RAMP_END (R349): The end of the leg-loss ramp takes the configured safe state (event 0x4842). -/
  | legLossRampEnd
  /-- GATE_EDGE (R363): At a scheduled edge instant, the die runs the three-segment profile of the selected band. -/
  | gateEdge (p : GdPos)
  /-- PROFILE_END (R360): At the end of a profile, the die enters on-hold or off-hold. -/
  | profileEnd (p : GdPos)
  /-- DIDT_TRIP (R369): A di/dt crossing lasting gd.didt.qual is a trip. `mv`: DIDT to KS; `ns`: without a break. -/
  | didtTrip (p : GdPos) (mv ns : Nat)
  /-- DESAT_TRIP (R370): DESAT above its threshold for gd.desat.filt is a trip. `mv` at DESAT for `ns`. -/
  | desatTrip (p : GdPos) (mv ns : Nat)
  /-- SOFT_TURN_OFF_END (R372): A soft turn-off ends and the die enters off-hold with the clamp. -/
  | softTurnOffEnd (p : GdPos)
  /-- GATE_VOLTAGE_FAULT (R378): A pin outside its hold band for 200 ns is a gate voltage fault (event 0x4C06). -/
  | gateVoltageFault (p : GdPos) (pair : Nat) (mv : Int) (ns : Nat)
  /-- NTC_CONVERSION (R381): Every 1 ms, each die converts its module NTC. -/
  | ntcConversion (p : GdPos) (code : Nat)
  /-- MODULE_TEMP_WARNING (R382): A module above gd.ntc.warn on two rounds raises event 0x4C11. -/
  | moduleTempWarning (p : GdPos)
  /-- MODULE_OVERTEMPERATURE (R382): A module above gd.ntc.trip on two rounds is F2 (event 0x4C12). -/
  | moduleOvertemperature (p : GdPos)
  /-- DIAGNOSTIC_COMPLETE (R386): The gate-drive diagnostic ends and its verdicts are written to GD_DIAG. -/
  | diagnosticComplete (m : List DiagMeas)
  /-- OUTPUT_SLOT_VOTE (R402): The Welt votes the three aligned output words of a slot. -/
  | outputSlotVote (w0 w1 w2 : Option Nat) (addr : Nat)
  /-- RESYNC_COPY_DONE (R407): The background TCM copy to the minority copy completes. -/
  | resyncCopyDone (k : Nat)
  /-- RESYNC_RENDEZVOUS (R407): In the next idle window, the register state is copied and all three copies restart. -/
  | resyncRendezvous (k : Nat) (h : List Nat)
  /-- WELT_SELF_TEST (R404): Once per millisecond, the Welt applies eight test patterns. -/
  | weltSelfTest (a b : List WeltVerdict) (flag7 flag8 : Bool)
  /-- CHECKER_DISAGREEMENT (R406): A checker disagreement holds the slot and runs the self-test at once. -/
  | checkerDisagreement (a b : List WeltVerdict)
  /-- HASH_SLOT (R410): Each copy presents its state hash in the first idle window after each 1 ms. -/
  | hashSlot (h0 h1 h2 : Option Nat)
  /-- LANE_FAULT (R412): A copy repeatedly in the minority, or whose resynchronisation fails, is isolated. -/
  | laneFault (k : Nat)
  /-- DEGRADED_GRACE_EXPIRY (R413): With policy 1, sm.deg.grace without a safe state requests a controlled stop. -/
  | degradedGraceExpiry
  /-- UNINTENDED_TORQUE (R419): T_est outside the band on sm.tq.n counted updates is F3 (event 0x5101). -/
  | unintendedTorque
  /-- CURRENT_BOUND_EXCEEDED (R422): In magnitude mode, |i| above its bound on sm.tq.n updates is event 0x5101. -/
  | currentBoundExceeded
  /-- TORQUE_DEFICIT (R420): A deficit for sm.tq.def_time is F2 (event 0x5102). -/
  | torqueDeficit
  /-- SETPOINT_OUT_OF_BOUND (R426): A PE set-point out of bound on two updates is F2 (event 0x5201). -/
  | setpointOutOfBound
  /-- HK_WATCHDOG_EXPIRY (R427): No HK round report for 25 ms resets HK (event 0x5202). -/
  | hkWatchdogExpiry
  /-- STO_INPUT_CHANGE (R439): A raw change of an STO channel restarts its filter. -/
  | stoInputChange (c : Ch) (active : Bool)
  /-- STO_FILTER_CHANGE (R440): A filtered STO change raises PI on channel A or sends the channel B status. -/
  | stoFilterChange (c : Ch)
  /-- STO_STATUS_PERIODIC (R440): Every 30 us, HB sends the channel B STO status to FC. -/
  | stoStatusPeriodic
  /-- STO_STATUS_RECEIVED (R440): FC receives the STO status message and issues PI when it is active. -/
  | stoStatusReceived
  /-- STO_DISCREPANCY (R445): Channels differing for safety.sto.disc_time latch STO_DISC (event 0x5302, F3). -/
  | stoDiscrepancy
  /-- SDS_PI_REPLACEMENT (R438): Speed below safety.sds.pi_speed for 100 ms replaces the held ASC by PI. -/
  | sdsPiReplacement
  /-- SS1_ENVELOPE_EXCEEDED (R448): Speed above the SS1 envelope on 3 speed updates is F3 (event 0x5311). -/
  | ss1EnvelopeExceeded
  /-- SS1_STANDSTILL (R449): Speed below safety.ss1.zero for 10 ms takes the safe state and enters SAFE_HOLD. -/
  | ss1Standstill
  /-- SS1_TIMEOUT (R449): An SS1 stop exceeding safety.ss1.time is F3 (event 0x5312). -/
  | ss1Timeout
  /-- SMS_EXCEEDED (R451): Speed above safety.sms.limit on 2 updates is F3 (event 0x5321). -/
  | smsExceeded
  /-- SLS_EXCEEDED (R452): Speed above safety.sls.limit on 2 updates after sls.time is F3 (event 0x5322). -/
  | slsExceeded
  /-- BRAKE_RELEASE_DELAY (R454): safety.brk.release_delay after current control starts, the brake is released. -/
  | brakeReleaseDelay
  /-- BRAKE_DEMAND (R455): HB opens both brake switches within 10 us of a brake demand or a Heel order. -/
  | brakeDemand
  /-- BRAKE_TEST_PULSE (R456): A brake test pulse opens or closes one switch. -/
  | brakeTestPulse (hs : Bool)
  /-- BRAKE_TEST_PULSE_END (R456): At the end of the pulse, BRK_FB is judged and the switch restored. -/
  | brakeTestPulseEnd (fb : Nat)
  /-- BRAKE_FEEDBACK_MISMATCH (R457): BRK_FB inconsistent with the command for 1 ms is event 0x5332. -/
  | brakeFeedbackMismatch (fb ns : Nat)
  /-- CONTACTOR_FEEDBACK_CHANGE (R459): A contactor auxiliary feedback input changes level. -/
  | contactorFeedbackChange (k : Kont) (closed : Bool)
  /-- CONTACTOR_CHECK_DUE (R461): 100 ms after a command change, the contactor feedback is judged. -/
  | contactorCheckDue (k : Kont)
  /-- PRECHARGE_WELD_CHECK_END (R464): After 20 ms of weld check, K_PRE closes or event 0x5344 ends the precharge. -/
  | prechargeWeldCheckEnd
  /-- PRECHARGE_TARGET_REACHED (R464): The link reaching its target closes K_POS, then opens K_PRE and enters READY. -/
  | prechargeTargetReached
  /-- PRECHARGE_TIMEOUT (R465): K_POS not closed within safety.pre.time returns to STANDBY (event 0x5345). -/
  | prechargeTimeout
  /-- FC_LOSS_HOLD_EXPIRY (R462): After safety.cont.fc_loss_hold, HB opens the contactors. -/
  | fcLossHoldExpiry
  /-- DISCHARGE_RESISTOR_FAILED (R468): Two failed rounds of the resistor check switch DIS_ON off and start the winding path. -/
  | dischargeResistorFailed
  /-- DISCHARGE_WINDING_FAILED (R469): The winding path failing its time bounds is F3 (event 0x5353). -/
  | dischargeWindingFailed
  /-- DISCHARGE_COMPLETE (R471): VDC below 60 V ends DISCHARGE in STANDBY (event 0x5354). -/
  | dischargeComplete
  /-- SAFE_MESSAGE_RECEIVED (R475): A safe message copy is checked, paired and accepted or discarded. -/
  | safeMessageReceived (c : Ch) (bytes : List Byte)
  /-- SAFE_MESSAGE_DEADLINE (R475): No accepted message within safety.cmsg.deadline applies the safe values (event 0x5365). -/
  | safeMessageDeadline
  /-- SAFE_STATUS_TRANSMIT (R476): Every safety.cmsg.tx_period, the status message is queued on both channels. -/
  | safeStatusTransmit (runA runB : Bool)
  /-- CAN_FRAME_RECEIVED (R570): A frame received without error is stored in the FIFO, and safe frames in the safe buffer. -/
  | canFrameReceived (c : Ch) (f : CanFrame)
  /-- CAN_FRAME_FILTERING (R573): The Command Processor filters a waiting frame, accepting it or freeing its slot. -/
  | canFrameFiltering (c : Ch)
  /-- CAN_ATTEMPT_END (R579): A transmit attempt ends, and the frame completes or is retried or dropped. -/
  | canAttemptEnd (c : Ch) (b : Nat) (o : CanOutcome)
  /-- CAN_TX_DEADLINE (R580): A frame not started within can.tx.deadline is removed (event 0x5824). -/
  | canTxDeadline (c : Ch) (b : Nat) (running : Bool)
  /-- CAN_ERROR_FLAG (R584): A detected error flag is counted and its kind kept. -/
  | canErrorFlag (c : Ch) (kind : Nat) (asTx : Bool)
  /-- CAN_RECESSIVE_IDLE (R568): Eleven consecutive recessive bits take a JOINING channel to ON. -/
  | canRecessiveIdle (c : Ch)
  /-- CAN_RECOVERY_DONE (R587): After 128 occurrences of 11 recessive bits, the counters reset and the channel is ON. -/
  | canRecoveryDone (c : Ch)
  /-- CAN_ON_TIMEOUT (R568): A channel still JOINING or RECOVERING at can.on.timeout returns to its previous mode. -/
  | canOnTimeout (c : Ch)
  /-- CAN_DETECT_WINDOW_END (R569): The detection window of a candidate rate ends without success. -/
  | canDetectWindowEnd (c : Ch)
  /-- REFERENCE_MESSAGE_DUE (R591): At each cycle multiple, a current time master queues a reference message. -/
  | referenceMessageDue
  /-- REFERENCE_MESSAGE_RECEIVED (R592): A received reference message aligns PT by rate or by a forward step. -/
  | referenceMessageReceived (f : CanFrame)
  /-- TIME_MASTER_TIMEOUT (R591): A potential master without reference messages becomes current master. -/
  | timeMasterTimeout
  /-- NETWORK_TIME_LOST (R594): No reference message for can.tt.lost_n cycles clears SYNC (event 0x5842). -/
  | networkTimeLost
  /-- ECC_CORRECTION (R608): A single-bit error is corrected, counted, tabled and written back. -/
  | eccCorrection (d : Die) (mem addr syndrome : Nat)
  /-- ECC_UNCORRECTABLE (R611): An uncorrectable or poisoned word returns a bus error and is poisoned. -/
  | eccUncorrectable (d : Die) (mem addr : Nat) (region : MemRegion) (reloadOk : Bool)
  /-- SCRUB_READ (R616): A paced scrub read checks one word of a memory. -/
  | scrubRead (d : Die) (mem addr : Nat) (w : WordRead)
  /-- SCRUB_PASS_LATE (R616): A pass not finished within 1.25 x mem.scrub.period is late (event 0x5C09). -/
  | scrubPassLate (d : Die) (mem : Nat)
  /-- MERGE_BUFFER_FLUSH (R606): A merge-buffer entry is written, whole or by read-modify-write. -/
  | mergeBufferFlush (d : Die) (mem addr mask : Nat) (bad : Option MemRegion)
  /-- ROW_MIGRATION (R621): A hard-fault row migrates into a spare row and is added to the pending list. -/
  | rowMigration (d : Die) (mem addr : Nat)
  /-- GD_LATCH_CHECK (R615): Once per pass, a die compares its latches with SRAM and reloads on a difference. -/
  | gdLatchCheck (p : GdPos) (latches : List Nat) (reloadOk : Bool)
  /-- PERIODIC_MEMORY_TEST (R646): Every bist.mem.period, the next LE, OE or SM TCM test starts. -/
  | periodicMemoryTest
  /-- MEMORY_TEST_BLOCK (R645): In its window, one block is saved, march-tested and restored. -/
  | memoryTestBlock (fails : List (Nat × Nat × Nat)) (bad : Option (Nat × MemRegion × Bool))
  /-- SENSOR_BROKEN (R633): A sensor beyond tolerance on thm.xchk.n rounds, or open or shorted, is broken and replaced. -/
  | sensorBroken (sensor : Nat)
  /-- TEMPERATURE_WARNING (R636): A value above its warning level on two rounds raises an F1 warning. -/
  | temperatureWarning (sensor : Nat)
  /-- TEMPERATURE_WARNING_CLEAR (R636): Two rounds below the level minus 5 C clear a warning. -/
  | temperatureWarningClear (sensor : Nat)
  /-- TEMPERATURE_STOP_LEVEL (R636): A value above its stop level on two rounds is F2. -/
  | temperatureStopLevel (sensor : Nat)
  /-- THERMAL_SHUTDOWN_ENTER (R637): A shutdown sensor above its level for 10 us puts the die in thermal shutdown. -/
  | thermalShutdownEnter (d : Die) (temp : Int)
  /-- THERMAL_SHUTDOWN_LEAVE (R637): After cooling and the minimum hold, the die restarts. -/
  | thermalShutdownLeave (d : Die) (trained : List Nat) (cmp : List (Bool × Bool)) (hot : Int) (ns : Nat)
  /-- SHUTDOWN_SENSOR_DISAGREE (R639): A shutdown sensor more than 5 C from the junction sensor on two rounds sets SHD_SUSPECT. -/
  | shutdownSensorDisagree (d : Die)
  /-- RECORD_ARRIVAL (R661): A record reaching HB receives SEQ and is written to the logs. -/
  | recordArrival
  /-- FC_RECORD_QUEUE_ROOM (R660): FC's record queue regains room after dropping records, and event 0x6005 is sent. -/
  | fcRecordQueueRoom
  /-- PERSISTENT_LOG_WRITE (R664): A queued persistent record is written to MRAM and the fill count is updated. -/
  | persistentLogWrite (cut : Bool)
  /-- TAP_BYPASS (R683): The BYPASS instruction selects the bypass register. -/
  | tapBypass
  /-- TAP_IDCODE (R683): The IDCODE instruction shifts out 0x20812B4F. -/
  | tapIdcode
  /-- TAP_SAMPLE_PRELOAD (R683): SAMPLE/PRELOAD acts when unlocked and is replaced by BYPASS when locked. -/
  | tapSamplePreload
  /-- TAP_EXTEST (R683): EXTEST drives the H balls only when unlocked and in recovery. -/
  | tapExtest
  /-- DBG_CHAL (R684): DBG_CHAL shifts out a fresh 256-bit challenge. -/
  | dbgChal
  /-- DBG_RESP (R684): DBG_RESP takes a signature and unlocks debug when it verifies in an allowed state. -/
  | dbgResp (verifies : Bool)
  /-- DBG_ACCESS (R683): DBG_ACCESS gives debug access when unlocked and is replaced by BYPASS when locked. -/
  | dbgAccess
  /-- TAP_RESET (R702): nTRST resets the test access port alone. -/
  | tapReset
  /-- CP_CHECKPOINT (R26): Every 10 ms the Command Processor pair takes a checkpoint of its state, including the in-flight command table, from which a later restart and journal replay begin. -/
  | cpCheckpoint
  /-- STO_PATH_TEST_END (R446): safety.sto.filter + 50 us after the forced STO input test began at an entry to READY, the force ends and the test is judged, recording event 0x5303 and refusing enable on failure. -/
  | stoPathTestEnd (ta tb : Option Nat)
  /-- GD_LOGIC_POWER_LOST (R379): When VP to KS of a gate driver die falls below 4 V, the die's logic loses power, its link falls silent and the unpowered clamp holds the sinks at KS. -/
  | gdLogicPowerLost (p : GdPos)
  deriving DecidableEq, Repr

end Sys2Proof
end

