-- ==== Sys2Proof/Machine/Bits.lean ====
section
/-! DEFINITION. Bit-field, byte-order and container helpers (R489: most significant byte first). -/

namespace Sys2Proof

/-- Bits `lo + n - 1 .. lo` of `v`. -/
def bitsOf (v lo n : Nat) : Nat := v / 2 ^ lo % 2 ^ n

def bitOf (v i : Nat) : Bool := v / 2 ^ i % 2 == 1

def bit1 (b : Bool) : Nat := if b then 1 else 0

/-- A word from its fields: lowest bit, width, value. -/
def pack (l : List (Nat × Nat × Nat)) : Nat := l.foldl (fun a f => a + f.2.2 % 2 ^ f.2.1 * 2 ^ f.1) 0

/-- A word with bit `i` set when the i-th Boolean is true. -/
def maskOf : List Bool → Nat
  | [] => 0
  | b :: bs => bit1 b + 2 * maskOf bs

def beNat (l : List Byte) : Nat := l.foldl (fun a b => a * 256 + b.toNat) 0

/-- `n` bytes of `v`, most significant first. -/
def beBytes : Nat → Nat → List Byte
  | 0, _ => []
  | n + 1, v => BitVec.ofNat 8 (v / 256 ^ n) :: beBytes n v

def wordBytes (w : Word) : List Byte := beBytes 4 w.toNat

/-- Words from bytes, four at a time; a short rest is dropped. -/
def toWords : List Byte → List Word
  | a :: b :: c :: d :: r => BitVec.ofNat 32 (beNat [a, b, c, d]) :: toWords r
  | _ => []

/-- The two's complement code of `v` in `n` bits. -/
def tc (n : Nat) (v : Int) : Nat := (v % (2 ^ n : Int)).toNat

/-- The signed value of the low `n` bits of `v`. -/
def sx (n v : Nat) : Int :=
  let m := v % 2 ^ n
  if m < 2 ^ (n - 1) then (m : Int) else (m : Int) - 2 ^ n

/-- Saturating count. -/
def satInc (limit v : Nat) : Nat := if v < limit then v + 1 else v

def GdPos.all : List GdPos := [.uh, .ul, .vh, .vl, .wh, .wl]

/-- Die ID of a gate driver die (R18). -/
def GdPos.id : GdPos → Nat
  | .uh => 2 | .ul => 3 | .vh => 4 | .vl => 5 | .wh => 6 | .wl => 7

def GdPos.phase : GdPos → Phase
  | .uh | .ul => .u
  | .vh | .vl => .v
  | .wh | .wl => .w

def GdPos.high : GdPos → Bool
  | .uh | .vh | .wh => true
  | .ul | .vl | .wl => false

/-- The other die of the same half-bridge. -/
def GdPos.partner : GdPos → GdPos
  | .uh => .ul | .ul => .uh | .vh => .vl | .vl => .vh | .wh => .wl | .wl => .wh

def GdPos.ofId? : Nat → Option GdPos
  | 2 => some .uh | 3 => some .ul | 4 => some .vh | 5 => some .vl | 6 => some .wh | 7 => some .wl
  | _ => none

def Phase.hi : Phase → GdPos
  | .u => .uh | .v => .vh | .w => .wh

def Phase.lo : Phase → GdPos
  | .u => .ul | .v => .vl | .w => .wl

/-- Subindex order of a phase, from 0. -/
def Phase.idx : Phase → Nat
  | .u => 0 | .v => 1 | .w => 2

def Phase.all : List Phase := [.u, .v, .w]

/-- Die ID (R18). -/
def Die.id : Die → Nat
  | .hb => 0 | .fc => 1 | .gd p => p.id

def dieOfId (n : Nat) : Option Die :=
  if n == 0 then some .hb else if n == 1 then some .fc else (GdPos.ofId? n).map Die.gd

def Ch.idx : Ch → Nat
  | .a => 0 | .b => 1

namespace Tri
variable {α β : Type}
def get (t : Tri α) : Phase → α
  | .u => t.u | .v => t.v | .w => t.w
def set (t : Tri α) (p : Phase) (x : α) : Tri α :=
  match p with
  | .u => { t with u := x } | .v => { t with v := x } | .w => { t with w := x }
def rep (x : α) : Tri α := ⟨x, x, x⟩
def list (t : Tri α) : List α := [t.u, t.v, t.w]
def ofFn (f : Phase → α) : Tri α := ⟨f .u, f .v, f .w⟩
def map (f : α → β) (t : Tri α) : Tri β := ⟨f t.u, f t.v, f t.w⟩
end Tri

namespace Six
variable {α β : Type}
def get (t : Six α) : GdPos → α
  | .uh => t.uh | .ul => t.ul | .vh => t.vh | .vl => t.vl | .wh => t.wh | .wl => t.wl
def set (t : Six α) (p : GdPos) (x : α) : Six α :=
  match p with
  | .uh => { t with uh := x } | .ul => { t with ul := x } | .vh => { t with vh := x }
  | .vl => { t with vl := x } | .wh => { t with wh := x } | .wl => { t with wl := x }
def rep (x : α) : Six α := ⟨x, x, x, x, x, x⟩
def list (t : Six α) : List α := [t.uh, t.ul, t.vh, t.vl, t.wh, t.wl]
def map (f : α → β) (t : Six α) : Six β := ⟨f t.uh, f t.ul, f t.vh, f t.vl, f t.wh, f t.wl⟩
def mapPos (f : GdPos → α → β) (t : Six α) : Six β :=
  ⟨f .uh t.uh, f .ul t.ul, f .vh t.vh, f .vl t.vl, f .wh t.wh, f .wl t.wl⟩
end Six

namespace Two
variable {α β : Type}
def get (t : Two α) : Ch → α
  | .a => t.a | .b => t.b
def set (t : Two α) (c : Ch) (x : α) : Two α :=
  match c with
  | .a => { t with a := x } | .b => { t with b := x }
def rep (x : α) : Two α := ⟨x, x⟩
end Two

/-- Element `i` of a list of fixed length, or the default past its end. -/
def nth {α : Type} (l : List α) (i : Nat) (d : α) : α := l.getD i d

/-- `l` with element `i` replaced by `f` of it. -/
def upd {α : Type} (l : List α) (i : Nat) (f : α → α) : List α := l.modify i f

end Sys2Proof
end

