-- ==== Sys2Proof/Config.lean ====
section
/-! DEFINITION. What one unit fixes, and the free values: every constant here is opaque, so no proof can see its
value. Each one is named by a row of notes/assumptions. -/

namespace Sys2Proof.Config

/-- The n-th free value of a run (log 2): what the manual leaves undefined. -/
opaque freeNat : Nat → Nat

/-- The unit serial number, programmed in fuses at manufacture (R8; log 4). -/
opaque serial : Nat

/-- Version of the image released with the unit (R705; log 4). -/
opaque deliveredVersion : Nat

/-- SEC_VER of the image released with the unit (R78, R705; log 4). -/
opaque deliveredSecVer : Nat

/-- Where the manual states a real quantity and not how its last bit is rounded: whether num / den is rounded up, by site
(log 9). -/
opaque roundUp : Nat → Int → Int → Bool

/-- Values the manual does not state at all, by site and operands (log 9). -/
opaque realFn : Nat → List Int → Int

end Sys2Proof.Config
end

