-- ==== Sys2Proof/Machine/Fix.lean ====
section
/-! DEFINITION. Fixed-point arithmetic of the loops: saturation and rounding exactly as R112 and R238 to R240 state them;
real functions to the last bit the manual fixes; the converters of the fast channels (R706, R707). -/

namespace Sys2Proof

/-- Saturates to a signed number of `n` bits. -/
def sat (n : Nat) (v : Int) : Int :=
  if v < -(2 ^ (n - 1) : Int) then -(2 ^ (n - 1)) else if (2 ^ (n - 1) : Int) ≤ v then 2 ^ (n - 1) - 1 else v

def sat32 (v : Int) : Int := sat 32 v

/-- The accumulator saturates symmetrically (R238). -/
def sat64 (v : Int) : Int :=
  if v < -(2 ^ 63 - 1) then -(2 ^ 63 - 1) else if 2 ^ 63 - 1 < v then 2 ^ 63 - 1 else v

/-- |v|, with |-2^31| taken as 2^31 - 1 (R239). -/
def abs32 (v : Int) : Int := min (v.natAbs : Int) (2 ^ 31 - 1)

/-- v / 2^n rounded half away from zero; n = 0 leaves v. -/
def rnd (v : Int) (n : Nat) : Int :=
  if n == 0 then v else if 0 ≤ v then (v + 2 ^ (n - 1)) / 2 ^ n else -((-v + 2 ^ (n - 1)) / 2 ^ n)

/-- n / d rounded half away from zero, d of either sign; a zero divisor gives 0. -/
def divr (n d : Int) : Int :=
  if d == 0 then 0
  else
    let q := (2 * n.natAbs + d.natAbs) / (2 * d.natAbs)
    if (0 ≤ n) == (0 < d) then (q : Int) else -(q : Int)

def clamp (lo hi v : Int) : Int := if v < lo then lo else if hi < v then hi else v

def sgn (v : Int) : Int := if v < 0 then -1 else if v == 0 then 0 else 1

/-- One digit step of the integer square root: `r` so far, bit 2^k. -/
def isqrtGo (n : Nat) : Nat → Nat → Nat
  | 0, r => if (r + 1) * (r + 1) ≤ n then r + 1 else r
  | k + 1, r => isqrtGo n k (if (r + 2 ^ (k + 1)) * (r + 2 ^ (k + 1)) ≤ n then r + 2 ^ (k + 1) else r)

/-- The integer part of the square root of n < 2^128. -/
def isqrt (n : Nat) : Nat := isqrtGo n 63 0

/-- One signal times one coefficient (R238). -/
def mul (x raw : Int) (s : Nat) : Int := sat32 (rnd (sat64 (x * raw)) s)

/-- Sum of products sharing one shift (R238). -/
def dot (ps : List (Int × Int)) (s : Nat) : Int :=
  sat32 (rnd (ps.foldl (fun acc p => sat64 (acc + p.1 * p.2)) 0) s)

/-- The signed value of a 16-bit angle difference (R189). -/
def wrap16 (a : Int) : Int := (a + 32768) % 65536 - 32768

/-- pi at 2^120. -/
def pi120 : Int := 4175892906503776358826876457663557747

/-- Taylor terms of the sine at 2^120: `t` is the term of order 2 k - 1, x2 the squared argument. -/
def sinTaylor (x2 : Int) : Nat → Nat → Int → Int → Int
  | 0, _, _, acc => acc
  | f + 1, k, t, acc =>
    let t' := -(t * x2 / 2 ^ 120) / ((2 * k * (2 * k + 1) : Nat) : Int)
    sinTaylor x2 f (k + 1) t' (acc + t')

/-- round(2^30 sin(2 pi a / 65536)) (R239). -/
def sin30 (a : Int) : Int :=
  let x := wrap16 a * pi120 / 32768
  rnd (sinTaylor (x * x / 2 ^ 120) 44 1 x x) 90

def cos30 (a : Int) : Int := sin30 (a + 16384)

def c23 : Int := 715827883
def c13 : Int := 357913941
def c1s3 : Int := 619925131

/-- Scales a fast value exactly as R112. -/
def scale (x off g : Int) (shift : Nat) : Int := sat32 (rnd (sat64 ((x - off) * g)) (shift + 10))

/-! ## Quantities whose last rounding the manual leaves open (log 9) -/

/-- The real quotient n / d to an integer: exact where it is one, otherwise the integer below or above it. -/
def qfree (site : Nat) (n d : Int) : Int :=
  if d == 0 then Config.realFn site [n]
  else
    let m := if d < 0 then -n else n
    let e : Int := (d.natAbs : Int)
    if m % e == 0 then m / e else if Config.roundUp site m e then m / e + 1 else m / e

/-- The square root of a ratio scaled by 2^k, to its integer part. -/
def sqrtQ (n d k : Nat) : Nat := if d == 0 then 0 else isqrtGo (n * 4 ^ k / d) 160 0

/-- The square root of 3 at 2^120. -/
def s3120 : Int := 2302290423542423760813183247545055291

/-- The square root of n: exact where it is whole, otherwise the integer below or above it. -/
def sqrtFree (site : Nat) (n : Int) : Int :=
  let r : Int := (isqrtGo n.toNat 200 0 : Int)
  if r * r == n then r else if Config.roundUp site n 1 then r + 1 else r

/-- Terms t x / k of the exponential at scale 2^f, from order k. -/
def expTaylor (x f : Int) : Nat → Int → Int → Int → Int
  | 0, _, _, acc => acc
  | n + 1, k, t, acc =>
    let t' := t * x / (f * k)
    expTaylor x f n (k + 1) t' (acc + t')

def sqTimes : Nat → Int → Int → Int
  | 0, _, v => v
  | n + 1, f, v => sqTimes n f (v * v / f)

/-- exp(-n / d) at 2^120, n and d not negative: the argument is halved 16 times first. -/
def expNeg120 (n d : Nat) : Int :=
  if d == 0 then 0
  else if 83 * d < n then 0
  else
    let f : Int := 2 ^ 160
    let x : Int := -(((n * 2 ^ 160 / d : Nat) : Int) / 2 ^ 16)
    sqTimes 16 f (expTaylor x f 24 1 f f) / 2 ^ 40

/-- ln 2 at 2^120. -/
def ln2 : Int := 921350637599661305226344307672478454

/-- Terms t^k / k, k odd, of atanh t at 2^120. -/
def atanhTaylor (t2 : Int) : Nat → Int → Int → Int → Int
  | 0, _, _, acc => acc
  | n + 1, k, p, acc =>
    let p' := p * t2 / 2 ^ 120
    atanhTaylor t2 n (k + 2) p' (acc + p' / k)

/-- ln (n / d) at 2^120, n and d positive: a power of two taken out, then 2 atanh ((m - 1) / (m + 1)). -/
def ln120 (n d : Nat) : Int :=
  let k : Int := (Nat.log2 n : Int) - Nat.log2 d
  let a : Int := if 0 ≤ k then (n : Int) else (n : Int) * 2 ^ (-k).toNat
  let b : Int := if 0 ≤ k then (d : Int) * 2 ^ k.toNat else (d : Int)
  let t := (a - b) * 2 ^ 120 / (a + b)
  k * ln2 + 2 * atanhTaylor (t * t / 2 ^ 120) 45 3 t t

/-- A divider code that is no sensor: open or shorted (R381, R630). -/
def codeBroken (c : Nat) : Bool := decide (4075 ≤ c) || decide (c ≤ 20)

/-- The temperature of a beta-model NTC in 0.1 °C from its mean code (R381, R630); of a broken one a free value. -/
def ntcTemp (c : Nat) (r25 beta : Int) : Int :=
  if codeBroken c then Config.realFn 30 [(c : Int)]
  else
    let l := ln120 (10000 * c) ((4096 - c) * r25.toNat)
    let den := 100 * beta * 2 ^ 120 + 29815 * l
    qfree 30 (596300 * beta * 2 ^ 120 - 5463 * den) (2 * den)

/-- The temperature of a Pt1000 in 0.1 °C from its mean code (R630); where the root is of a negative number, or the sensor is
broken, a free value. -/
def ptTemp (c : Nat) : Int :=
  let n : Int := 39083 * 39083 * (4096 - (c : Int)) + 231000000 * (4096 - 11 * (c : Int))
  if codeBroken c || n < 0 then Config.realFn 31 [(c : Int)]
  else qfree 31 ((39083 * 2 ^ 120 - (sqrtQ n.toNat (4096 - c) 120 : Int)) * 10000) (11550 * 2 ^ 120)

/-- Terms of atan t = t - t^3/3 + ... at 2^120. -/
def atanTaylor (t2 : Int) : Nat → Int → Int → Int → Int
  | 0, _, _, acc => acc
  | n + 1, k, p, acc =>
    let p' := -(p * t2 / 2 ^ 120)
    atanTaylor t2 n (k + 2) p' (acc + p' / k)

/-- atan t for 0 ≤ t ≤ 1 at 2^120: the argument is halved by t / (1 + sqrt(1 + t^2)) three times. -/
def atan120 (t : Int) : Int :=
  let one : Int := 2 ^ 120
  let half (t : Int) : Int := t * one / (one + (isqrtGo ((one * one + t * t).toNat) 122 0 : Int))
  let u := half (half (half t))
  8 * atanTaylor (u * u / one) 30 3 u u

/-- The angle of the vector (x, y) in turns at 2^120. -/
def angle120 (y x : Int) : Int :=
  let one : Int := 2 ^ 120
  let ax : Int := (x.natAbs : Int)
  let ay : Int := (y.natAbs : Int)
  let q (n d : Int) : Int := atan120 (n * one / d) * one / (2 * pi120)
  let a : Int := if ax == 0 && ay == 0 then 0 else if ax == ay then one / 8 else if ay ≤ ax then q ay ax else one / 4 - q ax ay
  let a := if x < 0 then one / 2 - a else a
  if y < 0 then -a else a

/-- The angle of the vector (x, y) in units of 2^-16 turn; its last rounding is open (R193, log 9). The zero vector has no
angle: a free value. -/
def atan2_16 (y x : Int) : Int :=
  if y == 0 && x == 0 then Config.realFn 15 [] else qfree 15 (angle120 y x) (2 ^ 104)

/-! ## The converters (R706, R707) -/

/-- x of a path A code. -/
def xOfCode (code : Nat) : Int := ((code : Int) - 8192) * 1024

/-- The mid-tread transfer of path A: 8,192 is centred on 0 V, one LSB is 0.25 mV (R706). -/
def codeOfUv (v : Int) : Nat := (clamp 0 16383 (8192 + divr v 250)).toNat

/-- Weight of the bit `k` clocks old in a sinc3 filter of length `n`: the number of ways to write k as a sum of three
numbers below n. -/
def sincW (n k : Nat) : Nat :=
  let c (m : Nat) : Nat := if k + 2 < m + 2 then 0 else (k + 2 - m) * (k + 1 - m) / 2
  (c 0 + 3 * c (2 * n)) - (3 * c n + c (3 * n))

/-- The sinc3 sum of the bits, newest first, from age `k`; it lies in ± n^3. -/
def sincSum (n : Nat) : Nat → List BClk → Int
  | _, [] => 0
  | k, b :: r => (if b.bit then (sincW n k : Int) else -(sincW n k : Int)) + sincSum n (k + 1) r

/-- The path B value on the x scale (R707). -/
def sincX (n : Nat) (taps : List BClk) : Int := divr (sincSum n 0 taps * 2 ^ 23) ((n : Int) ^ 3)

/-- The overload detector fired within the settling time: an input beyond 0.85 of full scale (R111). -/
def overloaded (n : Nat) (taps : List BClk) : Bool := (taps.take (3 * (n - 1) + 1)).any (fun b => decide (1740800 < b.uv.natAbs))

/-- Group delay of the filter in ns (R110). -/
def groupDelay (n : Nat) : Nat := 75 * (n - 1)

end Sys2Proof
end

