-- ==== Sys2Proof/Machine/Dict.lean ====
section
/-! DEFINITION. The parameter dictionary: one row per table row of the spec (R9, R44, R87, R138, R185, R227, R271,
R319, R354, R396, R433, R484, R530, R558, R599, R626, R655, R672; gain tables R241). -/

namespace Sys2Proof.Dict

/-- A range of values. -/
inductive Rng where
  | iv (lo hi : Int)
  | zeroOr (lo hi : Int)
  | oneOf (l : List Int)
  deriving DecidableEq, Repr

/-- A row: name, index, first and last subindex, type code (R535), range, default (one, or one per subindex),
store (R553: 0 volatile, 1 user, 2 Last, 3 device record), access (0 RW, 1 RO, 2 WO), scope, gates-off flag, DYN. -/
structure Row where
  name : String
  idx : Nat
  lo : Nat
  hi : Nat
  ty : Nat
  rng : Rng
  dflt : List Int
  store : Nat
  access : Nat
  scope : Nat
  gatesOff : Bool
  dyn : Bool
  deriving DecidableEq, Repr

/-- 00; the Range "as HB_IDENT" and "as HB_FW_VERSION" of sys.ident.part and sys.fw.running has no numbers in the spec: 0 to
2^32 - 1 here (DESIGN CHOICE, log 48). -/
def rows00a : List Row := [
  ⟨"sys.ident.part", 0x1000, 1, 1, 0x03, .iv (0) (4294967295), [1517818401], 0, 1, 0, false, false⟩,
  ⟨"sys.ident.serial", 0x1000, 2, 2, 0x04, .iv (0) (18446744073709551615), [0], 0, 1, 0, false, true⟩,
  ⟨"sys.fw.running", 0x1001, 1, 1, 0x03, .iv (0) (4294967295), [0], 0, 1, 0, false, false⟩,
  ⟨"sys.fw.staged", 0x1001, 2, 2, 0x03, .iv (0) (4294967295), [0], 0, 1, 0, false, false⟩,
  ⟨"sys.last.code", 0x1002, 1, 1, 0x03, .iv (0) (4294967295), [0], 2, 1, 0, false, false⟩,
  ⟨"sys.dict.count", 0x1003, 1, 1, 0x02, .iv (0) (65535), [0], 0, 1, 0, false, true⟩,
  ⟨"sys.store.seq", 0x1004, 1, 1, 0x03, .iv (0) (4294967295), [0], 0, 1, 0, false, true⟩,
  ⟨"sys.boot.gd_supply", 0x1010, 1, 1, 0x01, .iv (0) (1), [0], 2, 0, 0, false, false⟩,
  ⟨"sys.boot.gd_wait", 0x1010, 2, 2, 0x02, .iv (50) (5000), [500], 1, 0, 0, false, false⟩,
  ⟨"sys.boot.bist_always", 0x1010, 3, 3, 0x01, .iv (0) (1), [0], 1, 0, 0, false, false⟩,
  ⟨"sys.boot.repeat_limit", 0x1010, 4, 4, 0x01, .iv (2) (8), [5], 1, 0, 0, false, false⟩,
  ⟨"sys.boot.count", 0x1011, 1, 1, 0x03, .iv (0) (4294967295), [0], 0, 1, 0, false, true⟩,
  ⟨"sys.shutdown.drain", 0x1012, 1, 1, 0x02, .iv (10) (1000), [100], 1, 0, 0, false, false⟩,
  ⟨"sys.shutdown.bist", 0x1012, 2, 2, 0x01, .iv (0) (1), [1], 1, 0, 0, false, false⟩]

def rows01a : List Row := [
  ⟨"port.max_mhz", 0x1400, 1, 1, 0x01, .iv (1) (100), [100], 1, 0, 0, false, false⟩,
  ⟨"port.read_wait", 0x1400, 2, 2, 0x02, .iv (1000) (50000), [10000], 1, 0, 0, false, false⟩,
  ⟨"port.irq.coal_n", 0x1401, 1, 1, 0x02, .iv (1) (512), [1], 1, 0, 0, false, false⟩,
  ⟨"port.irq.coal_us", 0x1401, 2, 2, 0x02, .iv (0) (10000), [0], 1, 0, 0, false, false⟩,
  ⟨"mbx.stat.completed", 0x1402, 1, 1, 0x03, .iv (0) (4294967295), [0], 0, 1, 0, false, false⟩,
  ⟨"mbx.stat.violations", 0x1402, 2, 2, 0x03, .iv (0) (4294967295), [0], 0, 1, 0, false, false⟩]

def rows02a : List Row := [
  ⟨"jx.lane.err_limit", 0x1800, 1, 1, 0x02, .iv (1) (1024), [16], 1, 0, 0, false, false⟩,
  ⟨"jx.lane.err_window", 0x1800, 2, 2, 0x02, .iv (100) (10000), [1000], 1, 0, 0, false, false⟩,
  ⟨"jx.lane.count", 0x1800, 3, 3, 0x21, .iv (0) (288795533752009216), [0], 0, 1, 1, false, true⟩]

def rows03a : List Row := [
  ⟨"sense.gain_a.raw", 0x2000, 1, 12, 0x13, .iv (-2147483648) (2147483647), [0], 2, 0, 0, false, false⟩,
  ⟨"sense.gain_a.shift", 0x2001, 1, 12, 0x01, .iv (0) (31), [0], 2, 0, 0, false, false⟩,
  ⟨"sense.gain_b.raw", 0x2002, 1, 12, 0x13, .iv (-2147483648) (2147483647), [0], 2, 0, 0, false, false⟩,
  ⟨"sense.gain_b.shift", 0x2003, 1, 12, 0x01, .iv (0) (31), [0], 2, 0, 0, false, false⟩,
  ⟨"sense.off_a", 0x2004, 1, 12, 0x13, .iv (-8388608) (8388608), [0], 3, 0, 0, false, true⟩,
  ⟨"sense.off_b", 0x2005, 1, 12, 0x13, .iv (-8388608) (8388608), [0], 3, 0, 0, false, true⟩,
  ⟨"sense.b.osr", 0x2010, 1, 1, 0x02, .iv (32) (256), [64], 2, 0, 0, true, false⟩,
  ⟨"sense.settle", 0x2011, 1, 1, 0x02, .iv (0) (1000), [150], 1, 0, 0, false, false⟩,
  ⟨"sense.aux.mode", 0x2012, 1, 1, 0x01, .iv (0) (1), [0], 2, 0, 0, false, false⟩,
  ⟨"sense.oc.trip", 0x2020, 1, 1, 0x02, .zeroOr (10) (32000), [0], 2, 0, 0, false, false⟩,
  ⟨"sense.oc.count", 0x2020, 2, 2, 0x01, .iv (1) (2), [2], 2, 0, 0, false, false⟩,
  ⟨"sense.vdc.ov_trip", 0x2021, 1, 1, 0x02, .iv (100) (1250), [1200], 2, 0, 0, false, false⟩,
  ⟨"sense.vdc.ov_warn", 0x2021, 2, 2, 0x02, .iv (100) (1250), [1150], 1, 0, 0, false, false⟩,
  ⟨"sense.vdc.uv", 0x2021, 3, 3, 0x02, .iv (0) (1200), [400], 1, 0, 0, false, false⟩,
  ⟨"sense.xchk.set_lim", 0x2030, 1, 1, 0x02, .iv (10) (100), [30], 2, 0, 0, false, false⟩,
  ⟨"sense.xchk.path_lim", 0x2030, 2, 2, 0x02, .iv (5) (50), [15], 2, 0, 0, false, false⟩,
  ⟨"sense.xchk.sum_lim", 0x2030, 3, 3, 0x02, .iv (10) (100), [40], 2, 0, 0, false, false⟩,
  ⟨"sense.ts.lo", 0x2031, 1, 1, 0x02, .iv (0) (30000), [14250], 1, 0, 0, false, false⟩,
  ⟨"sense.ts.hi", 0x2031, 2, 2, 0x02, .iv (0) (30000), [15750], 1, 0, 0, false, false⟩,
  ⟨"sense.stat.disturbed", 0x2040, 1, 1, 0x03, .iv (0) (4294967295), [0], 0, 1, 0, false, false⟩]

def rows04a : List Row := [
  ⟨"fb.src.primary", 0x2800, 1, 1, 0x01, .iv (0) (4), [1], 2, 0, 0, false, false⟩,
  ⟨"fb.src.secondary", 0x2800, 2, 2, 0x01, .iv (0) (4), [0], 2, 0, 0, false, false⟩,
  ⟨"fb.fallback.enable", 0x2800, 3, 3, 0x01, .iv (0) (1), [0], 2, 0, 0, false, false⟩,
  ⟨"fb.inc.lines", 0x2801, 1, 1, 0x02, .iv (1) (65535), [1024], 2, 0, 0, false, false⟩,
  ⟨"fb.inc.filter", 0x2801, 2, 2, 0x01, .iv (1) (8), [3], 2, 0, 0, false, false⟩,
  ⟨"fb.inc.hyst", 0x2801, 3, 3, 0x01, .iv (0) (1), [1], 1, 0, 0, false, false⟩,
  ⟨"fb.inc.dir", 0x2801, 4, 4, 0x01, .iv (0) (1), [0], 2, 0, 0, false, false⟩,
  ⟨"fb.inc.init", 0x2801, 5, 5, 0x01, .iv (0) (1), [1], 2, 0, 0, false, false⟩,
  ⟨"fb.inc.illegal_max", 0x2802, 1, 1, 0x02, .iv (1) (1000), [4], 2, 0, 0, false, false⟩,
  ⟨"fb.inc.illegal_window", 0x2802, 2, 2, 0x02, .iv (1) (10000), [100], 2, 0, 0, false, false⟩,
  ⟨"fb.idx.mode", 0x2803, 1, 1, 0x01, .iv (0) (2), [1], 2, 0, 0, false, false⟩,
  ⟨"fb.idx.tol", 0x2803, 2, 2, 0x01, .iv (0) (64), [2], 2, 0, 0, false, false⟩,
  ⟨"fb.idx.apply", 0x2803, 3, 3, 0x01, .iv (0) (1), [0], 1, 0, 0, false, false⟩,
  ⟨"fb.ssi.mt_bits", 0x2804, 1, 1, 0x01, .iv (0) (24), [0], 2, 0, 0, false, false⟩,
  ⟨"fb.ssi.st_bits", 0x2804, 2, 2, 0x01, .iv (8) (32), [13], 2, 0, 0, false, false⟩,
  ⟨"fb.ssi.status_bits", 0x2804, 3, 3, 0x01, .iv (0) (8), [0], 2, 0, 0, false, false⟩,
  ⟨"fb.ssi.check", 0x2804, 4, 4, 0x01, .iv (0) (2), [0], 2, 0, 0, false, false⟩,
  ⟨"fb.ssi.crc_width", 0x2804, 5, 5, 0x01, .iv (3) (8), [6], 2, 0, 0, false, false⟩,
  ⟨"fb.ssi.crc_poly", 0x2804, 6, 6, 0x01, .iv (1) (255), [3], 2, 0, 0, false, false⟩,
  ⟨"fb.ssi.code", 0x2804, 7, 7, 0x01, .iv (0) (1), [1], 2, 0, 0, false, false⟩,
  ⟨"fb.ssi.rate_max", 0x2805, 1, 1, 0x02, .iv (500) (10000), [10000], 1, 0, 0, false, false⟩,
  ⟨"fb.ssi.rate_last", 0x2805, 2, 2, 0x02, .oneOf [0, 500, 1000, 1250, 2000, 2500, 4000, 5000, 8000, 10000], [0], 3, 0, 0, false, false⟩,
  ⟨"fb.ssi.tm", 0x2805, 3, 3, 0x03, .iv (500) (100000), [20000], 2, 0, 0, false, false⟩,
  ⟨"fb.ssi.stale_max", 0x2805, 4, 4, 0x01, .iv (1) (16), [3], 2, 0, 0, false, false⟩,
  ⟨"fb.ssi.neg_tol", 0x2805, 5, 5, 0x02, .iv (1) (1000), [8], 1, 0, 0, false, false⟩,
  ⟨"fb.ssi.jump", 0x2805, 6, 6, 0x03, .iv (1) (2147483647), [4096], 2, 0, 0, false, false⟩,
  ⟨"fb.res.exc_freq", 0x2806, 1, 1, 0x02, .iv (4000) (20000), [10000], 2, 0, 0, false, false⟩,
  ⟨"fb.res.exc_amp", 0x2806, 2, 2, 0x02, .iv (1000) (7000), [4000], 2, 0, 0, false, false⟩,
  ⟨"fb.res.poles", 0x2806, 3, 3, 0x01, .iv (1) (8), [1], 2, 0, 0, false, false⟩,
  ⟨"fb.res.bw", 0x2806, 4, 4, 0x02, .iv (200) (5000), [1500], 2, 0, 0, false, false⟩,
  ⟨"fb.res.amp_lo", 0x2806, 5, 5, 0x01, .iv (30) (95), [70], 2, 0, 0, false, false⟩,
  ⟨"fb.res.amp_hi", 0x2806, 6, 6, 0x01, .iv (105) (200), [130], 2, 0, 0, false, false⟩,
  ⟨"fb.hall.map", 0x2807, 1, 6, 0x01, .iv (0) (5), [0, 2, 1, 4, 5, 3], 2, 0, 0, false, false⟩,
  ⟨"fb.hall.offset", 0x2807, 7, 7, 0x02, .iv (0) (65535), [0], 2, 0, 0, false, false⟩,
  ⟨"fb.hall.pairs", 0x2807, 8, 8, 0x01, .iv (1) (32), [1], 2, 0, 0, false, false⟩,
  ⟨"fb.hall.diff", 0x2807, 9, 9, 0x01, .iv (0) (1), [0], 2, 0, 0, false, false⟩,
  ⟨"fb.hall.filter", 0x2807, 10, 10, 0x02, .iv (40) (10000), [1000], 2, 0, 0, false, false⟩,
  ⟨"fb.wire.filter", 0x2808, 1, 1, 0x02, .iv (100) (50000), [1000], 2, 0, 0, false, false⟩,
  ⟨"fb.xchk.lim", 0x2808, 2, 2, 0x02, .iv (1) (65535), [4], 2, 0, 0, false, false⟩,
  ⟨"fb.xchk.count", 0x2808, 3, 3, 0x01, .iv (1) (255), [8], 2, 0, 0, false, false⟩]

def rows04b : List Row := [
  ⟨"fb.frozen.n", 0x2808, 4, 4, 0x02, .iv (8) (10000), [64], 2, 0, 0, false, false⟩,
  ⟨"fb.enc.pwr_wait", 0x2809, 1, 1, 0x01, .iv (0) (30), [30], 1, 0, 0, false, false⟩,
  ⟨"fb.enc.sup_lo", 0x2809, 2, 2, 0x02, .iv (0) (15000), [4750], 1, 0, 0, false, false⟩,
  ⟨"fb.enc.sup_hi", 0x2809, 3, 3, 0x02, .iv (0) (15000), [5250], 1, 0, 0, false, false⟩,
  ⟨"fb.speed.avg", 0x280A, 1, 1, 0x01, .oneOf [1, 2, 4, 8], [1], 1, 0, 0, false, false⟩,
  ⟨"fb.speed.zero_ms", 0x280A, 2, 2, 0x02, .iv (1) (10000), [100], 1, 0, 0, false, false⟩]

def rows05a : List Row := [
  ⟨"obs.pole_pairs", 0x3000, 1, 1, 0x01, .iv (1) (32), [4], 2, 0, 0, false, false⟩,
  ⟨"obs.theta.offset", 0x3000, 2, 2, 0x02, .iv (0) (65535), [0], 2, 0, 0, false, false⟩,
  ⟨"obs.mach.rs", 0x3001, 1, 1, 0x03, .iv (1) (10000000), [10000], 2, 0, 0, false, false⟩,
  ⟨"obs.mach.ld", 0x3001, 2, 2, 0x03, .iv (1) (100000000), [500000], 2, 0, 0, false, false⟩,
  ⟨"obs.mach.lq", 0x3001, 3, 3, 0x03, .iv (1) (100000000), [500000], 2, 0, 0, false, false⟩,
  ⟨"obs.mach.psi", 0x3001, 4, 4, 0x03, .iv (1) (10000000), [100000], 2, 0, 0, false, false⟩,
  ⟨"obs.oe0.w_min", 0x3002, 1, 1, 0x02, .iv (10) (10000), [200], 2, 0, 0, false, false⟩,
  ⟨"obs.oe0.pll_bw", 0x3002, 2, 2, 0x02, .iv (10) (2000), [200], 2, 0, 0, false, false⟩,
  ⟨"obs.oe0.w_c", 0x3002, 3, 3, 0x02, .iv (10) (1000), [50], 2, 0, 0, false, false⟩,
  ⟨"obs.oe1.w_min", 0x3002, 4, 4, 0x02, .iv (10) (10000), [400], 2, 0, 0, false, false⟩,
  ⟨"obs.res.lim", 0x3003, 1, 1, 0x02, .iv (182) (10923), [2731], 2, 0, 0, false, false⟩,
  ⟨"obs.res.mag_lim", 0x3003, 2, 2, 0x01, .iv (5) (50), [15], 2, 0, 0, false, false⟩,
  ⟨"obs.res.count", 0x3003, 3, 3, 0x01, .iv (1) (255), [8], 2, 0, 0, false, false⟩,
  ⟨"obs.res.rejoin", 0x3003, 4, 4, 0x02, .iv (100) (65535), [8000], 2, 0, 0, false, false⟩,
  ⟨"obs.lor.restart", 0x3004, 1, 1, 0x01, .iv (0) (1), [0], 2, 0, 0, false, false⟩,
  ⟨"obs.fly.e_min", 0x3004, 2, 2, 0x02, .iv (5) (500), [30], 2, 0, 0, false, false⟩,
  ⟨"obs.fly.asc_settle", 0x3004, 3, 3, 0x02, .iv (1) (100), [5], 2, 0, 0, false, false⟩,
  ⟨"obs.fly.i_min", 0x3004, 4, 4, 0x02, .iv (5) (2000), [50], 2, 0, 0, false, false⟩,
  ⟨"obs.fly.fit_lim", 0x3004, 5, 5, 0x02, .iv (182) (5461), [910], 2, 0, 0, false, false⟩,
  ⟨"obs.fly.lock", 0x3004, 6, 6, 0x02, .iv (1) (100), [2], 1, 0, 0, false, false⟩,
  ⟨"obs.fly.ramp", 0x3004, 7, 7, 0x02, .iv (0) (10000), [50], 1, 0, 0, false, false⟩,
  ⟨"obs.fly.timeout", 0x3004, 8, 8, 0x02, .iv (20) (1000), [100], 2, 0, 0, false, false⟩,
  ⟨"obs.awl.i_peak", 0x3005, 1, 1, 0x02, .iv (10) (5000), [100], 2, 0, 0, false, false⟩,
  ⟨"obs.awl.t_rest", 0x3005, 2, 2, 0x02, .iv (50) (10000), [500], 1, 0, 0, false, false⟩,
  ⟨"obs.awl.aniso_min", 0x3005, 3, 3, 0x01, .iv (5) (200), [20], 2, 0, 0, false, false⟩,
  ⟨"obs.awl.pol_min", 0x3005, 4, 4, 0x01, .iv (5) (200), [30], 2, 0, 0, false, false⟩,
  ⟨"obs.awl.retry", 0x3005, 5, 5, 0x01, .iv (0) (2), [2], 1, 0, 0, false, false⟩,
  ⟨"obs.awl.move", 0x3005, 6, 6, 0x01, .iv (1) (64), [2], 2, 0, 0, false, false⟩,
  ⟨"obs.comm.mode", 0x3006, 1, 1, 0x01, .iv (0) (2), [0], 2, 0, 0, false, false⟩,
  ⟨"obs.blk.adv", 0x3006, 2, 2, 0x02, .iv (0) (5461), [0], 1, 0, 0, false, false⟩,
  ⟨"obs.blk.blank", 0x3006, 3, 3, 0x02, .iv (0) (5461), [1820], 2, 0, 0, false, false⟩,
  ⟨"obs.blk.w_min", 0x3006, 4, 4, 0x02, .iv (10) (10000), [100], 2, 0, 0, false, false⟩,
  ⟨"obs.blk.miss_max", 0x3006, 5, 5, 0x01, .iv (1) (16), [3], 2, 0, 0, false, false⟩,
  ⟨"obs.six.w_on", 0x3006, 6, 6, 0x02, .iv (10) (20000), [2400], 1, 0, 0, false, false⟩,
  ⟨"obs.six.w_off", 0x3006, 7, 7, 0x02, .iv (10) (20000), [2200], 1, 0, 0, false, false⟩,
  ⟨"obs.if.enable", 0x3007, 1, 1, 0x01, .iv (0) (1), [0], 2, 0, 0, false, false⟩,
  ⟨"obs.if.i_ref", 0x3007, 2, 2, 0x02, .iv (0) (5000), [0], 2, 0, 0, false, false⟩]

def rows06a : List Row := [
  ⟨"loop.mode", 0x3800, 1, 1, 0x01, .iv (0) (2), [1], 1, 0, 0, false, false⟩,
  ⟨"loop.spd.div", 0x3800, 2, 2, 0x01, .iv (1) (200), [4], 1, 0, 0, false, false⟩,
  ⟨"loop.pos.div", 0x3800, 3, 3, 0x01, .iv (1) (200), [8], 1, 0, 0, false, false⟩,
  ⟨"loop.i.max", 0x3801, 1, 1, 0x02, .iv (0) (30000), [0], 2, 0, 0, false, false⟩,
  ⟨"loop.v.mi_max", 0x3801, 2, 2, 0x02, .iv (500) (1103), [1000], 1, 0, 0, false, false⟩,
  ⟨"loop.i.decouple", 0x3801, 3, 3, 0x01, .iv (0) (1), [1], 1, 0, 0, false, false⟩,
  ⟨"loop.i.adv_trim", 0x3801, 4, 4, 0x12, .iv (-5000) (5000), [0], 1, 0, 0, false, false⟩,
  ⟨"loop.i.dev_lim", 0x3801, 5, 5, 0x02, .iv (1) (10000), [200], 2, 0, 0, false, false⟩,
  ⟨"loop.i.dev_n", 0x3801, 6, 6, 0x01, .iv (1) (255), [16], 2, 0, 0, false, false⟩,
  ⟨"loop.v.sat_time", 0x3801, 7, 7, 0x02, .iv (1) (10000), [500], 1, 0, 0, false, false⟩,
  ⟨"loop.i.dist_max", 0x3801, 8, 8, 0x01, .iv (1) (16), [4], 1, 0, 0, false, false⟩,
  ⟨"loop.iq.kp_tab.pos", 0x3810, 1, 33, 0x13, .iv (0) (2147483647), [0], 1, 0, 0, false, false⟩,
  ⟨"loop.iq.kp_tab.neg", 0x3810, 65, 97, 0x13, .iv (0) (2147483647), [0], 1, 0, 0, false, false⟩,
  ⟨"loop.iq.kp_tab.s", 0x3810, 128, 128, 0x01, .iv (0) (31), [0], 1, 0, 0, false, false⟩,
  ⟨"loop.iq.kp_tab.span", 0x3810, 129, 129, 0x13, .iv (1) (2147483647), [1], 1, 0, 0, false, false⟩,
  ⟨"loop.iq.ki_tab.pos", 0x3811, 1, 33, 0x13, .iv (0) (2147483647), [0], 1, 0, 0, false, false⟩,
  ⟨"loop.iq.ki_tab.neg", 0x3811, 65, 97, 0x13, .iv (0) (2147483647), [0], 1, 0, 0, false, false⟩,
  ⟨"loop.iq.ki_tab.s", 0x3811, 128, 128, 0x01, .iv (0) (31), [0], 1, 0, 0, false, false⟩,
  ⟨"loop.iq.ki_tab.span", 0x3811, 129, 129, 0x13, .iv (1) (2147483647), [1], 1, 0, 0, false, false⟩,
  ⟨"loop.id.kp_tab.pos", 0x3812, 1, 33, 0x13, .iv (0) (2147483647), [0], 1, 0, 0, false, false⟩,
  ⟨"loop.id.kp_tab.neg", 0x3812, 65, 97, 0x13, .iv (0) (2147483647), [0], 1, 0, 0, false, false⟩,
  ⟨"loop.id.kp_tab.s", 0x3812, 128, 128, 0x01, .iv (0) (31), [0], 1, 0, 0, false, false⟩,
  ⟨"loop.id.kp_tab.span", 0x3812, 129, 129, 0x13, .iv (1) (2147483647), [1], 1, 0, 0, false, false⟩,
  ⟨"loop.id.ki_tab.pos", 0x3813, 1, 33, 0x13, .iv (0) (2147483647), [0], 1, 0, 0, false, false⟩,
  ⟨"loop.id.ki_tab.neg", 0x3813, 65, 97, 0x13, .iv (0) (2147483647), [0], 1, 0, 0, false, false⟩,
  ⟨"loop.id.ki_tab.s", 0x3813, 128, 128, 0x01, .iv (0) (31), [0], 1, 0, 0, false, false⟩,
  ⟨"loop.id.ki_tab.span", 0x3813, 129, 129, 0x13, .iv (1) (2147483647), [1], 1, 0, 0, false, false⟩,
  ⟨"loop.mtpa.id_tab.pos", 0x3818, 1, 33, 0x13, .iv (0) (2147483647), [0], 1, 0, 0, false, false⟩,
  ⟨"loop.mtpa.id_tab.neg", 0x3818, 65, 97, 0x13, .iv (0) (2147483647), [0], 1, 0, 0, false, false⟩,
  ⟨"loop.mtpa.id_tab.s", 0x3818, 128, 128, 0x01, .iv (0) (31), [0], 1, 0, 0, false, false⟩,
  ⟨"loop.mtpa.id_tab.span", 0x3818, 129, 129, 0x13, .iv (1) (2147483647), [1], 1, 0, 0, false, false⟩,
  ⟨"loop.fw.kp_raw", 0x3820, 1, 1, 0x13, .iv (0) (2147483647), [0], 1, 0, 0, false, false⟩,
  ⟨"loop.fw.kp_s", 0x3820, 2, 2, 0x01, .iv (0) (31), [0], 1, 0, 0, false, false⟩,
  ⟨"loop.fw.ki_raw", 0x3820, 3, 3, 0x13, .iv (0) (2147483647), [0], 1, 0, 0, false, false⟩,
  ⟨"loop.fw.ki_s", 0x3820, 4, 4, 0x01, .iv (0) (31), [0], 1, 0, 0, false, false⟩,
  ⟨"loop.fw.margin", 0x3820, 5, 5, 0x02, .iv (800) (1000), [950], 1, 0, 0, false, false⟩,
  ⟨"loop.fw.id_max", 0x3820, 6, 6, 0x02, .iv (0) (30000), [0], 2, 0, 0, false, false⟩,
  ⟨"loop.spd.kp_tab.pos", 0x3830, 1, 33, 0x13, .iv (0) (2147483647), [0], 1, 0, 0, false, false⟩,
  ⟨"loop.spd.kp_tab.neg", 0x3830, 65, 97, 0x13, .iv (0) (2147483647), [0], 1, 0, 0, false, false⟩,
  ⟨"loop.spd.kp_tab.s", 0x3830, 128, 128, 0x01, .iv (0) (31), [0], 1, 0, 0, false, false⟩]

def rows06b : List Row := [
  ⟨"loop.spd.kp_tab.span", 0x3830, 129, 129, 0x13, .iv (1) (2147483647), [1], 1, 0, 0, false, false⟩,
  ⟨"loop.spd.ki_tab.pos", 0x3831, 1, 33, 0x13, .iv (0) (2147483647), [0], 1, 0, 0, false, false⟩,
  ⟨"loop.spd.ki_tab.neg", 0x3831, 65, 97, 0x13, .iv (0) (2147483647), [0], 1, 0, 0, false, false⟩,
  ⟨"loop.spd.ki_tab.s", 0x3831, 128, 128, 0x01, .iv (0) (31), [0], 1, 0, 0, false, false⟩,
  ⟨"loop.spd.ki_tab.span", 0x3831, 129, 129, 0x13, .iv (1) (2147483647), [1], 1, 0, 0, false, false⟩,
  ⟨"loop.spd.j_raw", 0x3832, 1, 1, 0x13, .iv (0) (2147483647), [0], 1, 0, 0, false, false⟩,
  ⟨"loop.spd.j_s", 0x3832, 2, 2, 0x01, .iv (0) (31), [0], 1, 0, 0, false, false⟩,
  ⟨"loop.spd.max", 0x3832, 3, 3, 0x02, .iv (1) (60000), [3000], 2, 0, 0, false, false⟩,
  ⟨"loop.spd.trip", 0x3832, 4, 4, 0x02, .iv (1) (65000), [3300], 2, 0, 0, false, false⟩,
  ⟨"loop.spd.dev_lim", 0x3832, 5, 5, 0x02, .iv (1) (60000), [300], 1, 0, 0, false, false⟩,
  ⟨"loop.spd.dev_time", 0x3832, 6, 6, 0x02, .iv (1) (10000), [1000], 1, 0, 0, false, false⟩,
  ⟨"loop.t.max_mot", 0x3833, 1, 1, 0x03, .iv (0) (8388607), [0], 2, 0, 0, false, false⟩,
  ⟨"loop.t.max_gen", 0x3833, 2, 2, 0x03, .iv (0) (8388607), [0], 2, 0, 0, false, false⟩,
  ⟨"loop.t.slew", 0x3833, 3, 3, 0x03, .iv (1) (8388607), [1000], 1, 0, 0, false, false⟩,
  ⟨"loop.vdc.regen_start", 0x3834, 1, 1, 0x02, .iv (100) (1250), [1120], 1, 0, 0, false, false⟩,
  ⟨"loop.vdc.regen_end", 0x3834, 2, 2, 0x02, .iv (100) (1250), [1145], 1, 0, 0, false, false⟩,
  ⟨"loop.pos.kp_tab.pos", 0x3840, 1, 33, 0x13, .iv (0) (2147483647), [0], 1, 0, 0, false, false⟩,
  ⟨"loop.pos.kp_tab.neg", 0x3840, 65, 97, 0x13, .iv (0) (2147483647), [0], 1, 0, 0, false, false⟩,
  ⟨"loop.pos.kp_tab.s", 0x3840, 128, 128, 0x01, .iv (0) (31), [0], 1, 0, 0, false, false⟩,
  ⟨"loop.pos.kp_tab.span", 0x3840, 129, 129, 0x13, .iv (1) (2147483647), [1], 1, 0, 0, false, false⟩,
  ⟨"loop.pos.ferr_lim", 0x3841, 1, 1, 0x03, .iv (1) (8388607), [8192], 2, 0, 0, false, false⟩,
  ⟨"loop.pos.ferr_time", 0x3841, 2, 2, 0x02, .iv (1) (10000), [50], 2, 0, 0, false, false⟩,
  ⟨"loop.dcd.enable", 0x3848, 1, 1, 0x01, .iv (0) (1), [0], 1, 0, 0, false, false⟩,
  ⟨"loop.dcd.k", 0x3848, 2, 2, 0x03, .iv (0) (10000000), [0], 1, 0, 0, false, false⟩,
  ⟨"loop.dcd.fc", 0x3848, 3, 3, 0x02, .iv (1) (2000), [20], 1, 0, 0, false, false⟩,
  ⟨"loop.dcd.t_max", 0x3848, 4, 4, 0x03, .iv (0) (8388607), [0], 1, 0, 0, false, false⟩,
  ⟨"loop.dcd.w_min", 0x3848, 5, 5, 0x02, .iv (1) (60000), [300], 1, 0, 0, false, false⟩,
  ⟨"loop.tab.commit", 0x3860, 1, 1, 0x01, .iv (0) (1), [0], 0, 0, 0, false, false⟩]

def rows07a : List Row := [
  ⟨"prof.vel_max", 0x4000, 1, 1, 0x03, .iv (0) (2147483647), [0], 1, 0, 0, false, false⟩,
  ⟨"prof.acc", 0x4000, 2, 2, 0x03, .iv (0) (2147483647), [0], 1, 0, 0, false, false⟩,
  ⟨"prof.dec", 0x4000, 3, 3, 0x03, .iv (0) (2147483647), [0], 1, 0, 0, false, false⟩,
  ⟨"prof.jerk", 0x4000, 4, 4, 0x03, .iv (0) (2147483647), [0], 1, 0, 0, false, false⟩,
  ⟨"prof.win", 0x4000, 5, 5, 0x03, .iv (0) (2147483647), [4], 1, 0, 0, false, false⟩,
  ⟨"prof.win_time", 0x4000, 6, 6, 0x02, .iv (0) (10000), [10], 1, 0, 0, false, false⟩,
  ⟨"prof.lim.enable", 0x4001, 1, 1, 0x01, .iv (0) (1), [0], 2, 0, 0, false, false⟩,
  ⟨"prof.lim.pos_max", 0x4001, 2, 2, 0x14, .iv (-140737488355328) (140737488355327), [140737488355327], 2, 0, 0, false, false⟩,
  ⟨"prof.lim.pos_min", 0x4001, 3, 3, 0x14, .iv (-140737488355328) (140737488355327), [-140737488355328], 2, 0, 0, false, false⟩,
  ⟨"prof.lim.dec", 0x4001, 4, 4, 0x03, .iv (1) (2147483647), [2147483647], 2, 0, 0, false, false⟩,
  ⟨"prof.lim.jerk", 0x4001, 5, 5, 0x03, .iv (1) (2147483647), [2147483647], 2, 0, 0, false, false⟩,
  ⟨"prof.lim.overrun", 0x4001, 6, 6, 0x03, .iv (0) (2147483647), [8192], 2, 0, 0, false, false⟩,
  ⟨"prof.stand.mode", 0x4002, 1, 1, 0x01, .iv (0) (2), [0], 1, 0, 0, false, false⟩,
  ⟨"prof.stand.speed", 0x4002, 2, 2, 0x03, .iv (0) (2147483647), [80], 1, 0, 0, false, false⟩,
  ⟨"prof.stand.time", 0x4002, 3, 3, 0x02, .iv (1) (10000), [200], 1, 0, 0, false, false⟩,
  ⟨"prof.sw.enable", 0x4003, 1, 1, 0x01, .iv (0) (7), [0], 2, 0, 0, false, false⟩,
  ⟨"prof.sw.polarity", 0x4003, 2, 2, 0x01, .iv (0) (7), [0], 2, 0, 0, false, false⟩,
  ⟨"prof.sw.debounce", 0x4003, 3, 3, 0x02, .iv (1) (200), [20], 2, 0, 0, false, false⟩,
  ⟨"prof.sw.chatter_n", 0x4003, 4, 4, 0x01, .iv (2) (255), [8], 2, 0, 0, false, false⟩,
  ⟨"prof.sw.chatter_win", 0x4003, 5, 5, 0x02, .iv (10) (60000), [1000], 2, 0, 0, false, false⟩,
  ⟨"prof.sw.dec", 0x4003, 6, 6, 0x03, .iv (1) (2147483647), [2147483647], 2, 0, 0, false, false⟩,
  ⟨"prof.home.method", 0x4008, 1, 1, 0x01, .iv (1) (8), [7], 1, 0, 0, false, false⟩,
  ⟨"prof.home.v_fast", 0x4008, 2, 2, 0x03, .iv (1) (2147483647), [8192], 1, 0, 0, false, false⟩,
  ⟨"prof.home.v_slow", 0x4008, 3, 3, 0x03, .iv (1) (2147483647), [819], 1, 0, 0, false, false⟩,
  ⟨"prof.home.acc", 0x4008, 4, 4, 0x03, .iv (1) (2147483647), [8192], 1, 0, 0, false, false⟩,
  ⟨"prof.home.offset", 0x4008, 5, 5, 0x14, .iv (-140737488355328) (140737488355327), [0], 1, 0, 0, false, false⟩,
  ⟨"prof.home.idx_win", 0x4008, 6, 6, 0x03, .iv (1) (2147483647), [10240], 1, 0, 0, false, false⟩,
  ⟨"prof.home.timeout", 0x4008, 7, 7, 0x02, .iv (1) (3600), [600], 1, 0, 0, false, false⟩,
  ⟨"prof.home.use_idx", 0x4008, 8, 8, 0x01, .iv (0) (1), [1], 1, 0, 0, false, false⟩,
  ⟨"prof.home.shift", 0x4008, 9, 9, 0x14, .iv (-9223372036854775808) (9223372036854775807), [0], 1, 0, 0, false, false⟩,
  ⟨"prof.seg.count", 0x4010, 1, 1, 0x02, .iv (0) (4096), [0], 0, 1, 0, false, false⟩,
  ⟨"prof.seg.mode", 0x4010, 2, 2, 0x01, .iv (0) (1), [0], 1, 0, 0, false, false⟩,
  ⟨"prof.seg.start_tol", 0x4010, 3, 3, 0x03, .iv (0) (2147483647), [16], 1, 0, 0, false, false⟩]

def rows08a : List Row := [
  ⟨"mod.fsw", 0x4800, 1, 1, 0x03, .iv (1000) (100000), [10000], 1, 0, 0, true, false⟩,
  ⟨"mod.method", 0x4800, 2, 2, 0x01, .iv (0) (4), [0], 1, 0, 0, false, false⟩,
  ⟨"mod.dpwm.mi_on", 0x4800, 3, 3, 0x02, .iv (500) (1103), [900], 1, 0, 0, false, false⟩,
  ⟨"mod.dpwm.mi_off", 0x4800, 4, 4, 0x02, .iv (500) (1103), [850], 1, 0, 0, false, false⟩,
  ⟨"mod.dt", 0x4801, 1, 1, 0x02, .iv (80) (40000), [4000], 2, 0, 0, false, false⟩,
  ⟨"mod.min_pulse", 0x4801, 2, 2, 0x02, .iv (0) (40000), [1600], 2, 0, 0, false, false⟩,
  ⟨"mod.dtc.enable", 0x4801, 3, 3, 0x01, .iv (0) (1), [1], 1, 0, 0, false, false⟩,
  ⟨"mod.dtc.band", 0x4801, 4, 4, 0x02, .iv (1) (1000), [10], 1, 0, 0, false, false⟩,
  ⟨"mod.asc.delay", 0x4801, 5, 5, 0x03, .iv (80) (80000), [5120], 2, 0, 0, false, false⟩,
  ⟨"mod.bs.refresh_min", 0x4802, 1, 1, 0x03, .iv (800) (160000), [16000], 2, 0, 0, false, false⟩,
  ⟨"mod.bs.refresh_n", 0x4802, 2, 2, 0x01, .iv (1) (64), [8], 2, 0, 0, false, false⟩,
  ⟨"mod.bs.charge_on", 0x4802, 3, 3, 0x02, .iv (1000) (50000), [10000], 2, 0, 0, false, false⟩,
  ⟨"mod.bs.charge_period", 0x4802, 4, 4, 0x02, .iv (20) (10000), [100], 2, 0, 0, false, false⟩,
  ⟨"mod.leg.policy", 0x4803, 1, 1, 0x01, .iv (0) (1), [0], 2, 0, 0, false, false⟩,
  ⟨"mod.leg.ramp", 0x4803, 2, 2, 0x02, .iv (0) (10000), [200], 2, 0, 0, false, false⟩,
  ⟨"mod.blk.chop", 0x4804, 1, 1, 0x01, .iv (0) (1), [0], 1, 0, 0, false, false⟩]

def rows09a : List Row := [
  ⟨"gd.par.count", 0x4C00, 1, 6, 0x01, .iv (1) (4), [1], 2, 0, 2, false, false⟩,
  ⟨"gd.out.mask", 0x4C01, 1, 6, 0x01, .iv (0) (15), [15], 2, 0, 2, false, false⟩,
  ⟨"gd.out.booster", 0x4C02, 1, 6, 0x01, .iv (0) (1), [0], 2, 0, 2, false, false⟩,
  ⟨"gd.clamp.enable", 0x4C03, 1, 6, 0x01, .iv (0) (1), [1], 2, 0, 2, false, false⟩,
  ⟨"gd.band.edge[1]", 0x4C04, 1, 6, 0x02, .iv (0) (30000), [25], 1, 0, 2, false, false⟩,
  ⟨"gd.band.edge[2]", 0x4C05, 1, 6, 0x02, .iv (0) (30000), [50], 1, 0, 2, false, false⟩,
  ⟨"gd.band.edge[3]", 0x4C06, 1, 6, 0x02, .iv (0) (30000), [100], 1, 0, 2, false, false⟩,
  ⟨"gd.band.edge[4]", 0x4C07, 1, 6, 0x02, .iv (0) (30000), [150], 1, 0, 2, false, false⟩,
  ⟨"gd.band.edge[5]", 0x4C08, 1, 6, 0x02, .iv (0) (30000), [200], 1, 0, 2, false, false⟩,
  ⟨"gd.band.edge[6]", 0x4C09, 1, 6, 0x02, .iv (0) (30000), [300], 1, 0, 2, false, false⟩,
  ⟨"gd.band.edge[7]", 0x4C0A, 1, 6, 0x02, .iv (0) (30000), [400], 1, 0, 2, false, false⟩,
  ⟨"gd.band.hyst", 0x4C0B, 1, 6, 0x02, .iv (0) (1000), [10], 1, 0, 2, false, false⟩,
  ⟨"gd.prof.on[0]", 0x4C10, 1, 6, 0x04, .iv (0) (18446744073709551615), [0], 1, 0, 2, false, false⟩,
  ⟨"gd.prof.on[1]", 0x4C11, 1, 6, 0x04, .iv (0) (18446744073709551615), [0], 1, 0, 2, false, false⟩,
  ⟨"gd.prof.on[2]", 0x4C12, 1, 6, 0x04, .iv (0) (18446744073709551615), [0], 1, 0, 2, false, false⟩,
  ⟨"gd.prof.on[3]", 0x4C13, 1, 6, 0x04, .iv (0) (18446744073709551615), [0], 1, 0, 2, false, false⟩,
  ⟨"gd.prof.on[4]", 0x4C14, 1, 6, 0x04, .iv (0) (18446744073709551615), [0], 1, 0, 2, false, false⟩,
  ⟨"gd.prof.on[5]", 0x4C15, 1, 6, 0x04, .iv (0) (18446744073709551615), [0], 1, 0, 2, false, false⟩,
  ⟨"gd.prof.on[6]", 0x4C16, 1, 6, 0x04, .iv (0) (18446744073709551615), [0], 1, 0, 2, false, false⟩,
  ⟨"gd.prof.on[7]", 0x4C17, 1, 6, 0x04, .iv (0) (18446744073709551615), [0], 1, 0, 2, false, false⟩,
  ⟨"gd.prof.off[0]", 0x4C18, 1, 6, 0x04, .iv (0) (18446744073709551615), [0], 1, 0, 2, false, false⟩,
  ⟨"gd.prof.off[1]", 0x4C19, 1, 6, 0x04, .iv (0) (18446744073709551615), [0], 1, 0, 2, false, false⟩,
  ⟨"gd.prof.off[2]", 0x4C1A, 1, 6, 0x04, .iv (0) (18446744073709551615), [0], 1, 0, 2, false, false⟩,
  ⟨"gd.prof.off[3]", 0x4C1B, 1, 6, 0x04, .iv (0) (18446744073709551615), [0], 1, 0, 2, false, false⟩,
  ⟨"gd.prof.off[4]", 0x4C1C, 1, 6, 0x04, .iv (0) (18446744073709551615), [0], 1, 0, 2, false, false⟩,
  ⟨"gd.prof.off[5]", 0x4C1D, 1, 6, 0x04, .iv (0) (18446744073709551615), [0], 1, 0, 2, false, false⟩,
  ⟨"gd.prof.off[6]", 0x4C1E, 1, 6, 0x04, .iv (0) (18446744073709551615), [0], 1, 0, 2, false, false⟩,
  ⟨"gd.prof.off[7]", 0x4C1F, 1, 6, 0x04, .iv (0) (18446744073709551615), [0], 1, 0, 2, false, false⟩,
  ⟨"gd.soft.level", 0x4C20, 1, 6, 0x01, .iv (0) (15), [2], 2, 0, 2, false, false⟩,
  ⟨"gd.soft.time", 0x4C21, 1, 6, 0x02, .iv (100) (10000), [1000], 2, 0, 2, false, false⟩,
  ⟨"gd.didt.lsk", 0x4C30, 1, 6, 0x02, .iv (100) (20000), [1000], 2, 0, 2, false, false⟩,
  ⟨"gd.didt.thr", 0x4C31, 1, 6, 0x02, .iv (0) (1000), [0], 2, 0, 2, false, false⟩,
  ⟨"gd.didt.blank_factor", 0x4C32, 1, 6, 0x02, .iv (100) (300), [150], 2, 0, 2, false, false⟩,
  ⟨"gd.didt.qual", 0x4C33, 1, 6, 0x01, .iv (0) (15), [5], 2, 0, 2, false, false⟩,
  ⟨"gd.desat.vth", 0x4C38, 1, 6, 0x02, .iv (2000) (12000), [8000], 2, 0, 2, false, false⟩,
  ⟨"gd.desat.blank", 0x4C39, 1, 6, 0x02, .iv (100) (10000), [1000], 2, 0, 2, false, false⟩,
  ⟨"gd.desat.filt", 0x4C3A, 1, 6, 0x02, .iv (0) (1000), [100], 2, 0, 2, false, false⟩,
  ⟨"gd.gchk.margin", 0x4C3B, 1, 6, 0x02, .iv (1000) (5000), [3000], 2, 0, 2, false, false⟩,
  ⟨"gd.ntc.r25", 0x4C40, 1, 6, 0x03, .iv (100) (100000), [5000], 1, 0, 2, false, false⟩,
  ⟨"gd.ntc.beta", 0x4C41, 1, 6, 0x02, .iv (1000) (10000), [3375], 1, 0, 2, false, false⟩]

def rows09b : List Row := [
  ⟨"gd.ntc.warn", 0x4C42, 1, 6, 0x12, .iv (-40) (200), [125], 1, 0, 2, false, false⟩,
  ⟨"gd.ntc.trip", 0x4C43, 1, 6, 0x12, .iv (-40) (200), [140], 2, 0, 2, false, false⟩,
  ⟨"gd.diag.mode", 0x4C50, 1, 6, 0x01, .iv (0) (1), [1], 1, 0, 2, false, false⟩,
  ⟨"gd.diag.dv", 0x4C51, 1, 6, 0x02, .iv (500) (3000), [2000], 2, 0, 2, false, false⟩,
  ⟨"gd.diag.tr_min", 0x4C52, 1, 6, 0x03, .iv (100) (2000000), [1000], 1, 0, 2, false, false⟩,
  ⟨"gd.diag.tr_max", 0x4C53, 1, 6, 0x03, .iv (100) (2000000), [1000000], 1, 0, 2, false, false⟩]

def rows10a : List Row := [
  ⟨"sm.tq.abs_lim", 0x5000, 1, 1, 0x03, .iv (0) (8388607), [0], 2, 0, 0, false, false⟩,
  ⟨"sm.tq.rel_lim", 0x5000, 2, 2, 0x02, .iv (10) (500), [50], 2, 0, 0, false, false⟩,
  ⟨"sm.tq.n", 0x5000, 3, 3, 0x01, .iv (2) (255), [16], 2, 0, 0, false, false⟩,
  ⟨"sm.tq.tau", 0x5000, 4, 4, 0x02, .iv (10) (10000), [250], 2, 0, 0, false, false⟩,
  ⟨"sm.tq.def_time", 0x5000, 5, 5, 0x02, .iv (10) (10000), [200], 2, 0, 0, false, false⟩,
  ⟨"sm.tq.i_lim", 0x5000, 6, 6, 0x02, .iv (1) (5000), [100], 2, 0, 0, false, false⟩,
  ⟨"sm.xover.hyst", 0x5001, 1, 1, 0x01, .iv (1) (20), [5], 2, 0, 0, false, false⟩,
  ⟨"sm.deg.policy", 0x5002, 1, 1, 0x01, .iv (0) (1), [0], 2, 0, 0, false, false⟩,
  ⟨"sm.deg.grace", 0x5002, 2, 2, 0x02, .iv (1) (3600), [600], 2, 0, 0, false, false⟩,
  ⟨"sm.resync.window", 0x5002, 3, 3, 0x02, .iv (10) (10000), [100], 2, 0, 0, false, false⟩]

def rows11a : List Row := [
  ⟨"safety.state", 0x5400, 1, 1, 0x01, .iv (0) (3), [3], 2, 0, 0, false, false⟩,
  ⟨"safety.asc.side", 0x5400, 2, 2, 0x01, .iv (0) (1), [0], 2, 0, 0, false, false⟩,
  ⟨"safety.sds.pi_speed", 0x5400, 3, 3, 0x02, .iv (0) (60000), [30], 2, 0, 0, false, false⟩,
  ⟨"safety.sto.filter", 0x5401, 1, 1, 0x02, .iv (1) (40), [10], 2, 0, 0, false, false⟩,
  ⟨"safety.sto.disc_time", 0x5401, 2, 2, 0x02, .iv (1) (1000), [10], 2, 0, 0, false, false⟩,
  ⟨"safety.ss1.dec", 0x5402, 1, 1, 0x03, .iv (1) (1000000), [1000], 2, 0, 0, false, false⟩,
  ⟨"safety.ss1.margin", 0x5402, 2, 2, 0x02, .iv (1) (10000), [100], 2, 0, 0, false, false⟩,
  ⟨"safety.ss1.time", 0x5402, 3, 3, 0x02, .iv (100) (60000), [10000], 2, 0, 0, false, false⟩,
  ⟨"safety.ss1.zero", 0x5402, 4, 4, 0x02, .iv (1) (1000), [10], 2, 0, 0, false, false⟩,
  ⟨"safety.sms.limit", 0x5403, 1, 1, 0x02, .iv (1) (65000), [3300], 2, 0, 0, false, false⟩,
  ⟨"safety.sls.limit", 0x5403, 2, 2, 0x02, .iv (1) (65000), [300], 2, 0, 0, false, false⟩,
  ⟨"safety.sls.time", 0x5403, 3, 3, 0x02, .iv (10) (60000), [2000], 2, 0, 0, false, false⟩,
  ⟨"safety.brk.enable", 0x5404, 1, 1, 0x01, .iv (0) (1), [0], 2, 0, 0, false, false⟩,
  ⟨"safety.brk.with_sto", 0x5404, 2, 2, 0x01, .iv (0) (1), [1], 2, 0, 0, false, false⟩,
  ⟨"safety.brk.on_heel", 0x5404, 3, 3, 0x01, .iv (0) (1), [1], 2, 0, 0, false, false⟩,
  ⟨"safety.brk.release_delay", 0x5404, 4, 4, 0x02, .iv (0) (5000), [100], 2, 0, 0, false, false⟩,
  ⟨"safety.brk.apply_time", 0x5404, 5, 5, 0x02, .iv (0) (5000), [200], 2, 0, 0, false, false⟩,
  ⟨"safety.brk.test_pulse", 0x5404, 6, 6, 0x02, .iv (50) (500), [300], 2, 0, 0, false, false⟩,
  ⟨"safety.brk.test_period", 0x5404, 7, 7, 0x02, .iv (1) (3600), [60], 2, 0, 0, false, false⟩,
  ⟨"safety.cont.on_safe", 0x5405, 1, 1, 0x01, .iv (0) (1), [0], 2, 0, 0, false, false⟩,
  ⟨"safety.cont.fc_loss_hold", 0x5405, 2, 2, 0x02, .iv (0) (60), [10], 2, 0, 0, false, false⟩,
  ⟨"safety.src.mode", 0x5405, 3, 3, 0x01, .iv (0) (2), [0], 2, 0, 0, false, false⟩,
  ⟨"safety.src.scale", 0x5405, 4, 4, 0x03, .iv (1) (10000000), [1000], 2, 0, 0, false, false⟩,
  ⟨"safety.pre.time", 0x5406, 1, 1, 0x02, .iv (100) (30000), [2000], 2, 0, 0, false, false⟩,
  ⟨"safety.pre.ratio", 0x5406, 2, 2, 0x01, .iv (50) (99), [95], 2, 0, 0, false, false⟩,
  ⟨"safety.pre.cool", 0x5406, 3, 3, 0x02, .iv (0) (3600), [60], 1, 0, 0, false, false⟩,
  ⟨"safety.dis.r", 0x5407, 1, 1, 0x03, .zeroOr (1) (100000), [0], 2, 0, 0, false, false⟩,
  ⟨"safety.dis.c", 0x5407, 2, 2, 0x03, .iv (1) (1000000), [1], 2, 0, 0, false, false⟩,
  ⟨"safety.dis.id", 0x5407, 3, 3, 0x02, .iv (0) (5000), [0], 2, 0, 0, false, false⟩,
  ⟨"safety.dis.on_safe", 0x5407, 4, 4, 0x01, .iv (0) (1), [0], 2, 0, 0, false, false⟩,
  ⟨"safety.cmsg.enable", 0x5410, 1, 1, 0x01, .iv (0) (1), [0], 2, 0, 0, false, false⟩,
  ⟨"safety.cmsg.rx_id", 0x5410, 2, 2, 0x02, .iv (1) (65535), [1], 2, 0, 0, false, false⟩,
  ⟨"safety.cmsg.tx_id", 0x5410, 3, 3, 0x02, .iv (1) (65535), [2], 2, 0, 0, false, false⟩,
  ⟨"safety.cmsg.deadline", 0x5410, 4, 4, 0x02, .iv (2) (1000), [50], 2, 0, 0, false, false⟩,
  ⟨"safety.cmsg.age_max", 0x5410, 5, 5, 0x02, .iv (1) (1000), [20], 2, 0, 0, false, false⟩,
  ⟨"safety.cmsg.skew", 0x5410, 6, 6, 0x02, .iv (10) (10000), [1000], 2, 0, 0, false, false⟩,
  ⟨"safety.cmsg.tx_period", 0x5410, 7, 7, 0x02, .iv (1) (1000), [10], 2, 0, 0, false, false⟩,
  ⟨"safety.last.tag", 0x5420, 1, 1, 0x03, .iv (0) (4294967295), [0], 2, 0, 0, false, false⟩,
  ⟨"safety.last.pending", 0x5420, 2, 2, 0x03, .iv (0) (4294967295), [0], 0, 1, 0, false, false⟩,
  ⟨"safety.last.confirm", 0x5420, 3, 3, 0x03, .iv (0) (4294967295), [0], 0, 2, 0, false, false⟩]

def rows12a : List Row := [
  ⟨"can.ch.auto_on", 0x5800, 1, 2, 0x01, .iv (0) (1), [0], 1, 0, 0, false, false⟩,
  ⟨"can.ch.mode", 0x5801, 1, 2, 0x01, .iv (0) (1), [0], 1, 0, 0, false, false⟩,
  ⟨"can.on.timeout", 0x5802, 1, 2, 0x02, .iv (0) (60000), [1000], 1, 0, 0, false, false⟩,
  ⟨"can.nom.brp", 0x5804, 1, 2, 0x02, .iv (1) (256), [1], 1, 0, 0, false, false⟩,
  ⟨"can.nom.tseg1", 0x5805, 1, 2, 0x02, .iv (2) (256), [127], 1, 0, 0, false, false⟩,
  ⟨"can.nom.tseg2", 0x5806, 1, 2, 0x01, .iv (1) (128), [32], 1, 0, 0, false, false⟩,
  ⟨"can.nom.sjw", 0x5807, 1, 2, 0x01, .iv (1) (128), [32], 1, 0, 0, false, false⟩,
  ⟨"can.nom.triple", 0x5808, 1, 2, 0x01, .iv (0) (1), [0], 1, 0, 0, false, false⟩,
  ⟨"can.nom.sp", 0x5809, 1, 2, 0x02, .iv (500) (900), [800], 1, 0, 0, false, false⟩,
  ⟨"can.fd.brp", 0x5810, 1, 2, 0x01, .iv (1) (32), [1], 1, 0, 0, false, false⟩,
  ⟨"can.fd.tseg1", 0x5811, 1, 2, 0x01, .iv (1) (64), [29], 1, 0, 0, false, false⟩,
  ⟨"can.fd.tseg2", 0x5812, 1, 2, 0x01, .iv (1) (32), [10], 1, 0, 0, false, false⟩,
  ⟨"can.fd.sjw", 0x5813, 1, 2, 0x01, .iv (1) (32), [10], 1, 0, 0, false, false⟩,
  ⟨"can.fd.tdc", 0x5814, 1, 2, 0x01, .iv (0) (1), [1], 1, 0, 0, false, false⟩,
  ⟨"can.fd.ssp_off", 0x5815, 1, 2, 0x01, .iv (0) (127), [30], 1, 0, 0, false, false⟩,
  ⟨"can.xl.brp", 0x5818, 1, 2, 0x01, .iv (1) (32), [1], 1, 0, 0, false, false⟩,
  ⟨"can.xl.tseg1", 0x5819, 1, 2, 0x01, .iv (1) (64), [5], 1, 0, 0, false, false⟩,
  ⟨"can.xl.tseg2", 0x581A, 1, 2, 0x01, .iv (1) (32), [2], 1, 0, 0, false, false⟩,
  ⟨"can.xl.sjw", 0x581B, 1, 2, 0x01, .iv (1) (32), [2], 1, 0, 0, false, false⟩,
  ⟨"can.xl.tdc", 0x581C, 1, 2, 0x01, .iv (0) (1), [1], 1, 0, 0, false, false⟩,
  ⟨"can.xl.ssp_off", 0x581D, 1, 2, 0x01, .iv (0) (127), [6], 1, 0, 0, false, false⟩,
  ⟨"can.xl.errsig", 0x581E, 1, 2, 0x01, .iv (0) (1), [1], 1, 0, 0, false, false⟩,
  ⟨"can.xl.tms", 0x581F, 1, 2, 0x01, .iv (0) (1), [0], 1, 0, 0, false, false⟩,
  ⟨"can.xl.pwms", 0x5820, 1, 2, 0x01, .iv (1) (63), [2], 1, 0, 0, false, false⟩,
  ⟨"can.xl.pwml", 0x5821, 1, 2, 0x01, .iv (1) (63), [6], 1, 0, 0, false, false⟩,
  ⟨"can.xl.pwmo", 0x5822, 1, 2, 0x01, .iv (0) (63), [1], 1, 0, 0, false, false⟩,
  ⟨"can.tx.noack_n", 0x5828, 1, 2, 0x02, .iv (1) (1000), [64], 1, 0, 0, false, false⟩,
  ⟨"can.tx.deadline", 0x5829, 1, 2, 0x02, .iv (0) (60000), [0], 1, 0, 0, false, false⟩,
  ⟨"can.filt.count", 0x582A, 1, 2, 0x02, .iv (0) (512), [0], 0, 0, 0, false, false⟩,
  ⟨"can.filt.default", 0x582B, 1, 2, 0x01, .iv (0) (1), [1], 1, 0, 0, false, false⟩,
  ⟨"can.det.window", 0x582C, 1, 1, 0x02, .iv (10) (10000), [500], 1, 0, 0, false, false⟩,
  ⟨"can.det.passes", 0x582C, 2, 2, 0x01, .iv (1) (16), [2], 1, 0, 0, false, false⟩,
  ⟨"can.safe.rx_ident", 0x5830, 1, 1, 0x03, .iv (0) (4294967295), [256], 2, 0, 0, false, false⟩,
  ⟨"can.safe.tx_ident", 0x5830, 2, 2, 0x03, .iv (0) (4294967295), [257], 2, 0, 0, false, false⟩,
  ⟨"can.tt.role", 0x5838, 1, 1, 0x01, .iv (0) (2), [0], 1, 0, 0, false, false⟩,
  ⟨"can.tt.channel", 0x5838, 2, 2, 0x01, .iv (1) (2), [1], 1, 0, 0, false, false⟩,
  ⟨"can.tt.ref_id", 0x5838, 3, 3, 0x02, .iv (0) (2047), [16], 1, 0, 0, false, false⟩,
  ⟨"can.tt.cycle", 0x5838, 4, 4, 0x03, .iv (100) (1000000), [10000], 1, 0, 0, false, false⟩,
  ⟨"can.tt.lost_n", 0x5838, 5, 5, 0x01, .iv (2) (16), [4], 1, 0, 0, false, false⟩,
  ⟨"can.tt.align_lim", 0x5838, 6, 6, 0x03, .iv (100) (1000000), [10000], 1, 0, 0, false, false⟩]

def rows12b : List Row := [
  ⟨"can.tt.step", 0x5838, 7, 7, 0x01, .iv (0) (1), [1], 1, 0, 0, false, false⟩]

def rows13a : List Row := [
  ⟨"mem.scrub.period", 0x5C00, 1, 1, 0x02, .iv (1) (3600), [8], 1, 0, 0, false, false⟩,
  ⟨"mem.scrub.enable", 0x5C00, 2, 2, 0x01, .iv (0) (1), [1], 2, 0, 0, false, false⟩,
  ⟨"mem.record.interval", 0x5C01, 1, 1, 0x02, .iv (1) (1000), [10], 1, 0, 0, false, false⟩,
  ⟨"mem.stat.corrected", 0x5C02, 1, 1, 0x03, .iv (0) (4294967295), [0], 0, 1, 0, false, false⟩,
  ⟨"mem.stat.uncorrected", 0x5C02, 2, 2, 0x03, .iv (0) (4294967295), [0], 0, 1, 0, false, false⟩,
  ⟨"mem.stat.repairs", 0x5C02, 3, 3, 0x03, .iv (0) (4294967295), [0], 0, 1, 0, false, false⟩,
  ⟨"thm.xchk.tol_jn", 0x5E00, 1, 1, 0x02, .iv (20) (500), [100], 2, 0, 0, false, false⟩,
  ⟨"thm.xchk.tol_ntc", 0x5E00, 2, 2, 0x02, .iv (20) (500), [80], 2, 0, 0, false, false⟩,
  ⟨"thm.xchk.tol_wind", 0x5E00, 3, 3, 0x02, .iv (20) (500), [150], 2, 0, 0, false, false⟩,
  ⟨"thm.xchk.tol_cool", 0x5E00, 4, 4, 0x02, .iv (20) (500), [100], 2, 0, 0, false, false⟩,
  ⟨"thm.xchk.n", 0x5E00, 5, 5, 0x01, .iv (2) (100), [3], 2, 0, 0, false, false⟩,
  ⟨"thm.xchk.off_max", 0x5E00, 6, 6, 0x02, .iv (0) (500), [200], 2, 0, 0, false, false⟩,
  ⟨"thm.repl.margin", 0x5E00, 7, 7, 0x02, .iv (0) (500), [100], 2, 0, 0, false, false⟩,
  ⟨"thm.jn.warn_hf", 0x5E01, 1, 1, 0x12, .iv (60) (160), [140], 1, 0, 0, false, false⟩,
  ⟨"thm.jn.stop_hf", 0x5E01, 2, 2, 0x12, .iv (60) (160), [155], 2, 0, 0, false, false⟩,
  ⟨"thm.jn.warn_gd", 0x5E01, 3, 3, 0x12, .iv (60) (172), [160], 1, 0, 0, false, false⟩,
  ⟨"thm.jn.stop_gd", 0x5E01, 4, 4, 0x12, .iv (60) (172), [170], 2, 0, 0, false, false⟩,
  ⟨"thm.wind.type", 0x5E02, 1, 1, 0x01, .iv (0) (2), [0], 2, 0, 0, false, false⟩,
  ⟨"thm.wind.r25", 0x5E02, 2, 2, 0x03, .iv (100) (100000), [10000], 1, 0, 0, false, false⟩,
  ⟨"thm.wind.beta", 0x5E02, 3, 3, 0x02, .iv (1000) (10000), [3435], 1, 0, 0, false, false⟩,
  ⟨"thm.wind.warn", 0x5E02, 4, 4, 0x12, .iv (-40) (250), [150], 1, 0, 0, false, false⟩,
  ⟨"thm.wind.trip", 0x5E02, 5, 5, 0x12, .iv (-40) (250), [170], 2, 0, 0, false, false⟩,
  ⟨"thm.cool.type", 0x5E03, 1, 1, 0x01, .iv (0) (2), [0], 2, 0, 0, false, false⟩,
  ⟨"thm.cool.r25", 0x5E03, 2, 2, 0x03, .iv (100) (100000), [10000], 1, 0, 0, false, false⟩,
  ⟨"thm.cool.beta", 0x5E03, 3, 3, 0x02, .iv (1000) (10000), [3435], 1, 0, 0, false, false⟩,
  ⟨"thm.cool.warn", 0x5E03, 4, 4, 0x12, .iv (-40) (150), [65], 1, 0, 0, false, false⟩,
  ⟨"thm.cool.trip", 0x5E03, 5, 5, 0x12, .iv (-40) (150), [75], 2, 0, 0, false, false⟩,
  ⟨"bist.stat.result", 0x5F00, 1, 1, 0x01, .iv (0) (255), [0], 0, 1, 0, false, false⟩,
  ⟨"bist.stat.kind", 0x5F00, 2, 2, 0x01, .iv (0) (2), [0], 0, 1, 0, false, false⟩,
  ⟨"bist.stat.duration", 0x5F00, 3, 3, 0x02, .iv (0) (65535), [0], 0, 1, 0, false, false⟩,
  ⟨"bist.stat.coverage", 0x5F00, 4, 4, 0x02, .iv (0) (1000), [0], 0, 1, 0, false, false⟩,
  ⟨"bist.stat.boot", 0x5F00, 5, 5, 0x03, .iv (0) (4294967295), [0], 0, 1, 0, false, false⟩,
  ⟨"bist.mem.period", 0x5F01, 1, 1, 0x03, .zeroOr (60) (86400), [0], 1, 0, 0, false, false⟩]

def rows14a : List Row := [
  ⟨"evt.persist.class", 0x6000, 1, 1, 0x01, .iv (0) (4), [1], 2, 0, 0, false, false⟩,
  ⟨"evt.stat.v_fill", 0x6001, 1, 1, 0x02, .iv (0) (4096), [0], 0, 1, 0, false, false⟩,
  ⟨"evt.stat.p_fill", 0x6001, 2, 2, 0x02, .iv (0) (16384), [0], 0, 1, 0, false, true⟩,
  ⟨"evt.stat.v_overflow", 0x6001, 3, 3, 0x03, .iv (0) (4294967295), [0], 0, 1, 0, false, false⟩,
  ⟨"evt.stat.p_overflow", 0x6001, 4, 4, 0x03, .iv (0) (4294967295), [0], 0, 1, 0, false, true⟩,
  ⟨"evt.stat.fc_lost", 0x6001, 5, 5, 0x03, .iv (0) (4294967295), [0], 0, 1, 0, false, false⟩]

/-- The whole dictionary in ascending order of index and subindex. -/
def rows : List Row :=
  rows00a ++
  rows01a ++
  rows02a ++
  rows03a ++
  rows04a ++
  rows04b ++
  rows05a ++
  rows06a ++
  rows06b ++
  rows07a ++
  rows08a ++
  rows09a ++
  rows09b ++
  rows10a ++
  rows11a ++
  rows12a ++
  rows12b ++
  rows13a ++
  rows14a

end Sys2Proof.Dict
end

