-- ==== Sys2Proof/Machine/Crc.lean ====
section
/-! DEFINITION. The check codes: CRC-16/CCITT of the host port (R491) and CRC-32C (R474). -/

namespace Sys2Proof

/-- One bit step, most significant bit first, of CRC-16 with polynomial 0x1021. -/
def crc16Bit (c : Nat) : Nat :=
  if c < 32768 then c * 2 else ((c * 2) % 65536).xor 0x1021

def crc16Byte (c : Nat) (b : Byte) : Nat := (List.replicate 8 ()).foldl (fun c _ => crc16Bit c) (c.xor (b.toNat * 256))

/-- CRC-16/CCITT, initial value 0xFFFF, no final XOR (R491). -/
def crc16 (l : List Byte) : Nat := l.foldl crc16Byte 0xFFFF

/-- One bit step of the reflected polynomial of CRC-32C. -/
def crc32cBit (c : Nat) : Nat := if c % 2 == 1 then (c / 2).xor 0x82F63B78 else c / 2

def crc32cByte (c : Nat) (b : Byte) : Nat := (List.replicate 8 ()).foldl (fun c _ => crc32cBit c) (c.xor b.toNat)

/-- CRC-32C, initial value and final XOR 0xFFFFFFFF (R474). -/
def crc32c (l : List Byte) : Nat := (l.foldl crc32cByte 0xFFFFFFFF).xor 0xFFFFFFFF

end Sys2Proof
end

