-- ==== Sys2Proof/Machine/Mem.lean ====
section
/-! DEFINITION. HB SRAM that the host port addresses (R506, R514, R578) as a canonical list of cells: addresses rise,
and no entry is 0, which is what an unlisted address reads as (R603). -/

namespace Sys2Proof.Machine
open Sys2Proof

/-- Reads one byte; an unlisted address reads 0. -/
def memGet (m : List Host.Cell) (a : Nat) : Byte :=
  match m with
  | [] => 0
  | c :: r => if c.1 == a then c.2 else memGet r a

/-- Writes one byte and keeps the canonical form: writing 0 removes the entry. -/
def memPut (m : List Host.Cell) (a : Nat) (v : Byte) : List Host.Cell :=
  match m with
  | [] => if v == 0 then [] else [(a, v)]
  | c :: r =>
    if c.1 < a then c :: memPut r a v
    else if c.1 == a then (if v == 0 then r else (a, v) :: r)
    else (if v == 0 then c :: r else (a, v) :: c :: r)

def memRead (m : List Host.Cell) (a : Nat) : Nat → List Byte
  | 0 => []
  | n + 1 => memGet m a :: memRead m (a + 1) n

def memWrite (m : List Host.Cell) (a : Nat) : List Byte → List Host.Cell
  | [] => m
  | b :: r => memWrite (memPut m a b) (a + 1) r

/-- The canonical form from a lower bound on. -/
def memWfFrom (lo : Nat) : List Host.Cell → Bool
  | [] => true
  | c :: r => decide (lo ≤ c.1) && c.2 != 0 && memWfFrom (c.1 + 1) r

/-- The canonical form of a memory. -/
def memWf (m : List Host.Cell) : Bool := memWfFrom 0 m

/-- Addresses: Eyelet `t` (R506), entry `i` of the completion ring (R514), staging buffer of a CAN channel (R578). -/
def eyeletAt (t : Nat) : Nat := 1024 * t
def ringAt (i : Nat) : Nat := 131072 + 16 * i
def stageAt (c : Ch) : Nat := 139264 + 2048 * c.idx

end Sys2Proof.Machine
end

