-- ==== Sys2Proof/Machine/P.lean ====
section
/-! DEFINITION. The parameters of the dictionary by name: key (index × 256 + subindex) and default value. -/

namespace Sys2Proof.P

/-- sys.ident.part (0x1000.01, R9). -/
def sysIdentPart : Nat × Int := (0x100001, 0)

/-- sys.ident.serial (0x1000.02, R9). -/
def sysIdentSerial : Nat × Int := (0x100002, 0)

/-- sys.fw.running (0x1001.01, R9). -/
def sysFwRunning : Nat × Int := (0x100101, 0)

/-- sys.fw.staged (0x1001.02, R9). -/
def sysFwStaged : Nat × Int := (0x100102, 0)

/-- sys.last.code (0x1002.01, R9). -/
def sysLastCode : Nat × Int := (0x100201, 0)

/-- jx.lane.err_limit (0x1800.01, R44). -/
def jxLaneErrLimit : Nat × Int := (0x180001, 16)

/-- jx.lane.err_window (0x1800.02, R44). -/
def jxLaneErrWindow : Nat × Int := (0x180002, 1000)

/-- jx.lane.count (0x1800.03, R44). -/
def jxLaneCount : Nat × Int := (0x180003, 0)

/-- sys.boot.gd_supply (0x1010.01, R87). -/
def sysBootGdSupply : Nat × Int := (0x101001, 0)

/-- sys.boot.gd_wait (0x1010.02, R87). -/
def sysBootGdWait : Nat × Int := (0x101002, 500)

/-- sys.boot.bist_always (0x1010.03, R87). -/
def sysBootBistAlways : Nat × Int := (0x101003, 0)

/-- sys.boot.repeat_limit (0x1010.04, R87). -/
def sysBootRepeatLimit : Nat × Int := (0x101004, 5)

/-- sys.boot.count (0x1011.01, R87). -/
def sysBootCount : Nat × Int := (0x101101, 0)

/-- sys.shutdown.drain (0x1012.01, R87). -/
def sysShutdownDrain : Nat × Int := (0x101201, 100)

/-- sys.shutdown.bist (0x1012.02, R87). -/
def sysShutdownBist : Nat × Int := (0x101202, 1)

/-- sense.gain_a.raw (0x2000.01–0C, R138), subindex sub. -/
def senseGainARaw (sub : Nat) : Nat × Int := (0x200000 + sub, 0)

/-- sense.gain_a.shift (0x2001.01–0C, R138), subindex sub. -/
def senseGainAShift (sub : Nat) : Nat × Int := (0x200100 + sub, 0)

/-- sense.gain_b.raw (0x2002.01–0C, R138), subindex sub. -/
def senseGainBRaw (sub : Nat) : Nat × Int := (0x200200 + sub, 0)

/-- sense.gain_b.shift (0x2003.01–0C, R138), subindex sub. -/
def senseGainBShift (sub : Nat) : Nat × Int := (0x200300 + sub, 0)

/-- sense.off_a (0x2004.01–0C, R138), subindex sub. -/
def senseOffA (sub : Nat) : Nat × Int := (0x200400 + sub, 0)

/-- sense.off_b (0x2005.01–0C, R138), subindex sub. -/
def senseOffB (sub : Nat) : Nat × Int := (0x200500 + sub, 0)

/-- sense.b.osr (0x2010.01, R138). -/
def senseBOsr : Nat × Int := (0x201001, 64)

/-- sense.settle (0x2011.01, R138). -/
def senseSettle : Nat × Int := (0x201101, 150)

/-- sense.aux.mode (0x2012.01, R138). -/
def senseAuxMode : Nat × Int := (0x201201, 0)

/-- sense.oc.trip (0x2020.01, R138). -/
def senseOcTrip : Nat × Int := (0x202001, 0)

/-- sense.oc.count (0x2020.02, R138). -/
def senseOcCount : Nat × Int := (0x202002, 2)

/-- sense.vdc.ov_trip (0x2021.01, R138). -/
def senseVdcOvTrip : Nat × Int := (0x202101, 1200)

/-- sense.vdc.ov_warn (0x2021.02, R138). -/
def senseVdcOvWarn : Nat × Int := (0x202102, 1150)

/-- sense.vdc.uv (0x2021.03, R138). -/
def senseVdcUv : Nat × Int := (0x202103, 400)

/-- sense.xchk.set_lim (0x2030.01, R138). -/
def senseXchkSetLim : Nat × Int := (0x203001, 30)

/-- sense.xchk.path_lim (0x2030.02, R138). -/
def senseXchkPathLim : Nat × Int := (0x203002, 15)

/-- sense.xchk.sum_lim (0x2030.03, R138). -/
def senseXchkSumLim : Nat × Int := (0x203003, 40)

/-- sense.ts.lo (0x2031.01, R138). -/
def senseTsLo : Nat × Int := (0x203101, 14250)

/-- sense.ts.hi (0x2031.02, R138). -/
def senseTsHi : Nat × Int := (0x203102, 15750)

/-- sense.stat.disturbed (0x2040.01, R138). -/
def senseStatDisturbed : Nat × Int := (0x204001, 0)

/-- fb.src.primary (0x2800.01, R185). -/
def fbSrcPrimary : Nat × Int := (0x280001, 1)

/-- fb.src.secondary (0x2800.02, R185). -/
def fbSrcSecondary : Nat × Int := (0x280002, 0)

/-- fb.fallback.enable (0x2800.03, R185). -/
def fbFallbackEnable : Nat × Int := (0x280003, 0)

/-- fb.inc.lines (0x2801.01, R185). -/
def fbIncLines : Nat × Int := (0x280101, 1024)

/-- fb.inc.filter (0x2801.02, R185). -/
def fbIncFilter : Nat × Int := (0x280102, 3)

/-- fb.inc.hyst (0x2801.03, R185). -/
def fbIncHyst : Nat × Int := (0x280103, 1)

/-- fb.inc.dir (0x2801.04, R185). -/
def fbIncDir : Nat × Int := (0x280104, 0)

/-- fb.inc.init (0x2801.05, R185). -/
def fbIncInit : Nat × Int := (0x280105, 1)

/-- fb.inc.illegal_max (0x2802.01, R185). -/
def fbIncIllegalMax : Nat × Int := (0x280201, 4)

/-- fb.inc.illegal_window (0x2802.02, R185). -/
def fbIncIllegalWindow : Nat × Int := (0x280202, 100)

/-- fb.idx.mode (0x2803.01, R185). -/
def fbIdxMode : Nat × Int := (0x280301, 1)

/-- fb.idx.tol (0x2803.02, R185). -/
def fbIdxTol : Nat × Int := (0x280302, 2)

/-- fb.idx.apply (0x2803.03, R185). -/
def fbIdxApply : Nat × Int := (0x280303, 0)

/-- fb.ssi.mt_bits (0x2804.01, R185). -/
def fbSsiMtBits : Nat × Int := (0x280401, 0)

/-- fb.ssi.st_bits (0x2804.02, R185). -/
def fbSsiStBits : Nat × Int := (0x280402, 13)

/-- fb.ssi.status_bits (0x2804.03, R185). -/
def fbSsiStatusBits : Nat × Int := (0x280403, 0)

/-- fb.ssi.check (0x2804.04, R185). -/
def fbSsiCheck : Nat × Int := (0x280404, 0)

/-- fb.ssi.crc_width (0x2804.05, R185). -/
def fbSsiCrcWidth : Nat × Int := (0x280405, 6)

/-- fb.ssi.crc_poly (0x2804.06, R185). -/
def fbSsiCrcPoly : Nat × Int := (0x280406, 3)

/-- fb.ssi.code (0x2804.07, R185). -/
def fbSsiCode : Nat × Int := (0x280407, 1)

/-- fb.ssi.rate_max (0x2805.01, R185). -/
def fbSsiRateMax : Nat × Int := (0x280501, 10000)

/-- fb.ssi.rate_last (0x2805.02, R185). -/
def fbSsiRateLast : Nat × Int := (0x280502, 0)

/-- fb.ssi.tm (0x2805.03, R185). -/
def fbSsiTm : Nat × Int := (0x280503, 20000)

/-- fb.ssi.stale_max (0x2805.04, R185). -/
def fbSsiStaleMax : Nat × Int := (0x280504, 3)

/-- fb.ssi.neg_tol (0x2805.05, R185). -/
def fbSsiNegTol : Nat × Int := (0x280505, 8)

/-- fb.ssi.jump (0x2805.06, R185). -/
def fbSsiJump : Nat × Int := (0x280506, 4096)

/-- fb.res.exc_freq (0x2806.01, R185). -/
def fbResExcFreq : Nat × Int := (0x280601, 10000)

/-- fb.res.exc_amp (0x2806.02, R185). -/
def fbResExcAmp : Nat × Int := (0x280602, 4000)

/-- fb.res.poles (0x2806.03, R185). -/
def fbResPoles : Nat × Int := (0x280603, 1)

/-- fb.res.bw (0x2806.04, R185). -/
def fbResBw : Nat × Int := (0x280604, 1500)

/-- fb.res.amp_lo (0x2806.05, R185). -/
def fbResAmpLo : Nat × Int := (0x280605, 70)

/-- fb.res.amp_hi (0x2806.06, R185). -/
def fbResAmpHi : Nat × Int := (0x280606, 130)

/-- fb.hall.map (0x2807.01–06, R185), subindex sub. -/
def fbHallMap (sub : Nat) : Nat × Int := (0x280700 + sub, [0, 2, 1, 4, 5, 3].getD (sub - 1) 0)

/-- fb.hall.offset (0x2807.07, R185). -/
def fbHallOffset : Nat × Int := (0x280707, 0)

/-- fb.hall.pairs (0x2807.08, R185). -/
def fbHallPairs : Nat × Int := (0x280708, 1)

/-- fb.hall.diff (0x2807.09, R185). -/
def fbHallDiff : Nat × Int := (0x280709, 0)

/-- fb.hall.filter (0x2807.0A, R185). -/
def fbHallFilter : Nat × Int := (0x28070A, 1000)

/-- fb.wire.filter (0x2808.01, R185). -/
def fbWireFilter : Nat × Int := (0x280801, 1000)

/-- fb.xchk.lim (0x2808.02, R185). -/
def fbXchkLim : Nat × Int := (0x280802, 4)

/-- fb.xchk.count (0x2808.03, R185). -/
def fbXchkCount : Nat × Int := (0x280803, 8)

/-- fb.frozen.n (0x2808.04, R185). -/
def fbFrozenN : Nat × Int := (0x280804, 64)

/-- fb.enc.pwr_wait (0x2809.01, R185). -/
def fbEncPwrWait : Nat × Int := (0x280901, 30)

/-- fb.enc.sup_lo (0x2809.02, R185). -/
def fbEncSupLo : Nat × Int := (0x280902, 4750)

/-- fb.enc.sup_hi (0x2809.03, R185). -/
def fbEncSupHi : Nat × Int := (0x280903, 5250)

/-- fb.speed.avg (0x280A.01, R185). -/
def fbSpeedAvg : Nat × Int := (0x280A01, 1)

/-- fb.speed.zero_ms (0x280A.02, R185). -/
def fbSpeedZeroMs : Nat × Int := (0x280A02, 100)

/-- obs.pole_pairs (0x3000.01, R227). -/
def obsPolePairs : Nat × Int := (0x300001, 4)

/-- obs.theta.offset (0x3000.02, R227). -/
def obsThetaOffset : Nat × Int := (0x300002, 0)

/-- obs.mach.rs (0x3001.01, R227). -/
def obsMachRs : Nat × Int := (0x300101, 10000)

/-- obs.mach.ld (0x3001.02, R227). -/
def obsMachLd : Nat × Int := (0x300102, 500000)

/-- obs.mach.lq (0x3001.03, R227). -/
def obsMachLq : Nat × Int := (0x300103, 500000)

/-- obs.mach.psi (0x3001.04, R227). -/
def obsMachPsi : Nat × Int := (0x300104, 100000)

/-- obs.oe0.w_min (0x3002.01, R227). -/
def obsOe0WMin : Nat × Int := (0x300201, 200)

/-- obs.oe0.pll_bw (0x3002.02, R227). -/
def obsOe0PllBw : Nat × Int := (0x300202, 200)

/-- obs.oe0.w_c (0x3002.03, R227). -/
def obsOe0WC : Nat × Int := (0x300203, 50)

/-- obs.oe1.w_min (0x3002.04, R227). -/
def obsOe1WMin : Nat × Int := (0x300204, 400)

/-- obs.res.lim (0x3003.01, R227). -/
def obsResLim : Nat × Int := (0x300301, 2731)

/-- obs.res.mag_lim (0x3003.02, R227). -/
def obsResMagLim : Nat × Int := (0x300302, 15)

/-- obs.res.count (0x3003.03, R227). -/
def obsResCount : Nat × Int := (0x300303, 8)

/-- obs.res.rejoin (0x3003.04, R227). -/
def obsResRejoin : Nat × Int := (0x300304, 8000)

/-- obs.lor.restart (0x3004.01, R227). -/
def obsLorRestart : Nat × Int := (0x300401, 0)

/-- obs.fly.e_min (0x3004.02, R227). -/
def obsFlyEMin : Nat × Int := (0x300402, 30)

/-- obs.fly.asc_settle (0x3004.03, R227). -/
def obsFlyAscSettle : Nat × Int := (0x300403, 5)

/-- obs.fly.i_min (0x3004.04, R227). -/
def obsFlyIMin : Nat × Int := (0x300404, 50)

/-- obs.fly.fit_lim (0x3004.05, R227). -/
def obsFlyFitLim : Nat × Int := (0x300405, 910)

/-- obs.fly.lock (0x3004.06, R227). -/
def obsFlyLock : Nat × Int := (0x300406, 2)

/-- obs.fly.ramp (0x3004.07, R227). -/
def obsFlyRamp : Nat × Int := (0x300407, 50)

/-- obs.fly.timeout (0x3004.08, R227). -/
def obsFlyTimeout : Nat × Int := (0x300408, 100)

/-- obs.awl.i_peak (0x3005.01, R227). -/
def obsAwlIPeak : Nat × Int := (0x300501, 100)

/-- obs.awl.t_rest (0x3005.02, R227). -/
def obsAwlTRest : Nat × Int := (0x300502, 500)

/-- obs.awl.aniso_min (0x3005.03, R227). -/
def obsAwlAnisoMin : Nat × Int := (0x300503, 20)

/-- obs.awl.pol_min (0x3005.04, R227). -/
def obsAwlPolMin : Nat × Int := (0x300504, 30)

/-- obs.awl.retry (0x3005.05, R227). -/
def obsAwlRetry : Nat × Int := (0x300505, 2)

/-- obs.awl.move (0x3005.06, R227). -/
def obsAwlMove : Nat × Int := (0x300506, 2)

/-- obs.comm.mode (0x3006.01, R227). -/
def obsCommMode : Nat × Int := (0x300601, 0)

/-- obs.blk.adv (0x3006.02, R227). -/
def obsBlkAdv : Nat × Int := (0x300602, 0)

/-- obs.blk.blank (0x3006.03, R227). -/
def obsBlkBlank : Nat × Int := (0x300603, 1820)

/-- obs.blk.w_min (0x3006.04, R227). -/
def obsBlkWMin : Nat × Int := (0x300604, 100)

/-- obs.blk.miss_max (0x3006.05, R227). -/
def obsBlkMissMax : Nat × Int := (0x300605, 3)

/-- obs.six.w_on (0x3006.06, R227). -/
def obsSixWOn : Nat × Int := (0x300606, 2400)

/-- obs.six.w_off (0x3006.07, R227). -/
def obsSixWOff : Nat × Int := (0x300607, 2200)

/-- obs.if.enable (0x3007.01, R227). -/
def obsIfEnable : Nat × Int := (0x300701, 0)

/-- obs.if.i_ref (0x3007.02, R227). -/
def obsIfIRef : Nat × Int := (0x300702, 0)

/-- loop.mode (0x3800.01, R271). -/
def loopMode : Nat × Int := (0x380001, 1)

/-- loop.spd.div (0x3800.02, R271). -/
def loopSpdDiv : Nat × Int := (0x380002, 4)

/-- loop.pos.div (0x3800.03, R271). -/
def loopPosDiv : Nat × Int := (0x380003, 8)

/-- loop.i.max (0x3801.01, R271). -/
def loopIMax : Nat × Int := (0x380101, 0)

/-- loop.v.mi_max (0x3801.02, R271). -/
def loopVMiMax : Nat × Int := (0x380102, 1000)

/-- loop.i.decouple (0x3801.03, R271). -/
def loopIDecouple : Nat × Int := (0x380103, 1)

/-- loop.i.adv_trim (0x3801.04, R271). -/
def loopIAdvTrim : Nat × Int := (0x380104, 0)

/-- loop.i.dev_lim (0x3801.05, R271). -/
def loopIDevLim : Nat × Int := (0x380105, 200)

/-- loop.i.dev_n (0x3801.06, R271). -/
def loopIDevN : Nat × Int := (0x380106, 16)

/-- loop.v.sat_time (0x3801.07, R271). -/
def loopVSatTime : Nat × Int := (0x380107, 500)

/-- loop.i.dist_max (0x3801.08, R271). -/
def loopIDistMax : Nat × Int := (0x380108, 4)

/-- Gain table loop.iq.kp_tab (0x3810, R241): index of its subindexes. -/
def loopIqKpTab : Nat := 0x3810

/-- Gain table loop.iq.ki_tab (0x3811, R241): index of its subindexes. -/
def loopIqKiTab : Nat := 0x3811

/-- Gain table loop.id.kp_tab (0x3812, R241): index of its subindexes. -/
def loopIdKpTab : Nat := 0x3812

/-- Gain table loop.id.ki_tab (0x3813, R241): index of its subindexes. -/
def loopIdKiTab : Nat := 0x3813

/-- Gain table loop.mtpa.id_tab (0x3818, R241): index of its subindexes. -/
def loopMtpaIdTab : Nat := 0x3818

/-- loop.fw.kp_raw (0x3820.01, R271). -/
def loopFwKpRaw : Nat × Int := (0x382001, 0)

/-- loop.fw.kp_s (0x3820.02, R271). -/
def loopFwKpS : Nat × Int := (0x382002, 0)

/-- loop.fw.ki_raw (0x3820.03, R271). -/
def loopFwKiRaw : Nat × Int := (0x382003, 0)

/-- loop.fw.ki_s (0x3820.04, R271). -/
def loopFwKiS : Nat × Int := (0x382004, 0)

/-- loop.fw.margin (0x3820.05, R271). -/
def loopFwMargin : Nat × Int := (0x382005, 950)

/-- loop.fw.id_max (0x3820.06, R271). -/
def loopFwIdMax : Nat × Int := (0x382006, 0)

/-- Gain table loop.spd.kp_tab (0x3830, R241): index of its subindexes. -/
def loopSpdKpTab : Nat := 0x3830

/-- Gain table loop.spd.ki_tab (0x3831, R241): index of its subindexes. -/
def loopSpdKiTab : Nat := 0x3831

/-- loop.spd.j_raw (0x3832.01, R271). -/
def loopSpdJRaw : Nat × Int := (0x383201, 0)

/-- loop.spd.j_s (0x3832.02, R271). -/
def loopSpdJS : Nat × Int := (0x383202, 0)

/-- loop.spd.max (0x3832.03, R271). -/
def loopSpdMax : Nat × Int := (0x383203, 3000)

/-- loop.spd.trip (0x3832.04, R271). -/
def loopSpdTrip : Nat × Int := (0x383204, 3300)

/-- loop.spd.dev_lim (0x3832.05, R271). -/
def loopSpdDevLim : Nat × Int := (0x383205, 300)

/-- loop.spd.dev_time (0x3832.06, R271). -/
def loopSpdDevTime : Nat × Int := (0x383206, 1000)

/-- loop.t.max_mot (0x3833.01, R271). -/
def loopTMaxMot : Nat × Int := (0x383301, 0)

/-- loop.t.max_gen (0x3833.02, R271). -/
def loopTMaxGen : Nat × Int := (0x383302, 0)

/-- loop.t.slew (0x3833.03, R271). -/
def loopTSlew : Nat × Int := (0x383303, 1000)

/-- loop.vdc.regen_start (0x3834.01, R271). -/
def loopVdcRegenStart : Nat × Int := (0x383401, 1120)

/-- loop.vdc.regen_end (0x3834.02, R271). -/
def loopVdcRegenEnd : Nat × Int := (0x383402, 1145)

/-- Gain table loop.pos.kp_tab (0x3840, R241): index of its subindexes. -/
def loopPosKpTab : Nat := 0x3840

/-- loop.pos.ferr_lim (0x3841.01, R271). -/
def loopPosFerrLim : Nat × Int := (0x384101, 8192)

/-- loop.pos.ferr_time (0x3841.02, R271). -/
def loopPosFerrTime : Nat × Int := (0x384102, 50)

/-- loop.dcd.enable (0x3848.01, R271). -/
def loopDcdEnable : Nat × Int := (0x384801, 0)

/-- loop.dcd.k (0x3848.02, R271). -/
def loopDcdK : Nat × Int := (0x384802, 0)

/-- loop.dcd.fc (0x3848.03, R271). -/
def loopDcdFc : Nat × Int := (0x384803, 20)

/-- loop.dcd.t_max (0x3848.04, R271). -/
def loopDcdTMax : Nat × Int := (0x384804, 0)

/-- loop.dcd.w_min (0x3848.05, R271). -/
def loopDcdWMin : Nat × Int := (0x384805, 300)

/-- loop.tab.commit (0x3860.01, R271). -/
def loopTabCommit : Nat × Int := (0x386001, 0)

/-- prof.vel_max (0x4000.01, R319). -/
def profVelMax : Nat × Int := (0x400001, 0)

/-- prof.acc (0x4000.02, R319). -/
def profAcc : Nat × Int := (0x400002, 0)

/-- prof.dec (0x4000.03, R319). -/
def profDec : Nat × Int := (0x400003, 0)

/-- prof.jerk (0x4000.04, R319). -/
def profJerk : Nat × Int := (0x400004, 0)

/-- prof.win (0x4000.05, R319). -/
def profWin : Nat × Int := (0x400005, 4)

/-- prof.win_time (0x4000.06, R319). -/
def profWinTime : Nat × Int := (0x400006, 10)

/-- prof.lim.enable (0x4001.01, R319). -/
def profLimEnable : Nat × Int := (0x400101, 0)

/-- prof.lim.pos_max (0x4001.02, R319). -/
def profLimPosMax : Nat × Int := (0x400102, 140737488355327)

/-- prof.lim.pos_min (0x4001.03, R319). -/
def profLimPosMin : Nat × Int := (0x400103, -140737488355328)

/-- prof.lim.dec (0x4001.04, R319). -/
def profLimDec : Nat × Int := (0x400104, 2147483647)

/-- prof.lim.jerk (0x4001.05, R319). -/
def profLimJerk : Nat × Int := (0x400105, 2147483647)

/-- prof.lim.overrun (0x4001.06, R319). -/
def profLimOverrun : Nat × Int := (0x400106, 8192)

/-- prof.stand.mode (0x4002.01, R319). -/
def profStandMode : Nat × Int := (0x400201, 0)

/-- prof.stand.speed (0x4002.02, R319). -/
def profStandSpeed : Nat × Int := (0x400202, 80)

/-- prof.stand.time (0x4002.03, R319). -/
def profStandTime : Nat × Int := (0x400203, 200)

/-- prof.sw.enable (0x4003.01, R319). -/
def profSwEnable : Nat × Int := (0x400301, 0)

/-- prof.sw.polarity (0x4003.02, R319). -/
def profSwPolarity : Nat × Int := (0x400302, 0)

/-- prof.sw.debounce (0x4003.03, R319). -/
def profSwDebounce : Nat × Int := (0x400303, 20)

/-- prof.sw.chatter_n (0x4003.04, R319). -/
def profSwChatterN : Nat × Int := (0x400304, 8)

/-- prof.sw.chatter_win (0x4003.05, R319). -/
def profSwChatterWin : Nat × Int := (0x400305, 1000)

/-- prof.sw.dec (0x4003.06, R319). -/
def profSwDec : Nat × Int := (0x400306, 2147483647)

/-- prof.home.method (0x4008.01, R319). -/
def profHomeMethod : Nat × Int := (0x400801, 7)

/-- prof.home.v_fast (0x4008.02, R319). -/
def profHomeVFast : Nat × Int := (0x400802, 8192)

/-- prof.home.v_slow (0x4008.03, R319). -/
def profHomeVSlow : Nat × Int := (0x400803, 819)

/-- prof.home.acc (0x4008.04, R319). -/
def profHomeAcc : Nat × Int := (0x400804, 8192)

/-- prof.home.offset (0x4008.05, R319). -/
def profHomeOffset : Nat × Int := (0x400805, 0)

/-- prof.home.idx_win (0x4008.06, R319). -/
def profHomeIdxWin : Nat × Int := (0x400806, 10240)

/-- prof.home.timeout (0x4008.07, R319). -/
def profHomeTimeout : Nat × Int := (0x400807, 600)

/-- prof.home.use_idx (0x4008.08, R319). -/
def profHomeUseIdx : Nat × Int := (0x400808, 1)

/-- prof.home.shift (0x4008.09, R319). -/
def profHomeShift : Nat × Int := (0x400809, 0)

/-- prof.seg.count (0x4010.01, R319). -/
def profSegCount : Nat × Int := (0x401001, 0)

/-- prof.seg.mode (0x4010.02, R319). -/
def profSegMode : Nat × Int := (0x401002, 0)

/-- prof.seg.start_tol (0x4010.03, R319). -/
def profSegStartTol : Nat × Int := (0x401003, 16)

/-- mod.fsw (0x4800.01, R354). -/
def modFsw : Nat × Int := (0x480001, 10000)

/-- mod.method (0x4800.02, R354). -/
def modMethod : Nat × Int := (0x480002, 0)

/-- mod.dpwm.mi_on (0x4800.03, R354). -/
def modDpwmMiOn : Nat × Int := (0x480003, 900)

/-- mod.dpwm.mi_off (0x4800.04, R354). -/
def modDpwmMiOff : Nat × Int := (0x480004, 850)

/-- mod.dt (0x4801.01, R354). -/
def modDt : Nat × Int := (0x480101, 4000)

/-- mod.min_pulse (0x4801.02, R354). -/
def modMinPulse : Nat × Int := (0x480102, 1600)

/-- mod.dtc.enable (0x4801.03, R354). -/
def modDtcEnable : Nat × Int := (0x480103, 1)

/-- mod.dtc.band (0x4801.04, R354). -/
def modDtcBand : Nat × Int := (0x480104, 10)

/-- mod.asc.delay (0x4801.05, R354). -/
def modAscDelay : Nat × Int := (0x480105, 5120)

/-- mod.bs.refresh_min (0x4802.01, R354). -/
def modBsRefreshMin : Nat × Int := (0x480201, 16000)

/-- mod.bs.refresh_n (0x4802.02, R354). -/
def modBsRefreshN : Nat × Int := (0x480202, 8)

/-- mod.bs.charge_on (0x4802.03, R354). -/
def modBsChargeOn : Nat × Int := (0x480203, 10000)

/-- mod.bs.charge_period (0x4802.04, R354). -/
def modBsChargePeriod : Nat × Int := (0x480204, 100)

/-- mod.leg.policy (0x4803.01, R354). -/
def modLegPolicy : Nat × Int := (0x480301, 0)

/-- mod.leg.ramp (0x4803.02, R354). -/
def modLegRamp : Nat × Int := (0x480302, 200)

/-- mod.blk.chop (0x4804.01, R354). -/
def modBlkChop : Nat × Int := (0x480401, 0)

/-- gd.par.count (0x4C00.01–06, R396), subindex sub. -/
def gdParCount (sub : Nat) : Nat × Int := (0x4C0000 + sub, 1)

/-- gd.out.mask (0x4C01.01–06, R396), subindex sub. -/
def gdOutMask (sub : Nat) : Nat × Int := (0x4C0100 + sub, 15)

/-- gd.out.booster (0x4C02.01–06, R396), subindex sub. -/
def gdOutBooster (sub : Nat) : Nat × Int := (0x4C0200 + sub, 0)

/-- gd.clamp.enable (0x4C03.01–06, R396), subindex sub. -/
def gdClampEnable (sub : Nat) : Nat × Int := (0x4C0300 + sub, 1)

/-- gd.band.edge (0x4C04–0x4C0A), element k, subindex sub. -/
def gdBandEdge (k sub : Nat) : Nat × Int := ((0x4C04 + (k - 1)) * 256 + sub, [25, 50, 100, 150, 200, 300, 400].getD (k - 1) 0)

/-- gd.band.hyst (0x4C0B.01–06, R396), subindex sub. -/
def gdBandHyst (sub : Nat) : Nat × Int := (0x4C0B00 + sub, 10)

/-- gd.prof.on (0x4C10–0x4C17), element k, subindex sub. -/
def gdProfOn (k sub : Nat) : Nat × Int := ((0x4C10 + (k - 0)) * 256 + sub, 0)

/-- gd.prof.off (0x4C18–0x4C1F), element k, subindex sub. -/
def gdProfOff (k sub : Nat) : Nat × Int := ((0x4C18 + (k - 0)) * 256 + sub, 0)

/-- gd.soft.level (0x4C20.01–06, R396), subindex sub. -/
def gdSoftLevel (sub : Nat) : Nat × Int := (0x4C2000 + sub, 2)

/-- gd.soft.time (0x4C21.01–06, R396), subindex sub. -/
def gdSoftTime (sub : Nat) : Nat × Int := (0x4C2100 + sub, 1000)

/-- gd.didt.lsk (0x4C30.01–06, R396), subindex sub. -/
def gdDidtLsk (sub : Nat) : Nat × Int := (0x4C3000 + sub, 1000)

/-- gd.didt.thr (0x4C31.01–06, R396), subindex sub. -/
def gdDidtThr (sub : Nat) : Nat × Int := (0x4C3100 + sub, 0)

/-- gd.didt.blank_factor (0x4C32.01–06, R396), subindex sub. -/
def gdDidtBlankFactor (sub : Nat) : Nat × Int := (0x4C3200 + sub, 150)

/-- gd.didt.qual (0x4C33.01–06, R396), subindex sub. -/
def gdDidtQual (sub : Nat) : Nat × Int := (0x4C3300 + sub, 5)

/-- gd.desat.vth (0x4C38.01–06, R396), subindex sub. -/
def gdDesatVth (sub : Nat) : Nat × Int := (0x4C3800 + sub, 8000)

/-- gd.desat.blank (0x4C39.01–06, R396), subindex sub. -/
def gdDesatBlank (sub : Nat) : Nat × Int := (0x4C3900 + sub, 1000)

/-- gd.desat.filt (0x4C3A.01–06, R396), subindex sub. -/
def gdDesatFilt (sub : Nat) : Nat × Int := (0x4C3A00 + sub, 100)

/-- gd.gchk.margin (0x4C3B.01–06, R396), subindex sub. -/
def gdGchkMargin (sub : Nat) : Nat × Int := (0x4C3B00 + sub, 3000)

/-- gd.ntc.r25 (0x4C40.01–06, R396), subindex sub. -/
def gdNtcR25 (sub : Nat) : Nat × Int := (0x4C4000 + sub, 5000)

/-- gd.ntc.beta (0x4C41.01–06, R396), subindex sub. -/
def gdNtcBeta (sub : Nat) : Nat × Int := (0x4C4100 + sub, 3375)

/-- gd.ntc.warn (0x4C42.01–06, R396), subindex sub. -/
def gdNtcWarn (sub : Nat) : Nat × Int := (0x4C4200 + sub, 125)

/-- gd.ntc.trip (0x4C43.01–06, R396), subindex sub. -/
def gdNtcTrip (sub : Nat) : Nat × Int := (0x4C4300 + sub, 140)

/-- gd.diag.mode (0x4C50.01–06, R396), subindex sub. -/
def gdDiagMode (sub : Nat) : Nat × Int := (0x4C5000 + sub, 1)

/-- gd.diag.dv (0x4C51.01–06, R396), subindex sub. -/
def gdDiagDv (sub : Nat) : Nat × Int := (0x4C5100 + sub, 2000)

/-- gd.diag.tr_min (0x4C52.01–06, R396), subindex sub. -/
def gdDiagTrMin (sub : Nat) : Nat × Int := (0x4C5200 + sub, 1000)

/-- gd.diag.tr_max (0x4C53.01–06, R396), subindex sub. -/
def gdDiagTrMax (sub : Nat) : Nat × Int := (0x4C5300 + sub, 1000000)

/-- sm.tq.abs_lim (0x5000.01, R433). -/
def smTqAbsLim : Nat × Int := (0x500001, 0)

/-- sm.tq.rel_lim (0x5000.02, R433). -/
def smTqRelLim : Nat × Int := (0x500002, 50)

/-- sm.tq.n (0x5000.03, R433). -/
def smTqN : Nat × Int := (0x500003, 16)

/-- sm.tq.tau (0x5000.04, R433). -/
def smTqTau : Nat × Int := (0x500004, 250)

/-- sm.tq.def_time (0x5000.05, R433). -/
def smTqDefTime : Nat × Int := (0x500005, 200)

/-- sm.tq.i_lim (0x5000.06, R433). -/
def smTqILim : Nat × Int := (0x500006, 100)

/-- sm.xover.hyst (0x5001.01, R433). -/
def smXoverHyst : Nat × Int := (0x500101, 5)

/-- sm.deg.policy (0x5002.01, R433). -/
def smDegPolicy : Nat × Int := (0x500201, 0)

/-- sm.deg.grace (0x5002.02, R433). -/
def smDegGrace : Nat × Int := (0x500202, 600)

/-- sm.resync.window (0x5002.03, R433). -/
def smResyncWindow : Nat × Int := (0x500203, 100)

/-- safety.state (0x5400.01, R484). -/
def safetyState : Nat × Int := (0x540001, 3)

/-- safety.asc.side (0x5400.02, R484). -/
def safetyAscSide : Nat × Int := (0x540002, 0)

/-- safety.sds.pi_speed (0x5400.03, R484). -/
def safetySdsPiSpeed : Nat × Int := (0x540003, 30)

/-- safety.sto.filter (0x5401.01, R484). -/
def safetyStoFilter : Nat × Int := (0x540101, 10)

/-- safety.sto.disc_time (0x5401.02, R484). -/
def safetyStoDiscTime : Nat × Int := (0x540102, 10)

/-- safety.ss1.dec (0x5402.01, R484). -/
def safetySs1Dec : Nat × Int := (0x540201, 1000)

/-- safety.ss1.margin (0x5402.02, R484). -/
def safetySs1Margin : Nat × Int := (0x540202, 100)

/-- safety.ss1.time (0x5402.03, R484). -/
def safetySs1Time : Nat × Int := (0x540203, 10000)

/-- safety.ss1.zero (0x5402.04, R484). -/
def safetySs1Zero : Nat × Int := (0x540204, 10)

/-- safety.sms.limit (0x5403.01, R484). -/
def safetySmsLimit : Nat × Int := (0x540301, 3300)

/-- safety.sls.limit (0x5403.02, R484). -/
def safetySlsLimit : Nat × Int := (0x540302, 300)

/-- safety.sls.time (0x5403.03, R484). -/
def safetySlsTime : Nat × Int := (0x540303, 2000)

/-- safety.brk.enable (0x5404.01, R484). -/
def safetyBrkEnable : Nat × Int := (0x540401, 0)

/-- safety.brk.with_sto (0x5404.02, R484). -/
def safetyBrkWithSto : Nat × Int := (0x540402, 1)

/-- safety.brk.on_heel (0x5404.03, R484). -/
def safetyBrkOnHeel : Nat × Int := (0x540403, 1)

/-- safety.brk.release_delay (0x5404.04, R484). -/
def safetyBrkReleaseDelay : Nat × Int := (0x540404, 100)

/-- safety.brk.apply_time (0x5404.05, R484). -/
def safetyBrkApplyTime : Nat × Int := (0x540405, 200)

/-- safety.brk.test_pulse (0x5404.06, R484). -/
def safetyBrkTestPulse : Nat × Int := (0x540406, 300)

/-- safety.brk.test_period (0x5404.07, R484). -/
def safetyBrkTestPeriod : Nat × Int := (0x540407, 60)

/-- safety.cont.on_safe (0x5405.01, R484). -/
def safetyContOnSafe : Nat × Int := (0x540501, 0)

/-- safety.cont.fc_loss_hold (0x5405.02, R484). -/
def safetyContFcLossHold : Nat × Int := (0x540502, 10)

/-- safety.src.mode (0x5405.03, R484). -/
def safetySrcMode : Nat × Int := (0x540503, 0)

/-- safety.src.scale (0x5405.04, R484). -/
def safetySrcScale : Nat × Int := (0x540504, 1000)

/-- safety.pre.time (0x5406.01, R484). -/
def safetyPreTime : Nat × Int := (0x540601, 2000)

/-- safety.pre.ratio (0x5406.02, R484). -/
def safetyPreRatio : Nat × Int := (0x540602, 95)

/-- safety.pre.cool (0x5406.03, R484). -/
def safetyPreCool : Nat × Int := (0x540603, 60)

/-- safety.dis.r (0x5407.01, R484). -/
def safetyDisR : Nat × Int := (0x540701, 0)

/-- safety.dis.c (0x5407.02, R484). -/
def safetyDisC : Nat × Int := (0x540702, 1)

/-- safety.dis.id (0x5407.03, R484). -/
def safetyDisId : Nat × Int := (0x540703, 0)

/-- safety.dis.on_safe (0x5407.04, R484). -/
def safetyDisOnSafe : Nat × Int := (0x540704, 0)

/-- safety.cmsg.enable (0x5410.01, R484). -/
def safetyCmsgEnable : Nat × Int := (0x541001, 0)

/-- safety.cmsg.rx_id (0x5410.02, R484). -/
def safetyCmsgRxId : Nat × Int := (0x541002, 1)

/-- safety.cmsg.tx_id (0x5410.03, R484). -/
def safetyCmsgTxId : Nat × Int := (0x541003, 2)

/-- safety.cmsg.deadline (0x5410.04, R484). -/
def safetyCmsgDeadline : Nat × Int := (0x541004, 50)

/-- safety.cmsg.age_max (0x5410.05, R484). -/
def safetyCmsgAgeMax : Nat × Int := (0x541005, 20)

/-- safety.cmsg.skew (0x5410.06, R484). -/
def safetyCmsgSkew : Nat × Int := (0x541006, 1000)

/-- safety.cmsg.tx_period (0x5410.07, R484). -/
def safetyCmsgTxPeriod : Nat × Int := (0x541007, 10)

/-- safety.last.tag (0x5420.01, R484). -/
def safetyLastTag : Nat × Int := (0x542001, 0)

/-- safety.last.pending (0x5420.02, R484). -/
def safetyLastPending : Nat × Int := (0x542002, 0)

/-- safety.last.confirm (0x5420.03, R484). -/
def safetyLastConfirm : Nat × Int := (0x542003, 0)

/-- port.max_mhz (0x1400.01, R530). -/
def portMaxMhz : Nat × Int := (0x140001, 100)

/-- port.read_wait (0x1400.02, R530). -/
def portReadWait : Nat × Int := (0x140002, 10000)

/-- port.irq.coal_n (0x1401.01, R530). -/
def portIrqCoalN : Nat × Int := (0x140101, 1)

/-- port.irq.coal_us (0x1401.02, R530). -/
def portIrqCoalUs : Nat × Int := (0x140102, 0)

/-- mbx.stat.completed (0x1402.01, R530). -/
def mbxStatCompleted : Nat × Int := (0x140201, 0)

/-- mbx.stat.violations (0x1402.02, R530). -/
def mbxStatViolations : Nat × Int := (0x140202, 0)

/-- sys.dict.count (0x1003.01, R558). -/
def sysDictCount : Nat × Int := (0x100301, 0)

/-- sys.store.seq (0x1004.01, R558). -/
def sysStoreSeq : Nat × Int := (0x100401, 0)

/-- can.ch.auto_on (0x5800.01–02, R599), subindex sub. -/
def canChAutoOn (sub : Nat) : Nat × Int := (0x580000 + sub, 0)

/-- can.ch.mode (0x5801.01–02, R599), subindex sub. -/
def canChMode (sub : Nat) : Nat × Int := (0x580100 + sub, 0)

/-- can.on.timeout (0x5802.01–02, R599), subindex sub. -/
def canOnTimeout (sub : Nat) : Nat × Int := (0x580200 + sub, 1000)

/-- can.nom.brp (0x5804.01–02, R599), subindex sub. -/
def canNomBrp (sub : Nat) : Nat × Int := (0x580400 + sub, 1)

/-- can.nom.tseg1 (0x5805.01–02, R599), subindex sub. -/
def canNomTseg1 (sub : Nat) : Nat × Int := (0x580500 + sub, 127)

/-- can.nom.tseg2 (0x5806.01–02, R599), subindex sub. -/
def canNomTseg2 (sub : Nat) : Nat × Int := (0x580600 + sub, 32)

/-- can.nom.sjw (0x5807.01–02, R599), subindex sub. -/
def canNomSjw (sub : Nat) : Nat × Int := (0x580700 + sub, 32)

/-- can.nom.triple (0x5808.01–02, R599), subindex sub. -/
def canNomTriple (sub : Nat) : Nat × Int := (0x580800 + sub, 0)

/-- can.nom.sp (0x5809.01–02, R599), subindex sub. -/
def canNomSp (sub : Nat) : Nat × Int := (0x580900 + sub, 800)

/-- can.fd.brp (0x5810.01–02, R599), subindex sub. -/
def canFdBrp (sub : Nat) : Nat × Int := (0x581000 + sub, 1)

/-- can.fd.tseg1 (0x5811.01–02, R599), subindex sub. -/
def canFdTseg1 (sub : Nat) : Nat × Int := (0x581100 + sub, 29)

/-- can.fd.tseg2 (0x5812.01–02, R599), subindex sub. -/
def canFdTseg2 (sub : Nat) : Nat × Int := (0x581200 + sub, 10)

/-- can.fd.sjw (0x5813.01–02, R599), subindex sub. -/
def canFdSjw (sub : Nat) : Nat × Int := (0x581300 + sub, 10)

/-- can.fd.tdc (0x5814.01–02, R599), subindex sub. -/
def canFdTdc (sub : Nat) : Nat × Int := (0x581400 + sub, 1)

/-- can.fd.ssp_off (0x5815.01–02, R599), subindex sub. -/
def canFdSspOff (sub : Nat) : Nat × Int := (0x581500 + sub, 30)

/-- can.xl.brp (0x5818.01–02, R599), subindex sub. -/
def canXlBrp (sub : Nat) : Nat × Int := (0x581800 + sub, 1)

/-- can.xl.tseg1 (0x5819.01–02, R599), subindex sub. -/
def canXlTseg1 (sub : Nat) : Nat × Int := (0x581900 + sub, 5)

/-- can.xl.tseg2 (0x581A.01–02, R599), subindex sub. -/
def canXlTseg2 (sub : Nat) : Nat × Int := (0x581A00 + sub, 2)

/-- can.xl.sjw (0x581B.01–02, R599), subindex sub. -/
def canXlSjw (sub : Nat) : Nat × Int := (0x581B00 + sub, 2)

/-- can.xl.tdc (0x581C.01–02, R599), subindex sub. -/
def canXlTdc (sub : Nat) : Nat × Int := (0x581C00 + sub, 1)

/-- can.xl.ssp_off (0x581D.01–02, R599), subindex sub. -/
def canXlSspOff (sub : Nat) : Nat × Int := (0x581D00 + sub, 6)

/-- can.xl.errsig (0x581E.01–02, R599), subindex sub. -/
def canXlErrsig (sub : Nat) : Nat × Int := (0x581E00 + sub, 1)

/-- can.xl.tms (0x581F.01–02, R599), subindex sub. -/
def canXlTms (sub : Nat) : Nat × Int := (0x581F00 + sub, 0)

/-- can.xl.pwms (0x5820.01–02, R599), subindex sub. -/
def canXlPwms (sub : Nat) : Nat × Int := (0x582000 + sub, 2)

/-- can.xl.pwml (0x5821.01–02, R599), subindex sub. -/
def canXlPwml (sub : Nat) : Nat × Int := (0x582100 + sub, 6)

/-- can.xl.pwmo (0x5822.01–02, R599), subindex sub. -/
def canXlPwmo (sub : Nat) : Nat × Int := (0x582200 + sub, 1)

/-- can.tx.noack_n (0x5828.01–02, R599), subindex sub. -/
def canTxNoackN (sub : Nat) : Nat × Int := (0x582800 + sub, 64)

/-- can.tx.deadline (0x5829.01–02, R599), subindex sub. -/
def canTxDeadline (sub : Nat) : Nat × Int := (0x582900 + sub, 0)

/-- can.filt.count (0x582A.01–02, R599), subindex sub. -/
def canFiltCount (sub : Nat) : Nat × Int := (0x582A00 + sub, 0)

/-- can.filt.default (0x582B.01–02, R599), subindex sub. -/
def canFiltDefault (sub : Nat) : Nat × Int := (0x582B00 + sub, 1)

/-- can.det.window (0x582C.01, R599). -/
def canDetWindow : Nat × Int := (0x582C01, 500)

/-- can.det.passes (0x582C.02, R599). -/
def canDetPasses : Nat × Int := (0x582C02, 2)

/-- can.safe.rx_ident (0x5830.01, R599). -/
def canSafeRxIdent : Nat × Int := (0x583001, 256)

/-- can.safe.tx_ident (0x5830.02, R599). -/
def canSafeTxIdent : Nat × Int := (0x583002, 257)

/-- can.tt.role (0x5838.01, R599). -/
def canTtRole : Nat × Int := (0x583801, 0)

/-- can.tt.channel (0x5838.02, R599). -/
def canTtChannel : Nat × Int := (0x583802, 1)

/-- can.tt.ref_id (0x5838.03, R599). -/
def canTtRefId : Nat × Int := (0x583803, 16)

/-- can.tt.cycle (0x5838.04, R599). -/
def canTtCycle : Nat × Int := (0x583804, 10000)

/-- can.tt.lost_n (0x5838.05, R599). -/
def canTtLostN : Nat × Int := (0x583805, 4)

/-- can.tt.align_lim (0x5838.06, R599). -/
def canTtAlignLim : Nat × Int := (0x583806, 10000)

/-- can.tt.step (0x5838.07, R599). -/
def canTtStep : Nat × Int := (0x583807, 1)

/-- mem.scrub.period (0x5C00.01, R626). -/
def memScrubPeriod : Nat × Int := (0x5C0001, 8)

/-- mem.scrub.enable (0x5C00.02, R626). -/
def memScrubEnable : Nat × Int := (0x5C0002, 1)

/-- mem.record.interval (0x5C01.01, R626). -/
def memRecordInterval : Nat × Int := (0x5C0101, 10)

/-- mem.stat.corrected (0x5C02.01, R626). -/
def memStatCorrected : Nat × Int := (0x5C0201, 0)

/-- mem.stat.uncorrected (0x5C02.02, R626). -/
def memStatUncorrected : Nat × Int := (0x5C0202, 0)

/-- mem.stat.repairs (0x5C02.03, R626). -/
def memStatRepairs : Nat × Int := (0x5C0203, 0)

/-- thm.xchk.tol_jn (0x5E00.01, R655). -/
def thmXchkTolJn : Nat × Int := (0x5E0001, 100)

/-- thm.xchk.tol_ntc (0x5E00.02, R655). -/
def thmXchkTolNtc : Nat × Int := (0x5E0002, 80)

/-- thm.xchk.tol_wind (0x5E00.03, R655). -/
def thmXchkTolWind : Nat × Int := (0x5E0003, 150)

/-- thm.xchk.tol_cool (0x5E00.04, R655). -/
def thmXchkTolCool : Nat × Int := (0x5E0004, 100)

/-- thm.xchk.n (0x5E00.05, R655). -/
def thmXchkN : Nat × Int := (0x5E0005, 3)

/-- thm.xchk.off_max (0x5E00.06, R655). -/
def thmXchkOffMax : Nat × Int := (0x5E0006, 200)

/-- thm.repl.margin (0x5E00.07, R655). -/
def thmReplMargin : Nat × Int := (0x5E0007, 100)

/-- thm.jn.warn_hf (0x5E01.01, R655). -/
def thmJnWarnHf : Nat × Int := (0x5E0101, 140)

/-- thm.jn.stop_hf (0x5E01.02, R655). -/
def thmJnStopHf : Nat × Int := (0x5E0102, 155)

/-- thm.jn.warn_gd (0x5E01.03, R655). -/
def thmJnWarnGd : Nat × Int := (0x5E0103, 160)

/-- thm.jn.stop_gd (0x5E01.04, R655). -/
def thmJnStopGd : Nat × Int := (0x5E0104, 170)

/-- thm.wind.type (0x5E02.01, R655). -/
def thmWindType : Nat × Int := (0x5E0201, 0)

/-- thm.wind.r25 (0x5E02.02, R655). -/
def thmWindR25 : Nat × Int := (0x5E0202, 10000)

/-- thm.wind.beta (0x5E02.03, R655). -/
def thmWindBeta : Nat × Int := (0x5E0203, 3435)

/-- thm.wind.warn (0x5E02.04, R655). -/
def thmWindWarn : Nat × Int := (0x5E0204, 150)

/-- thm.wind.trip (0x5E02.05, R655). -/
def thmWindTrip : Nat × Int := (0x5E0205, 170)

/-- thm.cool.type (0x5E03.01, R655). -/
def thmCoolType : Nat × Int := (0x5E0301, 0)

/-- thm.cool.r25 (0x5E03.02, R655). -/
def thmCoolR25 : Nat × Int := (0x5E0302, 10000)

/-- thm.cool.beta (0x5E03.03, R655). -/
def thmCoolBeta : Nat × Int := (0x5E0303, 3435)

/-- thm.cool.warn (0x5E03.04, R655). -/
def thmCoolWarn : Nat × Int := (0x5E0304, 65)

/-- thm.cool.trip (0x5E03.05, R655). -/
def thmCoolTrip : Nat × Int := (0x5E0305, 75)

/-- bist.stat.result (0x5F00.01, R655). -/
def bistStatResult : Nat × Int := (0x5F0001, 0)

/-- bist.stat.kind (0x5F00.02, R655). -/
def bistStatKind : Nat × Int := (0x5F0002, 0)

/-- bist.stat.duration (0x5F00.03, R655). -/
def bistStatDuration : Nat × Int := (0x5F0003, 0)

/-- bist.stat.coverage (0x5F00.04, R655). -/
def bistStatCoverage : Nat × Int := (0x5F0004, 0)

/-- bist.stat.boot (0x5F00.05, R655). -/
def bistStatBoot : Nat × Int := (0x5F0005, 0)

/-- bist.mem.period (0x5F01.01, R655). -/
def bistMemPeriod : Nat × Int := (0x5F0101, 0)

/-- evt.persist.class (0x6000.01, R672). -/
def evtPersistClass : Nat × Int := (0x600001, 1)

/-- evt.stat.v_fill (0x6001.01, R672). -/
def evtStatVFill : Nat × Int := (0x600101, 0)

/-- evt.stat.p_fill (0x6001.02, R672). -/
def evtStatPFill : Nat × Int := (0x600102, 0)

/-- evt.stat.v_overflow (0x6001.03, R672). -/
def evtStatVOverflow : Nat × Int := (0x600103, 0)

/-- evt.stat.p_overflow (0x6001.04, R672). -/
def evtStatPOverflow : Nat × Int := (0x600104, 0)

/-- evt.stat.fc_lost (0x6001.05, R672). -/
def evtStatFcLost : Nat × Int := (0x600105, 0)

end Sys2Proof.P
end

