-- ==== Sys2Proof/Machine/State.lean ====
section
/-! DEFINITION. The state of the GKT8-1250 as plain data, one structure per subsystem, and the state right after
reset. INVENTORY.md lists every field with its rule and its reset value. -/

namespace Sys2Proof.Machine
open Sys2Proof

/-- The model takes no fault of its own: every fault of the hardware is a next state. Nobody raises this constructor. -/
inductive Fault where
  /-- Raised by nobody (safe): kept so that the type is inhabited. -/
  | none
  deriving DecidableEq, Repr

inductive Refusal where
  /-- Raised by a refused arm of Dispatch: an instruction without a meaning yet (safe). -/
  | notModelled (mnemonic : String)
  deriving DecidableEq, Repr

/-- A binary64 value m × 2^e (R276), m = 0 or 2^52 ≤ |m| < 2^53. -/
structure F64 where
  m : Int
  e : Int
  deriving DecidableEq, Repr

/-! ## Package -/

/-- Operating states (R53). -/
inductive OpState where
  | boot | standby | precharge | ready | run | stopping | safeHold | discharge | shutdown
  deriving DecidableEq, Repr

/-- A PT copy as FC measures it (R47, R48). -/
structure PtCopy where
  offset : Int            -- ps, measured at the last exchange
  rate : Int              -- ppm correction
  disciplined : Bool
  outSince : Option Nat   -- PT since which the offset has been outside ±300 ps
  warned : Bool
  deriving DecidableEq, Repr

structure PtState where
  ns : Nat                          -- ns counted; the timers of the dies run on it
  off : Int                         -- PT minus ns: the forward steps of PT (R72, R593)
  hbHi : Nat
  hb : PtCopy
  gd : Six PtCopy
  masterPpm : Int
  hbEpoch : Nat                     -- ns at HB's own reset (R658)
  fcEpoch : Nat                     -- ns at FC's power-on reset (R46, R72)
  stepDue : Bool                    -- FC takes HB's copy as a forward step at link training (R72)
  gdEpoch : Six Nat
  deriving DecidableEq, Repr

structure OpBlock where
  state : OpState
  prev : OpState
  maxClass : Nat          -- 0 none, 1 F0 ... 5 F4 (R57)
  faultHold : Bool
  commissioning : Bool
  degraded : Bool
  stoActive : Bool
  holdFrom : OpState      -- the state SAFE_HOLD was entered from (R458)
  f2Stop : Bool           -- the stop in progress is an F2 stop (R61)
  ackBarred : Bool        -- R415
  speedDependent : Bool   -- the ASC in force was chosen by the speed-dependent safe state (R438)
  runClass : Nat          -- class of the reaction that runs: 0 none, 3 F2, 4 F3, 5 F4 (R59)
  deriving DecidableEq, Repr

/-! ## Identity, boot and reset (02) -/

structure IdBlock where
  serial : Nat
  running : Nat
  staged : Nat
  deriving DecidableEq, Repr

/-- The resets ordered by HB_RESET_CTRL (R76). -/
inductive ResetKind where
  | plain | bist | recovery
  deriving DecidableEq, Repr

/-- A soft repair (R621, R647): controller, macro, and row, or bit of a spare column. -/
structure Repair where
  ctl : Nat
  macro_ : Nat
  item : Nat
  col : Bool
  deriving DecidableEq, Repr

/-- A fuse entry; its valid bit is burned last (R97). -/
structure FuseEntry where
  rep : Repair
  valid : Bool
  deriving DecidableEq, Repr

/-- The boot that is due (R71, R73). -/
inductive BootKind where
  | full | package | rejoin | fieldSide
  deriving DecidableEq, Repr

structure RstBlock where
  rejected : Bool
  cause : Nat                       -- HB_RESET_CAUSE, 7 bits (R77)
  nresetLow : Bool
  kind : ResetKind                  -- kind of the reset whose boot is due
  due : Option BootKind
  deriving DecidableEq, Repr

/-- Insole entry (R88). -/
structure InsoleEntry where
  pt : Nat
  step : Nat
  status : Nat
  detail : Nat
  deriving DecidableEq, Repr

structure Journal where
  bootNo : Nat
  entries : List InsoleEntry
  deriving DecidableEq, Repr

structure BootBlock where
  step : Nat
  shutdownDone : Bool
  startBist : Bool
  recovery : Bool
  slot : Bool                       -- running slot: false A, true B
  waitGd : Bool
  waitFc : Bool
  loaded : Bool                     -- step 0x0B done (R86)
  rom : Bool                        -- boot ROM serves the port (R86)
  number : Nat
  insole : List Journal             -- newest first, at most eight
  slots : Two (Option ImageHdr)
  active : Bool
  trial : Option Bool               -- slot recorded for a trial boot
  trialFails : Nat
  onTrial : Bool                    -- the boot in progress is a trial boot
  fused : Nat
  raise : Option Nat                -- SEC_VER to raise at shutdown (R82)
  fuseHold : Bool                   -- FAULT_HOLD kept over resets (R92)
  drain : Bool                      -- shutdown step 0x21 in progress
  drainAt : Nat                     -- its start (R95)
  stage : Option (Nat × Nat)        -- staging open: announced length, bytes received (R556)
  stageVerify : Option ImageHdr     -- FW_STAGE_END runs on this image
  no0A : Bool                       -- step 0x0A is not run again (R91)
  since : Nat                       -- end of the reset, moved on by the time spent waiting (R83)
  waitAt : Nat                      -- since when the boot waits for FC or for a gate driver die (R84)
  done : Bool                       -- boot has ended in STANDBY (R476)
  came : Option OpState             -- state from which a reset led into BOOT, until its record (R703)
  plan : List (List Nat)            -- per link and lane: 2 train at full rate, 1 at half rate, 0 drop (R90)
  atLast : Bool                     -- negotiation starts at the last rate that passed (R90)
  running : Option BootKind         -- the boot in progress
  disCut : Bool                     -- power was lost in DISCHARGE (R471)
  fcRuns : Bool                     -- FC has started its part of the image (R71, R84)
  burn : List (Option Repair)       -- fuse entries of step 0x23 still to burn, the head in progress; none: SEC_VER (R95)
  burnt : Nat                       -- repairs burned in this shutdown
  keyDigest : Nat                   -- key digest fused at manufacture (R79)
  rot : Two Nat                     -- parts of the slots that no longer read as written (R79, R80)
  deriving DecidableEq, Repr

/-! ## Supplies, lockstep, clocks, Jexlink (01, 02) -/

/-- A record held in a retention register over a die's reset (R658). -/
structure Retained where
  code : Nat
  pt : Nat
  params : List Int
  cls : Nat
  deriving DecidableEq, Repr

structure SupplyBlock where
  hbLock : Bool
  fcLock : Bool
  gdLock : Six Bool
  vio33 : Bool
  vfWarn : Bool
  vp : Six Nat                      -- mV (GD_SUPPLY)
  vn : Six Int
  hbRet : Option Retained
  fcRet : List Retained
  deriving DecidableEq, Repr

structure PairState where
  stamps : List Nat                 -- PT of mismatches of the last second (R28)
  restarting : Bool
  point : CyclePoint                -- where the mismatch fell in the cycle (R236)
  seq : Nat                         -- sequence number of the last completed cycle (R235)
  flagRun : Nat                     -- consecutive flagged updates (R25)
  held : Bool
  persistent : Bool
  deriving DecidableEq, Repr

/-- Lane states (R39 to R43). -/
inductive Lane where
  | untrained | full | half | dropped | training (attempt : Nat)
  deriving DecidableEq, Repr

structure LinkState where
  lanes : List Lane
  lost : Bool
  deriving DecidableEq, Repr

/-- A barrier in progress (R52). -/
structure Barrier where
  op : Nat
  missing : List Nat                -- die IDs that have not answered
  deriving DecidableEq, Repr

/-- Lanes, links and barriers: open barriers, oldest first; the missing peers FC last reported to an issuing operation
(R52); and the symbol and check errors of the lanes, as link, lane and time (R39). -/
structure JxBlock where
  hb : LinkState
  gd : Six LinkState
  barriers : List Barrier
  report : Option Barrier
  errs : List (Nat × Nat × Nat)
  deriving DecidableEq, Repr

/-- SNAPSHOT (R51) and the snapshot area (R554). -/
structure SnapBlock where
  pending : Option (Nat × Nat)      -- PT named, tag
  fc : List Word
  gd : Six (List Word)
  deriving DecidableEq, Repr

structure ClkBlock where
  hclkRc : Bool
  fcRc : Bool
  pll : List Nat                    -- dies with a main-PLL fault
  deriving DecidableEq, Repr

/-- What a die, or FC, holds (R35). -/
structure HeelBlock where
  fc : Option HeelOrder             -- package order in force at FC
  hb : Option HeelOrder
  legs : Tri Bool                   -- legs marked faulted at FC
  shoot : Bool
  reports : Six (Option Nat)        -- PT of the last REPORT_SC of each die
  uv : Six Bool                     -- REPORT_UV received (R394)
  behind : Nat                      -- event code behind the order (R703)
  releasing : Option (List Nat)     -- peers that have not answered the release
  out : Six (List HeelOrder)        -- orders FC has broadcast that the die has not yet decoded (R34)
  outHb : List HeelOrder
  deriving DecidableEq, Repr

/-! ## Host port and mailbox (12) -/

/-- The response a frame drives (R496). -/
structure Resp where
  token : Option Nat                -- none: lines stay at high impedance (R498)
  code : Nat
  words : List Word
  crc : Nat                         -- over token, code and data
  deriving DecidableEq, Repr

/-- A field-side access of the port in flight (R497). -/
structure Access where
  write : Bool
  addr : Nat
  count : Nat
  words : List Word
  gd : GdPos
  since : Nat                       -- when the wait of R497 began
  deriving DecidableEq, Repr

structure PortBlock where
  version : Nat
  mhz : Nat
  width : Nat
  mode3 : Bool
  next : Option (Nat × Nat)         -- width, MHz that apply at the next nCS fall (R503)
  lastCode : Nat
  hdrErr : Nat
  stalls : Nat
  sticky : Nat                      -- HB_PORT_STATUS[4:0]
  badRun : Nat
  access : Option Access
  resp : Resp
  lastRec : List (Nat × Nat)        -- PT of the last record per host-port code (R527)
  dropAccess : Bool                 -- the access in flight is to be discarded (R528)
  deriving DecidableEq, Repr

inductive TagSt where
  | free | queued | running | done
  deriving DecidableEq, Repr

/-- What a command ends with: status, DETAIL, response payload. -/
structure Result where
  status : Nat
  detail : Nat
  resp : List Byte
  deriving DecidableEq, Repr

structure TagInfo where
  st : TagSt
  opcode : Nat
  seq : Nat
  ordered : Bool
  noIrq : Bool
  interim : Bool
  len : Nat
  bell : Nat                        -- doorbell number, for the admission order
  admitted : Bool
  at_ : Nat                         -- HCLK time of its admission
  started : Bool
  steps : Nat
  interimPosted : Bool
  reply : Option Result             -- a reply to take up (R520)
  final : Option Nat                -- pointer of its final completion
  deriving DecidableEq, Repr

structure MbxBlock where
  mem : List Host.Cell
  empty : List Bool
  tags : List TagInfo
  bells : List Nat
  bellNo : Nat
  tail : Nat
  head : Nat
  irq : Nat
  irqEn : Nat
  coalCount : Nat
  coalSince : Option Nat
  errCrc : Nat
  errOp : Nat
  errBusy : Nat
  violLost : Nat
  completed : Nat
  violations : Nat
  rr : List Nat                     -- long commands, the one stepped last at the end
  deriving DecidableEq, Repr

/-- The Command Processor pair: its checkpoint and journal (R26), and what the port holds for it (R27). -/
structure CpBlock where
  ckpt : List TagInfo
  journal : List (Nat × TagInfo)
  heldBells : List Nat
  heldHead : List Nat
  deriving DecidableEq, Repr

structure PairsBlock where
  le01 : PairState
  le23 : PairState
  le45 : PairState
  cp : PairState
  deriving DecidableEq, Repr

/-! ## Parameters and stores (13) -/

/-- A copy of a store in MRAM (R544): entries are (key, value). -/
structure StoreCopy where
  seq : Nat
  valid : Bool
  vals : List (Nat × Int)
  deriving DecidableEq, Repr

structure ParBlock where
  work : List (Nat × Int)           -- working values that differ from their defaults
  userA : Option StoreCopy
  userB : Option StoreCopy
  devA : Option StoreCopy
  devB : Option StoreCopy
  storeSeq : Nat
  storing : Option (Nat × List (Nat × Int))   -- STORE in progress: tag, values taken
  deriving DecidableEq, Repr

/-- The Last (11). -/
structure LastBlock where
  sealed : Bool
  code : Nat
  image : List (Nat × Int)
  pending : Nat
  computing : Option Nat            -- tag of LAST_COMPUTE
  deriving DecidableEq, Repr

/-! ## Event recorder (17) -/

structure EventRec where
  code : Nat
  die : Nat
  cls : Nat
  pt : Nat
  noPt : Bool
  late : Bool
  persist : Bool
  params : List Int
  seq : Nat
  deriving DecidableEq, Repr

structure RecBlock where
  vlog : List EventRec              -- oldest first
  plog : List EventRec
  pTail : Option EventRec           -- a valid record that the fill count in MRAM does not count yet (R664)
  vOver : Nat
  pOver : Nat
  vCur : Nat
  pCur : Nat
  logSel : Bool
  seq : Nat
  reserve : Nat
  pq : List EventRec
  fcq : List EventRec
  fcDropped : Nat                   -- dropped since the queue filled
  fcLost : Nat
  pQueueLost : Bool
  fcLostBit : Bool
  pqLost : Nat
  deriving DecidableEq, Repr

/-! ## Safety functions (11) -/

/-- K_NEG, K_PRE, K_POS, numbered as R552 numbers them. -/
structure Kon (α : Type) where
  neg : α
  pre : α
  pos : α
  deriving DecidableEq, Repr

/-- Phases of the precharge sequence (R464, R465). -/
inductive PrePhase where
  | diag | weld | charge | closing | opening
  deriving DecidableEq, Repr

structure PreRun where
  tag : Nat
  phase : PrePhase
  start : Nat
  at_ : Option Nat                  -- the feedback that the phase waits for closed at
  vmax : Int                        -- highest selected VDC of the weld check
  win : Option (Int × Nat)          -- VDC and PT at the start of the present 20 ms of charging
  settled : Bool                    -- the last whole 20 ms rose by less than 1 %
  deriving DecidableEq, Repr

/-- A discharge in progress (R466 to R471). -/
structure DisRun where
  tag : Option Nat
  start : Nat
  winding : Bool                    -- the winding path runs
  wait : Bool                       -- the winding path waits for the feedbacks
  onSince : Option Nat              -- DIS_ON switched on at
  fails : Nat
  resFailed : Bool
  iSum : Nat                        -- sums of the 64 conversions of inputs 14 and 15 in the last round (R468)
  vSum : Nat
  v0 : Int                          -- selected VDC as the winding path began (R469)
  posOpen : Option Nat              -- K_POS feedback open since
  deriving DecidableEq, Repr

/-- An SS1 stop (R447 to R449). Speeds are in 2^-16 rpm. -/
structure Ss1Run where
  w0 : Int
  t0 : Nat
  ref : Int
  envRun : Nat
  zeroSince : Option Nat
  deriving DecidableEq, Repr

/-- A received safe message copy (R473). -/
structure SafeMsg where
  seq : Nat
  ss1 : Bool
  sls : Bool
  value : Nat
  at_ : Nat
  deriving DecidableEq, Repr

structure BrkTest where
  hs : Bool                         -- the switch tested: true BRK_HS
  close : Bool
  since : Nat
  deriving DecidableEq, Repr

structure SafBlock where
  stoRaw : Two Bool
  stoFilt : Two Bool
  stoSince : Two Nat
  stoDiff : Option Nat
  stoDisc : Bool
  stoBoth : Bool                    -- both channels have been active together since the discrepancy
  fcSto : Bool
  stoMsg : Option Bool              -- channel B status message on its way to FC (R440)
  stoTest : Option Bool             -- forced test in progress: true at boot
  stoTestFail : Bool
  stoTestAt : Nat                   -- PT at which the forced test began
  stoTxAt : Nat                     -- PT of the last STO status message
  sdsSince : Option Nat             -- below safety.sds.pi_speed since (R438)
  ctlAt : Option Nat                -- current control began at (R454)
  brkAt : Option Nat                -- the brake was last commanded applied at (R454)
  brkTestAt : Nat                   -- last brake test pulse in RUN, or entry to RUN (R456)
  brkDue : List Bool                -- switches to test after this entry to READY, true BRK_HS (R456)
  msgAt : Nat                       -- PT of the last accepted safe message (R475)
  msgTxAt : Option Nat              -- PT of the last status message (R476)
  brkRel : Bool
  brkHs : Bool
  brkLs : Bool
  brkFb : Bool
  brkFault : Bool                   -- the last brake test failed
  brkMis : Bool                     -- event 0x5332 raised since the last passed test
  brkTest : Option BrkTest
  brkNextHs : Bool
  kCmd : Kon Bool
  kFb : Kon Bool
  kAt : Kon (Option Nat)            -- PT of a command change not yet judged
  weld : Kon Bool
  check : Option (Nat × Nat × Bool) -- CONTACTOR_CHECK: tag, contactor, closing phase
  pre : Option PreRun
  coolUntil : Nat
  dis : Option DisRun
  disPath : Nat
  disOn : Bool
  stop : Option Ss1Run
  sls : Bool
  slsSince : Nat
  slsRun : Nat
  smsRun : Nat
  cand : Two (Option SafeMsg)
  msgSeq : Option Nat
  msgSingle : Nat
  singleBit : Bool
  cmsgOk : Bool
  cmsgMissed : Bool
  ss1Req : Bool
  vsrc : Option Nat
  fcLoss : Option Nat
  held : Nat                        -- FC_SAFE_STATUS.HELD
  txSeq : Nat
  deriving DecidableEq, Repr

/-! ## Sensing (03) -/

/-- The twelve measured channels stand in lists of 12, in the order of the spec's channel table; the three
terminal channels and the like follow it. -/
structure CalRun where
  start : Nat
  tag : Option Nat                  -- none at boot step 0x0D
  deriving DecidableEq, Repr

/-- Sums of one 1 ms window of a path comparison: the window's number, the sum of the readings and of their absolute
values, and how many (R118). -/
structure WinAcc where
  no : Nat
  sum : Int
  rect : Int
  n : Nat
  deriving DecidableEq, Repr

/-- The window in progress of one channel and path, and the complete one not yet judged. -/
structure PathWin where
  cur : WinAcc
  last : Option WinAcc
  deriving DecidableEq, Repr

structure SenseBlock where
  seq : Nat
  stamp : Nat
  k : Nat
  codeA : List Nat
  xB : List Int
  taps : List (List BClk)           -- the clocks each sinc3 filter still weighs, newest first (R108)
  winA : List PathWin               -- per current channel (R118)
  winB : List PathWin
  vtAcc : List (Int × Nat)          -- sum and number of the background conversions of VT_U, VT_V, VT_W since the last trigger
  vtMean : Tri Int                  -- their means at the last trigger
  ya : List Int
  yb : List Int
  overload : List Bool
  disturbed : Bool
  lostA : Nat
  lostB : Nat
  repA : Nat                        -- the losses as of the last update boundary (R137)
  repB : Nat
  openRun : List Nat
  ovlRun : List Nat
  termRun : List Nat
  stuckWin : List (List Nat)        -- per current channel: path A codes of the last 64 updates of switching (R127)
  convA : List Int                  -- last path A conversion, scaled (R107, R128)
  ocRun : List Nat
  ocTrip : Nat                      -- mask of current channels whose trip condition stands
  ovRun : List Nat
  ovTrip : Nat                      -- mask of link channels whose trip condition stands
  saRun : List Nat
  sbRun : List Nat
  paRun : List Nat
  failed : List Nat                 -- per phase: mask of failed comparisons sa, sb, pa, pb
  sumRun : List Nat
  sumFail : Nat
  verdict : List (Option Nat)
  vdcRun : Nat
  vdcArb : Option Nat               -- age of the arbitration in updates
  vdcSuspect : Nat
  ovWarnRun : Nat
  ovWarn : Bool
  ovClearRun : Nat
  uvSince : Option Nat
  uvRec : Bool                      -- event 0x2004 of this undervoltage is raised
  cal : Option CalRun
  ctrlSet : Nat
  monSet : Nat
  vdcSrc : Nat
  hk : List Nat
  hkFail : List Nat
  hkSuspect : Bool
  bandgap : Bool
  disturbedCount : Nat
  deriving DecidableEq, Repr

/-! ## Feedback (04) -/

/-- A multiple of N from C_ref near which C stands: from which side it came, and whether an index has been latched
(R154). -/
structure IdxNear where
  k : Int
  below : Bool
  seen : Bool
  deriving DecidableEq, Repr

/-- Lists per source stand in the order of the source codes: incremental, SSI, resolver, Hall. -/
structure FbBlock where
  a : Bool
  b : Bool
  c : Int                           -- raw count
  p : Int                           -- reported count
  illegal : List Nat
  hallIllegal : List Nat
  posUncertain : Bool
  idxOff : Bool
  fallback : Bool
  cref : Option Int
  indexNo : Nat
  corr : Int
  corrPending : Option Int
  idxPending : Option Int
  idxReg : Int                      -- the index register: C at the last index (R152)
  idxNear : List IdxNear            -- multiples of N from C_ref that C stands near (R154)
  lost : Nat
  wire : Nat
  hallSector : Nat
  hallKnown : Bool
  hallAt : Nat
  hallCount : Int
  resAngle : Nat
  resVel : Int
  resCount : Int
  resAmp0 : Nat                     -- sin^2 + cos^2 at feedback start (R160)
  resPhase : Nat                    -- excitation-to-signal phase measured at feedback start
  ampRun : Nat
  trkRun : Nat
  ssiRate : Nat
  ssiTrt : Nat
  ssiRunning : Bool
  ssiT0 : Nat
  ssiPri : Int                      -- position of the other source at the frame's t0 (R176)
  ssiEnd : Nat
  ssiDue : Nat                      -- updates until the next frame is scheduled
  ssiPos : Int
  ssiRaw : Nat                      -- position bits of the latest received sample
  ssiAt : Nat
  ssiChgAt : Nat                    -- latch instant at which the position last changed (R175)
  ssiKnown : Bool
  ssiRun : Nat                      -- consecutive stale samples
  edgeC : Int                       -- count and PT of the latest change of P
  edgeAt : Nat
  latC : List Int                   -- value and PT at the previous update (R175)
  latE : List Nat
  w : List Int                      -- speed per source, 48.16 counts/s
  hist : List (List Int)
  pos : Int                         -- position in 48.16 primary counts
  xchkRun : Nat
  xchkDiff : Int
  agreeRun : Nat
  frozenVal : List Int
  frozenRun : List Nat
  errIllegal : Nat
  errSsi : Nat
  restart : Option (Nat × FbStart × Nat)  -- FB_RESTART: tag, what it meets, begin
  negCut : Bool                     -- the last negotiation stopped at the 50 ms bound
  word : Nat                        -- FC_FB_STATUS as of the last completed update (R182)
  deriving DecidableEq, Repr

/-! ## Observers (05) -/

/-- OE0 (R193): flux in 2^-16 uV.s, speeds in mHz, angles in 2^-16 turn, e in 2^-16 V. -/
structure Oe0 where
  psiA : Int
  psiB : Int
  wi : Int
  wpll : Int
  theta : Nat
  last : Nat                        -- its angle at the last t0 (R226)
  e : Int
  valid : Bool
  seeded : Bool                     -- seeded by a catch and not yet valid (R194, R210)
  run : Nat
  errRun : Nat
  out : Bool
  deriving DecidableEq, Repr

/-- OE1 (R195). -/
structure Oe1 where
  ia : Int
  ib : Int
  theta : Nat
  ang : List Nat                    -- angles of e_ab, newest first
  hist : List Nat                   -- theta_oe1, newest first
  w : Int
  e : Int
  valid : Bool
  run : Nat
  out : Bool
  lastOk : Nat                      -- updates since OE1 was last valid, saturating
  deriving DecidableEq, Repr

/-- Where a start stands (R207 to R216). -/
inductive StartPhase where
  | idle | measV | settle | measI | awl | lock | block
  deriving DecidableEq, Repr

/-- What a start measurement gathers update by update (R208): updates, PT of the first and of the last, the vector's last angle, the angle
unwrapped, sums for the least-squares line against PT since the first, the summed magnitude, the updates in which each
terminal stood near a rail (R209), and the largest phase current (R211). -/
structure MeasAcc where
  n : Nat
  first : Nat
  lastAt : Nat
  last : Nat
  unw : Int
  st : Int
  sa : Int
  stt : Int
  sta : Int
  saa : Int
  smag : Int
  rails : List Nat
  peak : Int
  deriving DecidableEq, Repr

structure ObsBlock where
  oe0 : Oe0
  oe1 : Oe1
  ctrlSrc : Nat
  comm : Nat
  phase : StartPhase
  start : Nat                       -- last start method, coded as FC_OBS_STATUS.START
  awl : Nat
  dir : Bool
  resMax : Nat
  theta : Nat
  offset : Int                      -- working offset while offsetSet (R213)
  offsetSet : Bool
  absInit : Bool                    -- the incremental count was initialised absolutely (R145)
  resVal : List Int
  resRun : List Nat                 -- per pair F-OE0, F-OE1, OE0-OE1
  resDecl : List Bool
  rejoin : List Nat
  reacq : Option Nat                -- PT at which the reacquisition began
  reacqStamps : List Nat
  lastW : Int                       -- speed of the last valid control angle, mHz
  pattern : Nat
  probe : Bool
  again : Bool                      -- the start measurement is being repeated
  measTheta : Nat
  measW : Int
  measAt : Nat                      -- PT of the t0 at which the caught angle holds
  rampAt : Option Nat               -- the torque ramp of R210 began
  awlTheta : Nat
  awlMargin : Nat
  awlAniso : Nat
  awlRetries : Nat
  awlC : Int
  sector : Nat
  tz : Nat
  tzPrev : Nat
  commAt : Nat
  fe : Int                          -- floating back-EMF at the previous reading, doubled
  feAt : Nat                        -- PT of that reading
  missRun : Nat
  syncRun : Nat
  agreeCross : Nat
  armed : Bool
  synced : Bool
  forced : Nat
  enableTag : Option Nat            -- the ENABLE that waits for the start
  phaseAt : Nat                     -- PT at which the phase of the start began
  meas : MeasAcc
  awlDrive : Option (Nat × Bool)    -- the Awl pulse in progress and whether its opposite vector is applied (R215)
  awlTon : Nat                      -- on-time of an axis pulse in 125 ps (R215)
  rev : Bool                        -- present direction of the sectors (R220)
  turnAt : Nat                      -- PT of the last sector boundary
  sched : Nat                       -- commutations of the start schedule so far (R223)
  fast : Bool                       -- OE0 was at or above its minimum in the last update under FALLBACK (R179)
  deriving DecidableEq, Repr

/-! ## Loop engines (06) -/

structure LoopBlock where
  mode : Nat
  xd : Int
  xq : Int
  xw : Int
  xf : Int
  hp : Int
  vdcPrev : Int
  idPrev : Int
  iqPrev : Int
  vdPrev : Int
  vqPrev : Int
  distRun : Nat
  distRec : Bool
  tstar : Int
  slewed : Int
  tref : Int                        -- torque reference handed on by LE2/LE3, or the set-point in torque mode
  dt : Int                          -- damping term handed on by LE4/LE5
  wref : Int
  w : Int                           -- mechanical speed of the last speed update, 2^-16 rev/s
  pw : Int                          -- proportional and feedforward part of the last speed update
  ep : Int
  ed : Int
  eq : Int
  idfw : Int
  idr : Int
  iqr : Int
  id : Int
  iq : Int
  vdRaw : Int                       -- unlimited voltage vector
  vqRaw : Int
  thetaV : Nat                      -- the advanced angle of the last update (R246)
  va : Int
  vb : Int
  active : List (Nat × Int)         -- active-bank entries that differ from their defaults
  commit : List Nat                 -- tables still to be copied
  changed : List Nat
  copied : Nat
  restarts : Nat
  status : Nat
  devRun : Nat
  satSince : Option Nat
  spdAcc : Nat
  ovspRun : Nat
  ferrSince : Option Nat
  dcdRun : Nat
  rolled : Bool
  spdLim : Bool                     -- the last speed update was at a torque limit (R255, R269)
  distDue : Bool                    -- limits reached at the last update of their loop (R248, R272, R273)
  satDue : Bool
  spdDue : Bool
  ferrDue : Bool
  rampT : Option (Int × Nat)
  deriving DecidableEq, Repr

/-! ## Profile engine (07) -/

/-- One jerk phase of a plan: jerk and duration. -/
structure Seg where
  j : F64
  t : F64
  deriving DecidableEq, Repr

structure SegEntry where
  dt : Nat
  pos : Int
  vel : Int
  deriving DecidableEq, Repr

/-- A motion command that has reached FC (R278). -/
inductive MotionCmd where
  | moveAbs (tag : Nat) (x : Int)
  | moveRel (tag : Nat) (x : Int)
  | vel (tag : Nat) (v : Int)
  | torque (tag : Nat) (t : Int)
  | home (tag : Nat)
  | segExec (tag : Nat)
  | stop
  deriving DecidableEq, Repr

/-- A switch input: levels are electrical, true high; what counts as active is prof.sw.polarity (R299). -/
structure SwState where
  raw : Bool
  at_ : Nat
  pos : Int
  deb : Bool
  edge : Int                        -- P at the raw change that the debounce accepted
  stamps : List Nat
  chatter : Bool
  deriving DecidableEq, Repr

structure PeBlock where
  p : F64                           -- planned state at the next t0, machine counts
  v : F64
  a : F64
  plan : List Seg
  tau : F64                         -- time already spent in the first phase of the plan
  goal : Option F64                 -- where the plan ends at rest exactly
  vGoal : F64                       -- velocity held after the plan
  source : Nat                      -- coded as FC_PROF_STATUS.SOURCE
  target : Int                      -- 48.16 machine counts
  setPos : Int                      -- planned machine position of the last update, 48.16
  posRef : Int
  velFf : Int
  accRef : Int
  queue : List MotionCmd
  segs : List SegEntry
  segIdx : Nat                      -- segment in execution from 1, 0 when idle
  segTau : F64
  segP : F64                        -- start point of the segment
  segV : F64
  segOrg : Int                      -- start of execution, 48.16, added in relative mode
  segTag : Option Nat
  homePhase : Nat
  homeTag : Option Nat
  homeDir : Int
  homeAt : Nat                      -- PT of acceptance of the run (R307)
  homeTurned : Bool                 -- the expected switch has reversed the search
  homeFrom : Int                    -- P at the start of phase 4
  homeIdx : Option Int              -- P of an index latched during homing
  homeOld : Option Int              -- shift to restore when the run fails
  homed : Bool
  overrun : Bool
  limitStop : Bool
  limUp : Bool                      -- the limit of the last limit stop is the upper one (R293)
  swStop : Bool
  parked : Bool
  clamped : Bool
  reversing : Option Bool           -- sign of T - S, true positive
  reached : Bool
  winSince : Option Nat
  standSince : Option Nat
  ended : Bool
  demand : Int                      -- velocity target as commanded, 48.16 counts/s
  lims : List Int                   -- profile limits of the plan under way (R320)
  limWas : Bool                     -- software limits were in force at the last update (R291)
  swNeg : SwState
  swPos : SwState
  swHome : SwState
  setposHi : Nat
  deriving DecidableEq, Repr

/-! ## Modulator and gate driver dies (08, 09) -/

/-- What one leg is ordered to do for a half period: the high side on while the carrier is below c (R325), the low side
so (R333), a switch held on, both off, or a change to one of these states at an offset from t0 in 125 ps (R332, R334,
R341). -/
inductive LegCmd where
  | cmp (c : Nat) | inv (c : Nat) | high | low | off
  | edge (side : Option Bool) (offset : Nat)
  deriving DecidableEq, Repr

structure ModBlock where
  h : Nat
  origin : Nat
  up : Bool                         -- the half period in progress began at a valley
  half : Nat
  cmp : Tri Nat
  legs : Tri LegCmd                 -- the set sent for the half period in progress
  prev : Tri LegCmd                 -- the set of the half period before it
  pattern : Nat
  region : Nat
  method : Nat
  dtcActive : Bool
  bsClamp : Bool
  refresh : Nat
  legLoss : Bool
  lostLeg : Nat
  calFail : Nat
  missed : Nat
  sector : Nat
  bsRun : Tri Nat
  bsDue : Tri Bool
  charging : Bool
  chargeAt : Nat                    -- the charge pulses of ENABLE began (R70)
  pulseAt : Nat                     -- the next charge pulse is due (R342)
  refreshLeg : Tri Bool             -- a refresh pulse goes on into the falling half period (R341)
  lastOn : Tri (Option (Bool × Int))  -- switch commanded on at t0, and 125 ps units since it turned on
  running : Bool
  deriving DecidableEq, Repr

/-- Output condition of a gate driver die (R360, R361). -/
inductive Gate where
  | offHold | onHold | profile (on : Bool) (band : Nat) | soft | clampHold
  deriving DecidableEq, Repr

/-- A compare set at a die (R326, R327). -/
structure CmpSet where
  half : Nat
  cmd : LegCmd
  bandOn : Nat
  bandOff : Nat
  deriving DecidableEq, Repr

/-- An edge scheduled at a die: its switch turns on or off at a PT in 125 ps units, with a profile band. -/
structure GdEdge where
  on : Bool
  at_ : Nat
  band : Nat
  deriving DecidableEq, Repr

structure GdDie where
  held : Option HeelOrder
  leg : Bool                        -- the die's own leg is marked faulted
  marks : Tri Bool                  -- the legs marked faulted at this die (R375)
  therm : Bool
  trip : Bool
  gchk : Bool
  ntcBroken : Bool
  ntcWarn : Bool
  gate : Gate
  hiZ : Bool
  clampOn : Bool
  bandOn : Nat
  bandOff : Nat
  bSelOn : Nat
  bSelOff : Nat
  cause : Nat
  tripBand : Nat
  inTurnOn : Bool
  count : Nat
  tEdge : Nat
  onAt : Nat                        -- PT at which the last turn-on profile began
  drvAt : Nat                       -- PT at which the last profile or soft turn-off began
  drive : List (Nat × Nat)          -- its segments: level, and duration in ns (R362, R363, R372)
  holdAt : Nat                      -- PT at which it ended (R378)
  cmp : Option CmpSet
  old : Option CmpSet               -- the set applied in the previous half period
  done : Bool                       -- that set's edge governs this half period (R326)
  edges : List GdEdge
  on : Bool                         -- commanded high-side state of the leg
  missRun : Nat
  ntcCode : Nat
  ntcSamples : Nat
  ntcSum : Nat
  ntcTemp : Int
  diagMode : Nat
  cmpFail : Nat
  pairs : List Nat
  trained : Bool
  powered : Bool
  deriving DecidableEq, Repr

/-- The diagnostic in progress (R383 to R391). -/
structure DiagRun where
  tag : Nat
  pre : Bool                        -- ordered by PRECHARGE
  since : Nat                       -- PT of its start
  deriving DecidableEq, Repr

/-! ## Safety Monitor (10) -/

structure SmCopy where
  stamps : List Nat                 -- ends of resynchronisations, each within the window of the one before
  due : Option Nat                  -- a lane fault is due: 0 repeat, 1 failed resynchronisation
  halted : Bool
  copying : Bool
  isolated : Bool
  since : Nat                       -- when it was halted
  deriving DecidableEq, Repr

structure SmBlock where
  c0 : SmCopy
  c1 : SmCopy
  c2 : SmCopy
  minority : Nat
  resync : Bool
  tree : Nat
  noTol : Bool
  degStop : Bool
  brakeOk : Bool
  xover : Bool
  tqMode : Nat
  weltXover : Bool
  weltState : Nat
  thist : List Int
  tf : Int
  td : Int
  tEst : Int
  outRun : Nat
  defPs : Nat                       -- time in deficit, in ps of judged updates (R420)
  iRun : Nat
  skip : Nat
  speed : Option Int                -- rpm x 2^16, none without a valid speed (R421)
  lastSpeed : Int
  resyncs : Nat
  latent : Nat
  testFail : Nat
  outBand : Nat
  graceSince : Option Nat
  hkLast : Nat
  hkStamps : List Nat
  boundRun : Nat
  bound : Nat                       -- the bound last exceeded (R426)
  posPrev : Option Int              -- the Profile Engine's position set-point of the previous update
  vdcLast : Int                     -- last selected link voltage (R425)
  setPrev : Nat
  osrPrev : Nat
  iAbs : Int
  iref : List Int                   -- current reference magnitudes, newest first (R422)
  noMajority : Bool
  hashMs : Nat                      -- PT multiple of 1 ms whose state hashes were last compared (R410)
  testMs : Nat                      -- and of the Welt's last self-test (R404)
  rdvSeq : Option Nat               -- sample number of the update whose idle window held the last rendezvous
  busySeq : Option Nat              -- update whose idle window held a hash slot, a self-test or a rendezvous (R646)
  deriving DecidableEq, Repr

/-! ## CAN networks and network time (14) -/

inductive CanMode where
  | off | listen | detect | joining | on | busOff | recovering
  deriving DecidableEq, Repr

/-- A slot of a receive FIFO (R570, R573). -/
structure CanRx where
  frame : CanFrame
  filtered : Bool
  safe : Bool
  ref : Bool
  read : Nat                        -- data bytes already returned
  deriving DecidableEq, Repr

/-- A transmit buffer that is pending (R577 to R582). -/
structure CanTx where
  frame : CanFrame
  tag : Option Nat
  oneShot : Bool
  buf : Bool
  cancel : Option Nat               -- tag of the CANCEL that waits for the attempt
  late : Bool                       -- the deadline has passed during an attempt
  next : Option CanFrame            -- content that waits for the next start of frame (R588)
  since : Nat                       -- admission of its CAN_TX (R580)
  deriving DecidableEq, Repr

/-- A rate detection (R569). -/
structure CanDet where
  tag : Nat
  rates : List Nat
  idx : Nat
  pass : Nat
  hits : Nat
  since : Nat                       -- start of the candidate's window
  deriving DecidableEq, Repr

structure CanCh where
  mode : CanMode
  prev : CanMode
  clkStop : Bool
  triple : Bool
  lastErr : Nat
  noListener : Bool
  overflow : Bool
  tec : Nat
  rec_ : Nat
  errFrames : Nat
  errStamp : Option Nat
  fifo : List CanRx
  ovCount : Nat
  ovRecorded : Bool
  filt : List (Nat × Nat)
  safe : List CanFrame
  tx : List (Option CanTx)
  fresh : List Nat                  -- buffers that became pending since the last attempt's end, oldest first (R577)
  stageLen : Nat
  noack : Nat
  onTag : Option Nat
  joinAt : Nat                      -- admission of the join (R568)
  idle : Nat                        -- occurrences of 11 recessive bits in RECOVERING (R587)
  ssp : Nat                         -- secondary sample point of the last data phase sent, in CANCLK cycles (R566)
  det : Option CanDet
  deriving DecidableEq, Repr

structure NtBlock where
  sync : Bool
  aligned : Bool
  master : Bool
  cycle : Nat
  rate : Int
  e : Int
  mark : Option Nat                 -- own stamp of the last reference mark
  marks : List (Nat × Nat)          -- network and package time of the last marks, newest first
  beyond : Nat                      -- consecutive marks with |f_net| above 100 ppm
  rxAt : Nat                        -- the last reference message received, or HB's reset before the first
  due : Option Nat                  -- PT multiple of can.tt.cycle of the last message queued (R591)
  deriving DecidableEq, Repr

/-! ## Memories (15) -/

/-- Kinds of a table entry (R619). -/
inductive EccKind where
  | correctable | hard | poisoned
  deriving DecidableEq, Repr

structure EccEntry where
  addr : Nat
  syndrome : Nat
  count : Nat
  pass : Nat
  kind : EccKind
  repaired : Bool
  age : Nat                         -- order of entry into the table
  deriving DecidableEq, Repr

/-- An entry of the merge buffer: word address and byte mask (R606). -/
structure MergeEntry where
  addr : Nat
  mask : Nat
  deriving DecidableEq, Repr

/-- One memory controller (R601). -/
structure MemCtl where
  table : List (Option EccEntry)    -- 16 slots
  entered : Nat
  corr : Nat
  uncorr : Nat
  pass : Nat
  spares : List (Nat × Nat)         -- (macro, row) held in spare rows, in the order of allotment
  cols : List (Nat × Nat)           -- (macro, bit) held in spare columns
  noSpare : Bool
  ovf : Bool
  late : Bool
  on : Bool
  poisoned : List (Nat × Nat)       -- poisoned words with the class of their region (R613)
  wb : List (Nat × Nat)             -- corrected words whose write-back is pending, with the time of the read (R608)
  pos : Nat                         -- words the pass has read
  passAt : Nat                      -- start of the pass
  period : Nat                      -- mem.scrub.period as the pass took it, in s (R626)
  latched : Bool                    -- the latches were compared in this pass (R615)
  merge : List MergeEntry           -- oldest first
  migrate : List Nat                -- words whose row waits for its migration
  lastRec : Option Nat
  deriving DecidableEq, Repr

/-- A SCRUB_RANGE in progress (R618). -/
structure ScrubJob where
  tag : Nat
  ctl : Nat
  pos : Nat
  stop : Nat
  deriving DecidableEq, Repr

structure MemBlock where
  ctl : List MemCtl
  hbMem : Nat                       -- HB_MEM_SELECT
  hbEntry : Nat
  fcDie : Nat                       -- FC_MEM_SELECT
  fcMem : Nat
  fcEntry : Nat
  pendingList : List Repair         -- soft repairs not burned, oldest first
  burned : List FuseEntry
  corrected : Nat
  uncorrected : Nat
  repairs : Nat
  scrubs : List ScrubJob
  mramWeak : List Nat
  mramRemap : List Nat
  deriving DecidableEq, Repr

/-! ## Thermal and self-test (16) -/

/-- A temperature sensor of R628; values in 0.1 °C, estimates in °C as binary32 (R632). -/
structure Sensor where
  raw : Int
  used : Int
  est : Option F64
  off : F64
  med : List F64                    -- medians of the neighbours in the last 100 rounds, newest first
  usable : Bool
  open_ : Bool                      -- open or shorted in the last usable round
  broken : Bool
  noEst : Bool                      -- broken without an estimate (R635)
  xrun : Nat
  warnRun : Nat
  clearRun : Nat
  stopRun : Nat
  warned : Bool
  stopped : Bool
  deriving DecidableEq, Repr

structure ThmBlock where
  sensors : List Sensor
  shd : List (Option Nat)           -- per die: in thermal shutdown since
  shdDiff : List Int                -- last difference of shutdown and junction sensor, 0.1 °C
  shdRun : List Nat
  shdSuspect : Bool
  select : Nat
  trims : List Int                  -- trims of R640: eight oscillators, seven delay lines, three references
  trimNext : List Int               -- the same as issued in the last round, in effect from the next update
  round : Option Nat                -- PT multiple of 10 ms of the last round (R629)
  deriving DecidableEq, Repr

/-- A memory test in progress (R645 to R649). -/
structure MemJob where
  tag : Option Nat
  ctl : Nat
  blocks : Nat
  failing : Nat
  first : Option (Nat × Nat)        -- byte address and bit of the first failing cell
  unrep : Bool
  cancel : Bool
  canceller : Option Nat            -- tag of the CANCEL that waits for the block
  slot : Option Nat                 -- update in which the last block ran
  deriving DecidableEq, Repr

structure BistBlock where
  duration : Nat
  coverage : Nat
  kind : Nat
  pass : Nat
  complete : Bool
  boot : Nat
  memFail : Bool
  records : List (List Nat)         -- records of R648 as bytes
  recIdx : Nat
  job : Option MemJob
  due : Nat                         -- next TCM of the periodic test, from 0
  memAt : Nat                       -- start of the last periodic test
  deriving DecidableEq, Repr

/-! ## Test access port (18) -/

structure TapBlock where
  ir : Nat
  unlocked : Bool
  extest : Bool
  refused : Bool
  challenge : Option Nat
  chalUsed : Bool
  dr : Nat                          -- what the data register shifts out (R683)
  deriving DecidableEq, Repr

/-! ## The whole state -/

structure State where
  pending : List Instr              -- the queue of commands, first in, first out
  free : Nat                        -- the model's own: how many free values a run has taken (log 2)
  gdSelect : Nat
  pt : PtState
  op : OpBlock
  id : IdBlock
  rst : RstBlock
  boot : BootBlock
  supply : SupplyBlock
  pairs : PairsBlock
  cp : CpBlock
  clk : ClkBlock
  jx : JxBlock
  snap : SnapBlock
  heel : HeelBlock
  port : PortBlock
  mbx : MbxBlock
  par : ParBlock
  last : LastBlock
  evt : RecBlock
  saf : SafBlock
  sense : SenseBlock
  fb : FbBlock
  obs : ObsBlock
  loop : LoopBlock
  pe : PeBlock
  mod : ModBlock
  gd : Six GdDie
  diag : Option DiagRun
  sm : SmBlock
  can : Two CanCh
  nt : NtBlock
  mem : MemBlock
  thm : ThmBlock
  bist : BistBlock
  tap : TapBlock
  deriving DecidableEq, Repr

/-! ## Reset -/

def F64.zero : F64 := ⟨0, 0⟩
def PtCopy.reset : PtCopy := ⟨0, 0, false, none, false⟩
def PairState.reset : PairState := ⟨[], false, .waiting, 0, 0, false, false⟩
def LinkState.reset (n : Nat) : LinkState := ⟨List.replicate n .untrained, false⟩
def six {α : Type} (x : α) : Six α := ⟨x, x, x, x, x, x⟩

def TagInfo.reset : TagInfo :=
  ⟨.free, 0, 0, false, false, false, 0, 0, false, 0, false, 0, false, none, none⟩

def PtState.reset : PtState :=
  { ns := 0, off := 0, hbHi := 0, hb := .reset, gd := six .reset, masterPpm := 0, hbEpoch := 0, fcEpoch := 0, stepDue := false, gdEpoch := six 0 }

def OpBlock.reset : OpBlock :=
  { state := .boot, prev := .boot, maxClass := 0, faultHold := false, commissioning := false, degraded := false,
    stoActive := false, holdFrom := .boot, f2Stop := false, ackBarred := false,
    speedDependent := false, runClass := 0 }

def IdBlock.reset : IdBlock := { serial := Config.serial, running := 0, staged := 0 }

def RstBlock.reset : RstBlock :=
  { rejected := false, cause := 1, nresetLow := false, kind := .plain, due := some .full }

/-- The image released with the unit verifies (R705). -/
def deliveredImage : ImageHdr :=
  { version := Config.deliveredVersion, secVer := Config.deliveredSecVer, hbLen := 0, fcLen := 0, keyDigest := 0
    fcDigest := 0, signed := some 0, bodySum := 0, fcSum := 0 }

def BootBlock.reset : BootBlock :=
  { step := 1, shutdownDone := false, startBist := false, recovery := false, slot := false, waitGd := false,
    waitFc := false, loaded := false, rom := true, number := 0, insole := [], slots := ⟨some deliveredImage, none⟩,
    active := false, trial := none, trialFails := 0, onTrial := false, fused := 0, raise := none, fuseHold := false,
    drain := false, drainAt := 0, stage := none, stageVerify := none, no0A := false, since := 0, waitAt := 0, done := false, came := none, plan := [], atLast := false, running := none, disCut := false,
    fcRuns := false, burn := [], burnt := 0, keyDigest := 0, rot := ⟨0, 0⟩ }

def SupplyBlock.reset : SupplyBlock :=
  { hbLock := false, fcLock := false, gdLock := six false, vio33 := true, vfWarn := false, vp := six 0, vn := six 0,
    hbRet := none, fcRet := [] }

def PairsBlock.reset : PairsBlock := ⟨.reset, .reset, .reset, .reset⟩
def CpBlock.reset : CpBlock := ⟨List.replicate 128 .reset, [], [], []⟩
def ClkBlock.reset : ClkBlock := ⟨false, false, []⟩
def JxBlock.reset : JxBlock := ⟨.reset 4, six (.reset 2), [], none, []⟩
def SnapBlock.reset : SnapBlock := ⟨none, [], six []⟩

def HeelBlock.reset : HeelBlock :=
  { fc := none, hb := none, legs := ⟨false, false, false⟩, shoot := false, reports := six none, uv := six false, behind := 0,
    releasing := none, out := six [], outHb := [] }

def PortBlock.reset : PortBlock :=
  { version := 1, mhz := 25, width := 0, mode3 := false, next := none, lastCode := 0, hdrErr := 0, stalls := 0,
    sticky := 0, badRun := 0, access := none, resp := ⟨none, 0, [], 0⟩, lastRec := [],
    dropAccess := false }

def MbxBlock.reset : MbxBlock :=
  { mem := [], empty := List.replicate 128 true, tags := List.replicate 128 .reset, bells := [], bellNo := 0,
    tail := 0, head := 0, irq := 0, irqEn := 127, coalCount := 0, coalSince := none, errCrc := 0, errOp := 0,
    errBusy := 0, violLost := 0, completed := 0, violations := 0, rr := [] }

def ParBlock.reset : ParBlock :=
  { work := [], userA := none, userB := none, devA := none, devB := none, storeSeq := 0, storing := none }

def LastBlock.reset : LastBlock := ⟨false, 0, [], 0, none⟩

def RecBlock.reset : RecBlock :=
  { vlog := [], plog := [], pTail := none, vOver := 0, pOver := 0, vCur := 0, pCur := 0, logSel := false, seq := 0, reserve := 0,
    pq := [], fcq := [], fcDropped := 0, fcLost := 0, pQueueLost := false, fcLostBit := false, pqLost := 0 }

def kon {α : Type} (x : α) : Kon α := ⟨x, x, x⟩

def SafBlock.reset : SafBlock :=
  { stoRaw := ⟨true, true⟩, stoFilt := ⟨true, true⟩, stoSince := ⟨0, 0⟩, stoDiff := none, stoDisc := false,
    stoBoth := false, fcSto := true, stoMsg := none, stoTest := none, stoTestFail := false, stoTestAt := 0, stoTxAt := 0, sdsSince := none,
    ctlAt := none, brkAt := none, brkTestAt := 0, brkDue := [], msgAt := 0, msgTxAt := none, brkRel := false, brkHs := false,
    brkLs := false, brkFb := false, brkFault := false, brkMis := false, brkTest := none, brkNextHs := true,
    kCmd := kon false, kFb := kon false, kAt := kon none, weld := kon false, check := none, pre := none,
    coolUntil := 0, dis := none, disPath := 0, disOn := false, stop := none, sls := false, slsSince := 0,
    slsRun := 0, smsRun := 0, cand := ⟨none, none⟩, msgSeq := none, msgSingle := 0,
    singleBit := false, cmsgOk := false, cmsgMissed := false, ss1Req := false, vsrc := some 0, fcLoss := none, held := 0, txSeq := 0 }

def WinAcc.reset : WinAcc := ⟨0, 0, 0, 0⟩
def PathWin.reset : PathWin := ⟨.reset, none⟩

def SenseBlock.reset : SenseBlock :=
  { seq := 0, stamp := 0, k := 0, codeA := List.replicate 12 8192, xB := List.replicate 12 0,
    taps := List.replicate 12 [], winA := List.replicate 6 .reset, winB := List.replicate 6 .reset,
    vtAcc := List.replicate 3 (0, 0), vtMean := ⟨0, 0, 0⟩,
    ya := List.replicate 12 0, yb := List.replicate 12 0, overload := List.replicate 12 false, disturbed := false,
    lostA := 0, lostB := 0, repA := 0, repB := 0, openRun := List.replicate 12 0, ovlRun := List.replicate 12 0,
    termRun := List.replicate 3 0, stuckWin := List.replicate 6 [],
    convA := List.replicate 12 0, ocRun := List.replicate 6 0,
    ocTrip := 0, ovRun := [0, 0], ovTrip := 0, saRun := [0, 0, 0], sbRun := [0, 0, 0], paRun := List.replicate 6 0,
    failed := [0, 0, 0], sumRun := [0, 0], sumFail := 0, verdict := [none, none, none],
    vdcRun := 0, vdcArb := none, vdcSuspect := 0, ovWarnRun := 0, ovWarn := false,
    ovClearRun := 0, uvSince := none, uvRec := false, cal := none, ctrlSet := 0, monSet := 0, vdcSrc := 0,
    hk := List.replicate 24 0, hkFail := List.replicate 24 0, hkSuspect := false, bandgap := false,
    disturbedCount := 0 }

def FbBlock.reset : FbBlock :=
  { a := false, b := false, c := 0, p := 0, illegal := [], hallIllegal := [], posUncertain := false, idxOff := false,
    fallback := false, cref := none, indexNo := 0, corr := 0, corrPending := none, idxPending := none, idxReg := 0,
    idxNear := [], lost := 0, wire := 0, hallSector := 0, hallKnown := false, hallAt := 0, hallCount := 0,
    resAngle := 0, resVel := 0, resCount := 0, resAmp0 := 0, resPhase := 0, ampRun := 0, trkRun := 0, ssiRate := 0, ssiTrt := 0,
    ssiRunning := false, ssiT0 := 0, ssiPri := 0, ssiEnd := 0, ssiDue := 0, ssiPos := 0, ssiRaw := 0, ssiAt := 0, ssiChgAt := 0,
    ssiKnown := false, ssiRun := 0, edgeC := 0, edgeAt := 0, latC := [0, 0, 0, 0], latE := [0, 0, 0, 0],
    w := [0, 0, 0, 0], hist := [[], [], [], []], pos := 0, xchkRun := 0, xchkDiff := 0, agreeRun := 0,
    frozenVal := [0, 0, 0, 0], frozenRun := [0, 0, 0, 0], errIllegal := 0, errSsi := 0, restart := none, negCut := false, word := 0 }

def Oe0.reset : Oe0 := ⟨0, 0, 0, 0, 0, 0, 0, false, false, 0, 0, false⟩
def Oe1.reset : Oe1 := ⟨0, 0, 0, [], [], 0, 0, false, 0, false, 255⟩

def MeasAcc.reset : MeasAcc := ⟨0, 0, 0, 0, 0, 0, 0, 0, 0, 0, 0, [0, 0, 0], 0⟩

def ObsBlock.reset : ObsBlock :=
  { oe0 := .reset, oe1 := .reset, ctrlSrc := 7, comm := 0, phase := .idle, start := 0, awl := 0, dir := false,
    resMax := 0, theta := 0, offset := 0, offsetSet := false, absInit := false, resVal := [0, 0, 0],
    resRun := [0, 0, 0], resDecl := [false, false, false], rejoin := [0, 0], reacq := none, reacqStamps := [],
    lastW := 0, pattern := 0, probe := false, again := false, measTheta := 0, measW := 0,
    measAt := 0, rampAt := none, awlTheta := 0, awlMargin := 0, awlAniso := 0, awlRetries := 0, awlC := 0,
    sector := 0, tz := 0, tzPrev := 0, commAt := 0, fe := 0, feAt := 0, missRun := 0, syncRun := 0, agreeCross := 0,
    armed := false, synced := false, forced := 0, enableTag := none, phaseAt := 0, meas := .reset, awlDrive := none, awlTon := 0,
    rev := false, turnAt := 0, sched := 0, fast := false }

def LoopBlock.reset : LoopBlock :=
  { mode := 1, xd := 0, xq := 0, xw := 0, xf := 0, hp := 0, vdcPrev := 0, idPrev := 0, iqPrev := 0, vdPrev := 0,
    vqPrev := 0, distRun := 0, distRec := false, tstar := 0, slewed := 0, tref := 0, dt := 0, wref := 0, w := 0,
    pw := 0, ep := 0, ed := 0, eq := 0, idfw := 0, idr := 0, iqr := 0, id := 0, iq := 0, vdRaw := 0,
    vqRaw := 0, thetaV := 0, va := 0, vb := 0, active := [], commit := [], changed := [], copied := 0, restarts := 0, status := 0,
    devRun := 0, satSince := none, spdAcc := 0, ovspRun := 0, ferrSince := none, dcdRun := 0, rolled := false,
    rampT := none, spdLim := false, distDue := false, satDue := false, spdDue := false, ferrDue := false }

def SwState.reset : SwState := ⟨true, 0, 0, true, 0, [], false⟩

def PeBlock.reset : PeBlock :=
  { p := .zero, v := .zero, a := .zero, plan := [], tau := .zero, goal := none, vGoal := .zero, source := 0,
    target := 0, setPos := 0, posRef := 0, velFf := 0, accRef := 0, queue := [], segs := [], segIdx := 0,
    segTau := .zero, segP := .zero, segV := .zero, segOrg := 0, segTag := none, homePhase := 0, homeTag := none,
    homeDir := 0, homeAt := 0, homeTurned := false, homeFrom := 0, homeIdx := none, homeOld := none, homed := false,
    overrun := false, limitStop := false, limUp := false, swStop := false, parked := false, clamped := false, reversing := none,
    reached := false, winSince := none, standSince := none, ended := false,
    demand := 0, lims := [], limWas := false, swNeg := .reset, swPos := .reset,
    swHome := .reset, setposHi := 0 }

def ModBlock.reset : ModBlock :=
  { h := 200000, origin := 0, up := true, half := 0, cmp := ⟨0, 0, 0⟩, legs := ⟨.off, .off, .off⟩,
    prev := ⟨.off, .off, .off⟩, pattern := 0, region := 0,
    method := 0, dtcActive := false, bsClamp := false, refresh := 0, legLoss := false, lostLeg := 0, calFail := 0,
    missed := 0, sector := 0, bsRun := ⟨0, 0, 0⟩, bsDue := ⟨false, false, false⟩, charging := false, chargeAt := 0, pulseAt := 0, refreshLeg := ⟨false, false, false⟩,
    lastOn := ⟨none, none, none⟩, running := false }

def GdDie.reset : GdDie :=
  { held := none, leg := false, marks := ⟨false, false, false⟩, therm := false, trip := false, gchk := false, ntcBroken := false, ntcWarn := false,
    gate := .offHold, hiZ := false, clampOn := false, bandOn := 0, bandOff := 0, bSelOn := 0, bSelOff := 0, cause := 0,
    tripBand := 0, inTurnOn := false, count := 0, tEdge := 0, onAt := 0, drvAt := 0, drive := [], holdAt := 0, cmp := none, old := none, done := false, edges := [], on := false,
    missRun := 0, ntcCode := 0, ntcSamples := 0, ntcSum := 0, ntcTemp := 0, diagMode := 0, cmpFail := 0,
    pairs := [0, 0, 0, 0], trained := false, powered := true }

def SmCopy.reset : SmCopy := ⟨[], none, false, false, false, 0⟩

def SmBlock.reset : SmBlock :=
  { c0 := .reset, c1 := .reset, c2 := .reset, minority := 3, resync := false, tree := 0, noTol := false,
    degStop := false, brakeOk := false, xover := false, tqMode := 3, weltXover := false, weltState := 3, thist := [],
    tf := 0, td := 0, tEst := 0, outRun := 0, defPs := 0, iRun := 0, skip := 0, speed := none, lastSpeed := 0,
    resyncs := 0, latent := 0, testFail := 0, outBand := 0, graceSince := none, hkLast := 0, hkStamps := [],
    boundRun := 0, bound := 0, posPrev := none, vdcLast := 0, setPrev := 3, osrPrev := 64, iAbs := 0, iref := []
    noMajority := false, hashMs := 0, testMs := 0, rdvSeq := none, busySeq := none }

def CanCh.reset : CanCh :=
  { mode := .off, prev := .off, clkStop := false, triple := false, lastErr := 0, noListener := false, overflow := false,
    tec := 0, rec_ := 0, errFrames := 0, errStamp := none, fifo := [], ovCount := 0, ovRecorded := false, filt := [],
    safe := [], tx := List.replicate 8 none, fresh := [], stageLen := 0, noack := 0, onTag := none, joinAt := 0, idle := 0,
    ssp := 0, det := none }

def NtBlock.reset : NtBlock :=
  { sync := false, aligned := false, master := false, cycle := 0, rate := 0, e := 0, mark := none,
    marks := [], beyond := 0, rxAt := 0, due := none }

def MemCtl.reset : MemCtl :=
  { table := List.replicate 16 none, entered := 0, corr := 0, uncorr := 0, pass := 0, spares := [], cols := [],
    noSpare := false, ovf := false, late := false, on := false, poisoned := [], wb := [],
    pos := 0, passAt := 0, period := 0, latched := false, merge := [], migrate := [],
    lastRec := none }

def MemBlock.reset : MemBlock :=
  { ctl := List.replicate 20 .reset, hbMem := 0, hbEntry := 0, fcDie := 1, fcMem := 0, fcEntry := 0,
    pendingList := [], burned := [], corrected := 0, uncorrected := 0, repairs := 0, scrubs := [], mramWeak := [],
    mramRemap := [] }

def Sensor.reset : Sensor := ⟨0, 0, none, .zero, [], false, false, false, false, 0, 0, 0, 0, false, false⟩

def ThmBlock.reset : ThmBlock :=
  { sensors := List.replicate 17 .reset, shd := List.replicate 8 none, shdDiff := List.replicate 8 0,
    shdRun := List.replicate 8 0, shdSuspect := false, select := 0, trims := List.replicate 18 0,
    trimNext := List.replicate 18 0, round := none }

def BistBlock.reset : BistBlock :=
  { duration := 0, coverage := 0, kind := 0, pass := 0, complete := false, boot := 0, memFail := false, records := [],
    recIdx := 0, job := none, due := 0, memAt := 0 }

def TapBlock.reset : TapBlock := ⟨1, false, false, false, none, false, 0x20812B4F⟩

/-- The machine right after reset. -/
def State.reset : State :=
  { pending := [], free := 0, gdSelect := 2, pt := .reset, op := .reset, id := .reset, rst := .reset, boot := .reset,
    supply := .reset, pairs := .reset, cp := .reset, clk := .reset, jx := .reset, snap := .reset, heel := .reset,
    port := .reset, mbx := .reset, par := .reset, last := .reset, evt := .reset, saf := .reset,
    sense := .reset, fb := .reset, obs := .reset, loop := .reset, pe := .reset, mod := .reset, gd := six .reset,
    diag := none, sm := .reset, can := ⟨.reset, .reset⟩, nt := .reset, mem := .reset, thm := .reset, bist := .reset,
    tap := .reset }

end Sys2Proof.Machine
end

