-- ==== Sys2Proof/Machine/Ops.lean ====
section
/-! DEFINITION. The operations every family shares: parameters, tags, event records, state changes, Heel orders and
the reaction classes. -/

namespace Sys2Proof.Machine
open Sys2Proof

/-! ## Time, parameters, free values -/

/-- The count of ns on which every timer of the model runs; a forward step of PT leaves it (R593). -/
def now (s : State) : Nat := s.pt.ns

/-- PT counts one nanosecond (R45). -/
def tick (s : State) : State := { s with pt := { s.pt with ns := s.pt.ns + 1 } }

/-- PT in ns (R45). -/
def ptNow (s : State) : Nat := ((s.pt.ns : Int) + s.pt.off).toNat

/-- Working value of a parameter (R540): the entry of the list, or the default. -/
def par (s : State) (k : Nat × Int) : Int :=
  match s.par.work.find? (fun e => e.1 == k.1) with
  | some e => e.2
  | none => k.2

def parN (s : State) (k : Nat × Int) : Nat := (par s k).toNat

def parOn (s : State) (k : Nat × Int) : Bool := par s k == 1

/-- Sets entry `k` of a sorted list of non-default values; the default removes the entry. -/
def putVal (k : Nat × Int) (v : Int) : List (Nat × Int) → List (Nat × Int)
  | [] => if v == k.2 then [] else [(k.1, v)]
  | e :: r =>
    if e.1 < k.1 then e :: putVal k v r
    else
      let r' := if e.1 == k.1 then r else e :: r
      if v == k.2 then r' else (k.1, v) :: r'

def setPar (k : Nat × Int) (v : Int) (s : State) : State :=
  { s with par := { s.par with work := putVal k v s.par.work } }

/-- Takes the next free value (log 2). -/
def takeFree (s : State) : Nat × State := (Config.freeNat s.free, { s with free := s.free + 1 })

/-- PT stamps of the last `win` ns, with the present one. -/
def stampIn (win t : Nat) (l : List Nat) : List Nat := (l.filter (fun x => t < x + win)) ++ [t]

/-! ## Tags of the mailbox -/

def tag (s : State) (i : Nat) : TagInfo := nth s.mbx.tags i TagInfo.reset

/-- Changes a tag and journals the change (R26). -/
def setTag (i : Nat) (f : TagInfo → TagInfo) (s : State) : State :=
  { s with
    mbx := { s.mbx with tags := upd s.mbx.tags i f }
    cp := { s.cp with journal := s.cp.journal ++ [(i, f (tag s i))] } }

/-- The field side answers the command on a tag: its reply waits to be taken up (R520). A command answered once is not
answered again (R516). -/
def answer (i : Nat) (r : Result) (s : State) : State :=
  if (tag s i).st == .running && (tag s i).reply.isNone then
    setTag i (fun t => { t with reply := some r }) s
  else s

def answerOk (i : Nat) (s : State) : State := answer i ⟨0, 0, []⟩ s

/-- The tag, if any, that runs a command of the given opcode. -/
def runningTag (s : State) (op : Nat) : Option Nat :=
  s.mbx.tags.findIdx? (fun t => t.st == .running && t.started && t.opcode == op && t.reply.isNone)

/-- Ends every running command of the given opcodes with a status and DETAIL. -/
def endOpcodes (ops : List Nat) (status detail : Nat) (s : State) : State :=
  ops.foldl (fun s o => match runningTag s o with
    | some i => answer i ⟨status, detail, []⟩ s
    | none => s) s

/-! ## Event records (17) -/

/-- The die is in reset or in lock-out and detects nothing (R658). -/
def dieDown (s : State) (d : Die) : Bool :=
  s.rst.nresetLow || match d with
    | .hb => s.supply.hbLock
    | .fc => s.supply.fcLock
    | .gd p => s.supply.gdLock.get p || !(s.gd.get p).powered

/-- MAX_CLASS and the interrupt causes of an event of class `cls` (R57, R519, R704). -/
def noteClass (cls : Nat) (s : State) : State :=
  { s with
    op := { s.op with maxClass := max s.op.maxClass (cls + 1) }
    mbx := { s.mbx with irq := if cls == 0 then s.mbx.irq
                               else if cls == 1 then s.mbx.irq ||| 2 else s.mbx.irq ||| 4 } }

/-- Codes kept in the persistent log whatever their class (R663). -/
def persistCodes : List Nat :=
  [0x1311, 0x1351, 0x1354, 0x1031, 0x1032, 0x1033, 0x5C02, 0x5371, 0x5373, 0x6002, 0x6006]

def persists (s : State) (code cls : Nat) : Bool :=
  decide (parN s P.evtPersistClass ≤ cls) || persistCodes.contains code

/-- The next SEQ, with the reservation that precedes each multiple of 1,024 (R661). -/
def nextSeq (b : RecBlock) : RecBlock :=
  { b with seq := (b.seq + 1) % 2 ^ 32, reserve := (b.seq / 1024 + 1) * 1024 }

/-- PT field and NO_PT of a record formed now on a die (R658). -/
def ptOf (s : State) : Die → Nat × Bool
  | .fc => (ptNow s, false)
  | .hb => if s.pt.hb.disciplined then (ptNow s, false) else (now s - s.pt.hbEpoch, true)
  | .gd p => if (s.pt.gd.get p).disciplined then (ptNow s, false) else (now s - s.pt.gdEpoch.get p, true)

/-- A value wider than 32 bits as two parameters, the high word first (R659). -/
def wide (v : Int) : List Int := [((tc 64 v / 2 ^ 32 : Nat) : Int), ((tc 64 v % 2 ^ 32 : Nat) : Int)]

/-- A parameter saturates to 32 bits (R659). -/
def satParam (v : Int) : Int := if v < -(2 ^ 31) then -(2 ^ 31) else if (2 ^ 32 : Int) ≤ v then 2 ^ 32 - 1 else v

def mkRec (d : Die) (code cls : Nat) (ps : List Int) (s : State) : EventRec :=
  { code := code, die := d.id, cls := cls, pt := (ptOf s d).1, noPt := (ptOf s d).2, late := false,
    persist := persists s code cls, params := ps.map satParam, seq := 0 }

/-- A record goes to the persistent queue; when the queue is full it is counted, and the first loss is event 0x6004
(R663), which itself is kept in the volatile log only; the volatile log's reserved record takes 0x6001 in its place (R665). -/
def enqueueP (r : EventRec) (s : State) : State :=
  if s.evt.pq.length < 64 then
    { s with evt := { s.evt with pq := s.evt.pq ++ [r], pqLost := 0 } }
  else
    let b := { s.evt with pOver := satInc (2 ^ 32 - 1) s.evt.pOver, pqLost := s.evt.pqLost + 1, pQueueLost := true }
    if s.evt.pqLost == 0 then
      let q : EventRec := { mkRec .hb 0x6004 1 [1] s with seq := b.seq, persist := false }
      let b := nextSeq b
      noteClass 1 { s with evt :=
        if b.vlog.length < 4095 then { b with vlog := b.vlog ++ [q] }
        else if b.vlog.length == 4095 then
          let f : EventRec := { mkRec .hb 0x6001 1 [0x6004] s with seq := b.seq, persist := false }
          let b := nextSeq { b with vlog := b.vlog ++ [f], vOver := 1 }
          (if persists s 0x6001 1 then { b with pOver := satInc (2 ^ 32 - 1) b.pOver, pqLost := b.pqLost + 1 } else b)
        else { b with vOver := satInc (2 ^ 32 - 1) b.vOver } }
    else { s with evt := b }

/-- A record is written to the volatile log, or fills its reserved record, or is counted (R665). -/
def putV (r : EventRec) (s : State) : State :=
  if s.evt.vlog.length < 4095 then { s with evt := { s.evt with vlog := s.evt.vlog ++ [r] } }
  else if s.evt.vlog.length == 4095 then
    let q : EventRec := { mkRec .hb 0x6001 1 [(r.code : Int)] s with seq := s.evt.seq }
    let b := nextSeq { s.evt with vlog := s.evt.vlog ++ [q], vOver := 1 }
    let s := noteClass 1 { s with evt := b }
    if q.persist then enqueueP q s else s
  else { s with evt := { s.evt with vOver := satInc (2 ^ 32 - 1) s.evt.vOver } }

/-- A record reaches HB: SEQ, then the logs (R661 to R663). -/
def arrive (r : EventRec) (s : State) : State :=
  let r := { r with seq := s.evt.seq, persist := persists s r.code r.cls }
  let s := putV r { s with evt := nextSeq s.evt }
  if r.persist then enqueueP r s else s

/-- FC's queue of records waiting for the HB link (R660). -/
def fcPush (r : EventRec) (s : State) : State :=
  if s.evt.fcq.length < 256 then { s with evt := { s.evt with fcq := s.evt.fcq ++ [r] } }
  else { s with evt := { s.evt with fcDropped := s.evt.fcDropped + 1, fcLost := satInc (2 ^ 32 - 1) s.evt.fcLost } }

/-- An event is detected on a die: MAX_CLASS rises and the record is formed (R660, R704). -/
def record (d : Die) (code cls : Nat) (ps : List Int) (s : State) : State :=
  if dieDown s d then s
  else
    let r := mkRec d code cls ps s
    let s := noteClass cls s
    match d with
    | .hb => arrive r s
    | _ => fcPush r s

/-- Status codes (R522). -/
def stOk : Nat := 0x00
def stBadOpcode : Nat := 0x10
def stBadLength : Nat := 0x11
def stBadIndex : Nat := 0x12
def stRange : Nat := 0x13
def stReadOnly : Nat := 0x14
def stLocked : Nat := 0x15
def stState : Nat := 0x16
def stCrc : Nat := 0x18
def stCancelled : Nat := 0x1A
def stTooLate : Nat := 0x1B
def stEmpty : Nat := 0x1C
def stFault : Nat := 0x20
def stBusError : Nat := 0x21
def stBusy : Nat := 0x22

/-! ## States (01) -/

/-- State codes (R53). -/
def OpState.code : OpState → Nat
  | .boot => 0 | .standby => 1 | .precharge => 2 | .ready => 3 | .run => 4 | .stopping => 5 | .safeHold => 6
  | .discharge => 7 | .shutdown => 8

def gatesOff : OpState → Bool
  | .run | .stopping => false
  | _ => true

/-- The time since an optional stamp has reached `ns`. -/
def heldFor (o : Option Nat) (ns : Nat) (s : State) : Bool := o.any (fun t => decide (t + ns ≤ now s))

/-- Commands one contactor; a change starts its 100 ms (R459). -/
def cmdOne (t : Nat) (want cmd : Bool) (at_ : Option Nat) : Bool × Option Nat :=
  if want == cmd then (cmd, at_) else (want, some t)

def cmdK (neg pre pos : Bool) (s : State) : State :=
  let n := cmdOne (now s) neg s.saf.kCmd.neg s.saf.kAt.neg
  let p := cmdOne (now s) pre s.saf.kCmd.pre s.saf.kAt.pre
  let q := cmdOne (now s) pos s.saf.kCmd.pos s.saf.kAt.pos
  { s with saf := { s.saf with kCmd := ⟨n.1, p.1, q.1⟩, kAt := ⟨n.2, p.2, q.2⟩ } }

/-- The contactors follow the table of R458; PRECHARGE leaves them to its sequence, and HB without its link or in
reset leaves them as they are (R462, R463). -/
def contactors (s : State) : State :=
  if s.supply.hbLock || s.saf.fcLoss.isSome then s
  else match s.op.state with
  | .precharge => s
  | .ready | .run | .stopping => cmdK true false true s
  | .safeHold =>
    match s.op.holdFrom with
    | .ready | .run | .stopping =>
      if parOn s P.safetyContOnSafe && !s.sm.xover then cmdK false false false s
      else cmdK s.saf.kCmd.neg false s.saf.kCmd.pos s
    | _ => cmdK false false false s
  | _ => cmdK false false false s

/-- FC holds a leg order (R36). -/
def anyLeg (s : State) : Bool := s.heel.legs.u || s.heel.legs.v || s.heel.legs.w

/-- The brake is commanded applied in the cases of R453; a leg order is a Heel order too (R35). -/
def brakeApplied (s : State) : Bool :=
  !parOn s P.safetyBrkEnable || !(s.op.state == .run || s.op.state == .stopping)
  || (s.op.stoActive && parOn s P.safetyBrkWithSto)
  || (s.pe.parked && par s P.profStandMode != 0)
  || ((s.heel.hb.isSome || s.heel.fc.isSome || anyLeg s) && parOn s P.safetyBrkOnHeel)
  || s.saf.fcLoss.isSome || s.supply.hbLock

/-- The brake has been commanded applied for safety.brk.apply_time (R454). -/
def brakeHeld (s : State) : Bool :=
  match s.saf.brkAt with
  | some t => !s.saf.brkRel && decide (t + parN s P.safetyBrkApplyTime * 1000000 ≤ now s)
  | none => !s.saf.brkRel

/-- Opens both brake switches when the brake is commanded applied; a test under way is abandoned (R455, R481). -/
def brake (s : State) : State :=
  if brakeApplied s then
    { s with saf := { s.saf with
        brkRel := false, brkHs := false, brkLs := false, brkTest := none
        brkAt := if s.saf.brkRel then some (now s) else s.saf.brkAt } }
  else s

/-- The forced STO input test of R446 begins. -/
def startStoTest (boot : Bool) (s : State) : State := { s with saf := { s.saf with stoTest := some boot, stoTestAt := now s } }

/-- The operating state changes and event 0x1001 is recorded (R53, R57, R703). -/
def changeState (new : OpState) (cause : Nat) (s : State) : State :=
  let old := s.op.state
  let s := { s with
    op := { s.op with state := new, prev := old,
                      holdFrom := if new == .safeHold then old else s.op.holdFrom,
                      f2Stop := s.op.f2Stop && new == .stopping
                      runClass := if new == .stopping || new == .safeHold then s.op.runClass else 0 }
    sm := { s.sm with graceSince := if new == .ready || new == .standby || new == .safeHold then none else s.sm.graceSince }
    obs := { s.obs with reacq := if new == .run then s.obs.reacq else none }
    loop := { s.loop with restarts := if new == .ready then 0 else s.loop.restarts }
    mod := { s.mod with missed := if new == .ready then 0 else s.mod.missed }
    mbx := { s.mbx with irq := s.mbx.irq ||| 8 } }
  let s := record .fc 0x1001 0 [(new.code : Int), (old.code : Int), (cause : Int)] s
  let s := brake (contactors s)
  if new == .ready then
    startStoTest false { s with saf := { s.saf with brkDue := if parOn s P.safetyBrkEnable then [true, false] else [] } }
  else if new == .run then { s with saf := { s.saf with brkTestAt := now s } }
  else s

/-! ## Barriers (R50, R52) -/

def laneUp (l : Lane) : Bool := l == .full || l == .half

/-- Peers that take part and cannot answer: their link is trained and their die is down. -/
def peersMissing (s : State) : List Nat :=
  (if dieDown s .hb && s.jx.hb.lanes.any laneUp then [0] else []) ++
  (GdPos.all.filter (fun p => dieDown s (.gd p) && (s.jx.gd.get p).lanes.any laneUp)).map GdPos.id

/-- FC closes operation `op` with a barrier; it stays open while acknowledgements are missing. -/
def closeBarrier (op : Nat) (s : State) : State :=
  if (peersMissing s).isEmpty then s
  else { s with jx := { s.jx with barriers := s.jx.barriers ++ [⟨op, peersMissing s⟩] } }

/-! ## Heel orders (01, 11) -/

/-- Severity of R35. -/
def sev : HeelOrder → Nat
  | .leg _ => 1 | .ascLow | .ascHigh => 2 | .pi => 3 | .piSoft => 4

/-- What a holder of `held` takes from a later order: only a higher severity replaces (R35, R37). -/
def takeOrder (held : Option HeelOrder) (o : HeelOrder) : Option HeelOrder :=
  match held with
  | none => some o
  | some h => if sev h < sev o then some o else some h

/-- FC_SAFE_STATUS.HELD of an order (R483). -/
def heldCode : Option HeelOrder → Nat
  | some .pi | some .piSoft => 1
  | some .ascLow => 2
  | some .ascHigh => 3
  | _ => 0

/-- The configured safe state (R436, R437). -/
def safeOrder (s : State) : HeelOrder :=
  match parN s P.safetyState with
  | 0 => .pi
  | 1 => .ascLow
  | 2 => .ascHigh
  | _ => if s.sm.xover then (if parOn s P.safetyAscSide then .ascHigh else .ascLow) else .pi

/-- What an aborted diagnostic leaves at a die: off-hold, untested pairs ABORTED (R391, R395). -/
def abortPairs (g : GdDie) : GdDie :=
  if g.trained && g.diagMode == 1 then
    { g with gate := .offHold, pairs := g.pairs.map (fun x => if x == 0 then 6 else x) }
  else g

/-- A diagnostic in progress is aborted (R391), with event 0x4C25. -/
def abortDiag (code : Nat) (s : State) : State :=
  match s.diag with
  | none => s
  | some d =>
    let s := { s with diag := none, gd := s.gd.map abortPairs }
    answer d.tag ⟨stFault, code, []⟩ (record .fc 0x4C25 0 [(code : Int)] s)

/-- The tag of a motion command. -/
def motionTag : MotionCmd → Option Nat
  | .moveAbs t _ | .moveRel t _ | .vel t _ | .torque t _ | .home t | .segExec t => some t
  | .stop => none

/-- Every motion source ends; homing and segment execution end with the status given, commands not yet taken end
ST_STATE (R308, R309, R314). -/
def endMotion (status code : Nat) (s : State) : State :=
  let s := endOpcodes [0x44, 0x46] status code s
  let s := s.pe.queue.foldl (fun s m => match motionTag m with
    | some t => answer t ⟨stState, 0, []⟩ s
    | none => s) s
  let homing := s.pe.homeTag.isSome
  let s := match s.pe.homeOld with | some v => setPar P.profHomeShift v s | none => s
  { s with pe := { s.pe with
      queue := [], plan := [], source := 0, homeTag := none, homeOld := none, homeIdx := none, segTag := none
      homePhase := if homing then 7 else s.pe.homePhase, homed := s.pe.homed && !homing, segIdx := 0
      reversing := none, reached := false, ended := false } }

/-- A phase of a start begins (R207 to R216). -/
def startPhase (p : StartPhase) (s : State) : State :=
  { s with obs := { s.obs with phase := p, phaseAt := now s, meas := .reset } }

/-- A start is given up, but for a catch that already controls; an Awl sequence in progress is idle again (R205, R225). -/
def dropStart (keepLock : Bool) (s : State) : State :=
  { s with obs := { s.obs with
      phase := if keepLock && s.obs.phase == .lock then .lock else .idle
      awl := if s.obs.phase == .awl then 0 else s.obs.awl, awlDrive := none, enableTag := none } }

/-- The switching of RUN, STOPPING or the winding path ends: no control, no patterns (R265, R267). -/
def endControl (s : State) : State :=
  let s := dropStart false s
  { s with
    mod := { s.mod with running := false, legLoss := s.mod.legLoss }
    pe := { s.pe with parked := false }
    saf := { s.saf with stop := none }
    obs := { s.obs with pattern := 0, reacq := none, rampAt := none }
    loop := { s.loop with rampT := none } }

/-- What ends with the state being left because of a fault (R55, R309, R548): the commands that run there. -/
def leaveByFault (code : Nat) (s : State) : State :=
  match s.op.state with
  | .precharge =>
    let s := endOpcodes [0x20] stFault code s
    { s with saf := { s.saf with pre := none } }
  | .ready =>
    let s := endOpcodes [0x21] stFault code s
    let s := dropStart false s
    { s with
      mod := { s.mod with charging := false, pattern := if s.mod.charging then 0 else s.mod.pattern } }
  | .run | .stopping => endControl (endMotion stFault code (endOpcodes [0x21] stFault code s))
  | .discharge =>
    let s := endOpcodes [0x24] stFault code s
    endControl { s with saf := { s.saf with dis := none, disOn := false } }
  | _ => s

/-- SAFE_HOLD is entered from any state except BOOT, SHUTDOWN and itself (R54). -/
def toSafeHold (cause : Nat) (s : State) : State :=
  match s.op.state with
  | .boot | .shutdown | .safeHold => s
  | _ => changeState .safeHold cause (leaveByFault cause s)

/-- A link has a lane for classes 0 and 1 (R32, R40, R43). -/
def linkUp (l : LinkState) : Bool := !l.lost && l.lanes.any (· == .full)

/-- FC sends an order on all seven links in parallel; a link without a full-rate lane carries none (R32, R34, R43). -/
def broadcast (o : HeelOrder) (s : State) : State :=
  { s with heel := { s.heel with
      outHb := if linkUp s.jx.hb then s.heel.outHb ++ [o] else s.heel.outHb
      out := s.heel.out.mapPos (fun p l => if linkUp (s.jx.gd.get p) then l ++ [o] else l) } }

/-- The reaction that runs rises to class `c` (R59). -/
def raiseRun (c : Nat) (s : State) : State := { s with op := { s.op with runClass := max s.op.runClass c } }

/-- FC issues a package order and enters SAFE_HOLD (R34, R35, R54). -/
def issuePackage (o : HeelOrder) (code : Nat) (s : State) : State :=
  let s := broadcast o (abortDiag code s)
  let held := takeOrder s.heel.fc o
  let s := { s with
    heel := { s.heel with fc := held, behind := if held == some o then code else s.heel.behind }
    saf := { s.saf with held := heldCode held }
    op := { s.op with speedDependent := s.op.speedDependent && held != some o } }
  brake (toSafeHold code s)

/-- LOST_LEG code of a leg: phase order from 1 (R352). -/
def legCode : Phase → Nat
  | .u => 1 | .v => 2 | .w => 3

/-- FC faults a half-bridge: a leg order, or PI_SOFT when another leg is already faulted (R36, R54, R347, R374 to
R376). `code` is the event behind it. -/
def faultLeg (p : Phase) (code : Nat) (s : State) : State :=
  let s := abortDiag code s
  if s.heel.legs.get p then s
  else if anyLeg s then
    let legs := s.heel.legs.set p true
    issuePackage .piSoft 0x4C05 (record .fc 0x4C05 4 [(bit1 legs.u + 2 * bit1 legs.v + 4 * bit1 legs.w : Int)]
      { s with heel := { s.heel with legs := legs } })
  else
    let s := raiseRun 5 (broadcast (.leg p) { s with heel := { s.heel with legs := s.heel.legs.set p true, behind := code } })
    match s.op.state with
    | .run | .stopping =>
      let s := { s with
        mod := { s.mod with legLoss := true, lostLeg := legCode p }
        loop := { s.loop with rampT := some (s.loop.tstar, now s) } }
      record .fc 0x4841 1 [(legCode p : Int), (code : Int)] s
    | _ => toSafeHold code s

/-! ## Reaction classes (R58, R59, R61) -/

/-- The Safety Monitor's speed, or the last valid one (R447). -/
def smSpeed (s : State) : Int := match s.sm.speed with | some v => v | none => s.sm.lastSpeed

/-- The F2 stop begins: the Safety Monitor's ramp from its speed at the decision (R447). -/
def startSs1 (s : State) : State :=
  { s with
    saf := { s.saf with stop := some ⟨smSpeed s, now s, smSpeed s, 0, none⟩ }
    op := { s.op with f2Stop := true } }

/-- An F2 fault acts by the state of its detection (R61); it does not change a running reaction of a higher class
(R59). -/
def f2React (code : Nat) (s : State) : State :=
  if 3 < s.op.runClass then s
  else
  let s := abortDiag code s
  match s.op.state with
  | .precharge => changeState .standby code (leaveByFault code s)
  | .ready => toSafeHold code (raiseRun 3 s)
  | .run =>
    let s := endMotion stFault code (endOpcodes [0x21] stFault code s)
    let s := dropStart true s
    let s := { s with mod := { s.mod with charging := false } }
    startSs1 (changeState .stopping code (raiseRun 3 s))
  | .stopping => if s.op.f2Stop then s else startSs1 (endMotion stFault code (raiseRun 3 s))
  | _ => s

/-- An F3 fault: the configured safe state as a Heel order and SAFE_HOLD (R54, R58); it does not change a running F4
reaction (R59). -/
def f3React (code : Nat) (s : State) : State :=
  match s.op.state with
  | .boot | .shutdown => s
  | _ =>
    if 4 < s.op.runClass then s
    else
    let sd := decide (3 ≤ parN s P.safetyState) && s.sm.xover
    let o := safeOrder s
    let s := issuePackage o code (raiseRun 4 s)
    { s with op := { s.op with speedDependent := s.op.speedDependent || (sd && s.heel.fc == some o) } }

/-- An F4 fault whose order is a package order (R54, R58). -/
def f4React (o : HeelOrder) (code : Nat) (s : State) : State :=
  match s.op.state with
  | .boot | .shutdown => s
  | _ => issuePackage o code (raiseRun 5 s)

/-- An event of class F0 to F3 is detected: its record, then its reaction. A die that is down detects nothing. -/
def detect (d : Die) (code cls : Nat) (ps : List Int) (s : State) : State :=
  if dieDown s d then s
  else
    let s := record d code cls ps s
    match cls with
    | 2 => f2React code s
    | 3 => f3React code s
    | _ => s

/-- Sets DEGRADED (R57). -/
def degrade (s : State) : State := { s with op := { s.op with degraded := true } }

/-! ## The Insole's newest journal (02) -/

/-- Changes the newest journal's entries. -/
def onJournal (f : List InsoleEntry → List InsoleEntry) (s : State) : State :=
  match s.boot.insole with
  | [] => s
  | j :: r => { s with boot := { s.boot with insole := { j with entries := f j.entries } :: r } }

/-- The place of a step's own entry. -/
def stepEntry (step : Nat) (l : List InsoleEntry) : Option Nat := l.findIdx? (fun x => x.step == step && x.status != 0)

/-- Bytes 0 to 11 of an entry are written first: PT and the boot number; a new entry still reads STATUS 0x00. A journal
holds 32 entries (R88, R89). -/
def journalPt (step : Nat) (s : State) : State :=
  onJournal (fun l => match stepEntry step l with
    | some k => upd l k (fun e => { e with pt := ptNow s })
    | none => if l.length < 32 then l ++ [⟨ptNow s, 0, 0, 0⟩] else l) s

/-- Bytes 12 to 15 follow as one word (R89). -/
def journalWord (step status detail : Nat) (s : State) : State :=
  onJournal (fun l => match stepEntry step l with
    | some k => upd l k (fun e => { e with step := step, status := status, detail := detail })
    | none => match l.findIdx? (fun x => x.status == 0) with
      | some k => upd l k (fun e => { e with step := step, status := status, detail := detail })
      | none => l) s

/-- The entry of a step in the newest journal takes a status and DETAIL (R88, R89). -/
def journalSet (step status detail : Nat) (s : State) : State := journalWord step status detail (journalPt step s)

/-- A further entry of a link step, which names a lane (R88). -/
def journalLane (step status detail : Nat) (s : State) : State :=
  onJournal (fun l => if l.length < 32 then l ++ [⟨ptNow s, step, status, detail⟩] else l) s

/-- A meaning that always answers. -/
def ok (s : State) : Host.Outcome State Fault Refusal := .next s

end Sys2Proof.Machine
end

