-- ==== Sys2Proof/Machine/Mailbox.lean ====
section
/-! DEFINITION. Eyelets, tags, doorbells, completions and the completion interrupt (12). -/

namespace Sys2Proof.Machine
open Sys2Proof

def eyelet (s : State) (t off n : Nat) : List Byte := memRead s.mbx.mem (eyeletAt t + off) n

/-- The command header of R507, as the Eyelet holds it. -/
structure Header where
  opcode : Nat
  tagField : Nat
  ordered : Bool
  noIrq : Bool
  interim : Bool
  len : Nat
  seq : Nat
  crc : Nat
  deriving DecidableEq, Repr

def header (s : State) (t : Nat) : Header :=
  let b := eyelet s t 0 16
  let f := (nth b 2 0).toNat
  { opcode := (nth b 0 0).toNat, tagField := (nth b 1 0).toNat % 128, ordered := bitOf f 2, noIrq := bitOf f 1,
    interim := bitOf f 0, len := beNat [nth b 4 0, nth b 5 0],
    seq := beNat [nth b 8 0, nth b 9 0, nth b 10 0, nth b 11 0], crc := beNat [nth b 14 0, nth b 15 0] }

/-- The CRC of R507 over bytes 0 to 13 and the LENGTH payload bytes. -/
def headerCrc (s : State) (t : Nat) : Nat :=
  crc16 (eyelet s t 0 14 ++ eyelet s t 16 (header s t).len)

/-- The payload of the command on a tag, by its admitted LENGTH. -/
def payload (s : State) (t : Nat) : List Byte := eyelet s t 16 (tag s t).len

def writeMem (a : Nat) (l : List Byte) (s : State) : State :=
  { s with mbx := { s.mbx with mem := memWrite s.mbx.mem a l } }

/-! ## Completions -/

/-- A completion entry (R515). -/
structure Entry where
  viol : Bool
  tag : Nat
  status : Nat
  opcode : Nat
  resp : Bool
  interim : Bool
  respLen : Nat
  detail : Nat
  seq : Nat
  deriving DecidableEq, Repr

def entryBytes (s : State) (e : Entry) : List Byte :=
  beBytes 1 (bit1 e.viol * 128 + e.tag) ++ beBytes 1 e.status ++ beBytes 1 e.opcode ++
  beBytes 1 (bit1 (bitOf s.mbx.tail 9) * 4 + bit1 e.resp * 2 + bit1 e.interim) ++
  beBytes 2 e.respLen ++ beBytes 2 e.detail ++ beBytes 4 e.seq ++ beBytes 4 (ptNow s / 1000)

/-- The entry is written, then the tail advances (R514). -/
def postEntry (e : Entry) (s : State) : State :=
  let s := writeMem (ringAt (s.mbx.tail % 512)) (entryBytes s e) s
  { s with mbx := { s.mbx with tail := (s.mbx.tail + 1) % 1024 } }

/-- Entries not yet released. -/
def ringUsed (s : State) : Nat := (s.mbx.tail + 1024 - s.mbx.head) % 1024

/-- A posted completion counts toward CQ unless its command has NO_IRQ (R519). -/
def countCq (noIrq : Bool) (s : State) : State :=
  if noIrq then s
  else
    let n := s.mbx.coalCount + 1
    let first := s.mbx.coalSince.isNone && s.mbx.irq % 2 == 0
    { s with mbx := { s.mbx with
        coalCount := n
        coalSince := if first then some (now s) else s.mbx.coalSince
        irq := if parN s P.portIrqCoalN ≤ n then s.mbx.irq ||| 1 else s.mbx.irq } }

/-- A final completion: response payload, entry, DONE, the Eyelet marked empty (R506, R510, R512, R516). -/
def finish (i : Nat) (r : Result) (s : State) : State :=
  let t := tag s i
  let s := writeMem (eyeletAt i + 16) r.resp s
  let ptr := s.mbx.tail
  let s := postEntry ⟨false, i, r.status, t.opcode, !r.resp.isEmpty, false, r.resp.length, r.detail, t.seq⟩ s
  let s := setTag i (fun t => { t with st := .done, final := some ptr, reply := none }) s
  countCq t.noIrq { s with mbx := { s.mbx with
    empty := upd s.mbx.empty i (fun _ => true)
    completed := satInc (2 ^ 32 - 1) s.mbx.completed
    rr := s.mbx.rr.filter (· != i) } }

def finishSt (i status : Nat) (s : State) : State := finish i ⟨status, 0, []⟩ s

/-- The interim completion, posted once when asked for (R507, R516). -/
def postInterim (i : Nat) (s : State) : State :=
  let t := tag s i
  if t.interim && !t.interimPosted then
    let s := postEntry ⟨false, i, 0x01, t.opcode, false, true, 0, 0, t.seq⟩ s
    countCq t.noIrq (setTag i (fun t => { t with interimPosted := true }) s)
  else s

/-- Records a host-port event at most once in 10 ms per code; its class always counts (R527, R704). -/
def recordPort (code cls : Nat) (ps : List Int) (s : State) : State :=
  match s.port.lastRec.find? (fun e => e.1 == code) with
  | some e =>
    if now s < e.2 + 10000000 then noteClass cls s
    else record .hb code cls ps { s with port := { s.port with
      lastRec := (code, now s) :: s.port.lastRec.filter (fun e => e.1 != code) } }
  | none => record .hb code cls ps { s with port := { s.port with lastRec := (code, now s) :: s.port.lastRec } }

/-- A violation report, posted while at least 257 entries would remain free after it, otherwise lost (R517). -/
def violation (i status : Nat) (s : State) : State :=
  if ringUsed s + 1 + 257 ≤ 512 then
    let s := postEntry ⟨true, i, status, 0, false, false, 0, 0, 0⟩ s
    { s with mbx := { s.mbx with irq := s.mbx.irq ||| 32, violations := satInc (2 ^ 32 - 1) s.mbx.violations } }
  else
    let s := { s with mbx := { s.mbx with irq := s.mbx.irq ||| 64, violLost := satInc 255 s.mbx.violLost } }
    recordPort 0x1408 1 [(i : Int), (status : Int)] s

/-! ## Doorbells and admission -/

/-- The Command Processor pair is held in reset (R28, R528). -/
def cpDown (s : State) : Bool := s.pairs.cp.held

def ringBell (i : Nat) (s : State) : State :=
  let n := s.mbx.bellNo
  let s := setTag i (fun _ => { TagInfo.reset with st := .queued, bell := n }) s
  let s := { s with mbx := { s.mbx with bellNo := n + 1 } }
  if s.pairs.cp.restarting then { s with cp := { s.cp with heldBells := s.cp.heldBells ++ [i] } }
  else { s with mbx := { s.mbx with bells := s.mbx.bells ++ [i] } }

/-- Tag in use: counted, recorded and reported (R511, R526). -/
def tagBusy (i : Nat) (s : State) : State :=
  let s := { s with mbx := { s.mbx with errBusy := satInc 255 s.mbx.errBusy } }
  violation i 0x17 (recordPort 0x1413 0 [(i : Int)] s)

/-- An admission check fails: final completion, with its counter and event (R513, R526). -/
def refuse (i status check : Nat) (s : State) : State :=
  let s :=
    if status == stCrc then
      recordPort 0x1411 0 [(i : Int), (check : Int)] { s with mbx := { s.mbx with errCrc := satInc 255 s.mbx.errCrc } }
    else if status == stBadOpcode then
      recordPort 0x1412 0 [(i : Int), ((tag s i).opcode : Int)]
        { s with mbx := { s.mbx with errOp := satInc 255 s.mbx.errOp } }
    else s
  finish i ⟨status, 0, []⟩ s

/-- Every command doorbelled before the tag has its final completion posted (R520). -/
def earlierDone (s : State) (i : Nat) : Bool :=
  s.mbx.tags.all (fun t => !(t.st == .queued || t.st == .running) || decide ((tag s i).bell ≤ t.bell))

/-- The command on a tag may start now (R520): admitted, not started, and its ORDERED condition holds. -/
def canStart (s : State) (i op : Nat) : Bool :=
  let t := tag s i
  !cpDown s && !s.pairs.cp.restarting && t.admitted && !t.started && t.opcode == op &&
  (t.st == .running || (t.st == .queued && earlierDone s i))

/-- The command starts: RUNNING, first step taken. -/
def start (i : Nat) (s : State) : State :=
  setTag i (fun t => { t with st := .running, started := true, steps := 1 }) s

/-- A one-step command of HB runs: `f` gives its result and the state it leaves. -/
def oneStep (i op : Nat) (f : State → Result × State) (s : State) : State :=
  if canStart s i op then
    let r := f (start i s)
    finish i r.1 r.2
  else s

/-- A one-step command that touches the field side: its effect is FC's, and its reply is taken up later (R520). -/
def fieldStep (i op : Nat) (f : State → Result × State) (s : State) : State :=
  if canStart s i op then
    let r := f (start i s)
    setTag i (fun t => { t with reply := some r.1 }) r.2
  else s

/-- A long command starts: `f` gives a refusal, or the state in which it runs on. -/
def longStep (i op : Nat) (f : State → State ⊕ (Result × State)) (s : State) : State :=
  if canStart s i op then
    match f (start i s) with
    | .inl s => { s with mbx := { s.mbx with rr := s.mbx.rr ++ [i] } }
    | .inr r => finish i r.1 r.2
  else s

/-- A refusal of a command: a status without a response. -/
def no (st : Nat) (s : State) : Result × State := (⟨st, 0, []⟩, s)
def noD (st d : Nat) (s : State) : Result × State := (⟨st, d, []⟩, s)
def yes (s : State) : Result × State := (⟨0, 0, []⟩, s)

/-- The long commands: those marked "Multi" in R548. -/
def longOps : List Nat :=
  [0x18, 0x20, 0x21, 0x24, 0x30, 0x31, 0x32, 0x33, 0x34, 0x44, 0x46, 0x50, 0x60, 0x62, 0x78, 0x79, 0x80, 0x83, 0x84]

/-- A waiting reply is taken up as a step; for a long command it is its second step or a later one (R507, R520). -/
def takeOne (i : Nat) (s : State) : State :=
  let t := tag s i
  match t.st, t.reply with
  | .running, some r => finish i r (if longOps.contains t.opcode then postInterim i s else s)
  | _, _ => s

/-- The target a CANCEL on tag `i` names (R508). -/
def cancelTarget (s : State) (i : Nat) : Nat := (nth (payload s i) 0 0).toNat % 128

/-- A CANCEL on tag `k` waits with its answer for target `i`. -/
def cancels (s : State) (i k : Nat) : Bool :=
  let t := tag s k
  t.st == .running && t.started && t.opcode == 0x01 && t.reply.isSome && cancelTarget s k == i

/-- The class-2 reply waiting for a command is taken up as a short step (R520). A target and the CANCEL that waited for it
end in one step, the target first (R523). -/
def takeReply (i : Nat) (s : State) : State :=
  if cpDown s || s.pairs.cp.restarting then s
  else
    let first := if (tag s i).opcode == 0x01 then cancelTarget s i else i
    let waiting := (List.range 128).filter (cancels s first)
    waiting.foldl (fun s k => takeOne k s) (takeOne first (if first == i || waiting.contains i then s else takeOne i s))

end Sys2Proof.Machine
end

