-- ==== Sys2Proof/Machine/Params.lean ====
section
/-! DEFINITION. The parameter dictionary at work: lookup, encodings, the judgement of a write, its effects (13). -/

namespace Sys2Proof.Machine
open Sys2Proof Sys2Proof.Dict

/-! ## Lookup and encodings -/

def rowsOf (idx : Nat) : List Row := rows.filter (fun r => r.idx == idx)

def findRow (idx sub : Nat) : Option Row :=
  rows.find? (fun r => r.idx == idx && decide (r.lo ≤ sub) && decide (sub ≤ r.hi))

/-- Highest subindex defined at an index (R533); 0 when the index is not defined. -/
def topSub (idx : Nat) : Nat := (rowsOf idx).foldl (fun m r => max m r.hi) 0

/-- A defined entry: subindex 0x00 of a defined index, or a subindex of a row (R533). -/
def isDefined (idx sub : Nat) : Bool := if sub == 0 then decide (0 < topSub idx) else (findRow idx sub).isSome

def rowDflt (r : Row) (sub : Nat) : Int :=
  match r.dflt with
  | [d] => d
  | l => nth l (sub - r.lo) 0

def keyOf (idx sub : Nat) : Nat := idx * 256 + sub

/-- Width in bytes of a type code (R535). -/
def typeWidth (ty : Nat) : Nat :=
  if ty == 0x01 || ty == 0x11 then 1 else if ty == 0x02 || ty == 0x12 then 2
  else if ty == 0x03 || ty == 0x13 then 4 else 8

def typeSigned (ty : Nat) : Bool := decide (0x11 ≤ ty) && decide (ty ≤ 0x14)

/-- Width in bytes at which a value is packed in a block (R554); the one array has seven elements. -/
def packWidth (ty : Nat) : Nat := if ty == 0x21 then 7 else typeWidth ty

/-- The 8-byte value field of R536. -/
def valueBytes (v : Int) : List Byte := beBytes 8 (tc 64 v)

/-- The value of an 8-byte field for a type (R536). -/
def fieldValue (ty raw : Nat) : Int := if typeSigned ty then sx 64 raw else (raw : Int)

/-- A value packed at its natural width (R554). -/
def packBytes (ty : Nat) (v : Int) : List Byte :=
  if ty == 0x21 then beBytes 7 (v.toNat / 256) else beBytes (typeWidth ty) (tc (8 * typeWidth ty) v)

def unpackValue (ty : Nat) (l : List Byte) : Int :=
  if typeSigned ty then sx (8 * typeWidth ty) (beNat l) else (beNat l : Int)

def inRng (v : Int) : Rng → Bool
  | .iv lo hi => decide (lo ≤ v) && decide (v ≤ hi)
  | .zeroOr lo hi => v == 0 || (decide (lo ≤ v) && decide (v ≤ hi))
  | .oneOf l => l.contains v

/-- Lanes of a link trained at full rate (R43). -/
def fullLanes (l : LinkState) : Nat := (l.lanes.filter (· == .full)).length

def lanes7 (s : State) : List Nat := fullLanes s.jx.hb :: (s.jx.gd.list.map fullLanes)

/-- The number of defined entries (R534). -/
def dictCount : Nat :=
  rows.foldl (fun n r => n + (r.hi + 1 - r.lo)) 0 + (rows.map (fun r => r.idx)).eraseDups.length

/-- HB_IDENT of stepping B1 (R6). -/
def identWord : Nat := 0x5A781221

/-- Values that the GKT8 computes (R9, R10, R11, R87, R138, R530, R558, R626, R655, R672), before the working values. -/
def computed (s : State) (k : Nat) : Option Int :=
  if k == 0x100001 then some identWord
  else if k == 0x100002 then some s.id.serial
  else if k == 0x100101 then some s.id.running
  else if k == 0x100102 then some s.id.staged
  else if k == 0x100201 then some (if s.last.sealed then s.last.code else 0)
  else if k == 0x100301 then some dictCount
  else if k == 0x100401 then some s.par.storeSeq
  else if k == 0x101101 then some s.boot.number
  else if k == 0x140201 then some s.mbx.completed
  else if k == 0x140202 then some s.mbx.violations
  else if k == 0x180003 then some (((lanes7 s).foldl (fun a n => a * 256 + n) 0 * 256 : Nat) : Int)
  else if k == 0x204001 then some s.sense.disturbedCount
  else if k == 0x386001 then some (if s.loop.commit.isEmpty then 0 else 1)
  else if k == 0x401001 then some s.pe.segs.length
  else if k == 0x542002 then some s.last.pending
  else if k == 0x542003 then some 0
  else if k == 0x582A01 then some s.can.a.filt.length
  else if k == 0x582A02 then some s.can.b.filt.length
  else if k == 0x5C0201 then some s.mem.corrected
  else if k == 0x5C0202 then some s.mem.uncorrected
  else if k == 0x5C0203 then some s.mem.repairs
  else if k == 0x5F0001 then some (s.bist.pass + if s.bist.complete then 128 else 0)
  else if k == 0x5F0002 then some s.bist.kind
  else if k == 0x5F0003 then some s.bist.duration
  else if k == 0x5F0004 then some s.bist.coverage
  else if k == 0x5F0005 then some s.bist.boot
  else if k == 0x600101 then some s.evt.vlog.length
  else if k == 0x600102 then some s.evt.plog.length
  else if k == 0x600103 then some s.evt.vOver
  else if k == 0x600104 then some s.evt.pOver
  else if k == 0x600105 then some s.evt.fcLost
  else none

/-- The value and type of a defined entry (R533, R539, R540). -/
def readEntry (s : State) (idx sub : Nat) : Option (Nat × Int) :=
  if sub == 0 then (if 0 < topSub idx then some (0x01, (topSub idx : Int)) else none)
  else match findRow idx sub with
    | none => none
    | some r =>
      match computed s (keyOf idx sub) with
      | some v => some (r.ty, v)
      | none => some (r.ty, par s (keyOf idx sub, rowDflt r sub))

/-- Defined indexes whose working values the field side holds: every group of R532 but system, host port, CAN and recorder
(R86, R543; DEDUCED, log 13). An undefined index belongs to no side and ends ST_BAD_INDEX (R16). -/
def fieldIndex (idx : Nat) : Bool :=
  ((0x1800 ≤ idx && idx ≤ 0x57FF) || (0x5C00 ≤ idx && idx ≤ 0x5FFF)) && decide (0 < topSub idx)

/-! ## Judging a write (R541, R542) -/

/-- One entry of a write: index, subindex, type code given, value. -/
structure Wr where
  idx : Nat
  sub : Nat
  ty : Nat
  val : Int
  deriving DecidableEq, Repr

def Wr.key (w : Wr) : Nat := keyOf w.idx w.sub

/-- A gain table's index (R241). -/
def isTable (idx : Nat) : Bool :=
  [P.loopIqKpTab, P.loopIqKiTab, P.loopIdKpTab, P.loopIdKiTab, P.loopMtpaIdTab, P.loopSpdKpTab, P.loopSpdKiTab,
   P.loopPosKpTab].contains idx

/-- The value an entry has, or would have after the writes of one command. -/
def wouldBe (s : State) (ws : List Wr) (k : Nat × Int) : Int :=
  match ws.reverse.find? (fun w => w.key == k.1) with
  | some w => w.val
  | none => par s k

/-- R128: no trip level above 95 % of the full scale of a current channel with a non-zero path A gain. -/
def tripOk (s : State) (ws : List Wr) (c : Nat) : Bool :=
  let g := wouldBe s ws (P.senseGainARaw (c + 1))
  let n := (wouldBe s ws (P.senseGainAShift (c + 1))).toNat
  let t := wouldBe s ws P.senseOcTrip
  g == 0 || decide (t * 65536 * 2 ^ n * 100 ≤ 95 * 8192 * (g.natAbs : Int))

/-- The write checks of the owning chapters under check 5 of R542. -/
def ownerOk (s : State) (ws : List Wr) (w : Wr) : Bool :=
  if w.key == P.senseOcTrip.1 then (List.range 6).all (tripOk s ws)
  else if (w.idx == 0x2000 || w.idx == 0x2001) && w.sub ≤ 6 then tripOk s ws (w.sub - 1)
  else if w.key == P.fbSrcPrimary.1 || w.key == P.fbSrcSecondary.1 then                     -- R141
    let a := wouldBe s ws P.fbSrcPrimary
    let b := wouldBe s ws P.fbSrcSecondary
    a == 0 || a != b
  else if w.idx == 0x4C52 || w.idx == 0x4C53 then                                             -- R396
    decide (wouldBe s ws (P.gdDiagTrMin w.sub) < wouldBe s ws (P.gdDiagTrMax w.sub))
  else if w.key == P.loopTabCommit.1 then w.val == 1                                          -- R242
  else if w.idx == 0x582A then decide (w.val ≤ (if w.sub == 1 then s.can.a.filt.length else s.can.b.filt.length))
  else if w.key == P.safetyLastConfirm.1 then                                                 -- R479
    ws.length == 1 && s.last.pending != 0 && w.val == (s.last.pending : Int)
  else true

/-- State check 4 of R542 beyond the Last store: the gates-off parameters (R110, R324) and the seal (R479). -/
def stateOk (s : State) (w : Wr) : Bool :=
  if w.key == P.senseBOsr.1 then gatesOff s.op.state
  else if w.key == P.modFsw.1 then
    match s.op.state with
    | .boot | .standby | .ready | .safeHold => true
    | _ => false
  else if w.key == P.safetyLastConfirm.1 then s.op.state == .standby
  else true

/-- Parameters that R562 ties to a channel's mode: can.ch.mode and the bit timing. -/
def canTiming (idx : Nat) : Bool :=
  idx == 0x5801 || (decide (0x5804 ≤ idx) && decide (idx ≤ 0x5808)) || (decide (0x5810 ≤ idx) && decide (idx ≤ 0x5822))

def canSettable (m : CanMode) : Bool := m == .off || m == .listen || m == .busOff

/-- The six checks of R542 on one entry: the status of the first that fails. -/
def judge (s : State) (ws : List Wr) (w : Wr) : Option Nat :=
  if !isDefined w.idx w.sub then some stBadIndex
  else match (if w.sub == 0 then none else findRow w.idx w.sub) with
    | none => some stReadOnly
    | some r =>
      if r.access == 1 then some stReadOnly
      else if r.store == 2 && s.last.sealed then some stLocked
      else if (r.store == 2 && s.op.state != .standby) || !stateOk s w then some stState
      else if w.ty != r.ty || !inRng w.val r.rng || !ownerOk s ws w then some stRange
      else if (isTable w.idx || w.key == P.loopTabCommit.1) && !s.loop.commit.isEmpty then some stBusy
      else if r.store == 2 && s.last.computing.isSome then some stBusy
      else if w.key == P.profHomeShift.1 && s.pe.homeTag.isSome then some stBusy
      else if canTiming w.idx && !canSettable (if w.sub == 1 then s.can.a.mode else s.can.b.mode) then some stBusy
      else none

/-- The first entry that fails, counted from 1, with its status. -/
def firstFail (s : State) (ws : List Wr) (n : Nat) : List Wr → Option (Nat × Nat)
  | [] => none
  | w :: r => match judge s ws w with
    | some st => some (n, st)
    | none => firstFail s ws (n + 1) r

/-! ## Effects of a write -/

def deviceKeys (idx : Nat) : Bool := idx == 0x2004 || idx == 0x2005

def isDevice (k : Nat) : Bool := deviceKeys (k / 256) || k == P.fbSsiRateLast.1

/-- The newer valid copy of a store (R544). -/
def newest (a b : Option StoreCopy) : Option StoreCopy :=
  match a, b with
  | some x, some y =>
    if x.valid && y.valid then (if x.seq < y.seq then some y else some x)
    else if x.valid then some x else if y.valid then some y else none
  | some x, none => if x.valid then some x else none
  | none, some y => if y.valid then some y else none
  | none, none => none

/-- Writes a store's older or invalid copy with the next sequence number (R544). -/
def writeCopy (a b : Option StoreCopy) (vals : List (Nat × Int)) : Option StoreCopy × Option StoreCopy :=
  let seq := match newest a b with | some c => c.seq + 1 | none => 1
  let c : Option StoreCopy := some ⟨seq, true, vals⟩
  match a, b with
  | some x, some y =>
    if !x.valid then (c, b) else if !y.valid then (a, c) else if x.seq < y.seq then (c, b) else (a, c)
  | some x, none => if x.valid then (a, c) else (c, b)
  | none, _ => (c, b)

/-- The device record takes the present values of its parameters (R540). -/
def saveDevice (s : State) : State :=
  let vals := s.par.work.filter (fun e => isDevice e.1)
  let c := writeCopy s.par.devA s.par.devB vals
  { s with par := { s.par with devA := c.1, devB := c.2 } }

/-- round half away from zero of n / d, d > 0. -/
def divRound (n d : Int) : Int :=
  if d == 0 then 0 else if 0 ≤ n then (2 * n + d) / (2 * d) else -((2 * -n + d) / (2 * d))

/-- H for a switching frequency, in 125 ps units (R323). -/
def halfOf (fsw : Int) : Nat := (divRound 4000000000 fsw).toNat

/-- The carrier takes a new period and a new origin: a valley falls 2 µs after the PT of acceptance, so the next trigger
begins a rising half period; a barrier closes the exchange (R52, R325). -/
def setCarrier (s : State) : State :=
  closeBarrier 2 { s with mod := { s.mod with
    h := halfOf (par s P.modFsw), origin := ptNow s + 2000, up := false } }

/-- The seal of R479: image first, code last; event 0x5371. -/
def sealLast (s : State) : State :=
  let image := s.par.work.filter (fun e => match findRow (e.1 / 256) (e.1 % 256) with
    | some r => r.store == 2
    | none => false)
  record .hb 0x5371 0 [(s.last.pending : Int)]
    { s with
      last := { s.last with sealed := true, code := s.last.pending, image := image }
      op := { s.op with commissioning := false } }

/-- A write of a Last-store value withdraws the pending code (R478). -/
def touchLast (r : Dict.Row) (s : State) : State :=
  if r.store == 2 then { s with last := { s.last with pending := 0 } } else s

/-- Copying of the changed shadow tables begins (R242). -/
def commitTables (s : State) : State := { s with loop := { s.loop with commit := s.loop.changed, copied := 0 } }

/-- The channel of a per-channel parameter, by subindex (R534). -/
def Wr.chan (w : Wr) : Ch := if w.sub == 1 then .a else .b

/-- A smaller can.filt.count drops the filter entries beyond it (R572). -/
def cutFilters (w : Wr) (s : State) : State :=
  let ch := s.can.get w.chan
  { s with can := s.can.set w.chan { ch with filt := ch.filt.take w.val.toNat } }

/-- A written shadow table counts as changed (R242). -/
def noteTable (w : Wr) (s : State) : State :=
  if isTable w.idx && !s.loop.changed.contains w.idx
  then { s with loop := { s.loop with changed := s.loop.changed ++ [w.idx] } } else s

/-- A written home shift clears HOMED (R288). -/
def noteShift (w : Wr) (s : State) : State :=
  if w.key == P.profHomeShift.1 then { s with pe := { s.pe with homed := false } } else s

/-- The triple sampling of a listening channel follows its parameter (R562). -/
def noteTriple (w : Wr) (s : State) : State :=
  let ch := s.can.get w.chan
  if w.idx == 0x5808 && ch.mode == .listen then { s with can := s.can.set w.chan { ch with triple := w.val != 0 } } else s

/-- A scrub pass begins with the mem.scrub.period of that moment (R616, R626). -/
def startPass (t period : Nat) (m : MemCtl) : MemCtl := { m with pos := 0, passAt := t, period := period, latched := false }

/-- Passes begin anew where mem.scrub.enable is set (R617). -/
def noteScrub (w : Wr) (old : Int) (s : State) : State :=
  if w.key == P.memScrubEnable.1 && old == 0 && w.val == 1 then
    { s with mem := { s.mem with ctl := s.mem.ctl.map (startPass (now s) (parN s P.memScrubPeriod)) } }
  else s

/-- A value that changes mod.fsw moves the carrier (R324, R325). -/
def noteCarrier (w : Wr) (old : Int) (s : State) : State :=
  if w.key == P.modFsw.1 && old != w.val then setCarrier s else s

/-- One accepted entry takes effect (R242, R324, R478, R479, R540, R572). -/
def applyWr (s : State) (w : Wr) : State :=
  match findRow w.idx w.sub with
  | none => s
  | some r =>
    let s := touchLast r s
    if w.key == P.safetyLastConfirm.1 then sealLast s
    else if w.key == P.loopTabCommit.1 then commitTables s
    else if w.idx == 0x582A then cutFilters w s
    else
      let s := noteTriple w (noteShift w (noteScrub w (par s P.memScrubEnable) (noteCarrier w (par s P.modFsw)
        (noteTable w (setPar (w.key, rowDflt r w.sub) w.val s)))))
      if isDevice w.key then saveDevice s else s

/-- The halves of the MTPA table agree in the shadow bank (R254). -/
def mtpaOk (s : State) : Bool :=
  (List.range 33).all (fun k =>
    par s (P.loopMtpaIdTab * 256 + 1 + k, 0) == par s (P.loopMtpaIdTab * 256 + 0x41 + k, 0))

/-- A commit carries an MTPA table that will be refused at its boundary (R254). -/
def commitRefused (ws : List Wr) (s : State) : Bool :=
  ws.any (fun w => w.key == P.loopTabCommit.1) && s.loop.commit.contains P.loopMtpaIdTab && !mtpaOk s

/-- Judges and writes all entries together, or none (R542). A commit with a refused table ends ST_RANGE, and the other tables
are copied (R254, log 13). -/
def writeAll (ws : List Wr) (s : State) : Result × State :=
  match firstFail s ws 1 ws with
  | some (n, st) =>
    let s := match nth ws (n - 1) ⟨0, 0, 0, 0⟩ with
      | w => if w.key == P.safetyLastConfirm.1 && st == stRange
             then record .hb 0x5372 1 [w.val, (s.last.pending : Int)] s else s
    (⟨st, n, []⟩, s)
  | none =>
    let s := ws.foldl applyWr s
    if commitRefused ws s then (⟨stRange, ws.findIdx (fun w => w.key == P.loopTabCommit.1) + 1, []⟩, s) else yes s

/-- Entries of a PARAM_WRITE payload (R552). -/
def wrEntries : List Byte → List Wr
  | a :: b :: c :: d :: e :: f :: g :: h :: i :: j :: k :: l :: r =>
    let ty := d.toNat
    ⟨beNat [a, b], c.toNat, ty, fieldValue ty (beNat [e, f, g, h, i, j, k, l])⟩ :: wrEntries r
  | _ => []

/-- Index and subindex pairs of a PARAM_READ payload (R552). -/
def rdEntries : List Byte → List (Nat × Nat)
  | a :: b :: c :: _ :: r => (beNat [a, b], c.toNat) :: rdEntries r
  | _ => []

/-- The response of PARAM_READ, or the number of the first undefined entry (R552). -/
def readAll (s : State) (n : Nat) : List (Nat × Nat) → Nat ⊕ List Byte
  | [] => .inr []
  | (i, u) :: r =>
    match readEntry s i u with
    | none => .inl n
    | some (ty, v) => match readAll s (n + 1) r with
      | .inl m => .inl m
      | .inr l => .inr (beBytes 2 i ++ beBytes 1 u ++ beBytes 1 ty ++ valueBytes v ++ l)

/-! ## Descriptors and blocks (R553, R554) -/

/-- Defined subindexes of an index in ascending order, subindex 0 included. -/
def subsOf (idx : Nat) : List Nat :=
  if topSub idx == 0 then [] else (List.range (topSub idx + 1)).filter (isDefined idx)

/-- Every defined index, ascending. -/
def indexes : List Nat := (rows.map (fun r => r.idx)).eraseDups

/-- Defined entries in ascending order from a start. -/
def entriesFrom (idx sub : Nat) : List (Nat × Nat) :=
  (indexes.filter (fun i => decide (idx ≤ i))).flatMap
    (fun i => ((subsOf i).filter (fun u => decide (idx < i) || decide (sub ≤ u))).map (fun u => (i, u)))

def rngLo : Rng → Int
  | .iv lo _ => lo
  | .zeroOr _ _ => 0
  | .oneOf l => nth l 0 0

def rngHi : Rng → Int
  | .iv _ hi => hi
  | .zeroOr _ hi => hi
  | .oneOf l => l.foldl max 0

/-- The Default column of an entry that is not DYN; sys.fw.running's is the version that runs (R9). -/
def defaultOf (s : State) (r : Row) (sub : Nat) : Int :=
  if r.dyn then 0 else if r.idx == 0x1001 && sub == 1 then (s.id.running : Int) else rowDflt r sub

/-- The 32-byte descriptor of R553. -/
def descriptor (s : State) (idx sub : Nat) : List Byte :=
  match (if sub == 0 then none else findRow idx sub) with
  | none => beBytes 2 idx ++ beBytes 1 sub ++ beBytes 1 0x01 ++ beBytes 1 0x01 ++ beBytes 3 0 ++ valueBytes 0 ++
      valueBytes 255 ++ valueBytes (topSub idx)
  | some r =>
    let flags := r.access + 4 * r.store + 16 * r.scope + 64 * bit1 r.gatesOff + 128 * bit1 r.dyn
    beBytes 2 idx ++ beBytes 1 sub ++ beBytes 1 r.ty ++ beBytes 1 flags ++ beBytes 3 0 ++ valueBytes (rngLo r.rng) ++
      valueBytes (rngHi r.rng) ++ valueBytes (defaultOf s r sub)

/-- The entries of a run of defined subindexes (R554): none when it passes the last one. -/
def runOf (idx first count : Nat) : Option (List Nat) :=
  let l := (subsOf idx).filter (fun u => decide (first ≤ u))
  if count ≤ l.length then some (l.take count) else none

def typeOf (idx sub : Nat) : Nat := match readEntry State.reset idx sub with | some e => e.1 | none => 0

/-- Packed values of a run as write entries (R554). -/
def unpackRun (idx : Nat) : List Nat → List Byte → List Wr
  | [], _ => []
  | u :: us, l =>
    let ty := typeOf idx u
    ⟨idx, u, ty, unpackValue ty (l.take (packWidth ty))⟩ :: unpackRun idx us (l.drop (packWidth ty))

def runSize (idx : Nat) (us : List Nat) : Nat := us.foldl (fun n u => n + packWidth (typeOf idx u)) 0

/-! ## Stores (R544 to R547) -/

/-- Parameters a STORE writes: the user store but the device record, and the Last store while it is unsealed. -/
def storable (s : State) (k : Nat) : Bool :=
  match findRow (k / 256) (k % 256) with
  | some r => r.store == 1 || (r.store == 2 && !s.last.sealed)
  | none => false

/-- Keys that RESTORE_DEFAULTS resets by selector: 0 the user store, 1 the Last store (R547). -/
def restorable (sel k : Nat) : Bool :=
  match findRow (k / 256) (k % 256) with
  | some r => !r.dyn && (if sel == 0 then r.store == 1 else r.store == 2)
  | none => false

/-- After defaults or a boot load, both banks of the gain tables agree (R242). -/
def bothBanks (s : State) : State :=
  { s with loop := { s.loop with active := s.par.work.filter (fun e => isTable (e.1 / 256)), changed := [] } }

def restoreDefaults (sel : Nat) (s : State) : State :=
  let old := par s P.modFsw
  let s := { s with par := { s.par with work := s.par.work.filter (fun e => !restorable sel e.1) } }
  let s := if sel == 0 then bothBanks (if old == par s P.modFsw then s else setCarrier s)
           else { s with last := { s.last with pending := 0 } }
  record .hb 0x1025 0 [(sel : Int)] s

/-! ## The Last image (R477) -/

/-- Every Last-store entry in ascending order, but sys.last.code. -/
def lastKeys : List (Nat × Nat × Int) :=
  (rows.filter (fun r => r.store == 2 && r.idx != 0x1002)).flatMap
    (fun r => (List.range (r.hi + 1 - r.lo)).map (fun i => (keyOf r.idx (r.lo + i), r.ty, rowDflt r (r.lo + i))))

/-- The Last image of the present values. -/
def lastImage (s : State) : List Byte :=
  beBytes 2 1 ++ beBytes 2 0 ++ beBytes 4 lastKeys.length ++
  lastKeys.flatMap (fun e => beBytes 2 (e.1 / 256) ++ beBytes 1 (e.1 % 256) ++ beBytes 1 e.2.1 ++
    valueBytes (par s (e.1, e.2.2)))

/-- The Last code: CRC-32C over the whole image (R474, R477). -/
def lastCode (s : State) : Nat := crc32c (lastImage s)

end Sys2Proof.Machine
end

