-- ==== Sys2Proof/Machine/Commands.lean ====
section
/-! DEFINITION. Admission, and the mailbox commands that HB serves: parameters, stores, the Last, firmware staging,
event logs (12, 13, 17). -/

namespace Sys2Proof.Machine
open Sys2Proof

/-! ## Admission (R513) -/

/-- The opcodes of R548. -/
def opcodes : List Nat :=
  [0x00, 0x01, 0x10, 0x11, 0x12, 0x13, 0x14, 0x18, 0x19, 0x20, 0x21, 0x22, 0x23, 0x24, 0x25, 0x30, 0x31, 0x32, 0x33,
   0x34, 0x40, 0x41, 0x42, 0x43, 0x44, 0x45, 0x46, 0x50, 0x51, 0x52, 0x60, 0x61, 0x62, 0x63, 0x70, 0x71, 0x78, 0x79,
   0x80, 0x81, 0x82, 0x83, 0x84, 0x85]

def between (n lo hi : Nat) : Bool := decide (lo ≤ n) && decide (n ≤ hi)

/-- LENGTH valid for the opcode, with the counts the payload carries (R509, R552). -/
def lenOk (op n : Nat) (p : List Byte) : Bool :=
  match op with
  | 0x01 => n == 1
  | 0x10 => n % 4 == 0 && between (n / 4) 1 84
  | 0x11 => n % 12 == 0 && between (n / 12) 1 84
  | 0x12 => n == 4
  | 0x13 => n == 8
  | 0x14 =>
    let idx := beNat ((p.drop 2).take 2)
    match runOf idx (beNat ((p.drop 4).take 2)) (beNat ((p.drop 6).take 2)) with
    | some us => n == 8 + runSize idx us
    | none => decide (8 ≤ n)
  | 0x19 | 0x24 | 0x33 | 0x71 | 0x83 => n == 1
  | 0x34 | 0x40 | 0x41 | 0x42 => n == 8
  | 0x43 | 0x52 | 0x60 => n == 4
  | 0x45 => n == 4 + 20 * beNat ((p.drop 2).take 2) && decide (beNat ((p.drop 2).take 2) ≤ 50)
  | 0x51 => n == 6
  | 0x61 => between n 8 1004
  | 0x70 | 0x79 | 0x81 => n == 2
  | 0x78 => n == 10
  | 0x80 =>
    let len := beNat ((p.drop 2).take 2)
    if bitOf (nth p 1 0).toNat 6 then n == 16 else n == 16 + len || (decide (992 < len) && decide (16 ≤ n))  -- R578
  | 0x82 => decide (4 ≤ n) && n % 8 == 4 && between ((n - 4) / 8) 1 125
  | 0x84 => n == 4 + 4 * (nth p 1 0).toNat && between (nth p 1 0).toNat 1 16
  | 0x85 => between n 5 1008
  | _ => n == 0

/-- Opcodes that boot ROM service and recovery permit (R81, R86). -/
def romPermits (op : Nat) : Bool := [0x00, 0x01, 0x60, 0x61, 0x62, 0x63].contains op

/-- Opcodes that SHUTDOWN permits: NOP, CANCEL and the read commands (R95). -/
def shutdownPermits (op : Nat) : Bool := [0x00, 0x01, 0x10, 0x12, 0x13, 0x51, 0x70, 0x81].contains op

def inRom (s : State) : Bool := s.boot.rom || s.boot.recovery

/-- Check 7 of R513. -/
def phasePermits (s : State) (op : Nat) : Bool :=
  if inRom s then romPermits op else s.op.state != .shutdown || shutdownPermits op

/-- The opcode needs the field side (checks 8 and 9): commands that act on FC or a gate driver die, and parameter
entries whose working values the field side holds (DEDUCED, log 13). -/
def needsField (op : Nat) (p : List Byte) : Bool :=
  match op with
  | 0x10 => (rdEntries p).any (fun e => fieldIndex e.1)
  | 0x11 => (wrEntries p).any (fun w => fieldIndex w.idx)
  | 0x13 => (nth p 0 0) != 0 || fieldIndex (beNat ((p.drop 2).take 2))
  | 0x14 => fieldIndex (beNat ((p.drop 2).take 2))
  | 0x19 | 0x20 | 0x21 | 0x22 | 0x23 | 0x24 | 0x25 | 0x30 | 0x31 | 0x32 | 0x33 | 0x34 | 0x40 | 0x41 | 0x42 | 0x43
  | 0x44 | 0x45 | 0x46 | 0x52 => true
  | 0x78 | 0x79 => (nth p 0 0) != 0
  | _ => false

def fieldUp (s : State) : Bool := !s.jx.hb.lost && s.saf.fcLoss.isNone && !s.supply.fcLock

/-- The status and number of the first admission check that fails (R513, checks 1 to 9). -/
def admissionFail (s : State) (i : Nat) : Option (Nat × Nat) :=
  let h := header s i
  let p := eyelet s i 16 h.len
  if nth s.mbx.empty i true then some (stCrc, 1)
  else if 1008 < h.len then some (stBadLength, 2)
  else if headerCrc s i != h.crc then some (stCrc, 3)
  else if h.tagField != i then some (stCrc, 4)
  else if !opcodes.contains h.opcode then some (stBadOpcode, 5)
  else if !lenOk h.opcode h.len p then some (stBadLength, 6)
  else if !phasePermits s h.opcode then some (stState, 7)
  else if needsField h.opcode p && !s.boot.loaded then some (stBusy, 8)
  else if needsField h.opcode p && !fieldUp s then some (stFault, 9)
  else none

/-- What the header gives the tag; an Eyelet marked empty is not read (R512, R515). -/
def readHeader (i : Nat) (s : State) : State :=
  if nth s.mbx.empty i true then s
  else
    let h := header s i
    setTag i (fun t => { t with opcode := h.opcode, seq := h.seq, ordered := h.ordered, noIrq := h.noIrq,
                                interim := h.interim, len := h.len }) s

/-- The command is admitted: RUNNING, unless ORDERED keeps it until the earlier ones have ended (R520). -/
def admitCmd (i : Nat) (s : State) : State :=
  setTag i (fun t => { t with admitted := true, at_ := now s, st := if t.ordered && !earlierDone s i then .queued else .running }) s

/-- COMMAND_ADMISSION: the Command Processor admits the oldest doorbelled command (R513). -/
def execCommandAdmission (s : State) : Host.Outcome State Fault Refusal :=
  ok (if cpDown s || s.pairs.cp.restarting then s
      else match s.mbx.bells with
        | [] => s
        | i :: r =>
          let s := { s with mbx := { s.mbx with bells := r } }
          match admissionFail s i with
          | some (st, c) => refuse i st c (readHeader i s)
          | none => admitCmd i (readHeader i s))

/-- FIELD_SIDE_REPLY: the reply to a command is taken up as a short step (R520). -/
def execFieldSideReply (tag : Nat) (s : State) : Host.Outcome State Fault Refusal := ok (takeReply tag s)

/-- IRQ_COALESCING_TIMEOUT: CQ is set after port.irq.coal_us (R519). With coal_us = 0 there is no timer (log 14). -/
def execIrqCoalescingTimeout (s : State) : Host.Outcome State Fault Refusal :=
  ok (if heldFor s.mbx.coalSince (parN s P.portIrqCoalUs * 1000) s && parN s P.portIrqCoalUs != 0
      then { s with mbx := { s.mbx with irq := s.mbx.irq ||| 1, coalSince := none } } else s)

/-- Accepted only in the states given (R548); otherwise ST_STATE. -/
def inStates (l : List OpState) (f : State → Result × State) (s : State) : Result × State :=
  if l.contains s.op.state then f s else no stState s

/-- NOP (R508). -/
def execNop (tag : Nat) (s : State) : Host.Outcome State Fault Refusal := ok (oneStep tag 0x00 yes s)

/-! ## Parameters -/

/-- PARAM_READ (R552): a read that touches the field side is answered by FC. -/
def paramRead (i : Nat) (s : State) : Result × State :=
  match readAll s 1 (rdEntries (payload s i)) with
  | .inl n => noD stBadIndex n s
  | .inr l => (⟨0, 0, l⟩, s)

/-- A one-step command runs on HB, or on the field side when it needs it. -/
def stepWhere (i op : Nat) (f : State → Result × State) (s : State) : State :=
  if needsField op (payload s i) then fieldStep i op f s else oneStep i op f s

def execParamRead (tag : Nat) (s : State) : Host.Outcome State Fault Refusal :=
  ok (stepWhere tag 0x10 (paramRead tag) s)

def paramWrite (i : Nat) (s : State) : Result × State := writeAll (wrEntries (payload s i)) s

/-- PARAM_WRITE (R542). -/
def execParamWrite (tag : Nat) (s : State) : Host.Outcome State Fault Refusal :=
  ok (stepWhere tag 0x11 (paramWrite tag) s)

/-- The entries a BLOCK_WRITE payload carries, or the status of its run (R554). -/
def blockEntries (i : Nat) (s : State) : Nat ⊕ List Wr :=
  let p := payload s i
  let idx := beNat ((p.drop 2).take 2)
  let first := beNat ((p.drop 4).take 2)
  if (nth p 0 0) != 0 then .inl stRange
  else if !isDefined idx first then .inl stBadIndex
  else match runOf idx first (beNat ((p.drop 6).take 2)) with
    | none => .inl stRange
    | some us => .inr (unpackRun idx us (p.drop 8))

def blockWrite (i : Nat) (s : State) : Result × State :=
  match blockEntries i s with
  | .inl st => no st s
  | .inr ws => writeAll ws s

/-- BLOCK_WRITE (R554). -/
def execBlockWrite (tag : Nat) (s : State) : Host.Outcome State Fault Refusal :=
  ok (stepWhere tag 0x14 (blockWrite tag) s)

/-- The write entries of the command on a tag, by PARAM_WRITE or by BLOCK_WRITE. -/
def wrOf (i : Nat) (s : State) : List Wr :=
  match (tag s i).opcode with
  | 0x11 => wrEntries (payload s i)
  | 0x14 => match blockEntries i s with | .inr ws => ws | .inl _ => []
  | _ => []

def writeCmd (i : Nat) (s : State) : State :=
  if (tag s i).opcode == 0x14 then stepWhere i 0x14 (blockWrite i) s else stepWhere i 0x11 (paramWrite i) s

/-- LAST_CONFIRM_WRITE: a write that carries safety.last.confirm (R479). -/
def execLastConfirmWrite (tag : Nat) (s : State) : Host.Outcome State Fault Refusal :=
  ok (if (wrOf tag s).any (fun w => w.key == P.safetyLastConfirm.1) then writeCmd tag s else s)

/-- TABLE_COMMIT_WRITE: a write that carries loop.tab.commit (R242, R243). -/
def execTableCommitWrite (tag : Nat) (s : State) : Host.Outcome State Fault Refusal :=
  ok (if (wrOf tag s).any (fun w => w.key == P.loopTabCommit.1) then writeCmd tag s else s)

/-- The response of PARAM_DESC (R553). A maximum count above 31 is taken as 31 (log 14). -/
def descResp (s : State) (idx sub max : Nat) : List Byte :=
  let l := entriesFrom idx sub
  let n := min max 31
  let rest := l.drop n
  let nx := nth rest 0 (0, 0)
  beBytes 1 (l.take n).length ++ beBytes 1 (bit1 (!rest.isEmpty)) ++ beBytes 2 nx.1 ++ beBytes 1 nx.2 ++ beBytes 3 0 ++
    (l.take n).flatMap (fun e => descriptor s e.1 e.2)

/-- PARAM_DESC (R553). -/
def execParamDesc (tag : Nat) (s : State) : Host.Outcome State Fault Refusal :=
  ok (oneStep tag 0x12 (fun s =>
    let p := payload s tag
    (⟨0, 0, descResp s (beNat (p.take 2)) (nth p 2 0).toNat (nth p 3 0).toNat⟩, s)) s)

/-- A segment-table entry as 20 bytes (R294, R552). -/
def segBytes (e : SegEntry) : List Byte := beBytes 4 e.dt ++ valueBytes e.pos ++ valueBytes e.vel

/-- Words of the snapshot area from a window offset (R554): none outside it. -/
def snapWords (s : State) (first count : Nat) : Option (List Word) :=
  if first % 4 != 0 then none
  else if between first 0x0400 0x0FFC then
    let o := (first - 0x0400) / 4
    if o + count ≤ 768 then some ((List.range count).map (fun k => nth s.snap.fc (o + k) 0)) else none
  else if between first 0x1000 0x12FF then
    let d := (first - 0x1000) / 0x80
    let o := (first - 0x1000) % 0x80 / 4
    match GdPos.ofId? (d + 2) with
    | none => none
    | some g => if o + count ≤ 32 then some ((List.range count).map (fun k => nth (s.snap.gd.get g) (o + k) 0)) else none
  else none

/-- BLOCK_READ's response, or its status (R554). An object above 2 ends ST_RANGE (log 14). -/
def blockRead (s : State) (obj idx first count : Nat) : Nat ⊕ List Byte :=
  match obj with
  | 0 =>
    if !isDefined idx first then .inl stBadIndex
    else match runOf idx first count with
      | none => .inl stRange
      | some us =>
        if 1008 < runSize idx us then .inl stRange
        else .inr (us.flatMap (fun u => match readEntry s idx u with
          | some e => packBytes e.1 e.2
          | none => []))
  | 1 =>
    if count == 0 then .inr []
    else if first == 0 || s.pe.segs.length < first - 1 + count || 1008 < 20 * count then .inl stRange
    else .inr (((s.pe.segs.drop (first - 1)).take count).flatMap segBytes)
  | 2 =>
    if count == 0 then .inr []
    else if 252 < count then .inl stRange
    else match snapWords s first count with
      | some ws => .inr (ws.flatMap wordBytes)
      | none => .inl stRange
  | _ => .inl stRange

/-- BLOCK_READ (R554). -/
def execBlockRead (tag : Nat) (s : State) : Host.Outcome State Fault Refusal :=
  ok (stepWhere tag 0x13 (fun s =>
    let p := payload s tag
    match blockRead s (nth p 0 0).toNat (beNat ((p.drop 2).take 2)) (beNat ((p.drop 4).take 2))
        (beNat ((p.drop 6).take 2)) with
    | .inl st => no st s
    | .inr l => (⟨0, 0, l⟩, s)) s)

/-! ## Stores -/

/-- STORE takes the values at its first step; the header is written at its last (R545). -/
def execStore (tag : Nat) (s : State) : Host.Outcome State Fault Refusal :=
  ok (longStep tag 0x18 (fun s =>
    if s.par.storing.isSome then .inr (no stBusy s)
    else .inl { s with par := { s.par with
      storing := some (tag, s.par.work.filter (fun e => storable s e.1)) } }) s)

/-- The last step of STORE: header written, event 0x1021 (R544, R545). -/
def storeHeader (i : Nat) (s : State) : State :=
  match s.par.storing with
  | none => s
  | some (_, vals) =>
    let c := writeCopy s.par.userA s.par.userB vals
    let seq : Nat := match newest c.1 c.2 with | some c => c.seq | none => 0
    let s := { s with par := { s.par with userA := c.1, userB := c.2, storeSeq := seq, storing := none } }
    let n : Nat := (Dict.rows.filter (fun r => r.store == 1 || (r.store == 2 && !s.last.sealed))).foldl
      (fun n r => n + (r.hi + 1 - r.lo)) 0
    finishSt i stOk (record .hb 0x1021 0 [(seq : Int), (n : Int)] s)

/-- RESTORE_DEFAULTS (R547, R557). -/
def execRestoreDefaults (tag : Nat) (s : State) : Host.Outcome State Fault Refusal :=
  ok (fieldStep tag 0x19 (fun s =>
    match (nth (payload s tag) 0 0).toNat with
    | 0 =>
      if !([OpState.standby, .ready, .safeHold].contains s.op.state) then no stState s
      else if !s.loop.commit.isEmpty then no stBusy s
      else yes (restoreDefaults 0 s)
    | 1 =>
      if s.last.sealed then no stLocked s
      else if s.op.state != .standby then no stState s
      else if s.last.computing.isSome || !s.loop.commit.isEmpty then no stBusy s
      else yes (restoreDefaults 1 s)
    | _ => no stRange s) s)

/-! ## The Last (11) -/

/-- LAST_COMPUTE starts; the code stands in safety.last.pending at its last step (R478). -/
def execLastCompute (tag : Nat) (s : State) : Host.Outcome State Fault Refusal :=
  ok (longStep tag 0x50 (fun s =>
    if s.op.state != .standby then .inr (no stState s)
    else if s.last.computing.isSome then .inr (no stBusy s)
    else .inl { s with last := { s.last with computing := some tag, pending := 0 } }) s)

def lastComputeDone (i : Nat) (s : State) : State :=
  if s.last.computing == some i then
    let code := lastCode s
    finish i ⟨0, 0, beBytes 4 code ++ beBytes 4 lastKeys.length⟩
      { s with last := { s.last with pending := code, computing := none } }
  else s

/-- LAST_IMAGE_READ (R552). -/
def execLastImageRead (tag : Nat) (s : State) : Host.Outcome State Fault Refusal :=
  ok (oneStep tag 0x51 (fun s =>
    let p := payload s tag
    let off := beNat (p.take 4)
    let n := beNat ((p.drop 4).take 2)
    let img := lastImage s
    if 1008 < n || img.length < off + n then no stRange s else (⟨0, 0, (img.drop off).take n⟩, s)) s)

/-- Both link voltage channels below 60 V (R94, R480); units of 2^-16 V. -/
def vdcBelow60 (s : State) : Bool :=
  decide (nth s.sense.ya 6 0 < 60 * 65536) && decide (nth s.sense.ya 7 0 < 60 * 65536)

/-- UNSEAL (R480). -/
def execUnseal (tag : Nat) (s : State) : Host.Outcome State Fault Refusal :=
  ok (fieldStep tag 0x52 (fun s =>
    let c := beNat (payload s tag)
    if s.op.state != .standby || !vdcBelow60 s then no stState s
    else if s.last.computing.isSome then no stBusy s
    else if !s.last.sealed then (if c == 0 then yes s else no stRange s)
    else if c != s.last.code then no stRange s
    else yes (record .hb 0x5373 1 []
      { s with last := { s.last with sealed := false, code := 0 }, op := { s.op with commissioning := true } })) s)

/-! ## Firmware staging (R556) -/

def setSlot (b : Bool) (x : Option ImageHdr) (s : State) : State :=
  { s with boot := { s.boot with
      slots := if b then { s.boot.slots with b := x } else { s.boot.slots with a := x }
      rot := if b then { s.boot.rot with b := 0 } else { s.boot.rot with a := 0 } } }

def slotOf (s : State) (b : Bool) : Option ImageHdr := if b then s.boot.slots.b else s.boot.slots.a

def rotOf (s : State) (b : Bool) : Nat := if b then s.boot.rot.b else s.boot.rot.a

/-- FW_STAGE_BEGIN erases the slot that is not active and opens staging. -/
def execFwStageBegin (tag : Nat) (s : State) : Host.Outcome State Fault Refusal :=
  ok (longStep tag 0x60 (fun s =>
    let n := beNat (payload s tag)
    if s.boot.stageVerify.isSome then .inr (no stBusy s)
    else if !between n 512 3145728 || n % 4 != 0 then .inr (no stRange s)
    else
      let s := setSlot (!s.boot.active) none s
      .inl { s with id := { s.id with staged := 0 }, boot := { s.boot with stage := some (n, 0), trial := none } }) s)

/-- FW_STAGE_DATA writes bytes at the next offset. -/
def execFwStageData (tag : Nat) (s : State) : Host.Outcome State Fault Refusal :=
  ok (oneStep tag 0x61 (fun s =>
    let p := payload s tag
    let off := beNat (p.take 4)
    let n := p.length - 4
    if s.boot.stageVerify.isSome then no stBusy s
    else match s.boot.stage with
      | none => no stRange s
      | some (len, got) =>
        if n % 4 != 0 && off + n != len then no stBadLength s
        else if off != got || len < off + n then no stRange s
        else yes { s with boot := { s.boot with stage := some (len, got + n) } }) s)

/-- The parts keep their limits (R78). -/
def partsFit (h : ImageHdr) : Bool := decide (h.hbLen ≤ 523776) && decide (h.fcLen ≤ 2621440)

/-- The digest of the FC part as it stands equals the digest in the header (R80); bit 2 of `rot` marks bytes of the
part that changed since they were written. -/
def fcPartOk (rot : Nat) (h : ImageHdr) : Bool := h.fcSum == h.fcDigest && !bitOf rot 2

/-- Why the HB boot ROM refuses an image, coded as R550, 0 when it accepts it: length, key digest, signature,
anti-rollback (R78, R79). `rot` marks the parts that changed since they were written: the key, or what is signed. -/
def slotCheck (key fused rot : Nat) (h : ImageHdr) : Nat :=
  if !partsFit h then 5
  else if h.keyDigest != key || bitOf rot 0 then 1
  else if h.signed != some h.bodySum || bitOf rot 1 then 2
  else if h.secVer < fused then 3 else 0

/-- Why a staged image of `len` bytes is refused, coded as R550, 0 when it is accepted (R79, R80; log 12). -/
def imageReason (key fused len : Nat) (h : ImageHdr) : Nat :=
  if 512 + h.hbLen + h.fcLen != len then 5
  else if slotCheck key fused 0 h != 0 then slotCheck key fused 0 h
  else if !fcPartOk 0 h then 4 else 0

/-- FW_STAGE_END starts the verification of the image received. -/
def execFwStageEnd (tag : Nat) (img : ImageHdr) (s : State) : Host.Outcome State Fault Refusal :=
  ok (longStep tag 0x62 (fun s =>
    if s.boot.stageVerify.isSome then .inr (no stBusy s)
    else match s.boot.stage with
      | some (len, got) =>
        if got == len then .inl { s with boot := { s.boot with stageVerify := some img } } else .inr (no stRange s)
      | none => .inr (no stRange s)) s)

/-- The last step of FW_STAGE_END: the image is staged, or the slot is erased. -/
def stageVerified (i : Nat) (s : State) : State :=
  match s.boot.stageVerify with
  | none => s
  | some img =>
    let slot := !s.boot.active
    let r := imageReason s.boot.keyDigest s.boot.fused (match s.boot.stage with | some x => x.1 | none => 0) img
    let s := { s with boot := { s.boot with stageVerify := none, stage := none } }
    if r == 0 then
      let s := setSlot slot (some img) { s with id := { s.id with staged := img.version } }
      finish i ⟨0, 0, beBytes 4 img.version⟩ (record .hb 0x1031 0 [(img.version : Int), (bit1 slot : Int)] s)
    else
      finish i ⟨stFault, r, []⟩ (record .hb 0x1032 1 [(r : Int), (bit1 slot : Int)] (setSlot slot none s))

/-- FW_ACTIVATE records the staged slot for the trial boot of R82. -/
def execFwActivate (tag : Nat) (s : State) : Host.Outcome State Fault Refusal :=
  ok (oneStep tag 0x63 (fun s =>
    if !(s.op.state == .standby || s.boot.recovery) then no stState s
    else if s.id.staged == 0 then no stEmpty s
    else
      let slot := !s.boot.active
      yes (record .hb 0x1033 0 [(bit1 slot : Int)]
        { s with boot := { s.boot with trial := some slot, trialFails := 0 } })) s)

/-! ## Event logs (17) -/

/-- The parameter words of a record (R659). -/
def paramWord (r : EventRec) (n : Nat) : Nat := tc 32 (nth r.params n 0)

/-- A record as 32 bytes (R658). -/
def recBytes (r : EventRec) : List Byte :=
  beBytes 2 r.code ++ beBytes 1 r.die ++
  beBytes 1 (128 + 32 * bit1 r.noPt + 16 * bit1 r.late + 8 * bit1 r.persist + r.cls) ++ beBytes 8 r.pt ++
  beBytes 4 (paramWord r 0) ++ beBytes 4 (paramWord r 1) ++ beBytes 4 (paramWord r 2) ++ beBytes 4 (paramWord r 3) ++
  beBytes 4 r.seq

def logOf (s : State) (p : Bool) : List EventRec := if p then s.evt.plog else s.evt.vlog
def curOf (s : State) (p : Bool) : Nat := if p then s.evt.pCur else s.evt.vCur
def overOf (s : State) (p : Bool) : Nat := if p then s.evt.pOver else s.evt.vOver
def setCur (p : Bool) (n : Nat) (s : State) : State :=
  { s with evt := if p then { s.evt with pCur := n } else { s.evt with vCur := n } }

/-- EVENT_READ (R666). -/
def execEventRead (tag : Nat) (s : State) : Host.Outcome State Fault Refusal :=
  ok (oneStep tag 0x70 (fun s =>
    let p := payload s tag
    let log := (nth p 0 0).toNat
    let n := (nth p 1 0).toNat
    if 1 < log || 31 < n then no stRange s
    else
      let l := logOf s (log == 1)
      let c := curOf s (log == 1)
      let rs := (l.drop c).take n
      let c' := c + rs.length
      (⟨0, 0, beBytes 2 c' ++ beBytes 2 l.length ++ beBytes 4 (overOf s (log == 1)) ++ rs.flatMap recBytes⟩,
        setCur (log == 1) c' s)) s)

/-- Empties a log; event 0x6002 is its first record (R669). -/
def clearLog (p : Bool) (s : State) : State :=
  let ps : List Int := [(bit1 p : Int), ((logOf s p).length : Int), (overOf s p : Int)]
  if p then
    let r := { mkRec .hb 0x6002 0 ps s with seq := s.evt.seq }
    let s := noteClass 0 { s with evt := { nextSeq s.evt with plog := [r], pTail := none, pCur := 0, pOver := 0 } }
    putV r s
  else record .hb 0x6002 0 ps { s with evt := { s.evt with vlog := [], vCur := 0, vOver := 0 } }

/-- EVENT_CLEAR (R669). -/
def execEventClear (tag : Nat) (s : State) : Host.Outcome State Fault Refusal :=
  ok (oneStep tag 0x71 (fun s =>
    match (nth (payload s tag) 0 0).toNat with
    | 0 => yes (clearLog false s)
    | 1 => if s.last.sealed then no stLocked s
           else if s.op.state != .standby then no stState s else yes (clearLog true s)
    | _ => no stRange s) s)

/-- RECORD_ARRIVAL: the oldest record waiting at FC reaches HB (R660, R661). -/
def execRecordArrival (s : State) : Host.Outcome State Fault Refusal :=
  ok (if !fieldUp s || s.supply.hbLock then s
      else match s.evt.fcq with
        | [] => s
        | r :: q =>
          let s := { s with evt := { s.evt with fcq := q } }
          let s := if r.late then noteClass r.cls s else s
          arrive r s)

/-- FC_RECORD_QUEUE_ROOM: after drops, event 0x6005 is sent when the queue has room (R660). -/
def execFcRecordQueueRoom (s : State) : Host.Outcome State Fault Refusal :=
  ok (if s.evt.fcDropped != 0 && s.evt.fcq.length < 256 then
        let n := s.evt.fcDropped
        record .fc 0x6005 1 [(n : Int)] { s with evt := { s.evt with fcDropped := 0, fcLostBit := true } }
      else s)

/-- A record is written to the persistent log, or fills its reserved record (event 0x6003), or is counted (R664,
R665). -/
def putP (r : EventRec) (s : State) : State :=
  let n := s.evt.plog.length
  if n < 16383 then { s with evt := { s.evt with plog := s.evt.plog ++ [r] } }
  else if n == 16383 then
    let q : EventRec := { mkRec .hb 0x6003 1 [(r.code : Int)] s with seq := s.evt.seq }
    let s := noteClass 1 { s with evt := { nextSeq s.evt with
      plog := s.evt.plog ++ [q], pOver := satInc (2 ^ 32 - 1) s.evt.pOver } }
    putV q s
  else { s with evt := { s.evt with pOver := satInc (2 ^ 32 - 1) s.evt.pOver } }

/-- The fill count takes in the record it does not count yet, within the log (R664). -/
def countTail (s : State) : State :=
  match s.evt.pTail with
  | some r =>
    if s.evt.plog.length < 16384 then { s with evt := { s.evt with plog := s.evt.plog ++ [r], pTail := none } } else s
  | none => s

/-- PERSISTENT_LOG_WRITE: the oldest queued record is written to MRAM (R663, R664). With `cut` the next operation meets the
write between the record and its fill count, which a later write, or step 0x01, makes good. -/
def execPersistentLogWrite (cut : Bool) (s : State) : Host.Outcome State Fault Refusal :=
  ok (let s := countTail s
      match s.evt.pq with
      | [] => s
      | r :: q =>
        let s := { s with evt := { s.evt with pq := q } }
        if cut && s.evt.plog.length < 16383 then { s with evt := { s.evt with pTail := some r } } else putP r s)

end Sys2Proof.Machine
end

