-- ==== Sys2Proof/Machine/Lockstep.lean ====
section
/-! DEFINITION. Lockstep pairs and clocks (R23 to R31). -/

namespace Sys2Proof.Machine
open Sys2Proof

def lePair (s : State) : LePair → PairState
  | .le01 => s.pairs.le01 | .le23 => s.pairs.le23 | .le45 => s.pairs.le45

def setLe (p : LePair) (x : PairState) (s : State) : State :=
  { s with pairs := match p with
    | .le01 => { s.pairs with le01 := x } | .le23 => { s.pairs with le23 := x } | .le45 => { s.pairs with le45 := x } }

/-- The earlier point of two mismatches before one update: it leaves less. -/
def firstPoint : CyclePoint → CyclePoint → CyclePoint
  | .early, _ | _, .early => .early
  | .late, _ | _, .late => .late
  | .waiting, .waiting => .waiting

/-- The pair is reset and restarts from its checkpoint, which is its state at the end of the last control cycle (R23, R24); a
restart is counted. At a mismatch while it waits nothing of a cycle is lost (R236). -/
def leRestart (p : LePair) (a : CyclePoint) (s : State) : State :=
  let x := lePair s p
  { setLe p { x with restarting := x.restarting || a != .waiting
                     point := if x.restarting then firstPoint x.point a else a } s with
    loop := { s.loop with restarts := satInc 255 s.loop.restarts } }

/-- LE_LOCKSTEP_MISMATCH at a point of the pair's cycle, the one that the next SAMPLING_TRIGGER completes (R23 to R25, R28,
R236; event 0x1101). -/
def execLeLockstepMismatch (p : LePair) (a : CyclePoint) (s : State) : Host.Outcome State Fault Refusal :=
  ok (if s.supply.fcLock then s
      else
        let x := lePair s p
        record .fc 0x1101 0 [] (leRestart p a (setLe p { x with stamps := stampIn 1000000000 (now s) x.stamps } s)))

/-- The condition of R25 and R28: three mismatches within 1 s, or a second consecutive flagged update. -/
def pairPersistent (t : Nat) (x : PairState) : Bool :=
  decide (3 ≤ (x.stamps.filter (fun a => t < a + 1000000000)).length) || decide (2 ≤ x.flagRun)

/-- LE_PAIR_PERSISTENT: the pair is declared persistently faulty (event 0x1102, F3). -/
def execLePairPersistent (p : LePair) (s : State) : Host.Outcome State Fault Refusal :=
  ok (let x := lePair s p
      if pairPersistent (now s) x && !x.persistent && !s.supply.fcLock then
        detect .fc 0x1102 3 [] (degrade (setLe p { x with persistent := true } s))
      else s)

/-- The in-flight command table as the checkpoint and the journal give it (R26). -/
def replay (ckpt : List TagInfo) (j : List (Nat × TagInfo)) : List TagInfo :=
  j.foldl (fun l e => upd l e.1 (fun _ => e.2)) ckpt

/-- CP_LOCKSTEP_MISMATCH: the pair restarts from its checkpoint and replays the journal (R26; event 0x1103). -/
def execCpLockstepMismatch (s : State) : Host.Outcome State Fault Refusal :=
  ok (if cpDown s || s.supply.hbLock then s
      else
        let x := s.pairs.cp
        let s := { s with
          pairs := { s.pairs with cp := { x with stamps := stampIn 1000000000 (now s) x.stamps, restarting := true } }
          mbx := { s.mbx with tags := replay s.cp.ckpt s.cp.journal } }
        record .hb 0x1103 0 [] s)

/-- The pointer range of a head move from `h` by `n` (R514, modulo 1,024). -/
def released (h n ptr : Nat) : Bool := decide ((ptr + 1024 - h) % 1024 < n)

/-- A write of HB_MBX_CQ_HEAD that stays within the tail frees the tags whose final completion it passes (R510, R518). -/
def moveHead (v : Nat) (s : State) : State :=
  let n := (v + 1024 - s.mbx.head) % 1024
  let free (t : TagInfo) : TagInfo :=
    match t.st, t.final with
    | .done, some p => if released s.mbx.head n p then TagInfo.reset else t
    | _, _ => t
  let tags := s.mbx.tags.map free
  let j := ((List.range tags.length).map (fun i => (i, nth tags i TagInfo.reset))).filter
    (fun e => e.2 != tag s e.1)
  { s with mbx := { s.mbx with head := v, tags := tags }, cp := { s.cp with journal := s.cp.journal ++ j } }

/-- CP_RESTART_DONE: held doorbells and ring writes are served in their order (R27). -/
def execCpRestartDone (s : State) : Host.Outcome State Fault Refusal :=
  ok (if s.pairs.cp.restarting then
        let bells := s.cp.heldBells
        let heads := s.cp.heldHead
        let s := { s with
          pairs := { s.pairs with cp := { s.pairs.cp with restarting := false } }
          mbx := { s.mbx with bells := s.mbx.bells ++ bells }
          cp := { s.cp with heldBells := [], heldHead := [] } }
        heads.foldl (fun s v => moveHead v s) s
      else s)

/-- CP_PAIR_PERSISTENT: a third mismatch within 1 s holds the pair in reset; FC decides event 0x1104, F2 (R28). -/
def execCpPairPersistent (s : State) : Host.Outcome State Fault Refusal :=
  ok (let x := s.pairs.cp
      if decide (3 ≤ (x.stamps.filter (fun a => now s < a + 1000000000)).length) && !x.held then
        detect .fc 0x1104 2 [] (degrade
          { s with pairs := { s.pairs with cp := { x with held := true, persistent := true } } })
      else s)

/-- A pending frame is dropped: its CAN_TX and a CANCEL that waits for it end as given (R582, R586, R595, R596). -/
def dropTx (status detail cancelStatus : Nat) (s : State) (x : Option CanTx) : State :=
  match x with
  | none => s
  | some x =>
    let s := match x.tag with
      | some t => answer t ⟨status, detail, []⟩ s
      | none => s
    match x.cancel with
    | some t => answer t ⟨cancelStatus, 0, []⟩ s
    | none => s

/-- Every channel goes OFF at a clock fault: attempts are abandoned, pending CAN_TX, joins and detections end ST_FAULT
with DETAIL 0x1201 (R595). -/
def stopChannel (c : Ch) (s : State) : State :=
  let ch := s.can.get c
  let s := ch.tx.foldl (fun s x => dropTx stFault 0x1201 stTooLate s x) s
  let s := match ch.onTag with | some t => answer t ⟨stFault, 0x1201, []⟩ s | none => s
  let s := match ch.det with | some d => answer d.tag ⟨stFault, 0x1201, []⟩ s | none => s
  { s with can := s.can.set c { ch with
      mode := .off, clkStop := true, tx := List.replicate 8 none, fresh := [], onTag := none, det := none } }

/-- CRYSTAL_CLOCK_FAULT: HCLK moves to the RC oscillator and the CAN channels go OFF (event 0x1201, F1). -/
def execCrystalClockFault (s : State) : Host.Outcome State Fault Refusal :=
  ok (if s.clk.hclkRc || s.supply.hbLock then s
      else detect .hb 0x1201 1 [] (stopChannel .b (stopChannel .a { s with clk := { s.clk with hclkRc := true } })))

/-- REFERENCE_CLOCK_LOST: the FC PLLs move to the RC oscillator (event 0x1202, F1). -/
def execReferenceClockLost (s : State) : Host.Outcome State Fault Refusal :=
  ok (if s.clk.fcRc || s.supply.fcLock then s
      else detect .fc 0x1202 1 [] { s with clk := { s.clk with fcRc := true } })

/-- PLL_CLOCK_FAULT: a die's main PLL deviates for 10 µs (event 0x1203, F3). -/
def execPllClockFault (d : Die) (s : State) : Host.Outcome State Fault Refusal :=
  ok (if s.clk.pll.contains d.id || dieDown s d then s
      else detect d 0x1203 3 [(d.id : Int)] { s with clk := { s.clk with pll := d.id :: s.clk.pll } })

end Sys2Proof.Machine
end

