-- ==== Sys2Proof/Machine/Jexlink.lean ====
section
/-! DEFINITION. Jexlink lanes and links, package time, barriers, snapshots (R32 to R52). -/

namespace Sys2Proof.Machine
open Sys2Proof

/-- The link of a die to FC; FC, the hub, has none. -/
def link (s : State) : Die → LinkState
  | .hb => s.jx.hb
  | .fc => ⟨[], false⟩
  | .gd p => s.jx.gd.get p

def setLink (d : Die) (l : LinkState) (s : State) : State :=
  match d with
  | .hb => { s with jx := { s.jx with hb := l } }
  | .fc => s
  | .gd p => { s with jx := { s.jx with gd := s.jx.gd.set p l } }

/-- The precharge timeout: STANDBY, every contactor open, and no further precharge for safety.pre.cool (R465; event
0x5345, F2). -/
def preTimeout (s : State) : State :=
  detect .fc 0x5345 2 [] { s with saf := { s.saf with coolUntil := now s + parN s P.safetyPreCool * 1000000000 } }

/-- The reaction of a lost link (R43, R44): event 0x1803 with the leg order, or 0x1804 (F3), which ends a PRECHARGE as a
timeout (R481). -/
def linkReaction (d : Die) (s : State) : State :=
  match d with
  | .hb => detect .fc 0x1804 3 [] (if s.op.state == .precharge then preTimeout s else s)
  | .fc => s
  | .gd p => faultLeg p.phase 0x1803 (record .fc 0x1803 4 [] s)

/-- FC declares a link lost (R44). -/
def linkIsLost (d : Die) (s : State) : State :=
  let l := link s d
  if l.lost || s.supply.fcLock || d == .fc then s
  else linkReaction d (setLink d { l with lost := true, lanes := l.lanes.map (fun _ => .untrained) } s)

/-- LINK_LOST: FC sees no valid symbol on a link for 500 ns (R44). -/
def execLinkLost (d : Die) (s : State) : Host.Outcome State Fault Refusal := ok (linkIsLost d s)

/-- Class-2 transactions outstanding when HB loses its link end ST_FAULT (R528). -/
def failOutstanding (s : State) : State :=
  let idx := (List.range 128).filter (fun i =>
    let t := tag s i
    t.st == .running && t.started && t.reply.isNone && needsField t.opcode (payload s i))
  idx.foldl (fun s i => answer i ⟨stFault, 0x1804, []⟩ s) s

/-- HB_LINK_LOSS: the brake is applied, FAULT asserted, READY deasserted, and the contactor hold begins (R462). -/
def execHbLinkLoss (s : State) : Host.Outcome State Fault Refusal :=
  ok (if s.saf.fcLoss.isSome || s.supply.hbLock then s
      else failOutstanding (brake { s with saf := { s.saf with fcLoss := some (now s) } }))

/-- The lane receiver counts `n` further errors; those older than jx.lane.err_window leave the count (R39). -/
def countErrors (d : Die) (lane n : Nat) (s : State) : State :=
  let old := s.jx.errs.filter (fun e => now s < e.2.2 + parN s P.jxLaneErrWindow * 1000)
  { s with jx := { s.jx with errs := old ++ List.replicate n (d.id, lane, now s) } }

/-- Errors of a lane within the window. -/
def laneErrors (d : Die) (lane : Nat) (s : State) : Nat :=
  (s.jx.errs.filter (fun e => e.1 == d.id && e.2.1 == lane)).length

/-- LANE_ERROR_LIMIT: a lane receiver counts `errs` further errors. A lane whose count within the sliding window reaches
the limit is taken out of service and retrained, its count starting anew, unless it is the last trained lane of its link
(R39, R41; event 0x1801). -/
def execLaneErrorLimit (d : Die) (lane errs : Nat) (s : State) : Host.Outcome State Fault Refusal :=
  ok (if s.supply.fcLock then s
      else
        let s := countErrors d lane errs s
        let l := link s d
        let x := nth l.lanes lane .untrained
        let others := (l.lanes.eraseIdx lane).any (· == .full)
        if parN s P.jxLaneErrLimit ≤ laneErrors d lane s && laneUp x && others then
          record .fc 0x1801 0 [(d.id : Int), (lane : Int)]
            (setLink d { l with lanes := upd l.lanes lane (fun _ => .training 1) }
              { s with jx := { s.jx with errs := s.jx.errs.filter (fun e => !(e.1 == d.id && e.2.1 == lane)) } })
        else s)

/-- LANE_TRAINING_DONE: three attempts at full rate, one at half rate, then the lane is dropped (R40; event 0x1802). A
link left without a full-rate lane is lost for control (R43). -/
def execLaneTrainingDone (d : Die) (lane : Nat) (pass : Bool) (s : State) : Host.Outcome State Fault Refusal :=
  ok (let l := link s d
      let put (x : Lane) (s : State) : State := setLink d { l with lanes := upd l.lanes lane (fun _ => x) } s
      let degraded (s : State) : State :=
        let s := record .fc 0x1802 1 [] (degrade s)
        if fullLanes (link s d) == 0 then linkReaction d s else s
      match nth l.lanes lane .untrained with
      | .training n =>
        if n < 4 then
          if pass then put .full s else put (.training (n + 1)) s
        else if pass then degraded (put .half s) else degraded (put .dropped s)
      | _ => s)

/-! ## Package time -/

def ptCopy (s : State) : Die → Option PtCopy
  | .hb => some s.pt.hb
  | .fc => none
  | .gd p => some (s.pt.gd.get p)

def setCopy (d : Die) (c : PtCopy) (s : State) : State :=
  match d with
  | .hb => { s with pt := { s.pt with hb := c } }
  | .fc => s
  | .gd p => { s with pt := { s.pt with gd := s.pt.gd.set p c } }

/-- PT_DISCIPLINE_EXCHANGE: FC measures a copy's offset and corrects its rate by at most ±100 ppm; the correction
itself is a free value (R47, log 2). An offset beyond ±10 ns is event 0x1806 (F3, R48). -/
def execPtDisciplineExchange (d : Die) (offset : Int) (s : State) : Host.Outcome State Fault Refusal :=
  ok (match ptCopy s d with
      | none => s
      | some c =>
        if s.supply.fcLock || fullLanes (link s d) == 0 then s
        else
          let f := takeFree s
          let rate : Int := (f.1 % 201 : Nat) - 100
          let out := decide (300 < offset.natAbs)
          let c := { c with
            offset := offset, rate := rate
            outSince := if out then (match c.outSince with | some t => some t | none => some (now s)) else none
            warned := c.warned && out }
          let s := setCopy d c f.2
          if 10000 < offset.natAbs then detect .fc 0x1806 3 [] s else s)

/-- PT_OFFSET_WARNING: a copy outside ±300 ps for 1 ms (event 0x1805, F1). -/
def execPtOffsetWarning (d : Die) (s : State) : Host.Outcome State Fault Refusal :=
  ok (match ptCopy s d with
      | none => s
      | some c =>
        if heldFor c.outSince 1000000 s && !c.warned then
          detect .fc 0x1805 1 [(d.id : Int), c.offset] (setCopy d { c with warned := true } s)
        else s)

/-! ## Barriers and snapshots -/

/-- A mask with bit n for die ID n. -/
def dieMask (l : List Nat) : Nat := l.foldl (fun a n => a ||| 2 ^ n) 0

/-- A missing peer is checked for link loss: a die that is down sends no symbol (R44, R52). -/
def checkPeer (s : State) (n : Nat) : State :=
  match dieOfId n with
  | some d => if dieDown s d then linkIsLost d s else s
  | none => s

/-- BARRIER_FAILED: the bound of the oldest open barrier passes with acknowledgements missing. FC reports the missing peers
to the issuing operation and checks each for link loss (R52; event 0x1807). -/
def execBarrierFailed (s : State) : Host.Outcome State Fault Refusal :=
  ok (match s.jx.barriers with
      | [] => s
      | b :: r =>
        b.missing.foldl checkPeer (record .fc 0x1807 0 [(b.op : Int), (dieMask b.missing : Int)] { s with
          jx := { s.jx with barriers := r, report := some b }
          heel := { s.heel with releasing := if b.op == 0 then none else s.heel.releasing } }))

/-- SNAPSHOT: the named PT must lie at least 2 µs ahead (R51); one at a time (R557). -/
def execSnapshot (tag : Nat) (s : State) : Host.Outcome State Fault Refusal :=
  ok (longStep tag 0x34 (fun s =>
    let t := beNat (payload s tag)
    if s.snap.pending.isSome then .inr (no stBusy s)
    else if t < ptNow s + 2000 then .inr (no stTooLate (record .fc 0x1808 0 [] s))
    else .inl { s with snap := { s.snap with pending := some (t, tag) } }) s)

/-- VF_POWER_FAIL_WARNING: VF stays below 4.65 V for 1 µs; PI_SOFT as an F4 fault, at every such warning (R66; event
0x1303). -/
def execVfPowerFailWarning (s : State) : Host.Outcome State Fault Refusal :=
  ok (if s.supply.fcLock then s
      else f4React .piSoft 0x1303 (record .fc 0x1303 4 [] { s with supply := { s.supply with vfWarn := true } }))

end Sys2Proof.Machine
end

