-- ==== Sys2Proof/Machine/SafetyFn.lean ====
section
/-! DEFINITION. The drive safety functions: STO, SS1, SMS, SLS, brake, contactors, precharge, discharge, safe messages,
and the commands that move the operating state (11, R54). -/

namespace Sys2Proof.Machine
open Sys2Proof

/-! ## Readings -/

/-- Selected link voltage in 2^-16 V (R123, R137). -/
def vdcSel (s : State) : Int := if s.sense.vdcSrc == 2 then nth s.sense.ya 7 0 else nth s.sense.ya 6 0

/-- t_on in 125 ps: i_peak (ld + lq) / 2 sqrt 3 / vdc, within 2 µs to 1,000 µs (R215). -/
def awlOnTime (s : State) : Nat :=
  if vdcSel s ≤ 0 then 8000000
  else (clamp 16000 8000000 (divr (par s P.obsAwlIPeak * (par s P.obsMachLd + par s P.obsMachLq) * 262144 * s3120)
    (2 ^ 120 * vdcSel s))).toNat

/-- An Awl sequence begins, the gates following its pulses (R191, R215). -/
def startAwl (s : State) : State :=
  startPhase .awl { s with obs := { s.obs with awl := 1, awlC := s.fb.c, awlTon := awlOnTime s } }

/-- V_src in 2^-16 V, when valid (R460): AIN0 scaled in µV per LSB, or the field of the received message. -/
def vSrc (s : State) : Option Int :=
  match parN s P.safetySrcMode with
  | 1 => if s.saf.kFb.neg then some (((nth s.sense.hk 16 0 : Nat) : Int) * par s P.safetySrcScale * 65536 / 1000000) else none
  | 2 => s.saf.vsrc.map (fun v => (v : Int) * 65536)
  | _ => none

def konGet {α : Type} (t : Kon α) : Kont → α
  | .neg => t.neg | .pre => t.pre | .pos => t.pos

def konSet {α : Type} (t : Kon α) (k : Kont) (x : α) : Kon α :=
  match k with
  | .neg => { t with neg := x } | .pre => { t with pre := x } | .pos => { t with pos := x }

def kontNum (k : Kont) : Nat := match k with | .neg => 0 | .pre => 1 | .pos => 2

def konClosed (t : Kon Bool) : Bool := t.neg || t.pre || t.pos

/-! ## Safe Torque Off -/

/-- STO_ACTIVE: either filtered channel active (R57, R439). -/
def stoNow (s : State) : Bool := s.saf.stoFilt.a || s.saf.stoFilt.b

def stoMask (s : State) : Nat := bit1 s.saf.stoFilt.a + 2 * bit1 s.saf.stoFilt.b

/-- The winding path ends; the resistor path resumes if it has not failed, otherwise event 0x5353 (R443, R481). -/
def endWinding (s : State) : State :=
  match s.saf.dis with
  | none => s
  | some d =>
    if !d.winding && !d.wait then s
    else if !d.resFailed && parN s P.safetyDisR != 0 then
      { s with
        mod := { s.mod with running := false }
        saf := { s.saf with dis := some { d with winding := false, wait := false, onSince := some (now s) }, disOn := true,
                            disPath := 1 } }
    else detect .fc 0x5353 3 [] { s with saf := { s.saf with disPath := 3 } }

/-- FC holds PI or the order above it. -/
def holdsPi (s : State) : Bool := s.heel.fc == some .pi || s.heel.fc == some .piSoft

/-- FC issues PI without a change of state: every die receives it, and FC holds the more severe order (R35, R37). -/
def issuePi (s : State) : State :=
  let held := takeOrder s.heel.fc .pi
  broadcast .pi { s with heel := { s.heel with fc := held }, saf := { s.saf with held := heldCode held } }

/-- PI by STO at FC: in RUN and STOPPING SAFE_HOLD follows; in SAFE_HOLD and DISCHARGE the order is held; in every
other state the gates are off and nothing is ordered (R440, R443, R54; log 17). The later path finds the order held
(R481). -/
def stoPi (s : State) : State :=
  match s.op.state with
  | .run | .stopping => issuePackage .pi 0x5301 s
  | .safeHold => if holdsPi s then s else issuePackage .pi 0x5301 s
  | .discharge => if holdsPi s then s else endWinding (issuePi s)
  | _ => s

/-- STO_INPUT_CHANGE: a raw change restarts the channel's filter (R439). -/
def execStoInputChange (c : Ch) (active : Bool) (s : State) : Host.Outcome State Fault Refusal :=
  ok (if s.saf.stoRaw.get c == active then s
      else { s with saf := { s.saf with stoRaw := s.saf.stoRaw.set c active, stoSince := s.saf.stoSince.set c (now s) } })

/-- STO_FILTER_CHANGE: the filtered level takes the raw level held for safety.sto.filter (R439). Channel A raises PI at HB; channel B's level goes
to FC in a status message (R440). The rise of the demand is event 0x5301. -/
def execStoFilterChange (c : Ch) (s : State) : Host.Outcome State Fault Refusal :=
  ok (let lvl := s.saf.stoRaw.get c
      if s.supply.hbLock || s.saf.stoTest.isSome || s.saf.stoFilt.get c == lvl ||
          now s < s.saf.stoSince.get c + parN s P.safetyStoFilter * 100000 then s
      else
        let was := stoNow s
        let f := s.saf.stoFilt.set c lvl
        let s := { s with
          op := { s.op with stoActive := f.a || f.b }
          saf := { s.saf with
            stoFilt := f
            stoDiff := if f.a != f.b then some (now s) else none
            stoBoth := s.saf.stoBoth || (f.a && f.b)
            stoMsg := if c == .b then some lvl else s.saf.stoMsg
            stoTxAt := if c == .b then now s else s.saf.stoTxAt } }
        let s := if !was && lvl then
            record .hb 0x5301 0 [(stoMask s : Int), (s.op.state.code : Int)] s else s
        brake (if c == .a && lvl then stoPi s else s))

/-- STO_STATUS_PERIODIC: HB sends the filtered level of channel B every 30 µs (R440). -/
def execStoStatusPeriodic (s : State) : Host.Outcome State Fault Refusal :=
  ok (if s.supply.hbLock || s.saf.fcLoss.isSome || now s < s.saf.stoTxAt + 30000 then s
      else { s with saf := { s.saf with stoMsg := some s.saf.stoFilt.b, stoTxAt := now s } })

/-- STO_STATUS_RECEIVED: the class-1 message reaches FC on a full-rate lane, and FC's trip logic issues PI when it holds an
active state (R32, R440). -/
def execStoStatusReceived (s : State) : Host.Outcome State Fault Refusal :=
  ok (match s.saf.stoMsg with
      | none => s
      | some lvl =>
        if s.supply.fcLock || !linkUp s.jx.hb then s
        else
          let s := { s with saf := { s.saf with fcSto := lvl, stoMsg := none } }
          if lvl then brake (stoPi s) else s)

/-- STO_DISCREPANCY: the filtered channels differ for safety.sto.disc_time (R445; event 0x5302, F3). -/
def execStoDiscrepancy (s : State) : Host.Outcome State Fault Refusal :=
  ok (if heldFor s.saf.stoDiff (parN s P.safetyStoDiscTime * 1000000) s && !s.saf.stoDisc then
        detect .hb 0x5302 3 [] { s with saf := { s.saf with stoDisc := true, stoBoth := false } }
      else s)

/-- How long the forced STO input test lasts, in ns (R446). -/
def stoTestNs (s : State) : Nat := parN s P.safetyStoFilter * 100000 + 50000

/-- A filtered path registered the forced level, `t` ns after the force began, before it ended (R446). -/
def stoPathOk (s : State) (t : Option Nat) : Bool := match t with | some n => decide (n < stoTestNs s) | none => false

/-- STO_PATH_TEST_END: the forced test of both channels is judged by when each filtered path registered the level (R446;
event 0x5303 names the failed channel). -/
def execStoPathTestEnd (ta tb : Option Nat) (s : State) : Host.Outcome State Fault Refusal :=
  ok (match s.saf.stoTest with
      | none => s
      | some boot =>
        let okA := stoPathOk s ta
        let okB := stoPathOk s tb
        if now s < s.saf.stoTestAt + stoTestNs s then s
        else
        let s := { s with saf := { s.saf with stoTest := none, stoTestFail := !(okA && okB) } }
        if okA && okB then s
        else
          let s := detect .hb 0x5303 1 [(if okA then 1 else 0 : Int)] s
          if boot then { s with op := { s.op with faultHold := true } } else s)

/-! ## The stop ramp and safe speed -/

/-- SDS_PI_REPLACEMENT: the ASC that the speed-dependent safe state holds is replaced by PI after 100 ms below
safety.sds.pi_speed (R438); no state changes and nothing is recorded (R703). -/
def execSdsPiReplacement (s : State) : Host.Outcome State Fault Refusal :=
  ok (if s.op.state == .safeHold && s.op.speedDependent && heldFor s.saf.sdsSince 100000000 s then
        issuePi { s with op := { s.op with speedDependent := false } }
      else s)

def rpmOf (v : Int) : Int := divRound v 65536

/-- SS1_ENVELOPE_EXCEEDED: three speed updates above the envelope (R448; event 0x5311, F3). -/
def execSs1EnvelopeExceeded (s : State) : Host.Outcome State Fault Refusal :=
  ok (match s.saf.stop with
      | some r => if 3 ≤ r.envRun then detect .fc 0x5311 3 [rpmOf (smSpeed s)] s else s
      | none => s)

/-- The brake is commanded applied as the standstill condition is first met (R454). -/
def applyBrake (s : State) : State :=
  { s with saf := { s.saf with brkRel := false, brkHs := false, brkLs := false, brkTest := none, brkAt := some (now s) } }

/-- SS1_STANDSTILL: the speed has stayed below safety.ss1.zero for 10 ms. With the brake enabled it is first commanded
applied, and standstill counts after safety.brk.apply_time (R449, R454). Then the configured safe state is taken. -/
def execSs1Standstill (s : State) : Host.Outcome State Fault Refusal :=
  ok (match s.saf.stop with
      | none => s
      | some r =>
        if s.op.state != .stopping || !heldFor r.zeroSince 10000000 s then s
        else if parOn s P.safetyBrkEnable && s.saf.brkRel then applyBrake s
        else if parOn s P.safetyBrkEnable && !brakeHeld s then s
        else
          let s := record .fc 0x5313 0 [] s
          let o := safeOrder s
          let sd := decide (3 ≤ parN s P.safetyState) && s.sm.xover
          let s := issuePackage o 0 s
          { s with op := { s.op with speedDependent := s.op.speedDependent || (sd && s.heel.fc == some o) } })

/-- SS1_TIMEOUT: the stop exceeds safety.ss1.time (R60, R449; event 0x5312, F3). -/
def execSs1Timeout (s : State) : Host.Outcome State Fault Refusal :=
  ok (match s.saf.stop with
      | some r =>
        if s.op.state == .stopping && r.t0 + parN s P.safetySs1Time * 1000000 ≤ now s then detect .fc 0x5312 3 [] s else s
      | none => s)

/-- SMS_EXCEEDED: above safety.sms.limit on two updates (R451; event 0x5321, F3). -/
def execSmsExceeded (s : State) : Host.Outcome State Fault Refusal :=
  ok (if 2 ≤ s.saf.smsRun then detect .fc 0x5321 3 [] s else s)

/-- SLS_EXCEEDED: above safety.sls.limit on two updates after safety.sls.time (R452; event 0x5322, F3). -/
def execSlsExceeded (s : State) : Host.Outcome State Fault Refusal :=
  ok (if s.saf.sls && 2 ≤ s.saf.slsRun then detect .fc 0x5322 3 [] s else s)

/-! ## Brake -/

/-- Class of the brake events: F2 in RUN and STOPPING, F1 otherwise (R456, R457). -/
def brakeClass (s : State) : Nat := if gatesOff s.op.state then 1 else 2

/-- BRAKE_RELEASE_DELAY: safety.brk.release_delay after the first update of current control (R454). -/
def execBrakeReleaseDelay (s : State) : Host.Outcome State Fault Refusal :=
  ok (if s.op.state == .run && s.mod.running && !brakeApplied s &&
          heldFor s.saf.ctlAt (parN s P.safetyBrkReleaseDelay * 1000000) s then
        { s with saf := { s.saf with brkRel := true, brkHs := true, brkLs := true } }
      else s)

/-- BRAKE_DEMAND: HB opens both brake switches (R455). -/
def execBrakeDemand (s : State) : Host.Outcome State Fault Refusal := ok (brake s)

/-- BRAKE_TEST_PULSE: released in RUN, every safety.brk.test_period, the switch whose turn it is opens; applied, at the
entry to READY, each switch in turn closes alone (R456). -/
def execBrakeTestPulse (hs : Bool) (s : State) : Host.Outcome State Fault Refusal :=
  ok (if !parOn s P.safetyBrkEnable || s.saf.brkTest.isSome || s.supply.hbLock then s
      else if s.saf.brkRel then
        if s.op.state == .run && hs == s.saf.brkNextHs &&
            s.saf.brkTestAt + parN s P.safetyBrkTestPeriod * 1000000000 ≤ now s then
          { s with saf := { s.saf with brkTest := some ⟨hs, false, now s⟩, brkHs := s.saf.brkHs && !hs,
                                       brkLs := s.saf.brkLs && hs, brkTestAt := now s } }
        else s
      else if s.op.state == .ready && s.saf.brkDue.head? == some hs then
        { s with saf := { s.saf with brkTest := some ⟨hs, true, now s⟩, brkHs := hs, brkLs := !hs
                                     brkDue := s.saf.brkDue.drop 1 } }
      else s)

/-- BRAKE_TEST_PULSE_END: after safety.brk.test_pulse BRK_FB, in percent of the coil supply, is judged and the switch
restored (R456; event 0x5331). A test at READY has passed when both its pulses have. -/
def execBrakeTestPulseEnd (fb : Nat) (s : State) : Host.Outcome State Fault Refusal :=
  ok (match s.saf.brkTest with
      | none => s
      | some t =>
        let pass := decide (fb < 10)
        let kept := t.close && s.saf.brkDue.isEmpty && s.saf.brkFault
        if now s < t.since + parN s P.safetyBrkTestPulse * 1000 then s
        else
        let s := { s with saf := { s.saf with
          brkTest := none, brkHs := s.saf.brkRel, brkLs := s.saf.brkRel, brkFault := !pass || kept, brkMis := s.saf.brkMis && !pass
          brkFb := s.saf.brkRel
          brkNextHs := if t.close then s.saf.brkNextHs else !t.hs } }
        if pass then s else detect .hb 0x5331 (brakeClass s) [(bit1 (!t.hs) : Int), (fb : Int)] s)

/-- BRAKE_FEEDBACK_MISMATCH: BRK_FB inconsistent with the command for 1 ms outside a test (R457; event 0x5332). -/
def execBrakeFeedbackMismatch (fb ns : Nat) (s : State) : Host.Outcome State Fault Refusal :=
  ok (if 1000000 ≤ ns && s.saf.brkTest.isNone && parOn s P.safetyBrkEnable &&
          (if s.saf.brkRel then decide (fb < 50) else decide (10 < fb)) then
        detect .hb 0x5332 (brakeClass s) []
          { s with saf := { s.saf with brkMis := true, brkFb := decide (50 ≤ fb) } }
      else s)

/-! ## Contactors -/

/-- The winding path may run: contactors open, no order held, no leg faulted, a usable angle source (R469). -/
def windingAllowed (s : State) : Bool :=
  parN s P.safetyDisId != 0 && s.heel.fc.isNone && !anyLeg s

/-- The winding path starts once every feedback is open; without a primary source an Awl sequence comes first (R469). -/
def startWinding (s : State) : State :=
  match s.saf.dis with
  | some d =>
    if d.wait && !konClosed s.saf.kFb then
      if windingAllowed s then
        let ready := parN s P.fbSrcPrimary != 0 && !bitOf s.fb.lost (parN s P.fbSrcPrimary - 1)
        let s := { s with
          saf := { s.saf with
            dis := some { d with wait := false, winding := ready, onSince := some (now s), v0 := vdcSel s }, disPath := 2 }
          mod := { s.mod with running := ready, pattern := 0 }
          obs := { s.obs with phase := .idle, awlRetries := 0 }
          loop := { s.loop with tref := 0 } }
        if ready then s else startAwl s
      else endWinding s
    else s
  | none => s

/-- READY is left with an ENABLE in its charge pulses: the pulses stop and ENABLE ends ST_STATE (R54, R548; DESIGN
CHOICE, log 18). -/
def leaveReady (s : State) : State :=
  if s.mod.charging then
    let s := endOpcodes [0x21] stState 0 s
    { s with
      obs := { s.obs with enableTag := none }
      mod := { s.mod with charging := false, pattern := 0 } }
  else s

/-- DISCHARGE begins (R466): contactors open, the resistor on unless the winding path alone is asked for. -/
def beginDischarge (tag : Option Nat) (windingOnly : Bool) (s : State) : State :=
  let res := !windingOnly && parN s P.safetyDisR != 0
  let s := changeState .discharge 0 (leaveReady s)
  let s := { s with saf := { s.saf with
    dis := some ⟨tag, now s, false, !res, if res then some (now s) else none, 0, windingOnly, 0, 0, 0,
      if s.saf.kFb.pos then none else some (now s)⟩
    disOn := res
    disPath := if res then 1 else 2 } }
  startWinding (record .fc 0x5351 0 [(if res then 0 else 1 : Int)] s)

/-- safety.dis.on_safe: a discharge follows when SAFE_HOLD has opened the contactors (R466). -/
def autoDischarge (s : State) : State :=
  if s.op.state == .safeHold && parOn s P.safetyDisOnSafe && parOn s P.safetyContOnSafe && !konClosed s.saf.kFb &&
      !konClosed s.saf.kCmd && (s.op.holdFrom == .ready || s.op.holdFrom == .run || s.op.holdFrom == .stopping) then
    beginDischarge none false s
  else s

/-- In a discharge, K_POS has opened (R469). -/
def posOpened (k : Kont) (closed : Bool) (s : State) : State :=
  if k == .pos && !closed then
    { s with saf := { s.saf with dis := s.saf.dis.map (fun d => { d with posOpen := some (now s) }) } }
  else s

/-- One phase of the precharge sequence goes on (R464): the highest VDC of the weld check; the rise of VDC over successive
20 ms of charging; K_PRE opens 20 ms after the feedback of K_POS closed; and READY follows K_PRE's own feedback. -/
def preStep (s : State) : State :=
  match s.saf.pre with
  | none => s
  | some r =>
    let put (r : PreRun) : State := { s with saf := { s.saf with pre := some r } }
    let v := vdcSel s
    match r.phase with
    | .diag => s
    | .weld =>
      if !s.saf.kFb.neg then s
      else match r.at_ with
        | none => put { r with at_ := some (now s), vmax := v }
        | some _ => put { r with vmax := max r.vmax v }
    | .charge =>
      match r.win with
      | none => put { r with win := some (v, now s) }
      | some (v0, t) =>
        if now s < t + 20000000 then s
        else put { r with win := some (v, now s), settled := decide ((v - v0) * 100 < v0) }
    | .closing =>
      if !s.saf.kFb.pos then s
      else match r.at_ with
        | none => put { r with at_ := some (now s) }
        | some t => if now s < t + 20000000 then s else cmdK true false true (put { r with phase := .opening })
    | .opening =>
      if s.saf.kFb.pre then s
      else answerOk r.tag (changeState .ready 0 { s with saf := { s.saf with pre := none } })

/-- CONTACTOR_FEEDBACK_CHANGE: an auxiliary feedback changes (R459, R464, R469). -/
def execContactorFeedbackChange (k : Kont) (closed : Bool) (s : State) : Host.Outcome State Fault Refusal :=
  ok (if konGet s.saf.kFb k == closed || s.supply.hbLock then s
      else
        autoDischarge (startWinding (preStep (posOpened k closed
          { s with saf := { s.saf with kFb := konSet s.saf.kFb k closed } }))))

/-- |a - b| within p percent of b. -/
def within (a b : Int) (p : Nat) : Bool := decide ((a - b).natAbs * 100 ≤ p * b.natAbs)

/-- The verdicts of R461. -/
inductive Verdict where
  | open_ | welded | fbFault | again
  deriving DecidableEq, Repr

/-- The verdict on a contactor commanded open for 100 ms (R461): K_POS against V_src in DISCHARGE with the resistor on
for 100 ms, by feedback alone otherwise. -/
def judgeOpen (k : Kont) (s : State) : Verdict :=
  let fb := konGet s.saf.kFb k
  let useV := k == .pos && s.op.state == .discharge && s.saf.disOn &&
    (match s.saf.dis with
     | some d => (match d.onSince with | some t => decide (t + 100000000 ≤ now s) | none => false)
     | none => false)
  match (if useV then vSrc s else none) with
  | none => if fb then .welded else .open_
  | some v =>
    if within (vdcSel s) v 5 then .welded
    else if within (vdcSel s) v 10 then .again
    else if fb then .fbFault else .open_

def voltParam (v : Int) : Int := divRound v 65536

/-- A confirmed weld is recorded and switches DIS_ON off (R461; event 0x5342, F3). -/
def weldFound (k : Kont) (s : State) : State :=
  let vs := match vSrc s with | some v => voltParam v | none => 0xFFFF
  detect .hb 0x5342 3 [(kontNum k : Int), voltParam (vdcSel s), vs]
    { s with saf := { s.saf with weld := konSet s.saf.weld k true, disOn := false } }

/-- The check of CONTACTOR_CHECK goes on: after the closing it opens, after the opening it is judged again (R461). -/
def contactorCheckStep (t : Nat) (k : Kont) (closing : Bool) (s : State) : State :=
  if closing then
    if konGet s.saf.kFb k then
      let s := { s with saf := { s.saf with
        kCmd := konSet s.saf.kCmd k false, kAt := konSet s.saf.kAt k (some (now s)), check := some (t, kontNum k, false) } }
      s
    else
      let s := { s with saf := { s.saf with
        kCmd := konSet s.saf.kCmd k false, kAt := konSet s.saf.kAt k none, check := none } }
      answer t ⟨stFault, 0x5341, []⟩ (detect .hb 0x5341 2 [(kontNum k : Int)] s)
  else
    let v := judgeOpen k s
    let s := { s with saf := { s.saf with check := none, kAt := konSet s.saf.kAt k none } }
    if v == .open_ then answerOk t { s with saf := { s.saf with weld := konSet s.saf.weld k false } }
    else answer t ⟨stFault, 0x5342, []⟩ (weldFound k s)

/-- CONTACTOR_CHECK_DUE: 100 ms after a command change the feedback is judged (R459, R461). -/
def execContactorCheckDue (k : Kont) (s : State) : Host.Outcome State Fault Refusal :=
  ok (if !heldFor (konGet s.saf.kAt k) 100000000 s || s.supply.hbLock then s
      else match s.saf.check with
        | some (t, c, closing) => if c == kontNum k then contactorCheckStep t k closing s else s
        | none =>
          let cleared := { s with saf := { s.saf with kAt := konSet s.saf.kAt k none } }
          if konGet s.saf.kCmd k then
            if konGet s.saf.kFb k then cleared else detect .hb 0x5341 2 [(kontNum k : Int)] cleared
          else match judgeOpen k s with
            | .open_ => cleared
            | .welded => weldFound k cleared
            | .fbFault => detect .hb 0x5343 2 [] cleared
            | .again => { s with saf := { s.saf with kAt := konSet s.saf.kAt k (some ((now s / 10000000 + 1) * 10000000 - 100000000)) } })

/-- FC_LOSS_HOLD_EXPIRY: after safety.cont.fc_loss_hold HB opens the contactors (R462). -/
def execFcLossHoldExpiry (s : State) : Host.Outcome State Fault Refusal :=
  ok (if heldFor s.saf.fcLoss (parN s P.safetyContFcLossHold * 1000000000) s then cmdK false false false s else s)

/-! ## Precharge -/

/-- Links that R68 requires: HB's, and those of the dies the supply setting names. -/
def requiredDie (s : State) (p : GdPos) : Bool := parN s P.sysBootGdSupply == 0 || !p.high

def linksFull (s : State) : Bool :=
  fullLanes s.jx.hb != 0 && GdPos.all.all (fun p => !requiredDie s p || fullLanes (s.jx.gd.get p) != 0)

/-- A failure stands in the last diagnostic result of a position (R390): pair codes 2 fail (log 24). -/
def diagFailed (s : State) : Bool :=
  s.gd.list.any (fun g => g.cmpFail != 0 || g.pairs.any (fun x => decide (2 ≤ x) && decide (x ≤ 5)))

/-- The event behind a failed diagnostic: a test-current verdict, or a comparator self-test (R386, R388, R390, R550). -/
def diagCode (s : State) : Nat :=
  if s.gd.list.any (fun g => g.pairs.any (fun x => decide (2 ≤ x) && decide (x ≤ 5))) then 0x4C22 else 0x4C23

/-- The precharge sequence starts: K_NEG is commanded closed (R464). -/
def startPrecharge (tag : Nat) (s : State) : State :=
  let s := changeState .precharge 0 s
  cmdK true false false { s with saf := { s.saf with pre := some ⟨tag, .weld, now s, if s.saf.kFb.neg then some (now s) else none, vdcSel s, none, false⟩ } }

def anyWeld (s : State) : Bool := konClosed s.saf.weld

/-- Some position orders its diagnostic at precharge (R384). -/
def diagOrdered (s : State) : Bool := (List.range 6).any (fun i => parN s (P.gdDiagMode (i + 1)) == 1)

/-- A test-current position: one or two switches driven directly (R383). -/
def testCurrent (s : State) (p : GdPos) : Bool :=
  decide (parN s (P.gdParCount (p.id - 1)) ≤ 2) && !parOn s (P.gdOutBooster (p.id - 1))

/-- Both VDC channels read below 60 V (R385). -/
def linkLow (s : State) : Bool :=
  decide (nth s.sense.ya 6 0 < 60 * 65536) && decide (nth s.sense.ya 7 0 < 60 * 65536)

/-- The diagnostic begins at every position, or, ordered by PRECHARGE, at those with gd.diag.mode = 1; untrained dies
report NOT_RUN (R383 to R385, R389; event 0x4C24). -/
def startDiag (tag : Nat) (pre : Bool) (s : State) : State :=
  let runs (p : GdPos) (g : GdDie) : Bool := g.trained && (!pre || parOn s (P.gdDiagMode (p.id - 1)))
  let prep (p : GdPos) (g : GdDie) : GdDie :=
    if pre && !parOn s (P.gdDiagMode (p.id - 1)) then g
    else
      let mask := parN s (P.gdOutMask (p.id - 1))
      { g with
        diagMode := if !g.trained then 0 else if testCurrent s p && linkLow s then 1 else 2
        cmpFail := 0
        pairs := (List.range 4).map (fun i => if bitOf mask i then 0 else 15) }
  let swapped := !linkLow s && GdPos.all.any (fun p => runs p (s.gd.get p) && testCurrent s p)
  let s := { s with diag := some ⟨tag, pre, now s⟩, gd := s.gd.mapPos prep }
  if swapped then record .fc 0x4C24 0 [] s else s

/-- The event behind a fault that refuses PRECHARGE: a weld, a failed diagnostic, a link, the suspect link channels; 0 where
only the class of an earlier fault stands (R550, log 18). -/
def prechargeDetail (s : State) : Nat :=
  if anyWeld s then 0x5342 else if diagFailed s then diagCode s else if !linksFull s then 0x1804
  else if s.sense.vdcSuspect != 0 then 0x2042 else 0

/-- PRECHARGE (R54, R61, R69, R93, R384, R390, R461, R464, R465). Order of the refusals: log 18. -/
def execPrecharge (tag : Nat) (s : State) : Host.Outcome State Fault Refusal :=
  ok (longStep tag 0x20 (fun s =>
    if s.op.state != .standby then .inr (no stState s)
    else if GdPos.all.any (fun p => requiredDie s p && !(s.gd.get p).trained) then .inr (no stState s)
    else if s.op.commissioning || !s.last.sealed || s.tap.unlocked then .inr (no stLocked s)
    else if s.sense.cal.isSome || s.diag.isSome || decide (now s < s.saf.coolUntil) || s.saf.check.isSome then
      .inr (no stBusy s)
    else if 3 ≤ s.op.maxClass || anyWeld s || diagFailed s || !linksFull s || s.sense.vdcSuspect != 0 then
      .inr (noD stFault (prechargeDetail s) s)
    else if diagOrdered s then .inl (startDiag tag true s)
    else .inl (startPrecharge tag s)) s)

/-- PRECHARGE_WELD_CHECK_END: the selected VDC has been watched for 20 ms since K_NEG closed; K_PRE closes, or event 0x5344
ends the precharge (R464). -/
def execPrechargeWeldCheckEnd (s : State) : Host.Outcome State Fault Refusal :=
  ok (match s.saf.pre with
      | some r =>
        if r.phase != .weld || !heldFor r.at_ 20000000 s then s
        else
          let vmax := max r.vmax (vdcSel s)
          let pass := match vSrc s with
            | some v => decide (10 * vmax < v)
            | none => decide (vmax < 60 * 65536)
          if pass then
            cmdK true true false { s with saf := { s.saf with pre := some { r with phase := .charge, at_ := none } } }
          else
            detect .fc 0x5344 2 [] { s with saf := { s.saf with weld := { s.saf.weld with pos := true } } }
      | none => s)

/-- The charging target of R464. -/
def chargeReached (r : PreRun) (s : State) : Bool :=
  match vSrc s with
  | some v => decide (par s P.safetyPreRatio * v ≤ 100 * vdcSel s)
  | none => decide (par s P.senseVdcUv * 65536 < vdcSel s) && r.settled

/-- PRECHARGE_TARGET_REACHED: K_POS is commanded closed (R464); the sequence goes on in `preStep`. -/
def execPrechargeTargetReached (s : State) : Host.Outcome State Fault Refusal :=
  ok (match s.saf.pre with
      | some r =>
        if r.phase != .charge || !chargeReached r s then s
        else cmdK true true true { s with saf := { s.saf with pre := some { r with phase := .closing, at_ := none } } }
      | none => s)

/-- PRECHARGE_TIMEOUT: K_POS not closed within safety.pre.time (R465; event 0x5345, F2). -/
def execPrechargeTimeout (s : State) : Host.Outcome State Fault Refusal :=
  ok (match s.saf.pre with
      | some r =>
        if s.saf.kFb.pos || r.phase == .opening || now s < r.start + parN s P.safetyPreTime * 1000000 then s
        else preTimeout s
      | none => s)

/-! ## Discharge -/

/-- DISCHARGE (R466, R484). -/
def execDischarge (tag : Nat) (s : State) : Host.Outcome State Fault Refusal :=
  ok (longStep tag 0x24 (fun s =>
    let path := (nth (payload s tag) 0 0).toNat
    if !([OpState.standby, .ready, .safeHold].contains s.op.state) then .inr (no stState s)
    else if 1 < path then .inr (no stRange s)
    else if parN s P.safetyDisId == 0 && (path == 1 || parN s P.safetyDisR == 0) then .inr (no stRange s)
    else .inl (beginDischarge (some tag) (path == 1) s)) s)

/-- Current and voltage of the resistor check, in A and V (R468, R659; log 26): 30 A and 1,500 V at full scale (R695). -/
def disParams (d : DisRun) : List Int := [divRound (30 * d.iSum) 262144, divRound (1500 * d.vSum) 262144]

/-- DISCHARGE_RESISTOR_FAILED: two failed rounds switch DIS_ON off, and the winding path starts if it is allowed
(R468, R471; event 0x5352). -/
def execDischargeResistorFailed (s : State) : Host.Outcome State Fault Refusal :=
  ok (match s.saf.dis with
      | some d =>
        if s.saf.disOn && 2 ≤ d.fails then
          let s := record .fc 0x5352 1 (disParams d)
            { s with saf := { s.saf with
                disOn := false, disPath := 2
                dis := some { d with resFailed := true, wait := true, onSince := none } } }
          if windingAllowed s then startWinding s
          else detect .fc 0x5353 3 [] { s with saf := { s.saf with disPath := 3 } }
        else s
      | none => s)

/-- The winding path fails: VDC has not fallen by 10 % within 200 ms of full current, 10 ms after the path began, or is
not below 60 V within 3 s of K_POS opening (R469). -/
def windingFails (d : DisRun) (s : State) : Bool :=
  d.winding &&
    ((heldFor d.onSince 210000000 s && decide (9 * d.v0 < 10 * vdcSel s)) ||
     (heldFor d.posOpen 3000000000 s && decide (60 * 65536 ≤ vdcSel s)))

/-- DISCHARGE_WINDING_FAILED: the winding path fails its time bounds (R469; event 0x5353, F3). -/
def execDischargeWindingFailed (s : State) : Host.Outcome State Fault Refusal :=
  ok (match s.saf.dis with
      | some d => if windingFails d s then detect .fc 0x5353 3 [] { s with saf := { s.saf with disPath := 3 } } else s
      | none => s)

/-- DISCHARGE_COMPLETE: the selected VDC is below 60 V; DIS_ON off, gates off, STANDBY (R471; event 0x5354). -/
def execDischargeComplete (s : State) : Host.Outcome State Fault Refusal :=
  ok (match s.saf.dis with
      | some d =>
        if s.op.state == .discharge && vdcSel s < 60 * 65536 then
          let s := record .fc 0x5354 0 [(bit1 d.winding : Int), ((now s - d.start) / 1000000 : Nat)] s
          let s := endControl { s with saf := { s.saf with dis := none, disOn := false, disPath := 0 } }
          let s := changeState .standby 0 s
          match d.tag with | some t => answerOk t s | none => s
        else s
      | none => s)

/-! ## Safe messages -/

/-- A message is accepted (R475): SS1 request (R450), SLS selection (R452), source voltage (R460). -/
def acceptMsg (m : SafeMsg) (s : State) : State :=
  let ss1 := m.ss1 && !s.saf.ss1Req
  let s := { s with saf := { s.saf with
    msgSeq := some m.seq, cmsgOk := true, cmsgMissed := false, msgAt := now s, ss1Req := m.ss1
    sls := m.sls, slsSince := if m.sls && !s.saf.sls then now s else s.saf.slsSince
    vsrc := if m.value == 0xFFFF then none else some m.value } }
  if ss1 then detect .fc 0x5314 2 [] s else s

/-- An unpaired copy counts as single-channel reception; from the eighth on it is accepted (R475; event 0x5364). -/
def single (m : SafeMsg) (s : State) : State :=
  let n := s.saf.msgSingle + 1
  let s := { s with saf := { s.saf with msgSingle := n, msgSeq := some m.seq } }
  if 8 ≤ n then
    let s := if s.saf.singleBit then s
      else record .hb 0x5364 1 [] (degrade { s with saf := { s.saf with singleBit := true } })
    acceptMsg m s
  else s

/-- The age of R475 in µs: the signed difference of the low 32 bits (log 36). -/
def msgAge (s : State) (send : Nat) : Int := ((ptNow s / 1000 : Nat) - (send : Int) + 2 ^ 31) % 2 ^ 32 - 2 ^ 31

/-- A copy that passed its own checks is paired with the other channel's (R475). -/
def pairCopy (c : Ch) (m : SafeMsg) (s : State) : State :=
  let other := match c with | .a => Ch.b | .b => Ch.a
  match s.saf.cand.get other with
  | some o =>
    if o.seq == m.seq then
      let skew := if o.at_ ≤ m.at_ then m.at_ - o.at_ else o.at_ - m.at_
      let s := { s with saf := { s.saf with cand := ⟨none, none⟩ } }
      if o.ss1 == m.ss1 && o.sls == m.sls && o.value == m.value && skew ≤ parN s P.safetyCmsgSkew * 1000 then
        acceptMsg m { s with saf := { s.saf with msgSingle := 0, singleBit := false } }
      else record .hb 0x5361 0 [] { s with saf := { s.saf with msgSeq := some m.seq } }
    else
      let s := single o { s with saf := { s.saf with cand := s.saf.cand.set other none } }
      { s with saf := { s.saf with cand := s.saf.cand.set c (some m) } }
  | none =>
    let s := match s.saf.cand.get c with
      | some p => single p s
      | none => s
    { s with saf := { s.saf with cand := s.saf.cand.set c (some m) } }

/-- The sequence number the next copy must carry: one above the last message, a copy waiting for its partner included. -/
def seqOk (c : Ch) (q : Nat) (s : State) : Bool :=
  let other := match c with | .a => Ch.b | .b => Ch.a
  match s.saf.cand.get other, s.saf.cand.get c, s.saf.msgSeq with
  | some o, none, _ => q == o.seq || q == (o.seq + 1) % 65536
  | _, some p, _ => q == (p.seq + 1) % 65536
  | none, none, some b => q == (b + 1) % 65536
  | none, none, none => true

/-- SAFE_MESSAGE_RECEIVED: a copy is checked, paired, and accepted or discarded (R473 to R475). Frames with another
safe ID or another length are no safe messages of this drive. -/
def execSafeMessageReceived (c : Ch) (bytes : List Byte) (s : State) : Host.Outcome State Fault Refusal :=
  ok (if !parOn s P.safetyCmsgEnable || s.supply.hbLock || bytes.length != 16 ||
          beNat (bytes.take 2) != parN s P.safetyCmsgRxId then s
      else if crc32c (bytes.take 12) != beNat (bytes.drop 12) then record .hb 0x5362 0 [] s
      else
        let q := beNat ((bytes.drop 2).take 2)
        let send := beNat ((bytes.drop 4).take 4)
        let fl := (nth bytes 8 0).toNat
        if s.nt.aligned && decide (par s P.safetyCmsgAgeMax * 1000 < msgAge s send) then record .hb 0x5363 0 [] s
        else if !seqOk c q s then
          record .hb 0x5363 0 [] { s with saf := { s.saf with msgSeq := some q, cand := ⟨none, none⟩ } }
        else pairCopy c ⟨q, bitOf fl 0, bitOf fl 1, beNat ((bytes.drop 10).take 2), now s⟩ s)

/-- SAFE_MESSAGE_DEADLINE: no message accepted for safety.cmsg.deadline; the content falls to its safe values (R475; event 0x5365, F2). -/
def execSafeMessageDeadline (s : State) : Host.Outcome State Fault Refusal :=
  ok (if parOn s P.safetyCmsgEnable && !s.saf.cmsgMissed && s.boot.done &&
          s.saf.msgAt + parN s P.safetyCmsgDeadline * 1000000 ≤ now s then
        detect .hb 0x5365 2 [] { s with saf := { s.saf with
          cmsgOk := false, cmsgMissed := true, ss1Req := true, sls := true
          slsSince := if s.saf.sls then s.saf.slsSince else now s, vsrc := none } }
      else s)

/-! ## State commands -/

/-- A cause of SAFE_HOLD still stands (R54, R131, R415, R445, R549; log 16). -/
def causeStands (s : State) : Bool :=
  s.op.stoActive || s.op.ackBarred || (s.saf.stoDisc && !(s.saf.stoBoth && !stoNow s))
  || s.sense.ocTrip != 0 || s.sense.ovTrip != 0 || s.saf.fcSto
  || (parOn s P.safetyCmsgEnable && (s.saf.cmsgMissed || s.saf.ss1Req))
  || decide (2 ≤ s.saf.smsRun) || (s.saf.sls && decide (2 ≤ s.saf.slsRun))
  || GdPos.all.any (fun p => requiredDie s p && ((s.supply.gdLock.get p) || (s.jx.gd.get p).lost || !(s.gd.get p).powered))
  || s.jx.hb.lost || s.saf.fcLoss.isSome || s.pairs.cp.held
  || s.thm.sensors.any (fun x => decide (2 ≤ x.stopRun)) || (s.thm.sensors.drop 8).any (fun x => x.noEst)
  || s.pairs.le01.persistent || s.pairs.le23.persistent || s.pairs.le45.persistent || !s.clk.pll.isEmpty

/-- The link is charged and the main contactors are closed (R54). -/
def charged (s : State) : Bool :=
  s.saf.kFb.neg && s.saf.kFb.pos && decide (par s P.senseVdcUv * 65536 < vdcSel s)

/-- FC releases the held orders by a class-2 message and waits for the barrier of all seven peers (R35, R52). -/
def releaseOrders (s : State) : State :=
  { s with
    heel := { s.heel with fc := none, legs := ⟨false, false, false⟩, shoot := false, behind := 0,
                          reports := Six.rep none, releasing := some [0, 2, 3, 4, 5, 6, 7]
                          out := Six.rep [], outHb := [] }
    jx := { s.jx with barriers := s.jx.barriers.filter (fun b => b.op != 0) ++ [⟨0, [0, 2, 3, 4, 5, 6, 7]⟩] }
    mod := { s.mod with legLoss := false, lostLeg := 0 }
    supply := { s.supply with vfWarn := false }
    saf := { s.saf with held := 0, stoDisc := false, stoBoth := false, disPath := if s.saf.disPath == 3 then 0 else s.saf.disPath }
    op := { s.op with speedDependent := false } }

/-- FAULT_ACK (R549): MAX_CLASS clears; SAFE_HOLD ends when its cause has gone. -/
def execFaultAck (tag : Nat) (s : State) : Host.Outcome State Fault Refusal :=
  ok (fieldStep tag 0x23 (fun s =>
    match s.op.state with
    | .boot | .shutdown => no stState s
    | .safeHold =>
      if causeStands s then no stFault s
      else
        let s := releaseOrders { s with op := { s.op with maxClass := 0 } }
        yes (changeState (if charged s then .ready else .standby) 0 { s with pe := { s.pe with overrun := false } })
    | _ => yes { s with op := { s.op with maxClass := 0 }, pe := { s.pe with overrun := false } }) s)

/-- SHUTDOWN (R94, R95): the drain of step 0x21 begins. -/
def execShutdown (tag : Nat) (s : State) : Host.Outcome State Fault Refusal :=
  ok (fieldStep tag 0x25 (fun s =>
    if s.op.state != .standby || !vdcBelow60 s then no stState s
    else yes (journalSet 0x21 1 0 (changeState .shutdown 0 { s with boot := { s.boot with drain := true, drainAt := now s, step := 0x21 } }))) s)

/-- CONTACTOR_CHECK in STANDBY: the contactor closes (R461). -/
def execContactorCheck (tag : Nat) (s : State) : Host.Outcome State Fault Refusal :=
  ok (longStep tag 0x33 (fun s =>
    let k := (nth (payload s tag) 0 0).toNat
    if s.op.state != .standby then .inr (no stState s)
    else if 2 < k then .inr (no stRange s)
    else if s.saf.check.isSome then .inr (no stFault s)
    else
      let kk : Kont := if k == 0 then .neg else if k == 1 then .pre else .pos
      .inl { s with saf := { s.saf with
        kCmd := konSet s.saf.kCmd kk true, kAt := konSet s.saf.kAt kk (some (now s)), check := some (tag, k, true) } }) s)

end Sys2Proof.Machine
end

