-- ==== Sys2Proof/Machine/Sensing.lean ====
section
/-! DEFINITION. The twelve fast channels: scaling, sources, cross-checks, hardware trips, calibration (03). Channel
`c` counts from 0 here; the spec's channel number is c + 1. -/

namespace Sys2Proof.Machine
open Sys2Proof

/-! ## Losses and sources -/

def lostA (s : State) (c : Nat) : Bool := bitOf s.sense.lostA c
def lostB (s : State) (c : Nat) : Bool := bitOf s.sense.lostB c

def setBit (m i : Nat) : Nat := if bitOf m i then m else m + 2 ^ i

def setBits (m : Nat) (l : List Nat) : Nat := l.foldl setBit m

/-- First channel of a transducer set: 0 is set A, 1 is set B (R102). -/
def setBase (st : Nat) : Nat := if st == 0 then 0 else 3

/-- A set is usable on a path while all three of its channels are (R121). -/
def usable (mask st : Nat) : Bool := (List.range 3).all (fun k => !bitOf mask (setBase st + k))

def anySetA (s : State) : Bool := usable s.sense.lostA 0 || usable s.sense.lostA 1
def anySetB (s : State) : Bool := usable s.sense.lostB 0 || usable s.sense.lostB 1
def anyVdc (s : State) : Bool := !lostA s 6 || !lostA s 7

/-- A count per channel restarts where the channel is lost: its conversions are no longer judged (R128, R130). -/
def restartLost (mask base : Nat) (l : List Nat) : List Nat :=
  (List.range l.length).map (fun k => if bitOf mask (base + k) then 0 else nth l k 0)

/-- The losses of both paths become `a` and `b`; the trip conditions of lost channels end (R131), a lost terminal channel
ends the validity of OE1 (R196), and any loss sets DEGRADED (R57). -/
def markLosses (a b : Nat) (s : State) : State :=
  let s' := { s with sense := { s.sense with
    lostA := a, lostB := b
    ocRun := restartLost a 0 s.sense.ocRun, ovRun := restartLost a 6 s.sense.ovRun
    ocTrip := maskOf ((List.range 6).map (fun c => bitOf s.sense.ocTrip c && !bitOf a c))
    ovTrip := maskOf ((List.range 2).map (fun c => bitOf s.sense.ovTrip c && !bitOf a (6 + c))) } }
  let s' := if a / 256 % 8 == 0 then s' else { s' with obs := { s'.obs with oe1 := { s'.obs.oe1 with valid := false, run := 0 } } }
  if a == 0 && b == 0 then s' else degrade s'

/-- The losses change; the loss of a last usable source is its own event (R121, R140). -/
def setLosses (a b : Nat) (s : State) : State :=
  let s' := markLosses a b s
  let r := if anySetA s && !anySetA s' then detect .fc 0x2022 3 [] s' else s'
  let r := if anySetB s && !anySetB s' then detect .fc 0x2023 2 [] r else r
  if anyVdc s && !anyVdc s' then detect .fc 0x2043 3 [] r else r

/-- Channels are lost on a path; DEGRADED is set (R121). -/
def lose (a b : List Nat) (s : State) : State := setLosses (setBits s.sense.lostA a) (setBits s.sense.lostB b) s

/-- The sources selected, and the losses reported, at an update boundary (R121, R137). -/
def selectSources (s : State) : State :=
  let a := s.sense.lostA
  let b := s.sense.lostB
  { s with sense := { s.sense with
      repA := a, repB := b
      ctrlSet := if usable a 0 then 0 else if usable a 1 then 1 else 3
      monSet := if usable b 1 then 0 else if usable b 0 then 1 else 3
      vdcSrc := if s.sense.vdcSuspect != 0 || (bitOf a 6 && bitOf a 7) then 3
                else if bitOf a 7 then 1 else if bitOf a 6 then 2 else 0 } }

/-- Phase currents of the current loop, in 2^-16 A (R121). -/
def ctrlI (s : State) : Tri Int :=
  let b := if s.sense.ctrlSet == 1 then 3 else 0
  ⟨nth s.sense.ya b 0, nth s.sense.ya (b + 1) 0, nth s.sense.ya (b + 2) 0⟩

/-- Phase currents of the Safety Monitor (R121): set B path B first. -/
def monI (s : State) : Tri Int :=
  let b := if s.sense.monSet == 1 then 0 else 3
  ⟨nth s.sense.yb b 0, nth s.sense.yb (b + 1) 0, nth s.sense.yb (b + 2) 0⟩

/-! ## Scaling -/

def scaleA (s : State) (c : Nat) (x : Int) : Int :=
  scale x (par s (P.senseOffA (c + 1))) (par s (P.senseGainARaw (c + 1))) (parN s (P.senseGainAShift (c + 1)))

def scaleB (s : State) (c : Nat) (x : Int) : Int :=
  scale x (par s (P.senseOffB (c + 1))) (par s (P.senseGainBRaw (c + 1))) (parN s (P.senseGainBShift (c + 1)))

/-- |n / d| beyond `lim` per mille of the larger full scale 8,192 g 2^-s of the channels compared (log 19). -/
def beyondQ (n : Int) (d lim : Nat) (gains : List (Int × Nat)) : Bool :=
  gains.all (fun g => decide (lim * 8192 * g.1.natAbs * d < n.natAbs * 1000 * 2 ^ g.2))

def beyondFs (d : Int) (lim : Nat) (gains : List (Int × Nat)) : Bool := beyondQ d 1 lim gains

def gainA (s : State) (c : Nat) : Int × Nat := (par s (P.senseGainARaw (c + 1)), parN s (P.senseGainAShift (c + 1)))
def gainB (s : State) (c : Nat) : Int × Nat := (par s (P.senseGainBRaw (c + 1)), parN s (P.senseGainBShift (c + 1)))

/-- The test source stands in for the inputs from 10 ms to 18 ms of a calibration (R113). -/
def testSource (s : State) : Bool :=
  match s.sense.cal with
  | some r => decide (r.start + 10000000 ≤ now s) && decide (now s < r.start + 18000000)
  | none => false

/-! ## Windows of the path comparisons (R118) -/

/-- A window that has ended is complete, and the next one begins. -/
def PathWin.roll (no : Nat) (w : PathWin) : PathWin := if w.cur.no == no then w else ⟨⟨no, 0, 0, 0⟩, some w.cur⟩

/-- A reading in window `no`. -/
def PathWin.add (no : Nat) (y : Int) (w : PathWin) : PathWin :=
  let w := w.roll no
  { w with cur := ⟨no, w.cur.sum + y, w.cur.rect + y.natAbs, w.cur.n + 1⟩ }

/-- The window of a PT in ns: 1 ms long, aligned to PT. -/
def winNo (t : Nat) : Nat := t / 1000000

/-- One clock of a path B modulator enters its filter; the output joins the window that lies the group delay earlier,
unless it is an OVERLOAD value or the test source is in place (R108, R111, R113, R118). -/
def feedClk (c t : Nat) (k : BClk) (s : State) : State :=
  let n := parN s P.senseBOsr
  let taps := (k :: nth s.sense.taps c []).take 766
  let s := { s with sense := { s.sense with taps := upd s.sense.taps c (fun _ => taps) } }
  if 6 ≤ c || testSource s || overloaded n taps then s
  else { s with sense := { s.sense with
    winB := upd s.sense.winB c (PathWin.add (winNo (t - groupDelay n)) (scaleB s c (sincX n taps))) } }

/-- The clocks of a channel, oldest first; the last one falls at `t`, the others 50 ns apart before it. -/
def feedClks (c t : Nat) : List BClk → State → State
  | [], s => s
  | k :: r, s => feedClks c t r (feedClk c (t - 50 * r.length) k s)

/-! ## Hardware trips -/

/-- One path A conversion meets the trip logic (R107, R128 to R130). -/
def convert (c code : Nat) (s : State) : State :=
  if testSource s then s
  else
    let y := scaleA s c (xOfCode code)
    let s := { s with sense := { s.sense with
      convA := upd s.sense.convA c (fun _ => y)
      winA := upd s.sense.winA c (PathWin.add (winNo (ptNow s)) y) } }
    if c < 6 then
      let lim := par s P.senseOcTrip * 65536
      if lostA s c || lim == 0 || (gainA s c).1 == 0 then s
      else if lim < (y.natAbs : Int) then
        { s with sense := { s.sense with ocRun := upd s.sense.ocRun c (fun n => n + 1) } }
      else { s with sense := { s.sense with
        ocRun := upd s.sense.ocRun c (fun _ => 0)
        ocTrip := if bitOf s.sense.ocTrip c then s.sense.ocTrip - 2 ^ c else s.sense.ocTrip } }
    else if c < 8 then
      if lostA s c then s
      else if par s P.senseVdcOvTrip * 65536 < y then
        { s with sense := { s.sense with ovRun := upd s.sense.ovRun (c - 6) (fun n => n + 1) } }
      else
        { s with sense := { s.sense with
          ovRun := upd s.sense.ovRun (c - 6) (fun _ => 0)
          ovTrip := if bitOf s.sense.ovTrip (c - 6) then s.sense.ovTrip - 2 ^ (c - 6) else s.sense.ovTrip } }
    else s

/-- A background conversion of a terminal channel joins the mean of the update (R195). -/
def addTerminal (c : Nat) (s : State) : State :=
  if 8 ≤ c && c < 11 && !testSource s then
    { s with sense := { s.sense with vtAcc := upd s.sense.vtAcc (c - 8) (fun a => (a.1 + nth s.sense.convA c 0, a.2 + 1)) } }
  else s

/-- PATH_A_CONVERSION: a background conversion of an input of `uv` µV (R107, R128, R706). -/
def execPathAConversion (ch : Nat) (uv : Int) (s : State) : Host.Outcome State Fault Refusal :=
  ok (if ch < 12 && !s.supply.fcLock then addTerminal ch (convert ch (codeOfUv uv) s) else s)

def ampsOf (v : Int) : Int := divRound v 65536

/-- OVERCURRENT_TRIP: FC issues PI_SOFT (R129, R131; event 0x2001, F4). -/
def execOvercurrentTrip (ch : Nat) (s : State) : Host.Outcome State Fault Refusal :=
  ok (if ch < 6 && parN s P.senseOcCount ≤ nth s.sense.ocRun ch 0 && !bitOf s.sense.ocTrip ch && !lostA s ch then
        let s := { s with sense := { s.sense with ocTrip := s.sense.ocTrip + 2 ^ ch } }
        f4React .piSoft 0x2001 (record .fc 0x2001 4 [((ch + 1 : Nat) : Int), ampsOf (nth s.sense.convA ch 0)] s)
      else s)

/-- OVERVOLTAGE_TRIP: ASC_LOW above the crossover, PI_SOFT otherwise (R130; event 0x2002, F4). Orders coded as R395. -/
def execOvervoltageTrip (ch : Nat) (s : State) : Host.Outcome State Fault Refusal :=
  ok (if (ch == 6 || ch == 7) && 2 ≤ nth s.sense.ovRun (ch - 6) 0 && !bitOf s.sense.ovTrip (ch - 6) &&
          !lostA s ch then
        let s := { s with sense := { s.sense with ovTrip := s.sense.ovTrip + 2 ^ (ch - 6) } }
        let o : HeelOrder := if s.sm.xover then .ascLow else .piSoft
        f4React o 0x2002 (record .fc 0x2002 4
          [((ch + 1 : Nat) : Int), ampsOf (nth s.sense.convA ch 0), (sev o : Int)] s)
      else s)

/-! ## One sample set -/

/-- A consecutive count with its limit: an update beyond raises it, one within restarts it. -/
def run (beyond : Bool) (n : Nat) : Nat := if beyond then n + 1 else 0

/-- A comparison that has reached its count is failed, and stays so until an update within the limit (R120). -/
def failBit (mask i n need : Nat) : Nat :=
  if need ≤ n then setBit mask i else if n == 0 && bitOf mask i then mask - 2 ^ i else mask

/-- Comparisons sa and sb of phase `p` (R109, R120, R122). -/
def compareSets (dist : Bool) (p : Nat) (s : State) : State :=
  let lim := parN s P.senseXchkSetLim
  let sa := nth s.sense.saRun p 0
  let sb := nth s.sense.sbRun p 0
  let sa := if dist || !usable s.sense.lostA 0 || !usable s.sense.lostA 1 then sa
            else run (beyondFs (nth s.sense.ya p 0 - nth s.sense.ya (p + 3) 0) lim [gainA s p, gainA s (p + 3)]) sa
  let sb := if !usable s.sense.lostB 0 || !usable s.sense.lostB 1 || nth s.sense.overload p false ||
                nth s.sense.overload (p + 3) false then sb
            else run (beyondFs (nth s.sense.yb p 0 - nth s.sense.yb (p + 3) 0) lim [gainB s p, gainB s (p + 3)]) sb
  { s with sense := { s.sense with
      saRun := upd s.sense.saRun p (fun _ => sa)
      sbRun := upd s.sense.sbRun p (fun _ => sb)
      failed := upd s.sense.failed p (fun m => failBit (failBit m 0 sa 8) 1 sb 8) } }

/-- The sum check of a set on path A (R119, R122). -/
def sumCheck (dist : Bool) (st : Nat) (s : State) : State :=
  if dist || !usable s.sense.lostA st then s
  else
    let b := setBase st
    let sum := nth s.sense.ya b 0 + nth s.sense.ya (b + 1) 0 + nth s.sense.ya (b + 2) 0
    let n := run (beyondFs sum (parN s P.senseXchkSumLim) [gainA s b, gainA s (b + 1), gainA s (b + 2)])
      (nth s.sense.sumRun st 0)
    { s with sense := { s.sense with
        sumRun := upd s.sense.sumRun st (fun _ => n)
        sumFail := if n == 0 && bitOf s.sense.sumFail st then s.sense.sumFail - 2 ^ st else s.sense.sumFail } }

/-- Both link channels disagree (R123). -/
def vdcDiffer (s : State) : Bool :=
  let a := nth s.sense.ya 6 0
  let b := nth s.sense.ya 7 0
  let d : Int := ((a - b).natAbs : Int)
  decide (10 * 65536 < d) && decide (2 * max a b < 100 * d)

/-- Event 0x2042 (R124): both suspect in the gates-off states other than PRECHARGE. -/
def vdcUnattributable (s : State) : State :=
  let s := { s with sense := { s.sense with vdcArb := none, vdcRun := 0 } }
  match s.op.state with
  | .run | .stopping | .precharge => detect .fc 0x2042 2 [] s
  | _ => detect .fc 0x2042 1 [] { s with sense := { s.sense with vdcSuspect := 1 } }

/-- The arbitration sample: VT mean times three against both channels, each within 2 % or not (R123, R124). It takes the
readings as they are where a terminal or link channel has been lost meanwhile (DESIGN CHOICE, log 48). -/
def arbitrate (s : State) : State :=
  let m3 := nth s.sense.ya 8 0 + nth s.sense.ya 9 0 + nth s.sense.ya 10 0
  let inside (v : Int) : Bool := decide ((3 * v - m3).natAbs * 100 ≤ 2 * m3.natAbs)
  let a := inside (nth s.sense.ya 6 0)
  let b := inside (nth s.sense.ya 7 0)
  if a == b then vdcUnattributable s
  else
    let c := if a then 7 else 6
    let s := { s with sense := { s.sense with vdcArb := none, vdcRun := 0 } }
    lose [c] [] (detect .fc 0x2041 1 [((c + 1 : Nat) : Int)] s)

/-- The link comparison of one update, or a step of its arbitration (R123). -/
def vdcCheck (dist allHigh : Bool) (s : State) : State :=
  match s.sense.vdcArb with
  | some n =>
    if allHigh && !dist then arbitrate s else { s with sense := { s.sense with vdcArb := some (n + 1) } }
  | none =>
    if dist || s.sense.vdcSuspect != 0 || lostA s 6 || lostA s 7 then s
    else { s with sense := { s.sense with vdcRun := run (vdcDiffer s) s.sense.vdcRun } }

/-- A terminal channel is judged against the switch that has been on for 500 ns (R125). -/
def terminalCheck (dist : Bool) (p : Phase) (on : Option (Bool × Nat)) (s : State) : State :=
  match on with
  | some (high, age) =>
    let c := 8 + p.idx
    if dist || age < 500 || lostA s c then s
    else
      let vdc := vdcSel s
      let want := if high then vdc else 0
      let bad := decide (5 * vdc.natAbs < (nth s.sense.ya c 0 - want).natAbs * 100)
      { s with sense := { s.sense with termRun := upd s.sense.termRun p.idx (run bad) } }
  | none => s

/-- Open inputs and path B overload of one channel (R111, R126). -/
def inputCheck (c : Nat) (s : State) : State :=
  { s with sense := { s.sense with
      openRun := upd s.sense.openRun c (run (decide (nth s.sense.codeA c 8192 ≤ 16)))
      ovlRun := upd s.sense.ovlRun c (run (nth s.sense.overload c false)) } }

/-- The 64 codes of R127 while the power stage switches; they begin anew when it does not. -/
def stuckHistory (switching : Bool) (c : Nat) (s : State) : State :=
  let f (l : List Nat) : List Nat :=
    if switching then (l ++ [nth s.sense.codeA c 8192]).drop ((l.length + 1) - 64) else []
  { s with sense := { s.sense with stuckWin := upd s.sense.stuckWin c f } }

/-- Link warning and undervoltage on the selected source (R132). -/
def linkCheck (s : State) : State :=
  let v := vdcSel s
  let warn := par s P.senseVdcOvWarn * 65536
  let low := (s.op.state == .run || s.op.state == .stopping) && decide (v < par s P.senseVdcUv * 65536)
  { s with sense := { s.sense with
      ovWarnRun := run (decide (warn < v)) s.sense.ovWarnRun
      ovClearRun := run (decide (100 * v < 97 * warn)) s.sense.ovClearRun
      uvSince := if low then (match s.sense.uvSince with | some t => some t | none => some (now s)) else none
      uvRec := s.sense.uvRec && low } }

/-- The mean of a terminal channel's background conversions; without one in this update, the mean stays (DESIGN CHOICE,
log 48). -/
def termMean (s : State) (p : Phase) : Int :=
  match nth s.sense.vtAcc p.idx (0, 0) with
  | (sum, n) => if n == 0 then s.sense.vtMean.get p else qfree 16 sum n

/-- The sample set of one trigger: scaled, checked, with the sources of this update (R106 to R112, R137). -/
def senseUpdate (uvA : List Int) (clkB : List (List BClk)) (dist switching allHigh : Bool)
    (on : Tri (Option (Bool × Nat))) (s : State) : State :=
  let chans := List.range 12
  let s := chans.foldl (fun s c => feedClks c (ptNow s) (nth clkB c []) s) s
  let osr := parN s P.senseBOsr
  let codes := chans.map (fun c => codeOfUv (nth uvA c 0))
  let xB := chans.map (fun c => sincX osr (nth s.sense.taps c []))
  let ovl := chans.map (fun c => overloaded osr (nth s.sense.taps c []))
  let ya := chans.map (fun c => scaleA s c (xOfCode (nth codes c 8192)))
  let yb := chans.map (fun c => scaleB s c (nth xB c 0))
  let n := s.sense.disturbedCount
  let s := { s with sense := { s.sense with
      seq := (s.sense.seq + 1) % 2 ^ 32, stamp := ptNow s, codeA := codes, xB := xB, ya := ya, yb := yb
      vtMean := Tri.ofFn (termMean s), vtAcc := List.replicate 3 (0, 0)
      overload := ovl, disturbed := dist, disturbedCount := if dist then satInc (2 ^ 32 - 1) n else n } }
  let s := selectSources s
  if testSource s then s
  else
    let s := chans.foldl (fun s c => convert c (nth codes c 8192) s) s
    let s := (List.range 3).foldl (fun s p => compareSets dist p s) s
    let s := sumCheck dist 1 (sumCheck dist 0 s)
    let s := vdcCheck dist allHigh s
    let s := Phase.all.foldl (fun s p => terminalCheck dist p (on.get p) s) s
    let s := chans.foldl (fun s c => inputCheck c s) s
    let s := (List.range 6).foldl (fun s c => stuckHistory switching c s) s
    linkCheck s

/-! ## Path comparisons, verdicts and losses -/

/-- One complete window of a current channel, on both paths: mean and rectified mean, compared exactly (R118). -/
def windowCheck (c : Nat) (a b : WinAcc) (s : State) : State :=
  let st := if c < 3 then 0 else 1
  let p := c % 3
  if !usable s.sense.lostA st || !usable s.sense.lostB st || a.n == 0 || b.n == 0 then s
  else
    let lim := parN s P.senseXchkPathLim
    let g := [gainA s c, gainB s c]
    let differ (x y : Int) : Bool := beyondQ (x * (b.n : Int) - y * (a.n : Int)) (a.n * b.n) lim g
    let bad := differ a.sum b.sum || differ a.rect b.rect
    let n := run bad (nth s.sense.paRun c 0)
    { s with sense := { s.sense with
        paRun := upd s.sense.paRun c (fun _ => n)
        failed := upd s.sense.failed p (fun m => failBit m (2 + st) n 2) } }

/-- The windows of one channel as they stand now, path B later by the group delay; a window complete on both is judged. -/
def judgeWindow (s : State) (c : Nat) : State :=
  let a := (nth s.sense.winA c .reset).roll (winNo (ptNow s))
  let b := (nth s.sense.winB c .reset).roll (winNo (ptNow s - groupDelay (parN s P.senseBOsr)))
  let put (a b : PathWin) (s : State) : State :=
    { s with sense := { s.sense with winA := upd s.sense.winA c (fun _ => a), winB := upd s.sense.winB c (fun _ => b) } }
  match a.last, b.last with
  | some x, some y =>
    if x.no == y.no then windowCheck c x y (put { a with last := none } { b with last := none } s) else put a b s
  | _, _ => put a b s

/-- PATH_COMPARISON_WINDOW: comparisons pa and pb of the six current channels (R118). -/
def execPathComparisonWindow (s : State) : Host.Outcome State Fault Refusal :=
  ok (if testSource s || s.supply.fcLock then s else (List.range 6).foldl judgeWindow s)

/-- COMPARISON_FAILED: the verdict timer of the phase starts (R120). -/
def execComparisonFailed (p : Phase) (s : State) : Host.Outcome State Fault Refusal :=
  ok (if nth s.sense.failed p.idx 0 != 0 && (nth s.sense.verdict p.idx none).isNone then
        { s with sense := { s.sense with verdict := upd s.sense.verdict p.idx (fun _ => some (now s)) } }
      else s)

/-- What the table of R120 finds: set and path lost (2 both paths), or unattributable. -/
def verdictOf (pat sumA sumB : Nat) : Option (Nat × Nat) :=
  match pat with
  | 5 => some (0, 0)
  | 9 => some (1, 0)
  | 6 => some (0, 1)
  | 10 => some (1, 1)
  | 3 => if sumA == 1 && sumB == 0 then some (0, 2) else if sumA == 0 && sumB == 1 then some (1, 2) else none
  | _ => none

/-- The 3 ms of the phase's verdict have passed (R120). -/
def verdictDue (s : State) (p : Phase) : Bool :=
  match nth s.sense.verdict p.idx none with
  | some t => decide (t + 3000000 ≤ now s)
  | none => false

/-- CROSS_CHECK_VERDICT (R120, R121; events 0x2011, 0x2012). Comparisons that involve a lost set stop and are no longer
failed (R122). -/
def execCrossCheckVerdict (p : Phase) (s : State) : Host.Outcome State Fault Refusal :=
  ok (if !verdictDue s p then s
      else
        let pat := nth s.sense.failed p.idx 0
        let sums := (bitsOf s.sense.sumFail 0 1, bitsOf s.sense.sumFail 1 1)
        let s := { s with sense := { s.sense with
          verdict := upd s.sense.verdict p.idx (fun _ => none)
          failed := upd s.sense.failed p.idx (fun _ => 0)
          saRun := upd s.sense.saRun p.idx (fun _ => 0), sbRun := upd s.sense.sbRun p.idx (fun _ => 0)
          paRun := upd (upd s.sense.paRun p.idx (fun _ => 0)) (p.idx + 3) (fun _ => 0) } }
        if pat == 0 then s
        else match verdictOf pat sums.1 sums.2 with
          | none => detect .fc 0x2012 2 [(p.idx : Int), (pat : Int)] s
          | some (st, path) =>
            let b := setBase st
            let c := b + p.idx
            let all := [b, b + 1, b + 2]
            let s := detect .fc 0x2011 1 [(p.idx : Int), (st : Int), (path : Int), (pat : Int)] s
            match path with
            | 0 => lose [c] [] s
            | 1 => lose [] [c] s
            | _ => lose all all s)

/-- SUM_CHECK_FAILED: eight updates beyond the limit (R119); of the only remaining set it is event 0x2013, F3 (R122). -/
def execSumCheckFailed (set : Nat) (s : State) : Host.Outcome State Fault Refusal :=
  ok (if set < 2 && 8 ≤ nth s.sense.sumRun set 0 && !bitOf s.sense.sumFail set then
        let s := { s with sense := { s.sense with sumFail := s.sense.sumFail + 2 ^ set } }
        if usable s.sense.lostA set && !usable s.sense.lostA (1 - set) then detect .fc 0x2013 3 [] s else s
      else s)

/-- VDC_DISAGREEMENT: arbitration begins (R123). -/
def execVdcDisagreement (s : State) : Host.Outcome State Fault Refusal :=
  ok (if 16 ≤ s.sense.vdcRun && s.sense.vdcArb.isNone then
        { s with sense := { s.sense with vdcArb := some 0, vdcRun := 0 } }
      else s)

/-- VDC_ARBITRATION_TIMEOUT: no arbitration sample within 100 updates (R124; event 0x2042). -/
def execVdcArbitrationTimeout (s : State) : Host.Outcome State Fault Refusal :=
  ok (match s.sense.vdcArb with
      | some n => if 100 ≤ n then vdcUnattributable s else s
      | none => s)

/-- TERMINAL_IMPLAUSIBLE (R125; event 0x2051). -/
def execTerminalImplausible (p : Phase) (s : State) : Host.Outcome State Fault Refusal :=
  ok (let c := 8 + p.idx
      if 16 ≤ nth s.sense.termRun p.idx 0 && !lostA s c then
        lose [c] [] (detect .fc 0x2051 1 [((c + 1 : Nat) : Int)]
          { s with sense := { s.sense with termRun := upd s.sense.termRun p.idx (fun _ => 0) } })
      else s)

/-- OPEN_INPUT: lost on both paths (R126; event 0x2031). -/
def execOpenInput (ch : Nat) (s : State) : Host.Outcome State Fault Refusal :=
  ok (if ch < 12 && 4 ≤ nth s.sense.openRun ch 0 && !(lostA s ch && lostB s ch) then
        lose [ch] [ch] (detect .fc 0x2031 1 [((ch + 1 : Nat) : Int)] s)
      else s)

def span (l : List Nat) : Nat := l.foldl max 0 - l.foldl min 16383

/-- The condition of R127 on a current channel. -/
def stuck (s : State) (c : Nat) : Bool :=
  let w (k : Nat) : List Nat := nth s.sense.stuckWin k []
  let b := if c < 3 then 0 else 3
  (w c).length == 64 && decide (span (w c) ≤ 2) &&
  (List.range 3).all (fun k => b + k == c || decide (5 * 8192 < span (w (b + k)) * 100))

/-- STUCK_CHANNEL (R127; event 0x2032). -/
def execStuckChannel (ch : Nat) (s : State) : Host.Outcome State Fault Refusal :=
  ok (if ch < 6 && stuck s ch && !lostA s ch then
        lose [ch] [] (detect .fc 0x2032 1 [((ch + 1 : Nat) : Int)] s)
      else s)

/-- PATH_B_OVERLOAD (R111; event 0x2033). -/
def execPathBOverload (ch : Nat) (s : State) : Host.Outcome State Fault Refusal :=
  ok (if ch < 12 && 8 ≤ nth s.sense.ovlRun ch 0 && !lostB s ch then
        lose [] [ch] (detect .fc 0x2033 1 [((ch + 1 : Nat) : Int)] s)
      else s)

/-- OVERVOLTAGE_WARNING (R132; event 0x2003). -/
def execOvervoltageWarning (s : State) : Host.Outcome State Fault Refusal :=
  ok (if 10 ≤ s.sense.ovWarnRun && !s.sense.ovWarn then
        detect .fc 0x2003 1 [] { s with sense := { s.sense with ovWarn := true } }
      else s)

/-- OVERVOLTAGE_WARNING_CLEAR (R132). -/
def execOvervoltageWarningClear (s : State) : Host.Outcome State Fault Refusal :=
  ok (if 10 ≤ s.sense.ovClearRun && s.sense.ovWarn then { s with sense := { s.sense with ovWarn := false } } else s)

/-- UNDERVOLTAGE: 1 ms below sense.vdc.uv in RUN or STOPPING (R132; event 0x2004, F2). -/
def execUndervoltage (s : State) : Host.Outcome State Fault Refusal :=
  ok (match s.sense.uvSince with
      | some t =>
        if decide (t + 1000000 ≤ now s) && !s.sense.uvRec then
          detect .fc 0x2004 2 [] { s with sense := { s.sense with uvRec := true } }
        else s
      | none => s)

/-! ## Housekeeping checks (R133 to R136) -/

/-- Path A channels that a reference serves: 0 REFA, 1 REFB (R102). -/
def refChans : Nat → List Nat
  | 0 => [0, 1, 2, 6, 8, 10]
  | 1 => [3, 4, 5, 7, 9, 11]
  | _ => []

def hkRun (s : State) (input : Nat) : Nat := nth s.sense.hkFail input 0

/-- REFERENCE_OUT_OF_TOLERANCE: REFA, REFB on path A, REFDS on path B (R134; event 0x2061). The reading is the mean code of
the reference's input, in converter codes (DESIGN CHOICE, log 48). -/
def execReferenceOutOfTolerance (ref : Nat) (s : State) : Host.Outcome State Fault Refusal :=
  ok (if ref < 3 && 2 ≤ hkRun s (3 + ref) && !s.sense.bandgap && !s.sense.hkSuspect then
        let s := detect .fc 0x2061 1 [(ref : Int), ((nth s.sense.hk (3 + ref) 0 : Nat) : Int)]
          { s with sense := { s.sense with hkFail := upd s.sense.hkFail (3 + ref) (fun _ => 0) } }
        if ref == 2 then lose [] (List.range 12) s else lose (refChans ref) [] s
      else s)

/-- BANDGAP_DISAGREEMENT: the reference checks become unusable, until FC's reset (R134; event 0x2062, F2; DESIGN CHOICE,
log 48). -/
def execBandgapDisagreement (s : State) : Host.Outcome State Fault Refusal :=
  ok (if 2 ≤ hkRun s 6 && !s.sense.bandgap && !s.sense.hkSuspect then
        detect .fc 0x2062 2 [] { s with sense := { s.sense with bandgap := true } }
      else s)

/-- A divided supply in mV at full scale `fs` mV; its last rounding is open (log 9). -/
def hkMv (s : State) (input : Nat) (fs : Int) : Int := qfree 17 (((nth s.sense.hk input 0 : Nat) : Int) * fs) 4096

/-- TRANSDUCER_SUPPLY_FAULT: the set is lost on both paths (R135; event 0x2071). -/
def execTransducerSupplyFault (set : Nat) (s : State) : Host.Outcome State Fault Refusal :=
  ok (if set < 2 && 2 ≤ hkRun s (7 + set) && !s.sense.hkSuspect then
        let b := setBase set
        lose [b, b + 1, b + 2] [b, b + 1, b + 2] (detect .fc 0x2071 1 [(set : Int), hkMv s (7 + set) 30000]
          { s with sense := { s.sense with hkFail := upd s.sense.hkFail (7 + set) (fun _ => 0) } })
      else s)

/-- HK_ADC_SUSPECT: every housekeeping check is suspended, until FC's reset (R136; event 0x2072; DESIGN CHOICE, log 48). -/
def execHkAdcSuspect (input : Nat) (s : State) : Host.Outcome State Fault Refusal :=
  ok (if 20 ≤ input && input < 24 && 2 ≤ hkRun s input && !s.sense.hkSuspect then
        detect .fc 0x2072 1 [(input : Int)] { s with sense := { s.sense with hkSuspect := true } }
      else s)

/-! ## Calibration (R113 to R117) -/

/-- SENSE_CAL starts the 20 ms calibration with the gates off (R113). Charge pulses of an accepted ENABLE and a diagnostic
in progress do not refuse it (DESIGN CHOICE, log 48). -/
def execSenseCal (tag : Nat) (s : State) : Host.Outcome State Fault Refusal :=
  ok (longStep tag 0x30 (fun s =>
    if !([OpState.standby, .ready].contains s.op.state) then .inr (no stState s)
    else if s.sense.cal.isSome then .inr (no stBusy s)
    else .inl { s with sense := { s.sense with cal := some ⟨now s, some tag⟩ } }) s)

/-- The offset limit of R115 on the x scale: 2 % for currents and AUX, 1 % for voltages. -/
def offLimit (c : Nat) : Nat := if c < 6 || c == 11 then 2 else 1

def offOk (c : Nat) (v : Int) : Bool := decide (v.natAbs * 100 ≤ offLimit c * 8388608)

/-- AUX is judged by the current rule when it measures a DC current (R114). -/
def quiet (s : State) (m : CalMeas) (c : Nat) : Bool :=
  if c < 6 || (c == 11 && parN s P.senseAuxMode == 1) then decide (m.llMax < 20 * 65536)
  else decide ((nth m.rawMax c 0).natAbs * 100 ≤ offLimit c * 8388608)

/-- The converter test of R116 on the x scale: the span against 3.200 V = 13,107,200. -/
def spanOk (span : Int) : Bool := decide ((span - 13107200).natAbs * 1000 ≤ 5 * 13107200)

/-- The midpoint of the test against the measured offset (R116). -/
def midOk (mid off : Int) : Bool := decide ((mid - off).natAbs * 1000 ≤ 8388608)

def measured (a b : List Int) (path c : Nat) : Int := nth (if path == 0 then a else b) c 0

/-- What a calibration finds wrong with one channel and path (0 A, 1 B), on the x scale: the offset beyond its limit, else
the span, else the midpoint (R115, R116; the choice among them is log 48's). -/
def calBad (s : State) (m : CalMeas) (path c : Nat) : Option Int :=
  let off := measured m.offA m.offB path c
  let spn := measured m.spanA m.spanB path c
  let mid := measured m.midA m.midB path c
  if quiet s m c && !offOk c off then some off
  else if !spanOk spn then some spn
  else if !midOk mid off then some mid
  else none

/-- Event 0x2063 of a channel and path. -/
def calRecord (m : CalMeas) (path : Nat) (s : State) (c : Nat) : State :=
  match calBad s m path c with
  | some v => detect .fc 0x2063 1 [((c + 1 : Nat) : Int), (path : Int), v] s
  | none => s

/-- A quiet channel within every limit takes its offset (R114, R116). -/
def calStore (m : CalMeas) (path : Nat) (s : State) (c : Nat) : State :=
  if quiet s m c && (calBad s m path c).isNone then
    setPar (if path == 0 then P.senseOffA (c + 1) else P.senseOffB (c + 1)) (measured m.offA m.offB path c) s
  else s

/-- The losses after a calibration: a bad channel is lost, a quiet one within every limit is lost no longer (R115, R116,
R137). -/
def calMask (s : State) (m : CalMeas) (path mask : Nat) : Nat :=
  maskOf ((List.range 12).map (fun c =>
    (calBad s m path c).isSome || (bitOf mask c && !(quiet s m c && (calBad s m path c).isNone))))

/-- Causes of DEGRADED that no calibration removes (R40, R28, R412, R475, R137). -/
def degradedElsewhere (s : State) : Bool :=
  (s.jx.hb :: s.jx.gd.list).any (fun l => l.lanes.any (fun x => x == .half || x == .dropped))
  || s.pairs.le01.persistent || s.pairs.le23.persistent || s.pairs.le45.persistent || s.pairs.cp.persistent
  || s.sm.c0.isolated || s.sm.c1.isolated || s.sm.c2.isolated || s.saf.singleBit || s.fb.lost != 0
  || s.thm.sensors.any (fun x => x.broken) || s.thm.shdSuspect || s.obs.oe0.out || s.obs.oe1.out

/-- The evaluation of a calibration (R113 to R117, R124): all channels are judged, then the losses take effect together. The
link channels agree or not by the last sample set, scaled with the offsets it was formed with (DESIGN CHOICE, log 48). -/
def calEvaluate (m : CalMeas) (s : State) : State :=
  let chans := List.range 12
  let s := { s with sense := { s.sense with cal := none } }
  let a := calMask s m 0 s.sense.lostA
  let b := calMask s m 1 s.sense.lostB
  let s := chans.foldl (fun s c => calRecord m 1 (calRecord m 0 s c) c) s
  let s := setLosses a b (chans.foldl (fun s c => calStore m 1 (calStore m 0 s c) c) s)
  let mask := maskOf (chans.map (fun c => !quiet s m c))
  let s := if mask == 0 then s else record .fc 0x2064 0 [(mask : Int)] s
  let s := saveDevice s
  let s := if quiet s m 6 && quiet s m 7 && !vdcDiffer s
    then { s with sense := { s.sense with vdcSuspect := 0 } } else s
  if s.sense.lostA == 0 && s.sense.lostB == 0 && !degradedElsewhere s
    then { s with op := { s.op with degraded := false } } else s

/-- A current set and a link channel are usable on path A (R117). -/
def calUsable (s : State) : Bool := anySetA s && anyVdc s

/-- CALIBRATION_COMPLETE: the command ends, ST_FAULT without a usable source (R113, R117). -/
def execCalibrationComplete (m : CalMeas) (s : State) : Host.Outcome State Fault Refusal :=
  ok (match s.sense.cal with
      | none => s
      | some r =>
        if now s < r.start + 20000000 then s
        else
          let s := calEvaluate m s
          match r.tag with
          | some t => if calUsable s then answerOk t s else answer t ⟨stFault, 0x2063, []⟩ s
          | none => s)

end Sys2Proof.Machine
end

