-- ==== Sys2Proof/Machine/Feedback.lean ====
section
/-! DEFINITION. Position and speed feedback: the four sources, their checks, their loss (04). A source is named by its
code, 1 incremental, 2 SSI, 3 resolver, 4 Hall; lists per source are indexed by code - 1. -/

namespace Sys2Proof.Machine
open Sys2Proof

/-! ## Roles, units, loss -/

def primary (s : State) : Nat := parN s P.fbSrcPrimary
def secondary (s : State) : Nat := parN s P.fbSrcSecondary

def configured (s : State) (src : Nat) : Bool := src != 0 && (primary s == src || secondary s == src)

def srcLost (s : State) (src : Nat) : Bool := src != 0 && bitOf s.fb.lost (src - 1)

/-- The primary source serves control. -/
def primaryUsable (s : State) : Bool := primary s != 0 && !srcLost s (primary s)

/-- Counts per mechanical revolution (R143). -/
def cpr (s : State) (src : Nat) : Nat :=
  match src with
  | 1 => 4 * parN s P.fbIncLines
  | 2 => 2 ^ parN s P.fbSsiStBits
  | 3 => 65536 * parN s P.fbResPoles
  | 4 => 6 * parN s P.fbHallPairs
  | _ => 1

/-- A 48.16 reading of one source in 48.16 counts of another (R143). -/
def convCounts (s : State) (v : Int) (src dst : Nat) : Int := divr (v * cpr s dst) (cpr s src)

/-- OE0 reports a speed at or above its minimum (R194). -/
def oe0Fast (s : State) : Bool :=
  s.obs.oe0.valid && decide (parN s P.obsOe0WMin * 100 ≤ s.obs.oe0.wpll.natAbs)

/-- The outcome of losing a source in its role (R178, R181). -/
def roleLost (src : Nat) (s : State) : State :=
  if src == primary s then
    if gatesOff s.op.state then detect .fc 0x2862 1 [] s
    else if parOn s P.fbFallbackEnable && oe0Fast s then
      detect .fc 0x2861 1 [] { s with
        fb := { s.fb with fallback := true, posUncertain := true, agreeRun := 0 }
        pe := { s.pe with homed := false } }
    else detect .fc 0x2862 2 [] s
  else if src == secondary s then detect .fc 0x2864 1 [] (degrade s)
  else s

/-- A source is lost; it never returns to service by itself (R179). -/
def loseSrc (src : Nat) (s : State) : State :=
  if src == 0 || srcLost s src then s
  else roleLost src { s with fb := { s.fb with lost := s.fb.lost + 2 ^ (src - 1) } }

/-! ## Incremental encoder -/

/-- P follows C with the hysteresis of R149. -/
def hyst (on : Bool) (c p : Int) : Int := if !on then c else if p < c then c else if c < p - 1 then c + 1 else p

/-- The raw count C moves; P and its latest change follow (R149, R150). -/
def moveCount (d : Int) (s : State) : State :=
  let c := s.fb.c + d
  let p := hyst (parOn s P.fbIncHyst) c s.fb.p
  let moved := p != s.fb.p
  { s with fb := { s.fb with
      c := c, p := p
      edgeC := if moved then p else s.fb.edgeC
      edgeAt := if moved then now s else s.fb.edgeAt } }

def incN (s : State) : Int := ((4 * parN s P.fbIncLines : Nat) : Int)

/-- Signed deviation of C from the nearest multiple of N counted from C_ref (R152). -/
def idxDev (n d : Int) : Int :=
  let m := d % n
  if n ≤ 2 * m then m - n else m

/-- How far past a multiple C goes before its index is missing (R154). -/
def idxReach (s : State) : Int := par s P.fbIdxTol + 4

/-- C stands within reach of multiple `k`, at distance `d` from C_ref. -/
def nearTo (s : State) (d k : Int) : Bool := decide ((d - k * incN s).natAbs ≤ idxReach s)

/-- Multiples within reach at distance `d` from C_ref that are not watched yet, with the side C came from. -/
def newNear (s : State) (d : Int) : List IdxNear :=
  let lo := (d - idxReach s) / incN s
  let ks := (List.range (2 * (idxReach s).toNat + 2)).map (fun (i : Nat) => lo + (i : Int))
  (ks.filter (fun k => nearTo s d k && !s.fb.idxNear.any (fun e => e.k == k))).map
    (fun k => ⟨k, decide (d < k * incN s), false⟩)

/-- C passes a multiple of N from C_ref by more than fb.idx.tol + 4 without an index: a missing index (R154), pending as
deviation 32,768. -/
def watchIndex (s : State) : State :=
  match s.fb.cref with
  | none => s
  | some r =>
    if parN s P.fbIdxMode == 0 || s.fb.idxOff then s
    else
      let d := s.fb.c - r
      let left := s.fb.idxNear.filter (fun e => !nearTo s d e.k)
      let missing := left.any (fun e => !e.seen && e.below != decide (d < e.k * incN s))
      let stay := s.fb.idxNear.filter (fun e => nearTo s d e.k)
      { s with fb := { s.fb with
          idxNear := stay ++ newNear s d
          idxPending := if missing then some 32768 else s.fb.idxPending } }

/-- An index has been latched near these multiples. -/
def seeIndex (l : List IdxNear) : List IdxNear := l.map (fun e => { e with seen := true })

/-- The first illegal transition in the window is event 0x2801 (R187). -/
def illegalOf (src : Nat) (s : State) : State :=
  let win := parN s P.fbIncIllegalWindow * 1000000
  let old := (if src == 1 then s.fb.illegal else s.fb.hallIllegal).filter (fun t => now s < t + win)
  let l := old ++ [now s]
  let s := { s with fb := { s.fb with
    illegal := if src == 1 then l else s.fb.illegal
    hallIllegal := if src == 4 then l else s.fb.hallIllegal
    posUncertain := true, agreeRun := 0
    errIllegal := satInc 65535 s.fb.errIllegal } }
  if old.isEmpty then record .fc 0x2801 0 [(src : Int), s.fb.c] s else s

/-- The count direction of a legal transition: +1 while A leads B (R147). -/
def quadStep (a b a' b' : Bool) : Int :=
  let g (x y : Bool) : Int := if x then (if y then 2 else 1) else (if y then 3 else 0)
  if (g a' b' - g a b) % 4 == 1 then 1 else -1

/-- QUADRATURE_TRANSITION: line A has stood at `a` for `na` samples and line B at `b` for `nb`; a filtered level follows after
fb.inc.filter of them (R147, R149). -/
def execQuadratureTransition (a b : Bool) (na nb : Nat) (s : State) : Host.Outcome State Fault Refusal :=
  ok (let a := if parN s P.fbIncFilter ≤ na then a else s.fb.a
      let b := if parN s P.fbIncFilter ≤ nb then b else s.fb.b
      if s.supply.fcLock || (a == s.fb.a && b == s.fb.b) then s
      else
        let a0 := s.fb.a
        let b0 := s.fb.b
        let s := { s with fb := { s.fb with a := a, b := b } }
        if a != a0 && b != b0 then illegalOf 1 s
        else
          let d := quadStep a0 b0 a b
          watchIndex (moveCount (if parOn s P.fbIncDir then -d else d) s))

/-- ILLEGAL_LIMIT_EXCEEDED: more than fb.inc.illegal_max in the window (R148, R158; event 0x2802). -/
def execIllegalLimitExceeded (src : Nat) (s : State) : Host.Outcome State Fault Refusal :=
  ok (let win := parN s P.fbIncIllegalWindow * 1000000
      let n := ((if src == 1 then s.fb.illegal else s.fb.hallIllegal).filter (fun t => now s < t + win)).length
      if (src == 1 || src == 4) && parN s P.fbIncIllegalMax < n && !srcLost s src then
        loseSrc src (detect .fc 0x2802 1 [(src : Int), (n : Int)] s)
      else s)

/-- POS_UNCERTAIN clears at a good index check (R156). -/
def idxGood (d : Int) (s : State) : State :=
  if d.natAbs ≤ parN s P.fbIdxTol then { s with fb := { s.fb with posUncertain := false } } else s

/-- INDEX_LATCH: a qualified Z edge latches C (R151 to R155). -/
def execIndexLatch (illegal : Bool) (s : State) : Host.Outcome State Fault Refusal :=
  ok (let mode := parN s P.fbIdxMode
      if mode == 0 || s.supply.fcLock || (mode == 1 && !(s.fb.a && s.fb.b)) then s
      else
        let seen := { s with
          fb := { s.fb with
            indexNo := satInc 65535 s.fb.indexNo, idxReg := s.fb.c, idxNear := seeIndex s.fb.idxNear }
          pe := { s.pe with homeIdx := if s.pe.homePhase == 1 || s.pe.homePhase == 4 then some s.fb.p else s.pe.homeIdx } }
        if illegal || s.fb.idxOff then seen
        else match s.fb.cref with
          | none => { seen with fb := { s.fb with
              cref := some s.fb.c, indexNo := 0, idxReg := s.fb.c, idxNear := [⟨0, false, true⟩] } }
          | some r =>
            let d := idxDev (incN s) (s.fb.c - r)
            if d == 0 then idxGood d seen
            else if d.natAbs ≤ parN s P.fbIdxTol then
              let s := idxGood d { seen with fb := { seen.fb with
                corr := d, corrPending := if parOn s P.fbIdxApply then some d else none } }
              record .fc 0x2803 0 [d, (s.fb.indexNo : Int)] s
            else { seen with fb := { seen.fb with idxPending := some d } })

/-! ## Positions -/

/-- SSI position extrapolated to PT `t` at the present speed, 48.16 (R167). -/
def ssiAtPt (s : State) (t : Nat) : Int :=
  s.fb.ssiPos * 65536 + divr (nth s.fb.w 1 0 * ((t : Int) - s.fb.ssiAt)) 1000000000

/-- Position of a source at the present update in its own 48.16 counts (R143, R144). -/
def srcPos (s : State) (src : Nat) : Int :=
  match src with
  | 1 => s.fb.p * 65536
  | 2 => ssiAtPt s (now s)
  | 3 => s.fb.resCount * 65536
  | 4 => s.fb.hallCount * 65536
  | _ => s.fb.pos

/-- A usable SSI or resolver secondary (R145, R154). -/
def absSecondary (s : State) : Bool := (secondary s == 2 || secondary s == 3) && !srcLost s (secondary s)

/-- INDEX_FAULT_CHECK: at the next t0 the secondary confirms the count C, or the source is lost (R154; events 0x2805,
0x2804). -/
def execIndexFaultCheck (s : State) : Host.Outcome State Fault Refusal :=
  ok (match s.fb.idxPending with
      | none => s
      | some d =>
        let s := { s with fb := { s.fb with idxPending := none } }
        let diff := s.fb.c * 65536 - convCounts s (srcPos s (secondary s)) (secondary s) 1
        if absSecondary s && decide ((diff.natAbs : Int) ≤ par s P.fbXchkLim * 65536) then
          detect .fc 0x2805 1 [] { s with fb := { s.fb with idxOff := true } }
        else loseSrc 1 (detect .fc 0x2804 1 [d] s))

/-! ## Hall -/

/-- HALL_STATE_CHANGE: a state that has stood for fb.hall.filter moves the sector; a jump is a sequence error (R157,
R158). -/
def execHallStateChange (st ns : Nat) (s : State) : Host.Outcome State Fault Refusal :=
  ok (if st == 0 || 7 ≤ st || ns < parN s P.fbHallFilter || s.supply.fcLock then s
      else
        let sec := parN s (P.fbHallMap st)
        let d := (sec + 6 - s.fb.hallSector) % 6
        let put (n : Int) (s : State) : State := { s with fb := { s.fb with
          hallSector := sec, hallKnown := true, hallCount := s.fb.hallCount + n
          hallAt := if n == 0 then s.fb.hallAt else now s } }
        if !s.fb.hallKnown then put 0 { s with fb := { s.fb with hallAt := now s } }
        else if d == 0 then s
        else if d == 1 then put 1 s
        else if d == 5 then put (-1) s
        else illegalOf 4 (put 0 s))

/-- HALL_STATE_INVALID: state 0 or 7 past the filter (R158; event 0x2831). -/
def execHallStateInvalid (ns : Nat) (s : State) : Host.Outcome State Fault Refusal :=
  ok (if ns < parN s P.fbHallFilter || srcLost s 4 || s.supply.fcLock then s else loseSrc 4 (detect .fc 0x2831 1 [] s))

/-! ## Resolver -/

/-- RESOLVER_AMPLITUDE_FAULT (R160; event 0x2821). -/
def execResolverAmplitudeFault (s : State) : Host.Outcome State Fault Refusal :=
  ok (if 4 ≤ s.fb.ampRun && !srcLost s 3 then loseSrc 3 (detect .fc 0x2821 1 [] s) else s)

/-- RESOLVER_TRACKING_LOST (R160; event 0x2822). -/
def execResolverTrackingLost (s : State) : Host.Outcome State Fault Refusal :=
  ok (if 4 ≤ s.fb.trkRun && !srcLost s 3 then loseSrc 3 (detect .fc 0x2822 1 [] s) else s)

/-- RESOLVER_EXCITATION_FAULT: housekeeping input 10 on two rounds (R160; event 0x2823). -/
def execResolverExcitationFault (s : State) : Host.Outcome State Fault Refusal :=
  ok (if 2 ≤ hkRun s 10 && !s.sense.hkSuspect && !srcLost s 3 then loseSrc 3 (detect .fc 0x2823 1 [] s) else s)

/-! ## SSI -/

/-- n of R161. -/
def ssiLen (s : State) : Nat :=
  parN s P.fbSsiMtBits + parN s P.fbSsiStBits + parN s P.fbSsiStatusBits +
    (match parN s P.fbSsiCheck with | 0 => 0 | 1 => 1 | _ => parN s P.fbSsiCrcWidth)

/-- D of R162 in ns at the negotiated rate. -/
def ssiFrameNs (s : State) : Nat := (ssiLen s + 1) * (1000000 / s.fb.ssiRate) + s.fb.ssiTrt + 40

/-- m of R162: a frame runs at every m-th update. The update period is H x 125 ps. -/
def ssiEvery (s : State) : Nat :=
  let need := 8 * (ssiFrameNs s + parN s P.fbSsiTm + 1000)
  max 1 ((need + s.mod.h - 1) / s.mod.h)

def bitsNat (l : List Bool) : Nat := l.foldl (fun a b => 2 * a + bit1 b) 0

/-- Binary value of Gray-coded bits, first bit first. -/
def grayBits : Bool → List Bool → List Bool
  | _, [] => []
  | p, b :: r => (p != b) :: grayBits (p != b) r

/-- CRC of R161 over the preceding bits: width w, generator p with the top bit implied, initial value 0. -/
def ssiCrc (w p : Nat) (l : List Bool) : Nat :=
  l.foldl (fun c b =>
    let top := bitOf c (w - 1) != b
    let c := c * 2 % 2 ^ w
    if top then c.xor (p % 2 ^ w) else c) 0

/-- The check of a frame passes (R161). -/
def ssiCheckOk (s : State) (l : List Bool) : Bool :=
  match parN s P.fbSsiCheck with
  | 0 => true
  | 1 => (l.filter id).length % 2 == 0
  | _ =>
    let w := parN s P.fbSsiCrcWidth
    let body := l.take (l.length - w)
    bitsNat (l.drop (l.length - w)) == 2 ^ w - 1 - ssiCrc w (parN s P.fbSsiCrcPoly) body

/-- A sample is stale; cause 0 check, 1 ready, 2 start, 3 end, 4 error flag, 5 jump, 6 overrun (R163 to R165; event
0x2812). -/
def ssiStale (cause : Nat) (s : State) : State :=
  record .fc 0x2812 0 [(cause : Int)] { s with fb := { s.fb with
    ssiRun := s.fb.ssiRun + 1, errSsi := satInc 65535 s.fb.errSsi } }

/-- Comparison of both sources at an SSI or resolver sample instant: `p` primary, `q` secondary, 48.16 (R156, R176). -/
def crossCompare (p q : Int) (s : State) : State :=
  if primary s == 0 || secondary s == 0 || srcLost s (primary s) || srcLost s (secondary s) then s
  else
    let d := p - convCounts s q (secondary s) (primary s)
    let bad := decide (par s P.fbXchkLim * 65536 < (d.natAbs : Int))
    let agree := if bad then 0 else s.fb.agreeRun + 1
    { s with fb := { s.fb with
        xchkRun := run bad s.fb.xchkRun, xchkDiff := divr d 65536, agreeRun := agree
        posUncertain := s.fb.posUncertain && agree < 16 } }

/-- A sample is received: unwrapped, predicted, compared (R144, R165, R167, R175, R176). -/
def ssiReceived (raw : Nat) (s : State) : State :=
  let st := 2 ^ parN s P.fbSsiStBits
  let at_ := s.fb.ssiT0 + s.fb.ssiTrt / 2
  let d : Int := ((raw : Int) - s.fb.ssiRaw) % st
  let d := if (st : Int) ≤ 2 * d then d - st else d
  let pos := if s.fb.ssiKnown then s.fb.ssiPos + d else (raw : Int)
  let pred := divr (ssiAtPt s at_) 65536
  if s.fb.ssiKnown && decide (par s P.fbSsiJump < ((pos - pred).natAbs : Int)) then ssiStale 5 s
  else
    let changed := !s.fb.ssiKnown || pos != s.fb.ssiPos
    let s := { s with fb := { s.fb with
      ssiPos := pos, ssiRaw := raw, ssiAt := at_, ssiKnown := true, ssiRun := 0
      ssiChgAt := if changed then at_ else s.fb.ssiChgAt } }
    if secondary s == 2 then crossCompare s.fb.ssiPri (pos * 65536) s
    else if primary s == 2 then crossCompare (pos * 65536) s.fb.ssiPri s
    else s

/-- Why a frame is not received, coded as in event 0x2812: 0 check, 2 start, 3 end, 4 error flag (R163). -/
def frameCause (s : State) (f : SsiFrame) : Option Nat :=
  let np := parN s P.fbSsiMtBits + parN s P.fbSsiStBits
  if !f.startLow then some 2
  else if !f.endLow then some 3
  else if f.bits.length != ssiLen s || !ssiCheckOk s f.bits then some 0
  else if parN s P.fbSsiStatusBits != 0 && nth f.bits np false then some 4
  else none

/-- The position bits of a frame, decoded (R161). -/
def framePos (s : State) (f : SsiFrame) : Nat :=
  let bits := f.bits.take (parN s P.fbSsiMtBits + parN s P.fbSsiStBits)
  bitsNat (if parN s P.fbSsiCode == 1 then grayBits false bits else bits)

/-- SSI_FRAME_DECODED: D after its start the frame ends and is judged (R161 to R163, R165). -/
def execSsiFrameDecoded (f : SsiFrame) (s : State) : Host.Outcome State Fault Refusal :=
  ok (if !s.fb.ssiRunning || s.supply.fcLock || decide (now s < s.fb.ssiT0 + ssiFrameNs s) then s
      else
        let s := { s with fb := { s.fb with ssiRunning := false, ssiEnd := now s } }
        match frameCause s f with
        | some c => ssiStale c s
        | none => ssiReceived (framePos s f) s)

/-- Bit time in ns at the negotiated rate (R161). -/
def ssiBit (s : State) : Nat := 1000000 / s.fb.ssiRate

/-- A frame is to be aborted: no valid level for more than 2 bit times, or no start-low by then (R164). -/
def ssiAborts (s : State) (badNs : Option Nat) : Bool :=
  match badNs with
  | some n => decide (2 * ssiBit s < n)
  | none => decide (s.fb.ssiT0 + ssiBit s / 2 + s.fb.ssiTrt + 2 * ssiBit s ≤ now s)

/-- SSI_FRAME_ABORT: SSI_CLK returns high and the sample is stale (R164; event 0x2813). `badNs`: for how long SSI_DAT has shown
no valid level; none: the start-low has not been seen. -/
def execSsiFrameAbort (badNs : Option Nat) (s : State) : Host.Outcome State Fault Refusal :=
  ok (if !s.fb.ssiRunning || s.supply.fcLock || !ssiAborts s badNs then s
      else record .fc 0x2813 0 [] { s with fb := { s.fb with
          ssiRunning := false, ssiEnd := now s, ssiRun := s.fb.ssiRun + 1, errSsi := satInc 65535 s.fb.errSsi } })

/-- SSI_STALE_LIMIT (R166; event 0x2814). -/
def execSsiStaleLimit (s : State) : Host.Outcome State Fault Refusal :=
  ok (if parN s P.fbSsiStaleMax ≤ s.fb.ssiRun && !srcLost s 2 then loseSrc 2 (detect .fc 0x2814 1 [] s) else s)

/-- A frame is started at a scheduled t0, or makes the sample stale (R162, R163). -/
def ssiSchedule (ready : Bool) (s : State) : State :=
  if s.fb.ssiRate == 0 || !configured s 2 || srcLost s 2 then s
  else if s.fb.ssiDue != 0 then { s with fb := { s.fb with ssiDue := s.fb.ssiDue - 1 } }
  else
    let s := { s with fb := { s.fb with ssiDue := ssiEvery s - 1 } }
    if s.fb.ssiRunning then ssiStale 6 s
    else if !ready then ssiStale 1 s
    else if now s < s.fb.ssiEnd + parN s P.fbSsiTm then s
    else { s with fb := { s.fb with ssiRunning := true, ssiT0 := now s, ssiPri := srcPos s (if primary s == 2 then secondary s else primary s) } }

/-! ## Wires and supply -/

/-- A wire fault on an input, numbered as FC_FB_STATUS orders them from ENC_A (R173; event 0x2811). -/
def wireFault (i : Nat) (s : State) : State :=
  if 11 ≤ i || bitOf s.fb.wire i then s
  else
    let s := { s with fb := { s.fb with wire := s.fb.wire + 2 ^ i } }
    let s := detect .fc 0x2811 1 [(i : Int)] s
    if i == 2 then { s with fb := { s.fb with idxOff := true } }
    else loseSrc (if i < 2 then 1 else if i < 5 then 2 else if i < 8 then 4 else 3) s

/-- An input that R172 compares: Hall pairs only when differential. -/
def wireChecked (s : State) (i : Nat) : Bool := i < 5 || 8 ≤ i || parOn s P.fbHallDiff

/-- WIRE_FAULT: the pair has disagreed for `ns` without a break (R173). -/
def execWireFault (input ns : Nat) (s : State) : Host.Outcome State Fault Refusal :=
  ok (if wireChecked s input && decide (parN s P.fbWireFilter ≤ ns) && !s.supply.fcLock then wireFault input s else s)

/-- ENCODER_SUPPLY_FAULT: every source but single-ended Hall is lost (R174; event 0x2851). -/
def execEncoderSupplyFault (s : State) : Host.Outcome State Fault Refusal :=
  ok (if 2 ≤ hkRun s 9 && !s.sense.hkSuspect then
        let s := detect .fc 0x2851 1 [hkMv s 9 15000] { s with sense := { s.sense with
          hkFail := upd s.sense.hkFail 9 (fun _ => 0) } }
        let s := loseSrc 3 (loseSrc 2 (loseSrc 1 s))
        if parOn s P.fbHallDiff then loseSrc 4 s else s
      else s)

/-- SOURCE_DISAGREEMENT: both sources are lost (R176; event 0x2841). -/
def execSourceDisagreement (s : State) : Host.Outcome State Fault Refusal :=
  ok (if parN s P.fbXchkCount ≤ s.fb.xchkRun && primaryUsable s && secondary s != 0 && !srcLost s (secondary s) then
        let a := primary s
        let b := secondary s
        loseSrc b (loseSrc a (detect .fc 0x2841 1 [sat32 s.fb.xchkDiff]
          { s with fb := { s.fb with xchkRun := 0 } }))
      else s)

/-- FROZEN_SOURCE (R177; event 0x2842). -/
def execFrozenSource (src : Nat) (s : State) : Host.Outcome State Fault Refusal :=
  ok (if 1 ≤ src && src ≤ 4 && configured s src && !srcLost s src &&
          parN s P.fbFrozenN ≤ nth s.fb.frozenRun (src - 1) 0 then
        loseSrc src (detect .fc 0x2842 1 [(src : Int)] s)
      else s)

/-! ## One update -/

/-- The speed rule of R175: latest count and PT, previous ones, present t0; gives w and what is kept. Two changes stamped
alike leave the quotient unstated: a free value (log 9). -/
def speedRule (zeroNs : Nat) (t0 : Nat) (ce : Int) (te : Nat) (c0 : Int) (t1 : Nat) (w : Int) : Int × Int × Nat :=
  if ce != c0 then
    (if te == t1 then sat64 (Config.realFn 19 [ce - c0]) else sat64 (divr ((ce - c0) * 65536000000000) ((te : Int) - t1)), ce, te)
  else
    let bound := divr 65536000000000 ((t0 : Int) - te)
    let w := if te < t0 && bound < (w.natAbs : Int) then sgn w * bound else w
    (if zeroNs < t0 - te then 0 else sat64 w, c0, t1)

/-- Mean of the last fb.speed.avg speeds. -/
def average (n : Nat) (l : List Int) : Int :=
  let k := min n l.length
  if k == 0 then 0 else divr ((l.take k).foldl (· + ·) 0) k

/-- Applies the speed rule to source `i` (from 0). -/
def speedOf (i : Nat) (ce : Int) (te : Nat) (s : State) : State :=
  let r := speedRule (parN s P.fbSpeedZeroMs * 1000000) (now s) ce te (nth s.fb.latC i 0) (nth s.fb.latE i 0)
    (nth (nth s.fb.hist i []) 0 0)
  let h := (r.1 :: nth s.fb.hist i []).take 8
  { s with fb := { s.fb with
      latC := upd s.fb.latC i (fun _ => r.2.1), latE := upd s.fb.latE i (fun _ => r.2.2)
      hist := upd s.fb.hist i (fun _ => h)
      w := upd s.fb.w i (fun _ => average (parN s P.fbSpeedAvg) h) } }

/-- A source's latched value for the frozen test (R177). -/
def latched (s : State) (i : Nat) : Int :=
  match i with
  | 0 => s.fb.p | 1 => (s.fb.ssiRaw : Int) | 2 => s.fb.resCount | _ => s.fb.hallCount

def frozenCheck (i : Nat) (s : State) : State :=
  let v := latched s i
  let same := v == nth s.fb.frozenVal i 0 && oe0Fast s && !s.obs.oe0.out
  { s with fb := { s.fb with
      frozenVal := upd s.fb.frozenVal i (fun _ => v), frozenRun := upd s.fb.frozenRun i (run same) } }

/-- OE0's mechanical speed in 48.16 primary counts per second. -/
def oe0Counts (s : State) : Int :=
  divr (s.obs.oe0.wpll * cpr s (primary s) * 65536) (1000 * par s P.obsPolePairs)

/-- OE0 serves as a source: valid, or seeded by a catch whose 16 updates still run (R194, R210). -/
def oe0Serves (s : State) : Bool := (s.obs.oe0.valid || s.obs.oe0.seeded) && !s.obs.oe0.out

/-- Angle and speed are OE0's: FALLBACK, no primary source, or a stop that has lost it (R178, R180, R191). -/
def onOe0 (s : State) : Bool :=
  s.fb.fallback || primary s == 0 || (s.op.state == .stopping && srcLost s (primary s))

/-- The reference of the stop ramp in 2^-16 rev/s. -/
def rampRef (s : State) : Int := match s.saf.stop with | some r => divr r.ref 60 | none => 0

/-- A stop that has lost the primary source and has no OE0 speed goes on along the stop ramp in time (R180, R447). -/
def rampInTime (s : State) : Bool :=
  s.op.state == .stopping && s.saf.stop.isSome && primary s != 0 && srcLost s (primary s) && !oe0Serves s

/-- The index correction of R153: subtracted from C and P without a step of the speed. -/
def applyCorr (s : State) : State :=
  match s.fb.corrPending with
  | none => s
  | some d => { s with fb := { s.fb with
      c := s.fb.c - d, p := s.fb.p - d, edgeC := s.fb.edgeC - d, corrPending := none
      latC := upd s.fb.latC 0 (· - d) } }

/-- Position of the drive at this update (R142, R178). -/
def positionUpdate (s : State) : State :=
  let pos :=
    if s.fb.fallback || primary s == 0 then s.fb.pos + divr (oe0Counts s * s.mod.h) 8000000000
    else if srcLost s (primary s) then s.fb.pos else srcPos s (primary s)
  { s with fb := { s.fb with pos := pos } }

/-- Speed of the drive in 48.16 primary counts per second (R142, R175, R178). -/
def driveSpeed (s : State) : Int :=
  if rampInTime s then rampRef s * cpr s (primary s)
  else if onOe0 s then oe0Counts s else nth s.fb.w (primary s - 1) 0

/-- The lag of the tracking loop under acceleration `acc`: acc / (2 pi fb.res.bw)^2 (R159). -/
def resLag (s : State) (acc : Int) : Int :=
  qfree 20 (acc * 2 ^ 240) (4 * pi120 * pi120 * par s P.fbResBw * par s P.fbResBw)

/-- The resolver at t0: the tracking loop's angle, its error, the amplitude against that at feedback start (R159, R160). -/
def resolverUpdate (smp : Sample) (s : State) : State :=
  let err := resLag s smp.resAcc + smp.resOff
  let angle := (atan2_16 smp.resSin smp.resCos - err) % 65536
  let d := wrap16 (angle - s.fb.resAngle)
  let amp := ((smp.resSin * smp.resSin + smp.resCos * smp.resCos).toNat) * 10000
  let lo := parN s P.fbResAmpLo
  let hi := parN s P.fbResAmpHi
  let bad := decide (amp < lo * lo * s.fb.resAmp0) || decide (hi * hi * s.fb.resAmp0 < amp)
  let h := (smp.resVel :: nth s.fb.hist 2 []).take 8
  { s with fb := { s.fb with
      resAngle := angle.toNat, resVel := smp.resVel, resCount := s.fb.resCount + d
      ampRun := run (configured s 3 && bad) s.fb.ampRun
      trkRun := run (configured s 3 && decide (1024 < err.natAbs)) s.fb.trkRun
      hist := upd s.fb.hist 2 (fun _ => h)
      w := upd s.fb.w 2 (fun _ => average (parN s P.fbSpeedAvg) h) } }

/-- FC_FB_STATUS of a completed update (R182). -/
def fbWord (s : State) : Nat :=
  pack [(30, 1, bit1 s.fb.fallback), (29, 1, bit1 s.fb.posUncertain), (28, 1, bit1 s.fb.cref.isSome),
    (27, 1, bit1 s.fb.idxOff), (24, 3, primary s), (21, 3, secondary s), (16, 3, s.fb.wire / 256), (8, 8, s.fb.wire),
    (0, 4, s.fb.lost)]

/-- Both sources are compared at every resolver sample instant (R176). -/
def resCompare (s : State) : State :=
  if secondary s == 3 || primary s == 3 then crossCompare (srcPos s (primary s)) (srcPos s (secondary s)) s else s

/-- The Sensor Engine's update at t0. -/
def fbUpdate (smp : Sample) (s : State) : State :=
  let s := applyCorr (speedOf 0 s.fb.edgeC s.fb.edgeAt s)
  let s := resolverUpdate smp s
  let s := speedOf 3 s.fb.hallCount s.fb.hallAt s
  let s := if s.fb.ssiKnown then speedOf 1 s.fb.ssiPos s.fb.ssiChgAt s else s
  let s := (List.range 4).foldl (fun s i => frozenCheck i s) s
  let s := ssiSchedule smp.ssiReady (resCompare (positionUpdate s))
  { s with fb := { s.fb with word := fbWord s } }

/-! ## Feedback start (R168 to R171, R708) -/

/-- Candidate rates in kHz (R168). -/
def ssiRates : List Nat := [10000, 8000, 5000, 4000, 2500, 2000, 1250, 1000, 500]

/-- The positions of frames that are all received (R163); none when one is not. -/
def framesPos (s : State) : List (Option SsiFrame) → Option (List Nat)
  | [] => some []
  | none :: _ => none
  | some f :: r =>
    if (frameCause s f).isSome then none
    else match framesPos s r with
      | some l => some (framePos s f :: l)
      | none => none

/-- Every second difference lies within fb.ssi.neg_tol, modulo the single-turn range (R168). -/
def secondDiffs (s : State) : List Nat → Bool
  | p1 :: p2 :: p3 :: r =>
    let m : Int := 2 ^ parN s P.fbSsiStBits
    let d := ((p3 : Int) - 2 * p2 + p1) % m
    decide (min d (m - d) ≤ par s P.fbSsiNegTol) && secondDiffs s (p2 :: p3 :: r)
  | _ => true

/-- The tests of a run of frames; the last position. -/
def framesOk (s : State) (l : List (Option SsiFrame)) : Option Nat :=
  match framesPos s l with
  | some ps => if secondDiffs s ps then some (ps.getLast?.getD 0) else none
  | none => none

/-- The delays of a candidate spread over at most 16 ns (R168). -/
def delaysOk (l : List Nat) : Bool := decide (l.foldl max 0 ≤ l.foldl min (l.foldl max 0) + 16)

/-- The round-trip delay taken from the four measured: the manual names none of them, a free value among them (log 9). -/
def trtOf (l : List Nat) : Nat :=
  (clamp (l.foldl min (l.foldl max 0)) (l.foldl max 0) (Config.realFn 21 (l.map Int.ofNat))).toNat

/-- How a negotiation ends: the rate, delay and last position found, the ms from the step's start, and whether the 50 ms bound
stopped it. -/
structure NegEnd where
  found : Option (Nat × Nat × Nat)
  ms : Nat
  cut : Bool
  deriving DecidableEq, Repr

/-- Negotiation over the candidates left, within the 50 ms of the step; `t` in ms from the step's start (R168, R169). -/
def negotiate (s : State) : List (Nat × SsiTry) → Nat → NegEnd
  | [], t => ⟨none, t, false⟩
  | (rate, c) :: r, t =>
    if 50 < t + 1 then ⟨none, 50, true⟩
    else if !delaysOk c.trt || (framesOk s c.frames).isNone then negotiate s r (t + 1)
    else if 50 < t + 9 then ⟨none, 50, true⟩
    else match framesOk s c.confirm with
      | some pos => ⟨some (rate, trtOf c.trt, pos), t + 9, false⟩
      | none => negotiate s r (t + 9)

/-- What a feedback start clears and takes from its inputs: lost sources, index reference, counters of the tests; the
resolver angle, amplitude and phase and the Hall state it finds. -/
def fbClear (r : FbStart) (s : State) : State :=
  { s with
    fb := { s.fb with
    lost := 0, wire := 0, posUncertain := false, idxOff := false, cref := none, indexNo := 0, corr := 0
    corrPending := none, idxPending := none, idxNear := [], fallback := false, negCut := false, illegal := [], hallIllegal := []
    ssiKnown := false, ssiRun := 0, ssiRunning := false, ssiRate := 0, ssiDue := 0, xchkRun := 0, agreeRun := 0
    ampRun := 0, trkRun := 0, frozenRun := [0, 0, 0, 0]
    resAngle := (atan2_16 r.resSin r.resCos % 65536).toNat, resCount := atan2_16 r.resSin r.resCos % 65536
    resAmp0 := (r.resSin * r.resSin + r.resCos * r.resCos).toNat, resPhase := r.resPhase
    hallSector := if 1 ≤ r.hall && r.hall ≤ 6 then parN s (P.fbHallMap r.hall) else 0
    hallKnown := 1 ≤ r.hall && r.hall ≤ 6, hallAt := now s, restart := none }
    obs := { s.obs with offset := 0, offsetSet := false, absInit := false } }

/-- The wire checks of a feedback start (the table of R169). -/
def fbWires (r : FbStart) (s : State) : State :=
  (List.range 11).foldl (fun s i =>
    let src := if i < 3 then 1 else if i < 5 then 2 else if i < 8 then 4 else 3
    if bitOf r.wire i && wireChecked s i && configured s src then wireFault i s else s) s

/-- The Hall state at a feedback start (R158). -/
def fbHall (r : FbStart) (s : State) : State :=
  if configured s 4 && (r.hall == 0 || 7 ≤ r.hall) then loseSrc 4 (detect .fc 0x2831 1 [] s) else s

/-- The rate found by the SSI negotiation is taken, with its first position (R169). -/
def ssiTake (rate trt pos : Nat) (s : State) : State :=
  { s with fb := { s.fb with
    ssiRate := rate, ssiTrt := trt, ssiPos := (pos : Int), ssiRaw := pos, ssiAt := now s, ssiChgAt := now s, ssiEnd := now s
    ssiKnown := true } }

/-- The negotiation of a feedback start: from the last rate that passed where the Insole orders it (R90, R168). -/
def fbNegotiate (atLast : Bool) (r : FbStart) (s : State) : NegEnd :=
  let last := parN s P.fbSsiRateLast
  let top := if atLast && last != 0 then min last (parN s P.fbSsiRateMax) else parN s P.fbSsiRateMax
  negotiate s ((ssiRates.zip r.cands).filter (fun c => decide (c.1 ≤ top))) (parN s P.fbEncPwrWait + 1)

/-- How long a feedback start takes, in ms (R169, R708). -/
def fbStartMs (atLast : Bool) (r : FbStart) (s : State) : Nat :=
  if configured s 2 then (fbNegotiate atLast r s).ms else parN s P.fbEncPwrWait + 2

/-- The SSI rate negotiation of a feedback start (R90, R168 to R170). -/
def fbSsi (atLast : Bool) (r : FbStart) (s : State) : State :=
  if !configured s 2 || srcLost s 2 then s
  else
    let e := fbNegotiate atLast r s
    match e.found with
    | some (rate, trt, pos) =>
      record .fc 0x2815 0 [(rate : Int), (trt : Int)] (saveDevice (setPar P.fbSsiRateLast rate (ssiTake rate trt pos s)))
    | none => loseSrc 2 (detect .fc 0x2816 1 [] { s with fb := { s.fb with negCut := e.cut } })

/-- The count starts from the absolute secondary where it may (R145). -/
def fbAbs (s : State) : Bool := parOn s P.fbIncInit && absSecondary s

/-- The counts and speeds with which operation begins. -/
def fbBegin (abs : Bool) (s : State) : State :=
  let c := if abs then divr (convCounts s (srcPos s (secondary s)) (secondary s) 1) 65536 else 0
  { s with
    fb := { s.fb with
    c := c, p := c, edgeC := c, edgeAt := now s
    latC := [c, s.fb.ssiPos, s.fb.resCount, s.fb.hallCount], latE := [now s, s.fb.ssiChgAt, now s, now s]
    w := [0, 0, 0, 0], hist := [[], [], [], []], frozenVal := [c, s.fb.ssiRaw, s.fb.resCount, s.fb.hallCount] }
    obs := { s.obs with absInit := abs } }

/-- The position, and HOMED where the source carries absolute position across power cycles (R288); a restart repeats the
start of boot (R171). -/
def fbHomed (abs : Bool) (s : State) : State :=
  let absTurns := parN s P.fbSsiMtBits != 0 && !srcLost s 2 &&
    (primary s == 2 || (primary s == 1 && abs && secondary s == 2))
  { s with
    fb := { s.fb with pos := srcPos s (primary s) }
    pe := { s.pe with homed := absTurns } }

/-- The end of step 0x0C, or of the restart command: wire checks, negotiation, the count (R145, R169 to R171). -/
def fbStartEnd (atLast : Bool) (r : FbStart) (s : State) : State :=
  let s := fbSsi atLast r (fbHall r (fbWires r (fbClear r s)))
  fbHomed (fbAbs s) (fbBegin (fbAbs s) s)

/-- A feedback start fails with the primary source lost, or when the bound of the step stopped its negotiation (R170,
R708). -/
def fbFailed (s : State) : Bool := (primary s != 0 && srcLost s (primary s)) || s.fb.negCut

/-- FB_RESTART repeats feedback start (R171); its last step is fbStartEnd. -/
def execFbRestart (tag : Nat) (r : FbStart) (s : State) : Host.Outcome State Fault Refusal :=
  ok (longStep tag 0x31 (fun s =>
    if !([OpState.standby, .ready, .safeHold].contains s.op.state) then .inr (no stState s)
    else if s.sense.cal.isSome || s.fb.restart.isSome then .inr (no stBusy s)
    else .inl { s with fb := { s.fb with
      restart := some (tag, r, now s), lost := 0, posUncertain := false, idxOff := false, cref := none
      fallback := false, indexNo := 0, corr := 0 } }) s)

/-- The restart ends once the time of the step has passed; ST_FAULT when the step fails (R169 to R171). -/
def fbRestartDone (i : Nat) (s : State) : State :=
  match s.fb.restart with
  | some (t, r, begun) =>
    if t == i && decide (begun + fbStartMs false r s * 1000000 ≤ now s) then
      let s := fbStartEnd false r s
      if fbFailed s then finish i ⟨stFault, 0x2862, []⟩ s else finishSt i stOk s
    else s
  | none => s

end Sys2Proof.Machine
end

