-- ==== Sys2Proof/Machine/Loops.lean ====
section
/-! DEFINITION. The Loop Engines: gain tables, current loop, torque and speed, field weakening, position, damping (06). -/

namespace Sys2Proof.Machine
open Sys2Proof

/-! ## Gain tables (R240, R241) -/

/-- An entry of a table's active bank. -/
def tabVal (s : State) (idx sub : Nat) : Int :=
  match s.loop.active.find? (fun e => e.1 == idx * 256 + sub) with
  | some e => e.2
  | none => if sub == 0x81 then 1 else 0

/-- Breakpoint k of the half that the sign of the error selects. -/
def tabPoint (s : State) (idx : Nat) (neg : Bool) (k : Nat) : Int := tabVal s idx (if neg then 0x41 + k else 1 + k)

def gain (s : State) (idx : Nat) (e : Int) : Int :=
  let neg := decide (e < 0)
  let span := tabVal s idx 0x81
  let q := min (abs32 e) span * 32
  let k := (q / span).toNat
  if k == 32 then tabPoint s idx neg 32
  else
    let f := q - k * span
    let a := tabPoint s idx neg k
    a + divr ((tabPoint s idx neg (k + 1) - a) * f) span

/-- One error times its gain: mul(e, gain(tab, e), tab.s). -/
def gainMul (s : State) (idx : Nat) (e : Int) : Int := mul e (gain s idx e) (tabVal s idx 0x80).toNat

/-! ## Speeds -/

def polePairs (s : State) : Int := par s P.obsPolePairs

/-- Electrical speed of the present control angle source in mHz (R251). -/
def elecW (s : State) : Int :=
  match s.obs.ctrlSrc with
  | 0 => divr (driveSpeed s * polePairs s * 1000) (cpr s (primary s) * 65536)
  | 1 => s.obs.oe0.wpll
  | 2 =>
    let d : Int := (s.obs.tz : Int) - s.obs.tzPrev
    if d ≤ 0 then 0 else if s.obs.rev then -(divr 1000000000000 (6 * d)) else divr 1000000000000 (6 * d)
  | 3 => divr (s.loop.wref * polePairs s * 1000) 65536
  | _ => if rampInTime s then divr (rampRef s * polePairs s * 1000) 65536 else 0

/-- Mechanical speed of the present speed source in 2^-16 rev/s (R255). -/
def mechW (s : State) : Int :=
  if s.obs.ctrlSrc == 3 then s.loop.wref
  else if rampInTime s then rampRef s
  else if onOe0 s then divr (s.obs.oe0.wpll * 65536) (1000 * polePairs s)
  else divr (nth s.fb.w (primary s - 1) 0) (cpr s (primary s))

/-- The update period in ps. -/
def tsPs (s : State) : Int := ((s.mod.h * 125 : Nat) : Int)

/-- round(2 pi 2^28) (R247). -/
def tp : Int := 1686629713

/-- omega L x in 2^-16 V (R247). -/
def wl (w l x : Int) : Int := divr (w * tp * l * x) (1000 * 2 ^ 28 * 10 ^ 9)

/-- omega psi in 2^-16 V (R247). -/
def wpsi (s : State) (w : Int) : Int := divr (w * tp * par s P.obsMachPsi * 65536) (2 ^ 28 * 10 ^ 9)

/-! ## Limits -/

/-- mi_max_raw: round(2^30 mi_max / 1,000 / sqrt 3) (R250). -/
def miMaxRaw (s : State) : Int :=
  let m := parN s P.loopVMiMax
  (((isqrt (4 * m * m * 2 ^ 60 / 3000000) + 1) / 2 : Nat) : Int)

def vLim (s : State) : Int := mul (vdcSel s) (miMaxRaw s) 30

/-- Generating limit in 2^-8 N.m, rolled back with VDC (R257); and whether it is reduced. -/
def genLimit (s : State) : Int × Bool :=
  let g := par s P.loopTMaxGen * 256
  let lo := par s P.loopVdcRegenStart * 65536
  let hi := par s P.loopVdcRegenEnd * 65536
  let v := vdcSel s
  if v ≤ lo then (g, false) else if hi ≤ v then (0, true) else (divr (g * (hi - v)) (hi - lo), true)

/-- tlo and thi at a mechanical speed (R256). -/
def torqueLimits (s : State) (w : Int) : Int × Int :=
  let m := par s P.loopTMaxMot * 256
  let g := (genLimit s).1
  if w < 0 then (-m, g) else if 0 < w then (-g, m) else (-m, m)

def flag (i : Nat) (b : Bool) (m : Nat) : Nat := if b then setBit m i else if bitOf m i then m - 2 ^ i else m

def putFlag (i : Nat) (b : Bool) (s : State) : State :=
  { s with loop := { s.loop with status := flag i b s.loop.status } }

/-! ## From torque to current references (R252, R253) -/

/-- The current references of T*: d current, q current, and whether a limit acts. -/
def currentRefs (s : State) (tq : Int) : Int × Int × Bool :=
  let imax := par s P.loopIMax * 65536
  let id0 := rnd (gain s P.loopMtpaIdTab tq) (tabVal s P.loopMtpaIdTab 0x80).toNat
  let raw := -id0 + s.loop.idfw
  let idr := max raw (-imax)
  let fl := max (par s P.obsMachPsi + divr ((par s P.obsMachLd - par s P.obsMachLq) * idr) 65536000) 1
  let iq := sat32 (divr (tq * 512000000) (3 * polePairs s * fl))
  let iqm : Int := (isqrt (imax * imax - idr * idr).toNat : Int)
  let iqr := clamp (-iqm) iqm iq
  (idr, iqr, idr != raw || iqr != iq)

/-- T* of one update (R258, R259, R349), with the ramp of a catch (R210). -/
def torqueStar (s : State) : State :=
  let w := s.loop.w
  let lim := torqueLimits s w
  let roll := (genLimit s).2
  let s := if roll && !s.loop.rolled then record .fc 0x3831 0 [voltParam (vdcSel s)] s else s
  let s := putFlag 8 roll { s with loop := { s.loop with rolled := roll } }
  match s.loop.rampT with
  | some (v, t) =>
    let ramp : Int := par s P.modLegRamp * 1000000
    let left := max 0 (ramp - ((now s - t : Nat) : Int))
    let x := if ramp == 0 then 0 else divr (v * left) ramp
    let y := clamp lim.1 lim.2 x
    putFlag 6 (y != x) { s with loop := { s.loop with tstar := y, slewed := y } }
  | none =>
    let want := s.loop.tref
    let want := if s.obs.phase == .lock then 0 else match s.obs.rampAt with
      | some t =>
        let ramp : Int := par s P.obsFlyRamp * 1000000
        let e : Int := ((now s - t : Nat) : Int)
        if ramp ≤ e then want else divr (want * e) ramp
      | none => want
    let d := divr (par s P.loopTSlew * 256 * tsPs s) 1000000000
    let sl := clamp (s.loop.slewed - d) (s.loop.slewed + d) want
    let c := clamp lim.1 lim.2 sl
    let t := clamp lim.1 lim.2 (sat32 (c + s.loop.dt))
    putFlag 6 (c != sl || t != c + s.loop.dt || s.loop.spdLim) { s with loop := { s.loop with slewed := c, tstar := t } }

/-! ## The current loop -/

/-- Measured currents in the rotor frame at angle theta (R245). -/
def dq (i : Tri Int) (theta : Int) : Int × Int :=
  let ia := dot [(i.u, c23), (i.v, -c13), (i.w, -c13)] 30
  let ib := dot [(i.v, c1s3), (i.w, -c1s3)] 30
  let c := cos30 theta
  let sn := sin30 theta
  (dot [(ia, c), (ib, sn)] 30, dot [(ia, -sn), (ib, c)] 30)

/-- The prediction of R247. -/
def predict (s : State) (w : Int) : Int × Int :=
  let rs := par s P.obsMachRs
  let ld := par s P.obsMachLd
  let lq := par s P.obsMachLq
  let l := s.loop
  let sd := l.vdPrev - divr (rs * l.idPrev) 1000000 + wl w lq l.iqPrev
  let sq := l.vqPrev - divr (rs * l.iqPrev) 1000000 - wl w ld l.idPrev - wpsi s w
  (sat32 (l.idPrev + divr (tsPs s * sd) (1000 * ld)), sat32 (l.iqPrev + divr (tsPs s * sq) (1000 * lq)))

/-- Limited increments of an integrator (R249). -/
def integrate (free : Bool) (x q excess lim : Int) : Int :=
  if free || sgn q != sgn excess then clamp (-lim) lim (sat32 (x + q)) else clamp (-lim) lim x

/-- The winding path's d current: a linear ramp over 10 ms (R469). -/
def windingId (s : State) (t : Nat) : Int :=
  let full := par s P.safetyDisId * 65536
  let e := now s - t
  if 10000000 ≤ e then -full else -(divr (full * e) 10000000)

/-- References of this update: the winding path, the present current while a catch locks, the forced angle, or T* (R210, R218,
R252, R469). -/
def references (s : State) : State :=
  match s.saf.dis with
  | some d =>
    if d.winding then
      let s := putFlag 6 false { s with loop := { s.loop with tstar := 0, slewed := 0 } }
      { s with loop := { s.loop with idr := windingId s (match d.onSince with | some t => t | none => d.start), iqr := 0 } }
    else s
  | none =>
    let s := torqueStar s
    if s.obs.phase == .lock then s
    else if s.obs.ctrlSrc == 3 then
      { s with loop := { s.loop with idr := 0, iqr := par s P.obsIfIRef * 65536 } }
    else
      let r := currentRefs s s.loop.tstar
      putFlag 5 r.2.2 { s with loop := { s.loop with idr := r.1, iqr := r.2.1 } }

/-- One step of the current loop of LE0/LE1 (R245 to R251). -/
def currentLoop (s : State) : State :=
  let w := elecW s
  let theta : Int := s.obs.theta
  let dist := s.sense.disturbed
  let meas := dq (ctrlI s) theta
  let sub := dist && decide (s.loop.distRun < parN s P.loopIDistMax)
  let i := if sub then predict s w else meas
  let dec := parOn s P.loopIDecouple
  let ed := s.loop.idr - i.1
  let eq := s.loop.iqr - i.2
  let pd := gainMul s P.loopIdKpTab ed
  let qd := gainMul s P.loopIdKiTab ed
  let pq := gainMul s P.loopIqKpTab eq
  let qq := gainMul s P.loopIqKiTab eq
  let ffd := if dec then sat32 (-(wl w (par s P.obsMachLq) i.2)) else 0
  let ffq := if dec then sat32 (wl w (par s P.obsMachLd) i.1 + wpsi s w) else 0
  let lim := vLim s
  let vd := sat32 (pd + s.loop.xd + ffd)
  let vq := sat32 (pq + s.loop.xq + ffq)
  let vdc := clamp (-lim) lim vd
  let vqm : Int := (isqrt (lim * lim - vdc * vdc).toNat : Int)
  let vqc := clamp (-vqm) vqm vq
  let xd := if dist then clamp (-lim) lim s.loop.xd else integrate (vdc == vd) s.loop.xd qd (vd - vdc) lim
  let xq := if dist then clamp (-lim) lim s.loop.xq else integrate (vqc == vq) s.loop.xq qq (vq - vqc) lim
  let adv := divr (w * (tsPs s / 2000 + 300 + par s P.loopIAdvTrim) * 65536) 1000000000000
  let thetaV := (theta + adv) % 65536
  let c := cos30 thetaV
  let sn := sin30 thetaV
  let sat := vdc != vd || vqc != vq
  let beyond := decide (par s P.loopIDevLim * 65536 < abs32 ed) || decide (par s P.loopIDevLim * 65536 < abs32 eq)
  let run' := if dist then s.loop.distRun + 1 else 0
  let since := if sat then (match s.loop.satSince with | some t => some t | none => some (now s)) else none
  let s := { s with loop := { s.loop with
    id := meas.1, iq := meas.2, ed := ed, eq := eq, xd := xd, xq := xq, vdRaw := vd, vqRaw := vq
    va := dot [(vdc, c), (vqc, -sn)] 30
    vb := dot [(vdc, sn), (vqc, c)] 30
    vdPrev := vdc, vqPrev := vqc, idPrev := i.1, iqPrev := i.2
    thetaV := thetaV.toNat, distRun := run', distDue := decide (parN s P.loopIDistMax ≤ run')
    satDue := since.any (fun t => decide (t + parN s P.loopVSatTime * 1000000 ≤ now s))
    distRec := dist && s.loop.distRec
    devRun := if dist || sat then s.loop.devRun else run beyond s.loop.devRun
    satSince := since } }
  putFlag 3 (vdc != vd) (putFlag 4 (vqc != vq) (putFlag 10 sub s))

/-! ## Speed, field weakening, position, damping -/

/-- The speed reference of this speed update: the stop ramp (R447), the profile, or the position loop; clamped under
SLS (R452). -/
def speedRef (s : State) : Int :=
  let r := match s.saf.stop with
    | some r => divr r.ref 60
    | none => if s.loop.mode == 2 then s.loop.wref else s.pe.velFf
  if s.saf.sls then
    let m := divr (par s P.safetySlsLimit * 65536) 60
    clamp (-m) m r
  else r

/-- One speed update of LE2/LE3 (R255, R256, R260). -/
def speedLoop (s : State) : State :=
  let w := mechW s
  let wr := speedRef s
  let ew := wr - w
  let lim := torqueLimits s w
  let pw := sat32 (gainMul s P.loopSpdKpTab ew)
  let qw := gainMul s P.loopSpdKiTab ew
  let acc := if s.saf.stop.isSome then 0 else s.pe.accRef
  let ff := mul acc (par s P.loopSpdJRaw) (parN s P.loopSpdJS)
  let xw := clamp lim.1 lim.2 s.loop.xw
  let t := sat32 (pw + xw + ff)
  let tc := clamp lim.1 lim.2 t
  let xw := if tc == t || sgn qw != sgn (t - tc) then clamp lim.1 lim.2 (sat32 (xw + qw)) else xw
  let beyond := decide (par s P.loopSpdDevLim * 65536 < 60 * abs32 ew)
  let period : Nat := s.mod.h / 8 * parN s P.loopSpdDiv
  let closed := s.loop.mode != 0 || s.saf.stop.isSome
  let limited := closed && tc != t
  let acc' := if !closed || !beyond then 0 else if limited || bitOf s.loop.status 6 then s.loop.spdAcc
              else s.loop.spdAcc + period
  { s with loop := { s.loop with
      w := w, pw := pw + ff
      wref := if s.loop.mode == 2 && s.saf.stop.isNone then s.loop.wref else wr
      xw := if closed then xw else 0
      tref := if closed then tc else s.loop.tref
      spdLim := limited, spdAcc := acc', spdDue := decide (parN s P.loopSpdDevTime * 1000000 ≤ acc')
      ovspRun := run (decide (par s P.loopSpdTrip * 65536 < 60 * abs32 w)) s.loop.ovspRun } }

/-- Field weakening of one speed update (R260). -/
def fieldWeakening (s : State) : State :=
  let idmax := par s P.loopFwIdMax * 65536
  let l := s.loop
  let mag : Int := (isqrt (l.vdRaw * l.vdRaw + l.vqRaw * l.vqRaw).toNat : Int)
  let ev := mul (vLim s) (divr (par s P.loopFwMargin * 2 ^ 30) 1000) 30 - mag
  let pf := mul ev (par s P.loopFwKpRaw) (parN s P.loopFwKpS)
  let qf := mul ev (par s P.loopFwKiRaw) (parN s P.loopFwKiS)
  let xf := clamp (-idmax) 0 l.xf
  let f := sat32 (pf + xf)
  let out := clamp (-idmax) 0 f
  let xf := if out == f || sgn qf != sgn (f - out) then clamp (-idmax) 0 (sat32 (xf + qf)) else xf
  putFlag 7 (decide (out < 0)) { s with loop := { s.loop with idfw := out, xf := xf } }

/-- One position update of LE4/LE5 (R261, R262). -/
def positionLoop (s : State) : State :=
  let ep := sat32 (rnd (sat64 (s.pe.posRef - s.fb.pos)) 8)
  let wmax := divr (par s P.loopSpdMax * 65536) 60
  let wr := clamp (-wmax) wmax (sat32 (s.pe.velFf + gainMul s P.loopPosKpTab ep))
  let bad := decide (par s P.loopPosFerrLim * 256 < abs32 ep)
  let since := if bad then (match s.loop.ferrSince with | some t => some t | none => some (now s)) else none
  { s with loop := { s.loop with
      ep := ep, wref := wr, ferrSince := since
      ferrDue := since.any (fun t => decide (t + parN s P.loopPosFerrTime * 1000000 ≤ now s)) } }

/-- exp(-2 pi fc ts) at shift 30 (R263); its last rounding is open (log 9). -/
def dampCoef (s : State) : Int :=
  qfree 5 (expNeg120 (2 * pi120.toNat * parN s P.loopDcdFc * s.mod.h) (2 ^ 120 * 8000000000)) (2 ^ 90)

/-- DC-link damping (R263). -/
def damping (s : State) : State :=
  if !parOn s P.loopDcdEnable then
    putFlag 9 false { s with loop := { s.loop with dt := 0, hp := 0, vdcPrev := vdcSel s, dcdRun := 0 } }
  else
    let v := vdcSel s
    let a := dampCoef s
    let hp := sat32 (mul (s.loop.hp + v - s.loop.vdcPrev) a 30)
    let p := -(par s P.loopDcdK) * hp
    let w := s.loop.w
    let wmin := divr (par s P.loopDcdWMin * 65536) 60
    let t := if abs32 w < wmin || w == 0 then 0 else divr (p * 256 / 65536 * 65536 * 2 ^ 119) (pi120 * w)
    let m := par s P.loopDcdTMax * 256
    let dt := clamp (-m) m t
    putFlag 9 (dt != t) { s with loop := { s.loop with
      hp := hp, vdcPrev := v, dt := dt, dcdRun := run (dt != t) s.loop.dcdRun } }

/-- The measured currents of an update without current control (R270), at the last control angle. -/
def measureIdq (s : State) : State :=
  let i := dq (ctrlI s) s.obs.theta
  { s with loop := { s.loop with id := i.1, iq := i.2 } }

/-- Loops at rest: gates off, SAFE_HOLD (R265). -/
def loopsIdle (s : State) : State :=
  let s := measureIdq s
  { s with loop := { s.loop with
      xd := 0, xq := 0, xw := 0, xf := 0, hp := 0, distRun := 0, distRec := false, idfw := 0, dt := 0, slewed := 0
      tref := 0, tstar := 0, idr := 0, iqr := 0, vdPrev := 0, vqPrev := 0, idPrev := 0, iqPrev := 0, devRun := 0
      satSince := none, spdAcc := 0, ferrSince := none, dcdRun := 0, status := 0, vdcPrev := vdcSel s, wref := 0
      spdLim := false, distDue := false, satDue := false, spdDue := false, ferrDue := false
      w := mechW s } }

/-- Loops while a pattern is held: no PI step, xw at zero (R267). -/
def loopsHeld (s : State) : State :=
  let s := measureIdq s
  { s with loop := { s.loop with
      xw := 0, tref := 0, tstar := 0, slewed := 0, devRun := 0, satSince := none, w := mechW s, spdLim := false
      satDue := false, spdDue := false } }

/-- Fresh integrators when current control starts: 0 at standstill, back-EMF after a catch from pulse inhibit, the
voltages that hold the current after ASC (R266). -/
def enterControl (xd xq : Int) (s : State) : State :=
  let comm := if parN s P.obsCommMode == 0 then 0 else 1
  { s with
    mod := { s.mod with running := true, pattern := if comm == 0 then 0 else 4 }
    obs := { s.obs with comm := comm }
    saf := { s.saf with ctlAt := some (now s) }
    loop := { s.loop with xd := xd, xq := xq, xw := 0, xf := 0, slewed := 0, tref := 0, tstar := 0, dt := 0 }
    pe := { s.pe with posRef := s.fb.pos } }

/-- Whether LE2/LE3 and LE4/LE5 run in this update (R232). -/
def speedDue (s : State) : Bool := s.sense.seq % parN s P.loopSpdDiv == 0
def posDue (s : State) : Bool := s.sense.seq % parN s P.loopPosDiv == 0

/-- LE0/LE1 has no fresh outputs in this update (R24, R25, R236). -/
def flaggedUpdate (s : State) : Bool := s.pairs.le01.restarting && s.pairs.le01.point == .early

/-- What the checkpoint of LE0/LE1 holds goes back to its state before the cycle; the outputs stay in use (R235, R236). -/
def restore01 (o : LoopBlock) (s : State) : State :=
  { s with loop := { s.loop with
      xd := o.xd, xq := o.xq, slewed := o.slewed, distRun := o.distRun, distRec := o.distRec, idPrev := o.idPrev
      iqPrev := o.iqPrev, vdPrev := o.vdPrev, vqPrev := o.vqPrev, devRun := o.devRun, satSince := o.satSince
      distDue := o.distDue, satDue := o.satDue } }

/-- What the checkpoint of LE2/LE3 holds. -/
def restore23 (o : LoopBlock) (s : State) : State :=
  { s with loop := { s.loop with xw := o.xw, xf := o.xf, spdAcc := o.spdAcc, spdDue := o.spdDue, ovspRun := o.ovspRun } }

/-- What the checkpoint of LE4/LE5 holds. -/
def restore45 (o : LoopBlock) (s : State) : State :=
  { s with loop := { s.loop with
      hp := o.hp, vdcPrev := o.vdcPrev, ferrSince := o.ferrSince, ferrDue := o.ferrDue, dcdRun := o.dcdRun } }

/-- One cycle of a pair: not run when the mismatch came before its outputs, which keep their last values; taken back to the
checkpoint when it came after them (R234 to R237). -/
def pairRun (x : PairState) (f : State → State) (restore : LoopBlock → State → State) (s : State) : State :=
  if !x.restarting then f s
  else match x.point with
    | .early => s
    | .late => restore s.loop (f s)
    | .waiting => f s

/-- The loops of one update. The loop fields between two updates are the pairs' checkpoints (R235). -/
def loopUpdate (s : State) : State :=
  let s := pairRun s.pairs.le01 (fun s => currentLoop (references s)) restore01 s
  let s := if speedDue s then pairRun s.pairs.le23 (fun s => fieldWeakening (speedLoop s)) restore23 s else s
  pairRun s.pairs.le45 (fun s =>
    damping (if posDue s && s.loop.mode == 2 && s.saf.stop.isNone then positionLoop s else s)) restore45 s

/-! ## Table commits and modes -/

/-- The gain tables in index order, for the mask of event 0x3841. -/
def tables : List Nat :=
  [P.loopIqKpTab, P.loopIqKiTab, P.loopIdKpTab, P.loopIdKiTab, P.loopMtpaIdTab, P.loopSpdKpTab, P.loopSpdKiTab,
   P.loopPosKpTab]

/-- The pair that owns a table restarts: its copy waits for the first boundary after the restart (R243). -/
def ownerRestarts (s : State) (table : Nat) : Bool :=
  if table == P.loopPosKpTab then s.pairs.le45.restarting
  else if table == P.loopSpdKpTab || table == P.loopSpdKiTab then s.pairs.le23.restarting
  else s.pairs.le01.restarting

/-- TABLE_COMMIT_COPY: the shadow table is copied at its owner's update boundary, or refused (R242, R254; events 0x3841,
0x3842). A refused table stays changed. -/
def execTableCommitCopy (table : Nat) (s : State) : Host.Outcome State Fault Refusal :=
  ok (if !s.loop.commit.contains table || s.supply.fcLock || ownerRestarts s table then s
      else
        let rest := s.loop.commit.filter (· != table)
        let good := table != P.loopMtpaIdTab || mtpaOk s
        let keep := s.loop.active.filter (fun e => e.1 / 256 != table)
        let new := s.par.work.filter (fun e => e.1 / 256 == table)
        let bit := 2 ^ tables.findIdx (· == table)
        let active := if good then new.foldl (fun l e => putVal (e.1, if e.1 % 256 == 0x81 then 1 else 0) e.2 l) keep
                      else s.loop.active
        let s := { s with loop := { s.loop with
          commit := rest, changed := if good then s.loop.changed.filter (· != table) else s.loop.changed, active := active
          copied := if good then s.loop.copied + bit else s.loop.copied } }
        let s := if good then s else detect .fc 0x3842 1 [(table : Int)] s
        if rest.isEmpty then record .fc 0x3841 0 [(s.loop.copied : Int)] s else s)

/-! ## Loop faults (R273) -/

/-- CURRENT_DEVIATION (event 0x3801, F3). -/
def execCurrentDeviation (s : State) : Host.Outcome State Fault Refusal :=
  ok (if parN s P.loopIDevN ≤ s.loop.devRun then
        detect .fc 0x3801 3 [ampsOf s.loop.ed, ampsOf s.loop.eq] { s with loop := { s.loop with devRun := 0 } }
      else s)

/-- VOLTAGE_LIMIT_HELD (event 0x3802, F1). -/
def execVoltageLimitHeld (s : State) : Host.Outcome State Fault Refusal :=
  ok (if s.loop.satDue then detect .fc 0x3802 1 [] { s with loop := { s.loop with satSince := none, satDue := false } } else s)

/-- DISTURBED_PREDICTION_LIMIT (R248; event 0x3803). -/
def execDisturbedPredictionLimit (s : State) : Host.Outcome State Fault Refusal :=
  ok (if s.loop.distDue && !s.loop.distRec then
        record .fc 0x3803 0 [par s P.loopIDistMax] { s with loop := { s.loop with distRec := true } }
      else s)

/-- SPEED_DEVIATION (event 0x3811, F2). -/
def execSpeedDeviation (s : State) : Host.Outcome State Fault Refusal :=
  ok (if s.loop.spdDue then
        detect .fc 0x3811 2 [] { s with loop := { s.loop with spdAcc := 0, spdDue := false } }
      else s)

/-- OVERSPEED (event 0x3812, F3). -/
def execOverspeed (s : State) : Host.Outcome State Fault Refusal :=
  ok (if 2 ≤ s.loop.ovspRun then detect .fc 0x3812 3 [] { s with loop := { s.loop with ovspRun := 0 } } else s)

/-- FOLLOWING_ERROR (R262; event 0x3821, F2). -/
def execFollowingError (s : State) : Host.Outcome State Fault Refusal :=
  ok (if s.loop.ferrDue then
        detect .fc 0x3821 2 [sat32 (divRound s.loop.ep 256)] { s with loop := { s.loop with ferrSince := none, ferrDue := false } }
      else s)

/-- DAMPING_CLAMPED (event 0x3832, F1). -/
def execDampingClamped (s : State) : Host.Outcome State Fault Refusal :=
  ok (if 1000 ≤ s.loop.dcdRun then detect .fc 0x3832 1 [] { s with loop := { s.loop with dcdRun := 0 } } else s)

end Sys2Proof.Machine
end

