-- ==== Sys2Proof/Machine/Modulator.lean ====
section
/-! DEFINITION. The modulator on FC: compare values, regions, block and six-step patterns, pattern commands, bootstrap
pulses, leg loss (08). Carrier times are in units of 125 ps from t0. -/

namespace Sys2Proof.Machine
open Sys2Proof

/-! ## Leg edges -/

/-- R326: the leg edge of a half period with set `new` after set `old`; `on` is the commanded high-side state at t0. -/
def earlyEdge (up : Bool) (h : Nat) (on : Bool) (old : Nat) : Option Nat :=
  let off := if up then old else h - old
  if ((up && on && decide (old < h)) || (!up && !on && decide (0 < old))) && off < 2400 then some off else none

def lateEdge (up : Bool) (h : Nat) (on : Bool) (new : Nat) : Option Nat :=
  let off := if up then new else h - new
  if (up && on && decide (new < h)) || (!up && !on && decide (0 < new)) then some (max off 2400) else none

/-- A leg over one half period: the switch commanded on at the next t0, the units since it turned on (negative while
its dead time runs), and the instants of the gate edges. -/
structure LegHalf where
  side : Option Bool
  age : Int
  edges : List Int
  deriving DecidableEq, Repr

/-- A change to a held state: turn-off at t0 + 300 ns, turn-on `dly` later (R334, R343, R345). -/
def legTo (h dly : Nat) (want : Option Bool) (side : Option Bool) (age : Int) : LegHalf :=
  if want == side then ⟨side, age + h, []⟩
  else match want with
    | none => ⟨none, 0, [2400]⟩
    | some b => ⟨some b, (h : Int) - 2400 - dly, [2400, 2400 + (dly : Int)]⟩

/-- A change to a side at an offset, the switch that turns on one dead time later (R332, R334, R336, R341). -/
def legEdge (h dt off : Nat) (want side : Option Bool) (age : Int) : LegHalf :=
  if want == side then ⟨side, age + h, []⟩
  else match want with
    | none => ⟨none, 0, [(off : Int)]⟩
    | some b => ⟨some b, (h : Int) - off - dt, [(off : Int), (off : Int) + dt]⟩

/-- The complementary edges of one leg under compare values (R326, R336, R346); `inv` exchanges the two switches. -/
def legCmp (up : Bool) (h dt : Nat) (old : Option Nat) (new : Nat) (inv : Bool) (side : Option Bool) (age : Int) :
    LegHalf :=
  let on := side == some (!inv)
  let edge := match old with
    | some c => (match earlyEdge up h on c with | some e => some e | none => lateEdge up h on new)
    | none => lateEdge up h on new
  match edge with
  | some e => ⟨some (on == inv), (h : Int) - e - dt, [(e : Int), (e : Int) + dt]⟩
  | none =>
    if side.isNone then ⟨some inv, (h : Int) - 2400 - dt, [2400 + (dt : Int)]⟩ else ⟨side, age + h, []⟩

def legHalf (up : Bool) (h dt dly : Nat) (old new : LegCmd) (side : Option Bool) (age : Int) : LegHalf :=
  match new with
  | .off => legTo h dly none side age
  | .high => legTo h dly (some true) side age
  | .low => legTo h dly (some false) side age
  | .cmp c => legCmp up h dt (match old with | .cmp o => some o | _ => none) c false side age
  | .inv c => legCmp up h dt (match old with | .inv o => some o | _ => none) c true side age
  | .edge b off => legEdge h dt off b side age

/-- Delay of the switch that turns on: mod.asc.delay in the ASC patterns, mod.dt otherwise (R336, R343). -/
def onDelay (s : State) : Nat := if s.mod.pattern == 2 || s.mod.pattern == 3 then parN s P.modAscDelay else parN s P.modDt

/-- What the ended half period did to one leg. -/
def legRan (s : State) (p : Phase) : LegHalf :=
  let l := s.mod.lastOn.get p
  legHalf s.mod.up s.mod.h (parN s P.modDt) (onDelay s) (s.mod.prev.get p) (s.mod.legs.get p)
    (l.map Prod.fst) (match l with | some x => x.2 | none => 0)

/-- The report of R339 at the new t0, with DISTURBED of R109. -/
structure T0Report where
  on : Tri (Option (Bool × Nat))
  dist : Bool
  allHigh : Bool
  deriving DecidableEq, Repr

/-- Half of a refresh pulse's low time, from the peak on which it is centred (R341). -/
def refreshHalf (s : State) : Nat := parN s P.modBsRefreshMin / 2

/-- Edges of the first 80 ns that the compare in force, or a refresh pulse, places (R109, R326, R341). -/
def nextEarly (s : State) (up : Bool) (p : Phase) (side : Option Bool) : Bool :=
  s.mod.refreshLeg.get p && decide (refreshHalf s ≤ 640) || match s.mod.legs.get p with
  | .cmp c => (match earlyEdge up s.mod.h (side == some true) c with | some e => decide (e ≤ 640) | none => false)
  | .inv c => (match earlyEdge up s.mod.h (side == some false) c with | some e => decide (e ≤ 640) | none => false)
  | _ => false

/-- A die has, or had, a gate edge scheduled from sense.settle before t0 to 80 ns after it (R109): charge pulses, refresh
pulses and orders among them. -/
def dieNear (s : State) (g : GdDie) : Bool :=
  let settle := parN s P.senseSettle
  let t0 := ptNow s
  let began (t : Nat) : Bool := decide (0 < t) && decide (now s ≤ t + settle)
  g.edges.any (fun e => decide (8 * t0 ≤ e.at_ + 8 * settle) && decide (e.at_ ≤ 8 * t0 + 640)) || began g.onAt || began g.drvAt

/-- The pulses of an Awl sequence, start and on-time in 125 ps from its start: twelve axis pulses, the repeat of the first, two
polarity pulses of twice the time; each is followed by its opposite and by the rest (R215). -/
def awlPulses (s : State) : List (Nat × Nat) :=
  let t := s.obs.awlTon
  let r := 8000 * parN s P.obsAwlTRest
  (List.range 13).map (fun k => (k * (2 * t + r), t)) ++ [(13 * (2 * t + r), 2 * t), (13 * (2 * t + r) + 4 * t + r, 2 * t)]

/-- Length of an Awl sequence in 125 ps (R215). -/
def awlLength (s : State) : Nat := 34 * s.obs.awlTon + 15 * 8000 * parN s P.obsAwlTRest

/-- The pulse in progress `u` after the start of the sequence, and whether its opposite vector is applied. -/
def awlAt (s : State) (u : Nat) : Option (Nat × Bool) :=
  (((List.range 15).zip (awlPulses s)).find? (fun p => p.2.1 ≤ u && u < p.2.1 + 2 * p.2.2)).map
    (fun p => (p.1, decide (p.2.1 + p.2.2 ≤ u)))

/-- An edge of the Awl lies in the window of R109. -/
def awlNear (s : State) : Bool :=
  s.obs.phase == .awl && (awlPulses s).any (fun p => [p.1, p.1 + p.2, p.1 + 2 * p.2].any (fun e =>
    decide (8 * now s ≤ 8 * s.obs.phaseAt + e + 8 * parN s P.senseSettle) && decide (8 * s.obs.phaseAt + e ≤ 8 * now s + 640)))

/-- The carrier reaches its next valley or peak: the legs at t0 and the report to the sense front end. -/
def carrierTurn (s : State) : State × T0Report :=
  let h : Int := s.mod.h
  let settle : Int := par s P.senseSettle * 8
  let legs := Tri.ofFn (legRan s)
  let near (e : Int) : Bool := decide (h - settle ≤ e) && decide (e ≤ h + 640)
  let up := !s.mod.up
  let dist := Phase.all.any (fun p =>
    ((legs.get p).edges.any near) || nextEarly s up p (legs.get p).side) || GdPos.all.any (fun p => dieNear s (s.gd.get p)) || awlNear s
  let rep (l : LegHalf) : Option (Bool × Nat) :=
    match l.side with
    | some b => if l.age < 0 then none else some (b, l.age.toNat / 8)
    | none => none
  let high (l : LegHalf) : Bool := l.side == some true && decide (4000 ≤ l.age)
  let lastOn := legs.map (fun l => l.side.map (fun b => (b, l.age)))
  ({ s with mod := { s.mod with
      up := up, half := s.mod.half + 1, lastOn := lastOn } },
   ⟨legs.map rep, dist, legs.list.all high⟩)

/-- The gates switch under the current loop's control: compare values, block or six-step (R194). -/
def controlled (s : State) : Bool :=
  s.mod.running && (s.mod.pattern == 0 || s.mod.pattern == 4 || s.mod.pattern == 5)

/-! ## Compare values -/

def c12 : Int := 536870912
def c32 : Int := 929887697

def phaseVolts (va vb : Int) : Tri Int := ⟨va, dot [(va, -c12), (vb, c32)] 30, dot [(va, -c12), (vb, -c32)] 30⟩

def max3 (t : Tri Int) : Int := max t.u (max t.v t.w)
def min3 (t : Tri Int) : Int := min t.u (min t.v t.w)

/-- Sector of R219 of an angle. -/
def sectorOf (a : Int) : Nat := (6 * ((a - 5461) % 65536) / 65536).toNat

/-- m is at or above n / 1,000 (R330, R331), exactly. -/
def miAtLeast (va vb vdc : Int) (n : Int) : Bool := decide (n * n * (vdc * vdc) ≤ 3000000 * (va * va + vb * vb))

/-- The region of operation (R331): 0 linear, 1, 2, 3 six-step. -/
def regionOf (va vb vdc : Int) : Nat :=
  if miAtLeast va vb vdc 1103 then 3
  else if decide (3000000 * (va * va + vb * vb) ≤ 1000000 * (vdc * vdc)) then 0
  else if decide (3000000 * (va * va + vb * vb) ≤ 1050 * 1050 * (vdc * vdc)) then 1
  else 2

/-- The distance of angle `a` to the nearest hexagon vertex is within alpha_h (region II, R331); the vertex. -/
def atVertex (va vb vdc a : Int) : Option Nat :=
  let k := divr (6 * a) 65536
  let d6 : Int := ((6 * a - 65536 * k).natAbs : Int)
  let x := 1050 * 32768 + 53 * d6
  if x * x * (vdc * vdc) ≤ 3 * (va * va + vb * vb) * (32768000 * 32768000) then some (k % 6).toNat else none

/-- Legs held at the top rail at hexagon vertex k. -/
def vertexHigh (k : Nat) (p : Phase) : Bool :=
  match p with
  | .u => k == 0 || k == 1 || k == 5
  | .v => k == 1 || k == 2 || k == 3
  | .w => k == 3 || k == 4 || k == 5

/-- Zero-sequence voltage of a method (R329). -/
def zeroSeq (m : Nat) (v : Tri Int) (hv : Int) : Int :=
  match m with
  | 1 =>
    let k := if v.v.natAbs ≤ v.u.natAbs && v.w.natAbs ≤ v.u.natAbs then v.u
             else if v.w.natAbs ≤ v.v.natAbs then v.v else v.w
    if 0 ≤ k then hv - k else -hv - k
  | 2 => -hv - min3 v
  | 3 => hv - max3 v
  | _ => rnd (-(max3 v + min3 v)) 1

/-- One compare value before corrections (R329). With vdc = 0 the spec states none: a free value (log 9). -/
def cmpOf (v vdc h : Int) : Int :=
  if vdc == 0 then clamp 0 h (Config.realFn 22 [v, h])
  else min (max (divr (sat64 ((2 * v + vdc) * h)) (2 * vdc)) 0) h

/-- Dead-time compensation (R337). -/
def deadTime (s : State) (i c : Int) : Int :=
  if !parOn s P.modDtcEnable then c
  else
    let k := min (max (divr (i * 1024) (par s P.modDtcBand * 65536)) (-1024)) 1024
    min (max (c + divr (par s P.modDt * k) 2048) 0) s.mod.h

/-- The minimum-pulse rule on one side; half an odd mod.min_pulse is rounded up (R338). -/
def minSide (mp c : Int) : Int := if 4 * c < mp then 0 else if 2 * c < mp then (mp + 1) / 2 else c

def minPulse (s : State) (c : Int) : Int :=
  let mp := par s P.modMinPulse
  let h : Int := s.mod.h
  h - minSide mp (h - minSide mp c)

def bootstrap (s : State) : Bool := parN s P.sysBootGdSupply == 1

/-- Highest compare value under the bootstrap clamp (R340). -/
def bsTop (s : State) : Int := (s.mod.h : Int) - (par s P.modBsRefreshMin + 2 * par s P.modDt + 1) / 2

/-- Corrections of one compare value: dead time, minimum pulse, bootstrap clamp; whether the clamp acts. -/
def correct (s : State) (clampOn : Bool) (i c : Int) : Int × Bool :=
  let c := minPulse s (deadTime s i c)
  if clampOn && decide (bsTop s < c) then (max 0 (bsTop s), true) else (c, false)

/-- The method in effect (R330): with mod.method = 4 it changes at a sector boundary of the voltage angle (event
0x4801). -/
def chooseMethod (va vb vdc a : Int) (s : State) : State :=
  let m := parN s P.modMethod
  let sec := sectorOf a
  let cur : Nat := if s.mod.method == 1 then 1 else 0
  let want : Nat := if cur == 0 then (if miAtLeast va vb vdc (par s P.modDpwmMiOn) then 1 else 0)
    else if miAtLeast va vb vdc (par s P.modDpwmMiOff) then 1 else 0
  let s' := { s with mod := { s.mod with sector := sec } }
  if m != 4 then { s' with mod := { s'.mod with method := m } }
  else if sec != s.mod.sector && want != cur then
    record .fc 0x4801 0 [(want : Int)] { s' with mod := { s'.mod with method := want } }
  else { s' with mod := { s'.mod with method := cur } }

def putLegs (legs : Tri LegCmd) (s : State) : State := { s with mod := { s.mod with legs := legs } }

/-- A set of compare values goes out. -/
def sendCmp (c : Tri Int) (s : State) : State :=
  let n := c.map Int.toNat
  { s with mod := { s.mod with cmp := n, legs := n.map LegCmd.cmp } }

/-- The remaining legs under leg loss, in phase order (R348). -/
def remaining : Nat → Phase × Phase
  | 1 => (.v, .w)
  | 2 => (.u, .w)
  | _ => (.u, .v)

/-- Two-leg modulation under leg loss (R348); corrections apply without the bootstrap clamp. -/
def twoLegs (v : Tri Int) (vdc : Int) (s : State) : State :=
  let (y, z) := remaining s.mod.lostLeg
  let d := v.get y - v.get z
  let h : Int := s.mod.h
  let cy := if vdc == 0 then clamp 0 h (Config.realFn 22 [d, h])
            else min (max (divr (sat64 ((vdc + d) * h)) (2 * vdc)) 0) h
  let i := ctrlI s
  let a := (correct s false (i.get y) cy).1
  let b := (correct s false (i.get z) (h - cy)).1
  let s := { s with mod := { s.mod with
    cmp := (s.mod.cmp.set y a.toNat).set z b.toNat, bsClamp := false, dtcActive := parOn s P.modDtcEnable } }
  putLegs ((((Tri.rep LegCmd.off).set y (.cmp a.toNat)).set z (.cmp b.toNat))) s

/-- The compare values of one update in sinusoidal modulation (R329 to R331, R337 to R340). -/
def sineSet (s : State) : State :=
  let vdc := vdcSel s
  let va := s.loop.va
  let vb := s.loop.vb
  let a := atan2_16 vb va
  let s := chooseMethod va vb vdc a s
  if s.mod.legLoss then twoLegs (phaseVolts va vb) vdc s
  else
    let v := phaseVolts va vb
    let reg := regionOf va vb vdc
    let vertex := if reg == 3 then some (divr (6 * (a % 65536)) 65536 % 6).toNat
                  else if reg == 2 then atVertex va vb vdc (a % 65536) else none
    let s := { s with mod := { s.mod with region := reg, bsClamp := false, dtcActive := parOn s P.modDtcEnable } }
    match vertex with
    | some k => sendCmp (Tri.ofFn (fun p => if vertexHigh k p then (s.mod.h : Int) else 0)) s
    | none =>
      let span := max3 v - min3 v
      let v := if (reg == 1 && decide (vdc < span)) || reg == 2 then v.map (fun x => qfree 28 (x * vdc) span) else v
      let z := zeroSeq s.mod.method v (rnd vdc 1)
      let clampOn := bootstrap s && (s.mod.method == 0 || s.mod.method == 2) && reg != 2
      let r := Tri.ofFn (fun p => correct s clampOn ((ctrlI s).get p) (cmpOf (v.get p + z) vdc s.mod.h))
      sendCmp (r.map Prod.fst) { s with mod := { s.mod with bsClamp := r.list.any Prod.snd } }

/-! ## Block and six-step -/

/-- High-side and low-side phase of a block sector (R220). -/
def blockPair : Nat → Phase × Phase
  | 0 => (.u, .v) | 1 => (.u, .w) | 2 => (.v, .w) | 3 => (.v, .u) | 4 => (.w, .u) | _ => (.w, .v)

/-- The floating phase of a block sector and whether its back-EMF rises in forward rotation (R220). -/
def blockFloat : Nat → Phase × Bool
  | 0 => (.w, false) | 1 => (.v, true) | 2 => (.u, false) | 3 => (.w, true) | 4 => (.v, false) | _ => (.u, true)

/-- KB: pi / sqrt 3 at shift 30 (R333). -/
def kB : Int := 1947552238

/-- The chop of block commutation (R333). With vdc = 0 it is a free value (log 9). -/
def blockChop (s : State) : Int :=
  let vd := s.loop.vdPrev
  let vq := s.loop.vqPrev
  let vm : Int := (isqrt (sat64 (vd * vd + vq * vq)).toNat : Int)
  let h : Int := s.mod.h
  if vdcSel s == 0 then clamp 0 h (Config.realFn 22 [vm, h])
  else clamp 0 h (min (divr (sat64 (mul vm kB 30 * h)) (vdcSel s)) h)

def blockLegs (sector c : Nat) (chopLow : Bool) : Tri LegCmd :=
  let (hi, lo) := blockPair sector
  (((Tri.rep LegCmd.off).set hi (if chopLow then .high else .cmp c))).set lo (if chopLow then .inv c else .low)

def blockSet (s : State) : State :=
  let c := (blockChop s).toNat
  let legs := blockLegs s.obs.sector c (parOn s P.modBlkChop)
  let val (l : LegCmd) : Nat := match l with | .cmp c => c | .high => s.mod.h | .inv c => s.mod.h - c | _ => 0
  putLegs legs { s with mod := { s.mod with cmp := legs.map val, region := 0, bsClamp := false, dtcActive := false } }

/-- The six-step states of R332: the high-side phases of sector b. -/
def sixHigh (b : Nat) (p : Phase) : Bool :=
  match b with
  | 0 => p != .w | 1 => p == .v | 2 => p != .u | 3 => p == .w | 4 => p != .v | _ => p == .u

def sixLegs (b : Nat) : Tri LegCmd := Tri.ofFn (fun p => if sixHigh b p then .high else .low)

/-- The side a leg's command ends on. -/
def sideOf : LegCmd → Option Bool
  | .cmp _ | .high => some true
  | .inv _ | .low => some false
  | .off => none
  | .edge b _ => b

/-- The legs that differ between two patterns change at an offset not below 300 ns; the others keep their command (R332,
R334). -/
def turnLegs (off : Nat) (old new : Tri LegCmd) : Tri LegCmd :=
  Tri.ofFn (fun p => if sideOf (old.get p) == sideOf (new.get p) then new.get p
                     else .edge (sideOf (new.get p)) (max 2400 off))

/-- The sector that θu reaches next at the present speed, and the offset from t0 in 125 ps at which it does (R332). -/
def nextSector (a w : Int) : Option (Nat × Nat) :=
  let x := (a - 5461) % 65536
  let b := 6 * x / 65536
  if 0 < w then some (((b + 1) % 6).toNat, (divr (((b + 1) * 65536 - 6 * x) * 8000000000000) (393216 * w)).toNat)
  else if w < 0 then some (((b + 5) % 6).toNat, (divr ((6 * x - b * 65536) * 8000000000000) (393216 * -w)).toNat)
  else none

/-- 180° six-step: the legs follow θu, and a boundary that θu reaches within the half period is placed at its instant (R224,
R332). -/
def sixSet (s : State) : State :=
  let a := s.loop.thetaV + atan2_16 s.loop.vqPrev s.loop.vdPrev
  let b := sectorOf a
  let legs := match nextSector a (elecW s) with
    | some (b', off) => if off < s.mod.h then turnLegs off (sixLegs b) (sixLegs b') else sixLegs b
    | none => sixLegs b
  putLegs legs { s with mod := { s.mod with
    sector := b, region := 3, bsClamp := false, dtcActive := false
    cmp := Tri.ofFn (fun p => if sixHigh b p then s.mod.h else 0) } }

/-! ## One update -/

/-- A faulted leg stays at high impedance under every pattern (R350). -/
def maskFaulted (s : State) : State :=
  putLegs (Tri.ofFn (fun p => if s.heel.legs.get p then .off else s.mod.legs.get p)) s

/-- A leg's low side in one carrier period, in units on: from the two commands, less the dead time before it turns on (R336,
R341). -/
def lowOn (s : State) (p : Phase) : Nat :=
  let one (l : LegCmd) : Nat := match l with
    | .cmp c => s.mod.h - c | .inv c => c | .low => s.mod.h
    | .edge (some false) o => s.mod.h - o
    | .edge (some true) o => o
    | _ => 0
  let t := one (s.mod.prev.get p) + one (s.mod.legs.get p)
  if t == 0 then 0 else t - parN s P.modDt

/-- The refresh counts at the end of a carrier period (R341). -/
def refreshCount (s : State) : State :=
  if !bootstrap s || !s.mod.up || !controlled s then s
  else
    let upd1 (p : Phase) (s : State) : State :=
      let t := lowOn s p
      { s with mod := { s.mod with
          bsRun := if parN s P.modBsRefreshMin ≤ t then s.mod.bsRun.set p 0
                   else if t == 0 then s.mod.bsRun.set p (s.mod.bsRun.get p + 1) else s.mod.bsRun
          bsDue := if parN s P.modBsRefreshMin ≤ t then s.mod.bsDue.set p false else s.mod.bsDue } }
    Phase.all.foldl (fun s p => upd1 p s) s

/-- The second half of the refresh pulses centred on the peak that begins this half period (R341, R351). -/
def refreshEnd (s : State) : State :=
  let legs := if controlled s then Tri.ofFn (fun p => if s.mod.refreshLeg.get p then .edge (some true) (refreshHalf s)
                                                      else s.mod.legs.get p) else s.mod.legs
  { s with mod := { s.mod with legs := legs, refreshLeg := Tri.rep false } }

/-- The set of this update: pattern command, block, six-step or compare values (R345, R351); in a flagged update under the
current loop's control the previous compare values again (R24). -/
def modUpdate (s : State) : State :=
  let s := refreshCount { s with mod := { s.mod with prev := s.mod.legs, refresh := s.mod.refresh - 1 } }
  if controlled s && flaggedUpdate s then maskFaulted (refreshEnd s)
  else
  let s :=
    if !s.mod.running then putLegs (Tri.rep .off) s
    else match s.mod.pattern with
      | 1 => putLegs (Tri.rep .off) s
      | 2 => putLegs (Tri.rep .low) s
      | 3 => putLegs (Tri.rep .high) s
      | 4 => blockSet s
      | 5 => sixSet s
      | _ => sineSet s
  maskFaulted (refreshEnd s)

/-! ## Rows of the modulator -/

/-- COMPARE_SETS_MISSED_TWICE at one die (R356; event 0x4812, F3). -/
def execCompareSetsMissedTwice (p : GdPos) (s : State) : Host.Outcome State Fault Refusal :=
  ok (if 2 ≤ (s.gd.get p).missRun then
        detect .fc 0x4812 3 [] { s with gd := s.gd.set p { s.gd.get p with missRun := 0 } }
      else s)

/-- The value a leg was sent for the half period in progress, as its echo carries it. -/
def sentValue (s : State) (p : Phase) : Nat :=
  match s.mod.legs.get p with
  | .cmp c | .inv c => c
  | .high => s.mod.h
  | _ => 0

/-- ECHO_RECEIVED: the echoes of both dies of a leg against each other and the value sent; a missed set is no difference
(R328; event 0x4813, F3). -/
def execEchoReceived (p : Phase) (hi lo : Option Nat) (s : State) : Host.Outcome State Fault Refusal :=
  ok (let sent := sentValue s p
      let bad (x : Option Nat) : Bool := match x with | some v => v != sent | none => false
      let val (x : Option Nat) : Int := match x with | some v => (v : Int) | none => (sent : Int)
      if s.mod.running && (bad hi || bad lo) then
        detect .fc 0x4813 3 [(p.hi.id : Int), (p.lo.id : Int), val hi, val lo] s
      else s)

/-- DELAY_LINE_CALIBRATION: the taps of a line must span one clock period, 5,000 ps on a gate driver die and 4,000 ps
on FC, within 3 % (R335; event 0x4821, F3). -/
def execDelayLineCalibration (d : Die) (span : Nat) (s : State) : Host.Outcome State Fault Refusal :=
  ok (let period : Nat := match d with | .fc => 4000 | _ => 5000
      if d == .hb || dieDown s d then s
      else if 3 * period < 100 * (span - period + (period - span)) then
        let s' := { s with mod := { s.mod with calFail := s.mod.calFail ||| 2 ^ d.id } }
        if bitOf s.mod.calFail d.id then s' else detect .fc 0x4821 3 [(d.id : Int), (span : Int)] s'
      else { s with mod := { s.mod with calFail := if bitOf s.mod.calFail d.id then s.mod.calFail - 2 ^ d.id
                                                   else s.mod.calFail } })

/-- BOOTSTRAP_REFRESH: a refresh pulse centred on the next carrier peak: in this half period the leg turns to its low side, in
the next one back (R341; event 0x4831 for the first of a run). -/
def execBootstrapRefresh (p : Phase) (s : State) : Host.Outcome State Fault Refusal :=
  ok (if bootstrap s && s.mod.up && controlled s && parN s P.modBsRefreshN ≤ s.mod.bsRun.get p &&
          !s.heel.legs.get p && s.heel.fc.isNone then
        let first := !s.mod.bsDue.get p
        let off := s.mod.h - refreshHalf s - parN s P.modDt
        let s := { s with mod := { s.mod with
          bsRun := s.mod.bsRun.set p 0, bsDue := s.mod.bsDue.set p true, refresh := 2
          refreshLeg := s.mod.refreshLeg.set p true
          legs := s.mod.legs.set p (.edge (some false) off) } }
        if first then record .fc 0x4831 0 [(legCode p : Int)] s else s
      else s)

/-- The leg-loss ramp is over, or cut short: the speed-dependent safe state would select ASC and the estimated back-EMF exceeds
the link voltage, which is XOVER (R349, R425, R436). -/
def rampOver (s : State) : Bool :=
  match s.loop.rampT with
  | some (_, t) => decide (t + parN s P.modLegRamp * 1000000 ≤ now s) || (decide (3 ≤ parN s P.safetyState) && s.sm.xover)
  | none => false

/-- The end of leg-loss mode takes the configured safe state; its own reaction no longer bars it (R59, R349; event 0x4842,
F3). -/
def endLegLoss (s : State) : State := detect .fc 0x4842 3 [] { s with op := { s.op with runClass := 0 } }

/-- LEG_LOSS_RAMP_END (R349). -/
def execLegLossRampEnd (s : State) : Host.Outcome State Fault Refusal :=
  ok (if s.mod.legLoss && rampOver s && (s.op.state == .run || s.op.state == .stopping) then endLegLoss s else s)

/-- With mod.leg.policy = 1, or outside sinusoidal modulation, leg loss takes the configured safe state at the update
boundary (R347; event 0x4842). -/
def legLossCheck (s : State) : State :=
  if s.mod.legLoss && (s.op.state == .run || s.op.state == .stopping) &&
      (parN s P.modLegPolicy == 1 || s.mod.pattern == 4 || s.mod.pattern == 5) then endLegLoss s
  else s

end Sys2Proof.Machine
end

