-- ==== Sys2Proof/Machine/F64.lean ====
section
/-! DEFINITION. IEEE 754 binary64 arithmetic with round to nearest even, for the Profile Engine (R276). A value is m 2^e;
infinities and NaN carry an exponent of their own. Zero has no sign (log 22). -/

namespace Sys2Proof.Machine
open Sys2Proof

/-- The exponent that marks an infinity (m = 1, -1) or NaN (m = 0). -/
def fTop : Int := 5000

def fInf (neg : Bool) : F64 := ⟨if neg then -1 else 1, fTop⟩
def fNaN : F64 := ⟨0, fTop⟩
def fIsNaN (x : F64) : Bool := x.e == fTop && x.m == 0
def fIsInf (x : F64) : Bool := x.e == fTop && x.m != 0

/-- m 2^e, rounded to 53 bits or to a multiple of 2^-1074, to nearest, ties to even; beyond the largest number an infinity. -/
def fNorm (m : Int) (e : Int) : F64 :=
  if m == 0 then ⟨0, 0⟩
  else
    let n := m.natAbs
    let len := n.log2 + 1
    let sg (x : Nat) : Int := if m < 0 then -(x : Int) else x
    let k : Int := max ((len : Int) - 53) (-1074 - e)
    let r : F64 :=
      if k ≤ 0 then ⟨sg (n * 2 ^ (-k).toNat), e + k⟩
      else
        let k' := k.toNat
        let q := n / 2 ^ k'
        let r := n % 2 ^ k'
        let half := 2 ^ (k' - 1)
        let q := if half < r || (r == half && q % 2 == 1) then q + 1 else q
        if q == 0 then ⟨0, 0⟩ else if q == 2 ^ 53 then ⟨sg (2 ^ 52), e + k + 1⟩ else ⟨sg q, e + k⟩
    if 971 < r.e then fInf (m < 0) else r

def fOfInt (v : Int) : F64 := fNorm v 0
/-- A 48.16 value in counts, exactly rounded. -/
def fOfQ16 (v : Int) : F64 := fNorm v (-16)
def fNeg (x : F64) : F64 := ⟨-x.m, x.e⟩

def fAdd (x y : F64) : F64 :=
  if fIsNaN x || fIsNaN y then fNaN
  else if fIsInf x then (if fIsInf y && x.m != y.m then fNaN else x)
  else if fIsInf y then y
  else if x.m == 0 then y else if y.m == 0 then x
  else
    let e := min x.e y.e
    fNorm (x.m * 2 ^ (x.e - e).toNat + y.m * 2 ^ (y.e - e).toNat) e

def fSub (x y : F64) : F64 := fAdd x (fNeg y)

def fMul (x y : F64) : F64 :=
  if fIsNaN x || fIsNaN y then fNaN
  else if fIsInf x || fIsInf y then (if x.m == 0 || y.m == 0 then fNaN else fInf ((x.m < 0) != (y.m < 0)))
  else fNorm (x.m * y.m) (x.e + y.e)

/-- Quotient; the last bit of the long quotient is sticky. -/
def fDiv (x y : F64) : F64 :=
  if fIsNaN x || fIsNaN y || (fIsInf x && fIsInf y) || (x.m == 0 && y.m == 0) then fNaN
  else if fIsInf x || y.m == 0 then fInf ((x.m < 0) != (y.m < 0))
  else if x.m == 0 || fIsInf y then ⟨0, 0⟩
  else
    let n := x.m.natAbs * 2 ^ 64
    let d := y.m.natAbs
    let q := 2 * (n / d) + (if n % d == 0 then 0 else 1)
    fNorm (if (x.m < 0) == (y.m < 0) then (q : Int) else -(q : Int)) (x.e - y.e - 65)

def fSqrt (x : F64) : F64 :=
  if x.m < 0 || fIsNaN x then fNaN
  else if x.m == 0 || fIsInf x then x
  else
    let k : Nat := if x.e % 2 == 0 then 64 else 65
    let n := x.m.natAbs * 2 ^ k
    let r := isqrt n
    let q := 2 * r + (if r * r == n then 0 else 1)
    fNorm q ((x.e - (k : Int)) / 2 - 1)

/-- x < y; no order holds of a NaN. -/
def fLt (x y : F64) : Bool :=
  if fIsNaN x || fIsNaN y then false
  else if fIsInf x then x.m < 0 && !(fIsInf y && y.m < 0)
  else if fIsInf y then 0 < y.m
  else decide ((fSub x y).m < 0)

def fLe (x y : F64) : Bool := !fIsNaN x && !fIsNaN y && !fLt y x
def fMin (x y : F64) : F64 := if fLt y x then y else x
def fMax (x y : F64) : F64 := if fLt x y then y else x
def fAbs (x : F64) : F64 := ⟨x.m.natAbs, x.e⟩
def fZero : F64 := ⟨0, 0⟩
def fTwo : F64 := fOfInt 2
def fHalf (x : F64) : F64 := if x.e == fTop then x else fNorm x.m (x.e - 1)

/-- x 2^n rounded half away from zero to an integer; of an infinity or NaN a free value. -/
def fRound (n : Int) (x : F64) : Int :=
  if x.e == fTop then Config.realFn 35 [x.m]
  else
    let e := x.e + n
    if 0 ≤ e then x.m * 2 ^ e.toNat else rnd x.m (-e).toNat

end Sys2Proof.Machine
end

