-- ==== Sys2Proof/Machine/Motion.lean ====
section
/-! DEFINITION. The Profile Engine: planner, velocity targets, limits, segment tables, switches, homing, stops (07). -/

namespace Sys2Proof.Machine
open Sys2Proof

/-! ## The planner (R281, R282, R285) -/

/-- A planned state: position, velocity, acceleration. -/
structure Plan3 where
  p : F64
  v : F64
  a : F64
  deriving DecidableEq, Repr

def advance (s : Plan3) (j t : F64) : Plan3 :=
  let t2 := fMul t t
  ⟨fAdd (fAdd (fAdd s.p (fMul s.v t)) (fHalf (fMul (fMul s.a t) t))) (fDiv (fMul j (fMul t2 t)) (fOfInt 6)),
   fAdd (fAdd s.v (fMul s.a t)) (fHalf (fMul (fMul j t) t)),
   fAdd s.a (fMul j t)⟩

def runPlan (s : Plan3) (l : List Seg) : Plan3 := l.foldl (fun s g => advance s g.j g.t) s

def mirror (l : List Seg) : List Seg := l.map (fun g => ⟨fNeg g.j, g.t⟩)

/-- The phases of `stop` for v ≥ 0 (R281). -/
def stopUp (v a dec jerk : F64) : List Seg :=
  let dp := fMin dec (fSqrt (fAdd (fMul jerk v) (fHalf (fMul a a))))
  let dp := fMax dp (fNeg a)
  let t1 := fDiv (fAdd a dp) jerk
  let v1 := (advance ⟨fZero, v, a⟩ (fNeg jerk) t1).v
  let t2 := fMax fZero (fDiv (fSub v1 (fDiv (fMul dp dp) (fMul fTwo jerk))) dp)
  [⟨fNeg jerk, t1⟩, ⟨fZero, t2⟩, ⟨jerk, fDiv dp jerk⟩]

def stopSegs (v a dec jerk : F64) : List Seg :=
  if v.m < 0 then mirror (stopUp (fNeg v) (fNeg a) dec jerk) else stopUp v a dec jerk

/-- The state holds more deceleration than the stop needs, so that it ends with a reverse velocity (R281). -/
def overHeld (v a dec jerk : F64) : Bool :=
  let up (v a : F64) : Bool := fLt (fMin dec (fSqrt (fAdd (fMul jerk v) (fHalf (fMul a a))))) (fNeg a)
  if v.m < 0 then up (fNeg v) (fNeg a) else up v a

/-- The planned state that a stop leaves: at rest, or with the reverse velocity of R281. -/
def stopState (s : Plan3) (dec jerk : F64) : Plan3 :=
  let e := runPlan s (stopSegs s.v s.a dec jerk)
  ⟨e.p, if overHeld s.v s.a dec jerk then e.v else fZero, fZero⟩

/-- A stop, and the stop of the reverse velocity it leaves (R281). -/
def fullStop (s : Plan3) (dec jerk : F64) : List Seg :=
  let e := stopState s dec jerk
  stopSegs s.v s.a dec jerk ++ (if e.v.m == 0 then [] else stopSegs e.v fZero dec jerk)

def stopPoint (s : Plan3) (dec jerk : F64) : F64 := (runPlan s (stopSegs s.v s.a dec jerk)).p

/-- A jerk-limited rise of velocity to vg, ending with a = 0. -/
def riseSegs (v a vg lim jerk : F64) : List Seg :=
  let ap := fMin lim (fSqrt (fMax fZero (fAdd (fMul jerk (fSub vg v)) (fHalf (fMul a a)))))
  let ap := fMax ap a
  let t1 := fDiv (fSub ap a) jerk
  let v1 := (advance ⟨fZero, v, a⟩ jerk t1).v
  let t2 := fMax fZero (fDiv (fSub (fSub vg v1) (fDiv (fMul ap ap) (fMul fTwo jerk))) ap)
  [⟨jerk, t1⟩, ⟨fZero, t2⟩, ⟨fNeg jerk, fDiv ap jerk⟩]

/-- The velocity at which the held acceleration runs out. -/
def coastV (v a jerk : F64) : F64 := fAdd v (fDiv (fMul a (fAbs a)) (fMul fTwo jerk))

/-- A change from v ≥ 0 to vg ≥ 0: acc while v rises, dec while it falls (R285). -/
def changeUp (v a vg acc dec jerk : F64) : List Seg :=
  if fLt vg (coastV v a jerk) then mirror (riseSegs (fNeg v) (fNeg a) (fNeg vg) dec jerk) else riseSegs v a vg acc jerk

/-- A velocity target in the positive direction. What moves backwards, or will by the deceleration it holds, is stopped first, and
the reverse velocity left by that stop is where the rise starts (R281, R285). -/
def velUp (v a vg acc dec jerk : F64) : List Seg :=
  if v.m < 0 then
    let e := stopState ⟨fZero, v, a⟩ dec jerk
    stopSegs v a dec jerk ++ changeUp e.v fZero vg acc dec jerk
  else if (coastV v a jerk).m < 0 then
    let e := stopState ⟨fZero, v, a⟩ dec jerk
    stopSegs v a dec jerk ++ stopSegs e.v fZero dec jerk ++ changeUp fZero fZero vg acc dec jerk
  else changeUp v a vg acc dec jerk

/-- A velocity target: acc while |v| rises, dec while it falls; an opposite sign passes through zero (R285). -/
def velSegs (v a vg acc dec jerk : F64) : List Seg :=
  if vg.m < 0 || (vg.m == 0 && v.m < 0) then mirror (velUp (fNeg v) (fNeg a) (fNeg vg) acc dec jerk)
  else velUp v a vg acc dec jerk

/-- The phases through peak velocity vp and back to rest, in the positive direction. -/
def viaPeak (s : Plan3) (vp acc dec jerk : F64) : List Seg :=
  velSegs s.v s.a vp acc dec jerk ++ stopUp vp fZero dec jerk

/-- Bisection of the peak velocity to 2^-16 counts/s (R282). -/
def bisectPeak (s : Plan3) (tgt acc dec jerk : F64) : Nat → F64 → F64 → F64
  | 0, lo, _ => lo
  | n + 1, lo, hi =>
    if fLe (fSub hi lo) ⟨1, -16⟩ then lo
    else
      let mid := fHalf (fAdd lo hi)
      if fLe (runPlan s (viaPeak s mid acc dec jerk)).p tgt then bisectPeak s tgt acc dec jerk n mid hi
      else bisectPeak s tgt acc dec jerk n lo mid

/-- The forward plan to a target at or beyond the stopping point, in the positive direction (R282). -/
def forwardUp (s : Plan3) (tgt vmax acc dec jerk : F64) : List Seg :=
  let reach := (runPlan s (viaPeak s vmax acc dec jerk)).p
  if fLe reach tgt then
    velSegs s.v s.a vmax acc dec jerk ++ [⟨fZero, fDiv (fSub tgt reach) vmax⟩] ++ stopUp vmax fZero dec jerk
  else viaPeak s (bisectPeak s tgt acc dec jerk 80 fZero vmax) acc dec jerk

def forwardSegs (s : Plan3) (tgt vmax acc dec jerk : F64) : List Seg :=
  if s.p == tgt && s.v.m == 0 then []
  else if s.v.m < 0 || (s.v.m == 0 && fLt tgt s.p) then
    mirror (forwardUp ⟨fNeg s.p, fNeg s.v, fNeg s.a⟩ (fNeg tgt) vmax acc dec jerk)
  else forwardUp s tgt vmax acc dec jerk

/-! ## The Profile Engine's state -/

def profAcc (s : State) : F64 := fOfInt (par s P.profAcc)
def profDec (s : State) : F64 := fOfInt (par s P.profDec)
def profJerk (s : State) : F64 := fOfInt (par s P.profJerk)
def profVel (s : State) : F64 := fOfInt (par s P.profVelMax)

def planned (s : State) : Plan3 := ⟨s.pe.p, s.pe.v, s.pe.a⟩

/-- Machine position in 48.16 counts (R274). -/
def machinePos (s : State) : Int := s.fb.pos + par s P.profHomeShift

/-- The update period in seconds. -/
def tsF (s : State) : F64 := fDiv (fOfInt (tsPs s)) (fOfInt 1000000000000)

def qOf (x : F64) : Int := fRound 16 x
def countsOf (x : F64) : Int := fRound 0 x

/-- The profile limits a plan is made under (R320). -/
def profLims (s : State) : List Int :=
  [par s P.profVelMax, par s P.profAcc, par s P.profDec, par s P.profJerk, par s P.profHomeAcc]

/-- Sets the plan: phases, where it ends at rest, the velocity it ends with. -/
def setPlan (src : Nat) (l : List Seg) (goal : Option F64) (vg : F64) (s : State) : State :=
  { s with pe := { s.pe with
      source := src, plan := l, tau := fZero, goal := goal, vGoal := vg, reached := false, winSince := none
      standSince := none, ended := src == 1 && l.isEmpty, lims := profLims s } }

/-- The planned state is taken from the measured one (R280, R308). -/
def planFromMeasured (s : State) : State :=
  { s with pe := { s.pe with
      p := fOfQ16 (machinePos s), v := fOfQ16 (driveSpeed s), a := fZero, plan := [], tau := fZero, vGoal := fOfQ16 (driveSpeed s)
      goal := none } }

/-- A stop of R281 from the planned state; it ends at rest at its own stopping point. -/
def planStop (src : Nat) (dec jerk : F64) (s : State) : State :=
  let st := planned s
  let l := fullStop st dec jerk
  setPlan src l (some (runPlan st l).p) fZero s

/-! ## Ending a source -/

/-- The machine position moves by the new shift without a step of the set-point (R306). -/
def setShift (shift : Int) (s : State) : State :=
  let d := fOfQ16 (shift - par s P.profHomeShift)
  let s := setPar P.profHomeShift shift s
  { s with pe := { s.pe with
      p := fAdd s.pe.p d, goal := s.pe.goal.map (fun g => fAdd g d) } }

/-- Homing fails, is aborted or cancelled: the shift stays as it was (R305, R307); a run that fails leaves HOMED clear. -/
def homeEnd (status code : Nat) (s : State) : State :=
  match s.pe.homeTag with
  | none => s
  | some t =>
    let s := match s.pe.homeOld with | some v => setShift v s | none => s
    let failed := status != stCancelled
    answer t ⟨status, code, []⟩ { s with pe := { s.pe with
      homePhase := if failed then 7 else 0, homeTag := none, homeIdx := none, homeOld := none
      homed := s.pe.homed && !failed } }

/-- Segment execution ends before its table does. -/
def segEnd (status code : Nat) (s : State) : State :=
  match s.pe.segTag with
  | none => s
  | some t => answer t ⟨status, code, []⟩ { s with pe := { s.pe with segTag := none, segIdx := 0 } }

def endSource (status code : Nat) (s : State) : State := segEnd status code (homeEnd status code s)

/-! ## Limits -/

/-- Software limits are in force (R287). -/
def limitsOn (s : State) : Bool := parOn s P.profLimEnable && s.pe.homed

def limMin (s : State) : F64 := fOfInt (par s P.profLimPosMin)
def limMax (s : State) : F64 := fOfInt (par s P.profLimPosMax)

/-- The smallest whole deceleration at which the stop ends at or short of the limit (R289), by bisection. -/
def bisectDec (st : Plan3) (lim jerk : F64) (up : Bool) : Nat → Nat → Nat → Nat
  | 0, _, hi => hi
  | n + 1, lo, hi =>
    if hi ≤ lo then hi
    else
      let mid := (lo + hi) / 2
      let e := stopPoint st (fOfInt mid) jerk
      if (if up then fLe e lim else fLe lim e) then bisectDec st lim jerk up n lo mid
      else bisectDec st lim jerk up n (mid + 1) hi

/-- A limit stop at `lim` (R289, R290; events 0x4011, 0x4013). -/
def limitStopAt (up : Bool) (lim : F64) (s : State) : State :=
  let st := planned s
  let jerk := fOfInt (par s P.profLimJerk)
  let worst := stopPoint st (fOfInt (par s P.profLimDec)) jerk
  let s := endSource stFault (if (if up then fLt lim worst else fLt worst lim) then 0x4013 else 0x4011) s
  if (if up then fLt lim worst else fLt worst lim) then
    let s := planStop 5 (fOfInt (par s P.profLimDec)) jerk { s with pe := { s.pe with limitStop := true, limUp := up } }
    detect .fc 0x4013 2 [((countsOf (fSub worst lim)).natAbs : Int)] s
  else
    let d := bisectDec st lim jerk up 40 (parN s P.profDec) (parN s P.profLimDec)
    let l := stopSegs st.v st.a (fOfInt d) jerk
    let s := setPlan 5 l (some (if parN s P.profDec < d then lim else (runPlan st l).p)) fZero { s with pe := { s.pe with limitStop := true, limUp := up } }
    detect .fc 0x4011 1 (wide (countsOf lim) ++ [(d : Int)]) s

/-- The stopping point of motion toward a limit in force lies beyond it (R289). -/
def limitJudge (s : State) : State :=
  if !limitsOn s then s
  else
    let e := stopPoint (planned s) (profDec s) (profJerk s)
    if 0 < s.pe.v.m && fLt (limMax s) e then limitStopAt true (limMax s) s
    else if s.pe.v.m < 0 && fLt e (limMin s) then limitStopAt false (limMin s) s else s

def limitCheck (s : State) : State :=
  if s.pe.source == 5 || s.pe.source == 0 || s.pe.source == 6 then s else limitJudge s

/-- A target accepted before the limits came into force is checked again when they come into force (R291). -/
def limitsArrive (s : State) : State :=
  let was := s.pe.limWas
  let s := { s with pe := { s.pe with limWas := limitsOn s } }
  if was || !limitsOn s || s.pe.source != 1 || s.pe.limitStop then s
  else if fLt (limMax s) (fOfQ16 s.pe.target) then limitStopAt true (limMax s) s
  else if fLt (fOfQ16 s.pe.target) (limMin s) then limitStopAt false (limMin s) s
  else s

/-- The measured position beyond a limit by more than the overrun (R292; event 0x4012). -/
def overrunCheck (s : State) : State :=
  let m := machinePos s
  let o := par s P.profLimOverrun * 65536
  if limitsOn s && !s.pe.overrun &&
      (decide (par s P.profLimPosMax * 65536 + o < m) || decide (m < par s P.profLimPosMin * 65536 - o)) then
    detect .fc 0x4012 2 (wide m) { s with pe := { s.pe with overrun := true } }
  else s

/-! ## Switches (R299 to R302) -/

def swGet (s : State) (i : Nat) : SwState :=
  match i with | 0 => s.pe.swNeg | 1 => s.pe.swPos | _ => s.pe.swHome

def swPut (i : Nat) (x : SwState) (s : State) : State :=
  match i with
  | 0 => { s with pe := { s.pe with swNeg := x } }
  | 1 => { s with pe := { s.pe with swPos := x } }
  | _ => { s with pe := { s.pe with swHome := x } }

def swEnabled (s : State) (i : Nat) : Bool := bitOf (parN s P.profSwEnable) i

/-- The debounced level is the active one (R299). -/
def swDeb (s : State) (i : Nat) : Bool := (swGet s i).deb == bitOf (parN s P.profSwPolarity) i

/-- Treated as active (R300, R301). -/
def swActive (s : State) (i : Nat) : Bool := swEnabled s i && (swDeb s i || (swGet s i).chatter)

def bothLimits (s : State) : Bool := swActive s 0 && swActive s 1

/-- The velocity whose sign is the direction of motion: the planned one, in torque mode the measured one (log 34). -/
def motionSign (s : State) : Int := if s.pe.source == 6 then driveSpeed s else s.pe.v.m

/-- Motion toward a limit switch's side: 0 negative, 1 positive. -/
def toward (s : State) (i : Nat) : Bool :=
  if i == 0 then decide (motionSign s < 0) else decide (0 < motionSign s)

/-- A limit stop is under way. -/
def limitStopping (s : State) : Bool := s.pe.limitStop && s.pe.source == 5 && !s.pe.plan.isEmpty

/-- A stop under prof.sw.dec and prof.jerk; where it would end beyond a limit in force it is a limit stop, and one under way goes on
(R289, R301, R314). A torque set-point ends at zero torque (log 34). -/
def switchStop (s : State) : State :=
  let dec := fOfInt (par s P.profSwDec)
  let e := stopPoint (planned s) dec (profJerk s)
  let up := limitsOn s && 0 < s.pe.v.m && fLt (limMax s) e
  let down := limitsOn s && s.pe.v.m < 0 && fLt e (limMin s)
  if (up || down) && limitStopping s then s
  else if up then limitStopAt true (limMax s) s
  else if down then limitStopAt false (limMin s) s
  else planStop 5 dec (profJerk s) (if s.pe.source == 6 then { s with loop := { s.loop with tref := 0 } } else s)

/-! ## Homing (R303 to R307) -/

def homeAcc (s : State) : F64 := fOfInt (par s P.profHomeAcc)

/-- Velocity `v` counts/s during homing. -/
def homeVel (v : Int) (s : State) : State :=
  let vg := fOfInt v
  setPlan 4 (velSegs s.pe.v s.pe.a vg (homeAcc s) (homeAcc s) (profJerk s)) none vg s

def homeFail (cause : Nat) (s : State) : State :=
  let s := detect .fc 0x4033 1 [(cause : Int)] s
  let s := homeEnd stFault 0x4033 s
  planStop 5 (homeAcc s) (profJerk s) s

/-- First search direction of a method. -/
def firstDir (m : Nat) : Int := if m % 2 == 1 then -1 else 1

/-- The switch that ends phase 1: the expected limit switch, or HOME. -/
def searchSwitch (m : Nat) : Nat := match m with | 1 => 0 | 2 => 1 | _ => 2

def expectedSwitch (m : Nat) : Nat := if m % 2 == 1 then 0 else 1

/-- The reference event at count P = `p` (R304 phase 5, R306). -/
def homeEvent (p : Int) (s : State) : State :=
  let s := { s with pe := { s.pe with homePhase := 5, homeOld := some (par s P.profHomeShift) } }
  let s := setShift ((par s P.profHomeOffset - p) * 65536) s
  planStop 4 (homeAcc s) (profJerk s) s

/-- Homing is complete (R288, R304, R306; event 0x4031). -/
def homeDone (s : State) : State :=
  match s.pe.homeTag with
  | none => s
  | some t =>
    let s := { s with
      pe := { s.pe with homePhase := 6, homeTag := none, homed := true, homeOld := none, homeIdx := none, source := 0
                        ended := true }
      fb := { s.fb with cref := none, indexNo := 0, corr := 0, posUncertain := false, idxOff := false } }
    answerOk t (record .fc 0x4031 0 (par s P.profHomeMethod :: wide (par s P.profHomeShift)) s)

/-- Phase 4 begins, or the switch edge is the event (R303, R304). -/
def homeAfterSwitch (edge : Int) (s : State) : State :=
  if parOn s P.profHomeUseIdx then
    { s with pe := { s.pe with homePhase := 4, homeFrom := s.fb.p, homeIdx := none } }
  else homeEvent edge s

/-- A debounced change of a switch reaches homing (R304, R305). -/
def homeSwitch (i : Nat) (s : State) : State :=
  let m := parN s P.profHomeMethod
  let act := swActive s i
  let ph := s.pe.homePhase
  if s.pe.homeTag.isNone || m == 0 || 7 ≤ m then s
  else if act && i < 2 && i != expectedSwitch m then
    let s := detect .fc 0x4032 1 [] s
    switchStop (homeEnd stFault 0x4032 s)
  else if ph == 1 && act && m ≤ 4 && i == searchSwitch m then
    homeVel (-(firstDir m) * par s P.profHomeVSlow) { s with pe := { s.pe with homePhase := 2 } }
  else if act && i == expectedSwitch m then
    if 3 ≤ m && ph == 1 && !s.pe.homeTurned then
      let dir := -s.pe.homeDir
      homeVel (dir * par s P.profHomeVFast) { s with pe := { s.pe with homeDir := dir, homeTurned := true } }
    else if ph == 3 || ph == 4 || s.pe.homeTurned || (m ≤ 2 && 2 ≤ ph) then homeFail 1 s
    else s
  else if ph == 3 && !act && i == searchSwitch m then homeAfterSwitch (swGet s i).edge s
  else s

/-- Per-update homing transitions: velocity reached, index, index window, standstill (R304, R307). In methods 5 and 6 the search
target of phase 1 is the index, which also ends phase 4 (log 22). -/
def homeUpdate (s : State) : State :=
  let m := parN s P.profHomeMethod
  match s.pe.homePhase with
  | 1 =>
    if 5 ≤ m then
      match s.pe.homeIdx with
      | some p => homeEvent p s
      | none => s
    else if swActive s (searchSwitch m) then
      homeVel (-(firstDir m) * par s P.profHomeVSlow) { s with pe := { s.pe with homePhase := 2 } }
    else s
  | 2 =>
    if s.pe.plan.isEmpty then
      let s := { s with pe := { s.pe with homePhase := 3 } }
      if swActive s (searchSwitch m) then s else homeAfterSwitch (swGet s (searchSwitch m)).edge s
    else s
  | 4 =>
    match s.pe.homeIdx with
    | some p => homeEvent p s
    | none => if par s P.profHomeIdxWin < ((s.fb.p - s.pe.homeFrom).natAbs : Int) then homeFail 2 s else s
  | 5 => if s.pe.plan.isEmpty then homeDone s else s
  | _ => s

/-- Homing begins (R303, R304). -/
def homeBegin (t : Nat) (s : State) : State :=
  let m := parN s P.profHomeMethod
  let s := { s with pe := { s.pe with
    homeTag := some t, homePhase := 1, homeDir := firstDir m, homeTurned := false, homeIdx := none, homeOld := none
    source := 4, homeAt := now s } }
  if 7 ≤ m then
    let shift := if m == 7 then (par s P.profHomeOffset - s.fb.p) * 65536
      else par s P.profHomeOffset * 65536 - convCounts s (srcPos s 2) 2 (primary s)
    if s.pe.v.m == 0 && s.pe.a.m == 0 then homeDone (setShift shift s)
    else
      let s := { s with pe := { s.pe with homePhase := 5, homeOld := some (par s P.profHomeShift) } }
      planStop 4 (homeAcc s) (profJerk s) (setShift shift s)
  else homeVel (firstDir m * (if 5 ≤ m then par s P.profHomeVSlow else par s P.profHomeVFast)) s

/-- HOMING_TIMEOUT, prof.home.timeout after acceptance (R307; event 0x4033). -/
def execHomingTimeout (s : State) : Host.Outcome State Fault Refusal :=
  ok (if s.pe.homeTag.isSome && decide (s.pe.homeAt + parN s P.profHomeTimeout * 1000000000 ≤ now s) && 1 ≤ s.pe.homePhase && s.pe.homePhase ≤ 5 then homeFail 3 s else s)

/-! ## Switch events -/

/-- SWITCH_INPUT_CHANGE: stamped with PT and P; the debounce restarts (R299). -/
def execSwitchInputChange (i : Nat) (high : Bool) (s : State) : Host.Outcome State Fault Refusal :=
  ok (let w := swGet s i
      if 3 ≤ i || w.raw == high || s.supply.fcLock then s
      else swPut i { w with raw := high, at_ := now s, pos := s.fb.p } s)

/-- The Profile Engine moves the machine: in RUN, and in the stop of a stop command (R308). -/
def peMoves (s : State) : Bool := s.op.state == .run || (s.op.state == .stopping && s.saf.stop.isNone)

/-- What a limit switch treated as active does outside homing (R301, R302). -/
def limitSwitch (i : Nat) (s : State) : State :=
  let homing := s.pe.homeTag.isSome
  let hit := !homing && decide (i < 2) && swActive s i && toward s i && peMoves s
  let s :=
    if homing then homeSwitch i s
    else if hit then
      let s := detect .fc 0x4021 1 [(i : Int)] { s with pe := { s.pe with swStop := true } }
      switchStop (endSource stFault 0x4021 s)
    else s
  if i < 2 && bothLimits s then
    let s := detect .fc 0x4022 1 [] s
    if motionSign s != 0 && !hit && peMoves s then switchStop (endSource stFault 0x4022 s) else s
  else s

/-- SWITCH_DEBOUNCED: the new level has been held for prof.sw.debounce (R299 to R302, R305). -/
def execSwitchDebounced (i : Nat) (s : State) : Host.Outcome State Fault Refusal :=
  ok (let w := swGet s i
      if 3 ≤ i || w.raw == w.deb || s.supply.fcLock || now s < w.at_ + parN s P.profSwDebounce * 100000 then s
      else
        let was := swActive s i
        let win := parN s P.profSwChatterWin * 1000000
        let s := swPut i { w with deb := w.raw, edge := w.pos, stamps := stampIn win (now s) w.stamps } s
        if swActive s i && !was then limitSwitch i s
        else if s.pe.homeTag.isSome && was != swActive s i then homeSwitch i s
        else s)

/-- SWITCH_CHATTER: treated as active whatever its level (R300; event 0x4023). -/
def execSwitchChatter (i : Nat) (s : State) : Host.Outcome State Fault Refusal :=
  ok (let w := swGet s i
      let n := (w.stamps.filter (fun t => now s < t + parN s P.profSwChatterWin * 1000000)).length
      if 3 ≤ i || w.chatter || !swEnabled s i || n ≤ parN s P.profSwChatterN then s
      else
        let was := swActive s i
        let s := detect .fc 0x4023 1 [(i : Int), (n : Int)] (swPut i { w with chatter := true } s)
        if swActive s i && !was then limitSwitch i s else s)

/-- SWITCH_CHATTER_END: inactive without a transition for a whole window (R300). -/
def execSwitchChatterEnd (i : Nat) (s : State) : Host.Outcome State Fault Refusal :=
  ok (let w := swGet s i
      if i < 3 && w.chatter && !swDeb s i && w.stamps.all (fun t => decide (t + parN s P.profSwChatterWin * 1000000 ≤ now s)) then
        let was := swActive s i
        let s := swPut i { w with chatter := false, stamps := [] } s
        if s.pe.homeTag.isSome && was then homeSwitch i s else s
      else s)

/-! ## Motion commands -/

/-- A motion command goes to FC and waits for the Profile Engine (R278, R314). -/
def motionCmd (i op : Nat) (modes : List Nat) (f : State → MotionCmd ⊕ Nat) (s : State) : State :=
  if canStart s i op then
    let s := start i s
    if s.op.state != .run || !modes.contains s.loop.mode then finishSt i stState s
    else match f s with
      | .inl m => { s with pe := { s.pe with queue := s.pe.queue ++ [m] } }
      | .inr st => finishSt i st s
  else s

def i64At (p : List Byte) (off : Nat) : Int := sx 64 (beNat ((p.drop off).take 8))

/-- MOVE_ABS (R277, R282). -/
def execMoveAbs (tag : Nat) (s : State) : Host.Outcome State Fault Refusal :=
  ok (motionCmd tag 0x40 [2] (fun s => .inl (.moveAbs tag (i64At (payload s tag) 0))) s)

/-- MOVE_REL (R277, R282). -/
def execMoveRel (tag : Nat) (s : State) : Host.Outcome State Fault Refusal :=
  ok (motionCmd tag 0x41 [2] (fun s => .inl (.moveRel tag (i64At (payload s tag) 0))) s)

/-- VEL_TARGET (R277, R285). -/
def execVelTarget (tag : Nat) (s : State) : Host.Outcome State Fault Refusal :=
  ok (motionCmd tag 0x42 [1, 2] (fun s => .inl (.vel tag (i64At (payload s tag) 0))) s)

/-- TORQUE_TARGET (R258, R277). -/
def execTorqueTarget (tag : Nat) (s : State) : Host.Outcome State Fault Refusal :=
  ok (motionCmd tag 0x43 [0] (fun s => .inl (.torque tag (sx 32 (beNat (payload s tag))))) s)

/-- A long motion command is one the Command Processor steps (R520). -/
def motionLong (i op : Nat) (modes : List Nat) (f : State → MotionCmd ⊕ Nat) (s : State) : State :=
  let s' := motionCmd i op modes f s
  if canStart s i op && (tag s' i).st == .running then { s' with mbx := { s'.mbx with rr := s'.mbx.rr ++ [i] } } else s'

/-- HOME (R303, R304, R320). -/
def execHome (tag : Nat) (s : State) : Host.Outcome State Fault Refusal :=
  ok (motionLong tag 0x44 [1, 2] (fun s =>
    if par s P.profVelMax < par s P.profHomeVFast || par s P.profVelMax < par s P.profHomeVSlow then .inr stRange
    else .inl (.home tag)) s)

/-- SEG_EXEC (R297, R298). -/
def execSegExec (tag : Nat) (s : State) : Host.Outcome State Fault Refusal :=
  ok (motionLong tag 0x46 [2] (fun s => if s.pe.segs.isEmpty then .inr stEmpty else .inl (.segExec tag)) s)

/-! ### Segment tables (R294 to R298) -/

def segOf (l : List Byte) : SegEntry := ⟨beNat (l.take 4), i64At l 4, i64At l 12⟩

/-- Entries of a SEG_LOAD payload after its header. -/
def segEntries : Nat → List Byte → List SegEntry
  | 0, _ => []
  | n + 1, l => segOf l :: segEntries n (l.drop 20)

/-- Position, velocity and acceleration at time tau of a segment (R295). -/
def hermite (p0 v0 p1 v1 t tau : F64) : Plan3 :=
  let three := fOfInt 3
  let c2 := fDiv (fSub (fSub (fDiv (fMul three (fSub p1 p0)) t) (fMul fTwo v0)) v1) t
  let c3 := fDiv (fAdd (fAdd (fDiv (fMul fTwo (fSub p0 p1)) t) v0) v1) (fMul t t)
  let tau2 := fMul tau tau
  ⟨fAdd (fAdd (fAdd p0 (fMul v0 tau)) (fMul c2 tau2)) (fMul c3 (fMul tau2 tau)),
   fAdd (fAdd v0 (fMul (fMul fTwo c2) tau)) (fMul (fMul three c3) tau2),
   fAdd (fMul fTwo c2) (fMul (fMul (fOfInt 6) c3) tau)⟩

def dtF (dt : Nat) : F64 := fDiv (fOfInt dt) (fOfInt 1000000)

/-- The instant of the velocity extreme inside a segment, when it lies inside (R296). -/
def extremeTau (a0 a1 t : F64) : Option F64 :=
  if (fMul a0 a1).m < 0 then some (fDiv (fMul a0 t) (fSub a0 a1)) else none

/-- The checks of R296 on an entry against the one before it. -/
def segOk (s : State) (prev : Option SegEntry) (e : SegEntry) : Bool :=
  let vmax := par s P.profVelMax * 65536
  if 60000000 < e.dt || vmax < (e.vel.natAbs : Int) then false
  else match prev with
    | none => true
    | some q =>
      if e.dt == 0 then e.pos == q.pos && e.vel == q.vel
      else
        let t := dtF e.dt
        let f (tau : F64) := hermite (fOfQ16 q.pos) (fOfQ16 q.vel) (fOfQ16 e.pos) (fOfQ16 e.vel) t tau
        let a0 := (f fZero).a
        let a1 := (f t).a
        let vOk := match extremeTau a0 a1 t with
          | some x => fLe (fAbs (f x).v) (profVel s)
          | none => true
        vOk && fLe (fAbs a0) (profAcc s) && fLe (fAbs a1) (profAcc s)

/-- Number of the first refused entry, from 1. -/
def segFail (s : State) (n : Nat) (prev : Option SegEntry) : List SegEntry → Option Nat
  | [] => none
  | e :: r => if segOk s prev e then segFail s (n + 1) (some e) r else some n

/-- SEG_LOAD (R296, R298, R557). -/
def segLoad (i : Nat) (s : State) : Result × State :=
  let p := payload s i
  let off := beNat (p.take 2)
  let n := beNat ((p.drop 2).take 2)
  if s.pe.segTag.isSome then no stBusy s
  else if n == 0 && off == 0 then yes (record .fc 0x4041 0 [0] { s with pe := { s.pe with segs := [] } })
  else if s.pe.segs.length < off || 4096 < off + n then no stRange s
  else
    let es := segEntries n (p.drop 4)
    match segFail s 1 (if off == 0 then none else s.pe.segs[off - 1]?) es with
    | some k => noD stRange k s
    | none =>
      let l := s.pe.segs.take off ++ es ++ s.pe.segs.drop (off + n)
      yes (record .fc 0x4041 0 [(l.length : Int)] { s with pe := { s.pe with segs := l } })

def execSegLoad (tag : Nat) (s : State) : Host.Outcome State Fault Refusal := ok (fieldStep tag 0x45 (segLoad tag) s)

/-- Position of an entry, in relative mode counted from the start of execution. -/
def segPos (s : State) (e : SegEntry) : Int := if parOn s P.profSegMode then e.pos + s.pe.segOrg else e.pos

/-- The position extremes of every segment lie within the limits (R297). -/
def segsInside (s : State) : Nat → Int → Int → List SegEntry → Bool
  | _, _, _, [] => true
  | n, p0, v0, e :: r =>
    let t := dtF e.dt
    let p1 := segPos s e
    let f (tau : F64) := (hermite (fOfQ16 p0) (fOfQ16 v0) (fOfQ16 p1) (fOfQ16 e.vel) t tau).p
    let inside (x : F64) : Bool := fLe (limMin s) x && fLe x (limMax s)
    let three := fOfInt 3
    let d := fSub (fOfQ16 p1) (fOfQ16 p0)
    -- roots of v(tau) = v0 + 2 c2 tau + 3 c3 tau^2
    let c2 := fDiv (fSub (fSub (fDiv (fMul three d) t) (fMul fTwo (fOfQ16 v0))) (fOfQ16 e.vel)) t
    let c3 := fDiv (fAdd (fAdd (fDiv (fNeg (fMul fTwo d)) t) (fOfQ16 v0)) (fOfQ16 e.vel)) (fMul t t)
    let disc := fSub (fMul c2 c2) (fMul (fMul three c3) (fOfQ16 v0))
    let root (sg : F64 → F64) : F64 := fDiv (fAdd (fNeg c2) (sg (fSqrt disc))) (fMul three c3)
    let at_ (tau : F64) : Bool := fLt tau fZero || fLt t tau || inside (f tau)
    let mids := if e.dt == 0 then true
      else if c3.m == 0 then c2.m == 0 || at_ (fDiv (fNeg (fOfQ16 v0)) (fMul fTwo c2))
      else disc.m < 0 || (at_ (root id) && at_ (root fNeg))
    inside (fOfQ16 p1) && mids && segsInside s (n + 1) p1 e.vel r

/-- The checks of R297 at execution. In absolute mode a first entry with dt = 0 names the start (log 25). -/
def segStartOk (s : State) : Bool :=
  let l := s.pe.segs
  let last := nth l (l.length - 1) ⟨0, 0, 0⟩
  let first := nth l 0 ⟨0, 0, 0⟩
  let start := qOf s.pe.p
  last.vel == 0 && s.pe.v.m == 0 &&
  (parOn s P.profSegMode || first.dt != 0 ||
    decide (((first.pos - start).natAbs : Int) ≤ par s P.profSegStartTol * 65536)) &&
  (!limitsOn s || segsInside { s with pe := { s.pe with segOrg := start } } 0 start 0 l)

/-- The side toward which a table moves first: -1, 0 or 1. -/
def segSign (p0 : Int) (s : State) : List SegEntry → Int
  | [] => 0
  | e :: r =>
    let d := segPos s e - p0
    let x := 3 * d * 1000000 - e.vel * (e.dt : Int)
    if e.dt != 0 && x != 0 then sgn x else if d != 0 then sgn d else segSign p0 s r

/-- The start of the next segment that has a duration, at or after entry k (from 0). -/
def segSkip : List SegEntry → Nat → Nat
  | [], k => k
  | e :: r, k => if e.dt == 0 then segSkip r (k + 1) else k

/-- Execution passes its segments as time goes on; the remainder carries into the next one (R295). -/
def segAdvance : Nat → F64 → State → State
  | 0, _, s => s
  | n + 1, tau, s =>
    match s.pe.segs[s.pe.segIdx - 1]? with
    | none => s
    | some e =>
      let t := dtF e.dt
      let p1 := fOfQ16 (segPos s e)
      let v1 := fOfQ16 e.vel
      if fLt tau t then
        let x := hermite s.pe.segP s.pe.segV p1 v1 t tau
        { s with pe := { s.pe with segTau := tau, p := x.p, v := x.v, a := x.a } }
      else
        let k := segSkip (s.pe.segs.drop s.pe.segIdx) s.pe.segIdx
        let s := { s with pe := { s.pe with segP := p1, segV := v1, segIdx := k + 1, segTau := fZero } }
        if s.pe.segs.length ≤ k then
          let s := { s with pe := { s.pe with
            p := p1, v := fZero, a := fZero, segIdx := 0, source := 0, ended := true, plan := [], vGoal := fZero } }
          match s.pe.segTag with
          | some tg => answerOk tg (record .fc 0x4042 0 [] { s with pe := { s.pe with segTag := none } })
          | none => s
        else segAdvance n (fSub tau t) s

/-! ### Taking commands (PE_PLAN) -/

def terminalsOk (s : State) : Bool := !lostA s 8 && !lostA s 9 && !lostA s 10

/-- The measurement of R207 begins: by the terminals, or by an ASC probe when a terminal channel is lost. -/
def startMeasure (s : State) : State :=
  if terminalsOk s then startPhase .measV { s with obs := { s.obs with probe := false, again := false } }
  else
    startPhase .settle { s with
      mod := { s.mod with running := true, pattern := if parOn s P.safetyAscSide then 3 else 2 }
      obs := { s.obs with probe := true, again := false } }

/-- Control restarts from PARKED when a motion command is accepted (R311). -/
def unpark (s : State) : State :=
  if !s.pe.parked then s
  else
    let mode := s.mod.pattern
    if mode != 1 && mode != 2 then { s with pe := { s.pe with parked := false } }
    else if primaryUsable s then
      planFromMeasured (enterControl 0 0 { s with pe := { s.pe with parked := false } })
    else if s.obs.phase != .idle then s
    else if mode == 2 then startPhase .measI { s with obs := { s.obs with again := false } }
    else startMeasure s

/-- A replacement of the source in progress (R279); motion clears SW_STOP and LIMIT_STOP (R293, R316). -/
def replaceSource (moves : Bool) (s : State) : State :=
  unpark (segEnd stCancelled 0 { s with pe := { s.pe with
    swStop := s.pe.swStop && !moves, limitStop := s.pe.limitStop && !moves
    clamped := false, reversing := none, reached := false } })

/-- A point-to-point target: forward or reversal plan (R282 to R284; event 0x4002). -/
def planTarget (src : Nat) (tgt : F64) (s : State) : State :=
  let st := planned s
  let acc := profAcc s
  let dec := profDec s
  let j := profJerk s
  let sp := stopPoint st dec j
  let short := if st.v.m < 0 then fLt sp tgt else 0 < st.v.m && fLt tgt sp
  let s := { s with pe := { s.pe with target := qOf tgt } }
  if short then
    let l := stopSegs st.v st.a dec j
    let e := stopState st dec j
    let s := record .fc 0x4002 0 [sat32 (countsOf st.v), sat32 (countsOf sp), sat32 (countsOf tgt)] s
    let s := setPlan src (l ++ forwardSegs e tgt (profVel s) acc dec j) (some tgt) fZero s
    { s with pe := { s.pe with reversing := some (decide (0 < (fSub tgt sp).m)) } }
  else setPlan src (forwardSegs st tgt (profVel s) acc dec j) (some tgt) fZero s

/-- A velocity target (R285). -/
def planVel (v : Int) (s : State) : State :=
  let m := par s P.profVelMax * 65536
  let c := clamp (-m) m v
  let vg := fOfQ16 c
  setPlan 2 (velSegs s.pe.v s.pe.a vg (profAcc s) (profDec s) (profJerk s)) none vg
    { s with pe := { s.pe with clamped := c != v, demand := v } }

/-- A changed profile limit takes effect at the next update of velocity or homing motion (R320). -/
def replan (s : State) : State :=
  if s.pe.lims == profLims s then s
  else if s.pe.source == 2 then planVel s.pe.demand s
  else if s.pe.source == 4 && s.pe.homePhase == 5 then planStop 4 (homeAcc s) (profJerk s) s
  else if s.pe.source == 4 then
    setPlan 4 (velSegs s.pe.v s.pe.a s.pe.vGoal (homeAcc s) (homeAcc s) (profJerk s)) none s.pe.vGoal s
  else s

/-- The status with which the Profile Engine refuses a motion in direction `up`, or to a target (R291, R293, R301,
R302). -/
def motionRefused (s : State) (up down : Bool) (tgt : Option F64) : Option Nat :=
  if s.pe.homeTag.isSome then some stBusy
  else if bothLimits s then some stFault
  else if (up && swActive s 1) || (down && swActive s 0) then some stRange
  else match tgt with
    | some t => if limitsOn s && (fLt t (limMin s) || fLt (limMax s) t) then some stRange else none
    | none =>
      if limitsOn s && s.pe.limitStop && ((up && s.pe.limUp) || (down && !s.pe.limUp))
      then some stRange else none

/-- A limit switch is active on the side toward which the segment table moves first (R301, R314). -/
def segBlocked (s : State) : Bool :=
  let start := qOf s.pe.p
  let d := segSign start { s with pe := { s.pe with segOrg := start } } s.pe.segs
  (0 < d && swActive s 1) || (d < 0 && swActive s 0)

/-- A target is judged and planned. -/
def takeTarget (t : Nat) (tgt : F64) (s : State) : State :=
  match motionRefused s (fLt s.pe.p tgt) (fLt tgt s.pe.p) (some tgt) with
  | some st => answer t ⟨st, 0, []⟩ s
  | none => answerOk t (limitCheck (planTarget 1 tgt (replaceSource true s)))

/-- The stop of a stop command, judged against the limits; a limit stop under way goes on (R289, R308). -/
def stopPlan (s : State) : State :=
  if limitStopping s then s
  else limitJudge (planStop 5 (profDec s) (profJerk s) s)

/-- The Profile Engine takes one motion command (R277 to R279, R314). -/
def takeMotion (m : MotionCmd) (s : State) : State :=
  let bad (t : Nat) : State := answer t ⟨stState, 0, []⟩ s
  let run := s.op.state == .run
  match m with
  | .moveAbs t x => if !run || s.loop.mode != 2 then bad t else takeTarget t (fOfQ16 x) s
  | .moveRel t x => if !run || s.loop.mode != 2 then bad t else takeTarget t (if x == 0 then s.pe.p else fOfQ16 (qOf s.pe.p + x)) s
  | .vel t v =>
    if !run || s.loop.mode == 0 then bad t
    else match motionRefused s (0 < v) (v < 0) none with
      | some st => answer t ⟨st, 0, []⟩ s
      | none => answerOk t (limitCheck (planVel v (replaceSource (v != 0) s)))
  | .torque t v =>
    if !run || s.loop.mode != 0 then bad t
    else match motionRefused s (0 < v) (v < 0) none with
    | some st => answer t ⟨st, 0, []⟩ s
    | none =>
      let s := replaceSource (v != 0) s
      answerOk t { s with pe := { s.pe with source := 6, ended := false }, loop := { s.loop with tref := v } }
  | .home t =>
    if !run || s.loop.mode == 0 then bad t
    else if s.pe.homeTag.isSome then answer t ⟨stBusy, 0, []⟩ s
    else if bothLimits s then answer t ⟨stFault, 0x4022, []⟩ s
    else if parN s P.profHomeMethod == 8 && !(configured s 2 && parN s P.fbSsiMtBits != 0 && !srcLost s 2) then
      answer t ⟨stFault, 0x4033, []⟩ s
    else homeBegin t (replaceSource true s)
  | .segExec t =>
    if !run || s.loop.mode != 2 then bad t
    else if s.pe.homeTag.isSome then answer t ⟨stBusy, 0, []⟩ s
    else if bothLimits s then answer t ⟨stFault, 0x4022, []⟩ s
    else if s.pe.segs.isEmpty then answer t ⟨stEmpty, 0, []⟩ s
    else if !segStartOk s || segBlocked s then answer t ⟨stRange, 0, []⟩ s
    else
      let s := replaceSource true s
      let s := setPlan 3 [] none fZero s
      { s with pe := { s.pe with
          segTag := some t, segIdx := segSkip s.pe.segs 0 + 1, segTau := fZero, segP := s.pe.p, segV := fZero
          segOrg := qOf s.pe.p } }
  | .stop => stopPlan s

/-- PE_PLAN: at an update boundary the Profile Engine takes the oldest motion command that has reached FC (R278,
R315). -/
def execPePlan (s : State) : Host.Outcome State Fault Refusal :=
  ok (if s.supply.fcLock then s
      else match s.pe.queue with
        | [] => s
        | m :: r => takeMotion m { s with pe := { s.pe with queue := r } })

/-! ## One update -/

/-- The planned state moves through its plan by `t` seconds. -/
def planAdvance : Nat → F64 → State → State
  | 0, _, s => s
  | n + 1, t, s =>
    match s.pe.plan with
    | [] => { s with pe := { s.pe with p := fAdd s.pe.p (fMul s.pe.v t) } }
    | g :: r =>
      let left := fSub g.t s.pe.tau
      if fLt t left then
        let x := advance (planned s) g.j t
        { s with pe := { s.pe with p := x.p, v := x.v, a := x.a, tau := fAdd s.pe.tau t } }
      else
        let x := advance (planned s) g.j left
        let s := { s with pe := { s.pe with p := x.p, v := x.v, a := x.a, plan := r, tau := fZero } }
        if r.isEmpty then
          let s := { s with pe := { s.pe with
            p := (match s.pe.goal with | some q => q | none => s.pe.p), v := s.pe.vGoal, a := fZero
            ended := s.pe.ended || s.pe.vGoal.m == 0 } }
          planAdvance n (fSub t left) s
        else planAdvance n (fSub t left) s

/-- The set-point of this update (R274, R275). -/
def setPoint (s : State) : State :=
  let c := fOfInt (cpr s (primary s))
  let sp := qOf s.pe.p
  let up (x : F64) : Int := fRound 0 (fDiv (fMul x (fOfInt 65536)) c)
  { s with pe := { s.pe with
      setPos := sp, posRef := sp - par s P.profHomeShift, velFf := up s.pe.v, accRef := up s.pe.a } }

/-- Standstill and target windows (R283, R308, R310, R313). -/
def windows (s : State) : State :=
  let sensorless := primary s == 0 && !parOn s P.obsIfEnable && !oe0Fast s
  let slow := if sensorless then decide (s.obs.oe1.e < par s P.obsFlyEMin * 65536)
    else decide ((driveSpeed s).natAbs < parN s P.profStandSpeed * 65536)
  let still := s.pe.v.m == 0 && slow
  let inWin := s.pe.source == 1 && s.pe.plan.isEmpty &&
    decide (((machinePos s - s.pe.target).natAbs : Int) ≤ par s P.profWin * 65536)
  let keep (b : Bool) (o : Option Nat) : Option Nat :=
    if b then (match o with | some t => some t | none => some (now s)) else none
  let rev := match s.pe.reversing with
    | some up => if (if up then decide (0 < s.pe.v.m) else decide (s.pe.v.m < 0)) then none else some up
    | none => none
  { s with pe := { s.pe with
      standSince := keep still s.pe.standSince, winSince := keep inWin s.pe.winSince, reversing := rev } }

/-- The Profile Engine's update: the set-point of this t0, the limits, the planned state of the next t0 (R275, R289). -/
def peUpdate (s : State) : State :=
  let s := limitsArrive (setPoint (replan s))
  let s := if s.pe.source == 2 || s.pe.source == 3 || s.pe.source == 4 then limitCheck s else s
  let s := if s.pe.source == 4 then homeUpdate s else s
  let s := if s.pe.source == 3 && s.pe.segIdx != 0 then segAdvance 64 (fAdd s.pe.segTau (tsF s)) s
           else planAdvance 16 (tsF s) s
  windows s

/-- TARGET_REACHED, within the window for prof.win_time (R283; event 0x4001). -/
def execTargetReached (s : State) : Host.Outcome State Fault Refusal :=
  ok (if heldFor s.pe.winSince (parN s P.profWinTime * 1000000) s && !s.pe.reached then
        record .fc 0x4001 0 (wide s.pe.target ++ [sat32 (divr (machinePos s - s.pe.target) 65536)])
          { s with pe := { s.pe with reached := true } }
      else s)

/-! ## Stopping and standstill -/

/-- STOP (R308): RUN to STOPPING; the commands in flight end ST_CANCELLED (R314). -/
def stopNow (s : State) : State :=
  let s := endSource stCancelled 0 s
  let s := s.pe.queue.foldl (fun s m => match motionTag m with
    | some t => answer t ⟨stCancelled, 0, []⟩ s
    | none => s) s
  let s := endOpcodes [0x21] stCancelled 0 { s with pe := { s.pe with queue := [] } }
  let reacq := s.obs.reacq.isSome
  let s := changeState .stopping 0 s
  let s := if s.loop.mode == 0 then
      let s := setPoint (planFromMeasured s)
      let pw := sat32 (gainMul s P.loopSpdKpTab (s.pe.velFf - mechW s))
      { s with loop := { s.loop with mode := 1, xw := s.loop.tstar - pw } }
    else s
  let s := stopPlan s
  let s := dropStart true s
  if reacq then startSs1 s else s

def execStop (tag : Nat) (s : State) : Host.Outcome State Fault Refusal :=
  ok (fieldStep tag 0x22 (inStates [.run] (fun s => yes (stopNow s))) s)

/-- STANDSTILL: the stop of a stop command ends in READY with gates off (R308); with the brake enabled it is first
commanded applied, and standstill counts after safety.brk.apply_time (R454). -/
def execStandstill (s : State) : Host.Outcome State Fault Refusal :=
  ok (if s.op.state != .stopping || s.saf.stop.isSome || s.supply.fcLock ||
          !heldFor s.pe.standSince (parN s P.profStandTime * 1000000) s then s
      else if parOn s P.safetyBrkEnable && s.saf.brkRel then
        applyBrake s
      else if parOn s P.safetyBrkEnable && !brakeHeld s then s
      else
        let s := endControl { s with pe := { s.pe with source := 0, plan := [] } }
        changeState .ready 0 { s with loop := { s.loop with mode := parN s P.loopMode } })

/-- STANDSTILL_ACTION: prof.stand.mode is applied and PARKED set (R310; event 0x4051). -/
def execStandstillAction (s : State) : Host.Outcome State Fault Refusal :=
  ok (if s.op.state == .run && s.pe.ended && s.pe.v.m == 0 && heldFor s.pe.standSince (parN s P.profStandTime * 1000000) s && !s.pe.parked &&
          s.pe.source != 6 && s.obs.phase == .idle then
        let m := parN s P.profStandMode
        let s := record .fc 0x4051 0 [(m : Int)] { s with pe := { s.pe with parked := true } }
        let s := if m == 0 then s else { s with mod := { s.mod with pattern := m } }
        brake s
      else s)

/-- LOOP_MODE_CHANGE: at a position update, after the commits of its boundary, the new mode takes effect with its integrator
preset: xw from T* less the proportional and feedforward terms of the present speed error; the position reference, and the
plan behind it, from the present position (R264, R268; event 0x3843). -/
def execLoopModeChange (s : State) : Host.Outcome State Fault Refusal :=
  ok (let old := s.loop.mode
      let new := parN s P.loopMode
      if old == new || s.supply.fcLock || s.op.state == .stopping || !posDue s || !s.loop.commit.isEmpty then s
      else
        let s := record .fc 0x3843 0 [(old : Int), (new : Int)] { s with loop := { s.loop with mode := new } }
        let s := if old == 0 && new == 1 then
            let ew := s.pe.velFf - mechW s
            let ff := mul s.pe.accRef (par s P.loopSpdJRaw) (parN s P.loopSpdJS)
            { s with loop := { s.loop with xw := s.loop.tstar - sat32 (gainMul s P.loopSpdKpTab ew) - ff } } else s
        if new == 2 then
          let s := { s with pe := { s.pe with posRef := s.fb.pos, p := fOfQ16 (machinePos s) } }
          if s.pe.source == 1 then planTarget 1 (fOfQ16 s.pe.target) s else s
        else s)

end Sys2Proof.Machine
end

