-- ==== Sys2Proof/Machine/Observer.lean ====
section
/-! DEFINITION. Observers, the residual test, loss of the rotor, starts, block commutation (05). OE0 follows the number model
of R238; the last rounding of OE1 and of the start measurements is open (log 9). -/

namespace Sys2Proof.Machine
open Sys2Proof

/-! ## Angles -/

def ang16 (a : Int) : Nat := (a % 65536).toNat

/-- R190 of a 48.16 position, before the offset. -/
def posAngle (s : State) (pos : Int) : Int :=
  let c : Int := cpr s (primary s)
  (pos % (c * 65536) * polePairs s * 65536 + c * 32768) / (c * 65536)

/-- The Hall angle: sector start plus speed times the time since the edge, clamped to the sector (R157, R190). -/
def hallAngle (s : State) : Int :=
  let start := s.fb.hallSector * 10923 + par s P.fbHallOffset
  let adv := divr (nth s.fb.w 3 0 * polePairs s * ((now s - s.fb.hallAt : Nat) : Int)) (cpr s 4 * 1000000000)
  start + clamp 0 10922 adv

/-- theta_offset: the working value of R213 where one is set, obs.theta.offset otherwise (R190). -/
def thetaOffset (s : State) : Int := if s.obs.offsetSet then s.obs.offset else par s P.obsThetaOffset

/-- The position-source angle F (R190). -/
def fAngle (s : State) : Nat :=
  if primary s == 4 then ang16 (hallAngle s) else ang16 (posAngle s s.fb.pos + thetaOffset s)

/-- An absolute source of the electrical angle (R209, R213, R214): an absolute primary, or an incremental one whose
count was initialised absolutely or whose working offset has been set. -/
def absoluteSource (s : State) : Bool :=
  primaryUsable s && (primary s != 1 || s.obs.absInit)

def angleKnown (s : State) : Bool := absoluteSource s || (primaryUsable s && s.obs.offsetSet)

/-- Angle of the zero crossing of a block sector (R220). -/
def crossAngle (b : Nat) : Int := ((b : Int) + 1) * 65536 / 6

/-- Electrical speed from the last two crossings, mHz, unsigned (R221). -/
def crossW (s : State) : Int := if s.obs.tz ≤ s.obs.tzPrev then 0 else divr 1000000000000 (6 * ((s.obs.tz - s.obs.tzPrev : Nat) : Int))

def signedW (s : State) (w : Int) : Int := if s.obs.rev then -w else w

/-- Advance of an angle in counts: w in mHz over t in ns. -/
def advance16 (w : Int) (t : Int) : Int := divr (w * t * 65536) 1000000000000

/-! ## Control angle source (R191) -/

def block (s : State) : Bool := s.obs.comm == 1

/-- FC_OBS_STATUS.CTRL_SRC of this update: the rows of R191 in their order. While a catch locks, control has resumed (R210); a
stop that has lost the primary source takes OE0 (R180); a block start takes its schedule (R223). -/
def angleSource (s : State) : Nat :=
  if s.obs.phase == .measV || s.obs.phase == .settle || s.obs.phase == .measI || s.obs.phase == .awl then 7
  else if s.obs.reacq.isSome && s.obs.phase != .lock then 7
  else if primaryUsable s then 0
  else if onOe0 s && oe0Serves s then 1
  else if block s && s.obs.synced && decide (parN s P.obsBlkWMin * 100 ≤ crossW s) then 2
  else if s.op.state == .discharge then 3
  else if primary s == 0 && parOn s P.obsIfEnable && s.obs.phase != .block then 3
  else 7

/-- Advance in counts over one update at a mechanical speed in 2^-16 rev/s. -/
def stepAngle (s : State) (w : Int) : Int := qfree 7 (w * polePairs s * tsPs s) 1000000000000

/-- The block sector follows a control angle; its boundary is noted (R219, R224). -/
def followSector (src : Nat) (s : State) : State :=
  let b := sectorOf s.obs.theta
  if s.obs.comm == 0 || !(src == 0 || src == 1 || src == 3) then s
  else { s with obs := { s.obs with sector := b, turnAt := if b == s.obs.sector then s.obs.turnAt else now s } }

/-- The control angle at this t0 (R190 to R192, R218, R219). -/
def selectAngle (s : State) : State :=
  let src := angleSource s
  let forced := if src == 3 then (if s.op.state == .discharge then s.obs.forced else ang16 (s.obs.forced + stepAngle s s.loop.wref))
    else s.obs.forced
  let theta : Nat := match src with
    | 0 => fAngle s
    | 1 => s.obs.oe0.theta
    | 2 => ang16 (crossAngle s.obs.sector + advance16 (signedW s (crossW s)) ((now s : Int) - s.obs.tz))
    | 3 => forced
    | _ => if block s then ang16 (crossAngle s.obs.sector)
           else if rampInTime s then ang16 (s.obs.theta + stepAngle s (rampRef s)) else s.obs.theta
  let s := { s with obs := { s.obs with ctrlSrc := src, forced := if src == 1 then s.obs.oe0.theta else forced, theta := theta } }
  let w := elecW s
  let s := if src == 7 then s else { s with obs := { s.obs with
    lastW := w, rev := if src == 2 || w == 0 then s.obs.rev else decide (w < 0) } }
  followSector src s

/-! ## OE1 (R195, R196) -/

/-- Currents of a transducer set on path A in alpha and beta (R245). -/
def abOf (i : Tri Int) : Int × Int :=
  (dot [(i.u, c23), (i.v, -c13), (i.w, -c13)] 30, dot [(i.v, c1s3), (i.w, -c1s3)] 30)

def oe1Currents (s : State) : Int × Int :=
  if s.sense.ctrlSet == 0 && usable s.sense.lostA 1 then
    abOf ⟨nth s.sense.ya 3 0, nth s.sense.ya 4 0, nth s.sense.ya 5 0⟩
  else abOf (ctrlI s)

/-- Line-to-line terminal means to alpha and beta at line-to-line scale (R195). -/
def lineVolts (vt : Tri Int) : Int × Int := (qfree 3 ((2 * (vt.u - vt.v) + (vt.v - vt.w)) * 2 ^ 120) s3120, vt.v - vt.w)

/-- sqrt 3 (rs i + lq (i - i_prev) / ts) in 2^-16 V (R195). -/
def oe1Drop (s : State) (x x0 : Int) : Int :=
  qfree 4 (s3120 * (par s P.obsMachRs * x * tsPs s + par s P.obsMachLq * 1000000000 * (x - x0))) (2 ^ 120 * 1000000 * tsPs s)

/-- One update of OE1; in block commutation it takes the crossings as its angle (R195, R196). -/
def oe1Step (vt : Tri Int) (s : State) : State :=
  let o := s.obs.oe1
  let i := oe1Currents s
  let v := lineVolts vt
  let ea := v.1 - oe1Drop s i.1 o.ia
  let eb := v.2 - oe1Drop s i.2 o.ib
  let angs := (ang16 (atan2_16 eb ea) :: o.ang).take 9
  let turn : Int := ((angs.zip (angs.drop 1)).map (fun p => sgn (wrap16 ((p.1 : Int) - p.2)))).foldl (· + ·) 0
  let th := ang16 (atan2_16 (-ea) eb + if turn < 0 then 32768 else 0)
  let old := nth o.hist 7 th
  let w := qfree 6 (wrap16 ((th : Int) - old) * 1000000000000000) (65536 * 8 * tsPs s)
  let e := sqrtFree 6 (ea * ea + eb * eb)
  let crossing := block s
  let w := if crossing then signedW s (crossW s) else w
  let th1 := if crossing then ang16 (crossAngle s.obs.sector + advance16 w ((now s : Int) - s.obs.tz)) else th
  let min1 : Int := if crossing then par s P.obsBlkWMin * 100 else par s P.obsOe1WMin * 100
  let fast := decide (min1 ≤ (w.natAbs : Int))
  let able := terminalsOk s && anySetA s && !o.out
  let keep := able && (if crossing then fast else decide (8 * min1 ≤ 10 * (w.natAbs : Int)))
  let valid := keep && (o.valid || (crossing && fast))
  { s with obs := { s.obs with oe1 := { o with
      ia := i.1, ib := i.2, theta := th1, ang := angs, hist := (th :: o.hist).take 8, w := w, e := e
      run := if able && fast then o.run + 1 else 0
      valid := valid, lastOk := if valid then 0 else satInc 255 o.lastOk } } }

/-! ## OE0 (R193, R194) -/

/-- The current model's flux in alpha and beta, in 2^-16 µV·s, from currents in the rotor frame (R193). -/
def modelFlux (s : State) (i : Int × Int) (theta : Int) : Int × Int :=
  let fd := par s P.obsMachLd * i.1 + par s P.obsMachPsi * 65536000
  let fq := par s P.obsMachLq * i.2
  let c := cos30 theta
  let sn := sin30 theta
  (divr (fd * c - fq * sn) (2 ^ 30 * 1000), divr (fd * sn + fq * c) (2 ^ 30 * 1000))

/-- One update of the flux observer (R193): psi in 2^-16 µV·s, w_i in 2^-16 turn/s, w_pll reported in mHz, err in 2^-16
turn. The voltage is the reference of the previous update. -/
def oe0Step (s : State) : State :=
  let o := s.obs.oe0
  let i := abOf (ctrlI s)
  let ts := tsPs s
  let rs := par s P.obsMachRs
  let lq := par s P.obsMachLq
  let pa := o.psiA + divr ((s.loop.va * 1000000 - rs * i.1) * ts) 1000000000000
  let pb := o.psiB + divr ((s.loop.vb * 1000000 - rs * i.2) * ts) 1000000000000
  let cm := modelFlux s (dq (ctrlI s) o.theta) o.theta
  let pull (x : Int) : Int := divr (2 * pi120 * par s P.obsOe0WC * ts * x) (2 ^ 120 * 10000000000000)
  let pa := pa + pull (cm.1 - pa)
  let pb := pb + pull (cm.2 - pb)
  let actA := pa - divr (lq * i.1) 1000
  let actB := pb - divr (lq * i.2) 1000
  let err := wrap16 (atan2_16 actB actA - o.theta)
  let bw := par s P.obsOe0PllBw
  let wi := sat32 (o.wi + divr (4 * pi120 * pi120 * bw * bw * err * ts) (2 ^ 240 * 1000000000000))
  let w := sat32 (wi + divr (4 * pi120 * bw * err) (2 ^ 120))
  let wmin := parN s P.obsOe0WMin * 100
  let mhz := divr (w * 1000) 65536
  { s with obs := { s.obs with oe0 := { o with
      psiA := pa, psiB := pb, wi := wi, wpll := mhz, last := o.theta
      theta := ang16 (o.theta + divr (w * ts) 1000000000000)
      e := divr ((w.natAbs : Int) * (isqrt (actA * actA + actB * actB).toNat : Int) * 2 * pi120 * s3120) (2 ^ 240 * 65536000000)
      errRun := run (decide (parN s P.obsResLim < err.natAbs)) o.errRun
      run := if wmin ≤ mhz.natAbs then o.run + 1 else 0 } } }

/-- Outside current control OE0 is invalid and reports no speed, and its count begins anew (R194). -/
def oe0Idle (s : State) : State :=
  { s with obs := { s.obs with oe0 := { s.obs.oe0 with
      valid := false, seeded := false, run := 0, errRun := 0, wi := 0, wpll := 0, e := 0, last := s.obs.oe0.theta } } }

/-- OE0_VALID (R194). -/
def execOe0Valid (s : State) : Host.Outcome State Fault Refusal :=
  ok (if 16 ≤ s.obs.oe0.run && !s.obs.oe0.out then
        { s with obs := { s.obs with oe0 := { s.obs.oe0 with valid := true, seeded := false } } } else s)

/-- OE1_VALID (R196). -/
def execOe1Valid (s : State) : Host.Outcome State Fault Refusal :=
  ok (if 16 ≤ s.obs.oe1.run && !s.obs.oe1.out && terminalsOk s && anySetA s then
        { s with obs := { s.obs with oe1 := { s.obs.oe1 with valid := true, lastOk := 0 } } } else s)

/-! ## Loss of the rotor (R201 to R205) -/

/-- e_est in 2^-16 V (R201). -/
def eEst (s : State) : Int :=
  let byW := qfree 12 (s.obs.lastW.natAbs * par s P.obsMachPsi * 65536 * 2 * pi120 * s3120) (2 ^ 240 * 1000000000)
  if s.obs.oe1.lastOk ≤ 16 then max s.obs.oe1.e byW else byW

/-- The pattern of R201, coded as FC_MOD_STATUS.PATTERN. -/
def rotorPattern (s : State) : Nat :=
  if 9 * vdcSel s < 10 * eEst s then (if parOn s P.safetyAscSide then 3 else 2) else 1

def patternOrder : Nat → HeelOrder
  | 2 => .ascLow
  | 3 => .ascHigh
  | _ => .pi

/-- The start measurement of a reacquisition begins: from pulse inhibit by terminal voltages, or by an ASC probe when a terminal
channel is lost; from ASC after the settling (R203, R207). -/
def holdPattern (pat : Nat) (s : State) : State :=
  let s := { s with obs := { s.obs with pattern := pat } }
  let s := { s with mod := { s.mod with running := true, pattern := pat } }
  if pat == 1 then startMeasure s
  else startPhase .settle { s with obs := { s.obs with probe := false, again := false } }

/-- Reacquisitions started within the last 60 s, the present one included (R202). -/
def reacqNow (s : State) : List Nat := stampIn 60000000000 (now s) s.obs.reacqStamps

/-- A loss of the rotor: reacquisition, or the pattern as a Heel order (R201 to R203; events 0x3021, 0x3022). A loss while a
reacquisition locks is another attempt; the timeout runs on from the first (R204). In DISCHARGE a loss ends the winding path. -/
def lossOfRotor (s : State) : State :=
  let pat := rotorPattern s
  let l := reacqNow s
  let ps (n : Nat) : List Int := [voltParam (eEst s), (pat : Int), (n : Int)]
  match s.op.state with
  | .run =>
    if parOn s P.obsLorRestart && l.length ≤ 3 && s.op.maxClass < 3 then
      holdPattern pat (record .fc 0x3021 1 (ps l.length)
        { s with obs := { s.obs with reacq := some (s.obs.reacq.getD (now s)), reacqStamps := l } })
    else issuePackage (patternOrder pat) 0x3022 (record .fc 0x3022 3 (ps (l.length - 1)) s)
  | .stopping => issuePackage (patternOrder pat) 0x3022 (record .fc 0x3022 3 (ps (l.length - 1)) s)
  | .discharge => endWinding s
  | _ => s

/-- REACQUISITION_TIMEOUT: obs.fly.timeout after the loss the pattern is kept as the Heel order (R204; event 0x3024, F3). -/
def execReacquisitionTimeout (s : State) : Host.Outcome State Fault Refusal :=
  ok (if s.obs.reacq.any (fun t => decide (t + parN s P.obsFlyTimeout * 1000000 ≤ now s)) && s.op.state == .run then
        issuePackage (patternOrder s.obs.pattern) 0x3024 (record .fc 0x3024 3 [] s)
      else s)

/-! ## The residual test (R197 to R200) -/

def residual (a b : Nat) : Int := wrap16 ((a : Int) - b)

/-- A pair beyond its limits: by angle, and for the two observers by back-EMF magnitude (R197). -/
def pairBad (s : State) (k : Nat) (d : Int) : Bool :=
  decide (parN s P.obsResLim < d.natAbs) ||
  (k == 2 && decide (par s P.obsResMagLim * max s.obs.oe0.e s.obs.oe1.e < 100 * ((s.obs.oe0.e - s.obs.oe1.e).natAbs : Int)))

/-- Which observer angles exist: computed, whether voted out or not. -/
def residuals (s : State) (f oe0 : Nat) : List Int := [residual f oe0, residual f s.obs.oe1.theta, residual oe0 s.obs.oe1.theta]

/-- The counts of one update; `th0` is OE0's prediction for this t0 (R192, R197, R200). -/
def residualTest (th0 : Nat) (s : State) : State :=
  let f := fAngle s
  let vals := residuals s f th0
  let fv := primaryUsable s
  let v0 := s.obs.oe0.valid
  let v1 := s.obs.oe1.valid
  let on := [fv && v0, fv && v1, v0 && v1]
  let skip := s.sense.disturbed || flaggedUpdate s || s.obs.ctrlSrc == 3 ||
    !(s.op.state == .run || s.op.state == .stopping)
  let bad := (List.range 3).map (fun k => pairBad s k (nth vals k 0))
  let top := ((List.range 3).filter (fun k => nth on k false)).foldl (fun m k => max m (nth vals k 0).natAbs) 0
  let s := { s with obs := { s.obs with resVal := vals, resMax := min 255 (top / 256) } }
  if skip then s
  else
    let r0 := run (nth on 0 false && nth bad 0 false) (nth s.obs.resRun 0 0)
    let r1 := run (nth on 1 false && nth bad 1 false) (nth s.obs.resRun 1 0)
    let r2 := run (nth on 2 false && nth bad 2 false) (nth s.obs.resRun 2 0)
    let good0 := !(fv && nth bad 0 false) && !(v1 && nth bad 2 false)
    let good1 := !(fv && nth bad 1 false) && !(v0 && nth bad 2 false)
    let c0 := if s.obs.oe0.out && controlled s && good0 then nth s.obs.rejoin 0 0 + 1 else 0
    let c1 := if s.obs.oe1.out && good1 then nth s.obs.rejoin 1 0 + 1 else 0
    { s with obs := { s.obs with
        resRun := [r0, r1, r2], rejoin := [c0, c1]
        resDecl := [nth s.obs.resDecl 0 false && r0 != 0, nth s.obs.resDecl 1 false && r1 != 0, nth s.obs.resDecl 2 false && r2 != 0] } }

def voteOut0 (s : State) : State :=
  detect .fc 0x3001 1 s.obs.resVal (degrade { s with obs := { s.obs with
    oe0 := { s.obs.oe0 with out := true, valid := false }, rejoin := upd s.obs.rejoin 0 (fun _ => 0), resRun := [0, nth s.obs.resRun 1 0, 0] } })

def voteOut1 (s : State) : State :=
  detect .fc 0x3002 1 [] (degrade { s with obs := { s.obs with
    oe1 := { s.obs.oe1 with out := true, valid := false }, rejoin := upd s.obs.rejoin 1 (fun _ => 0), resRun := [nth s.obs.resRun 0 0, 0, 0] } })

/-- Loss of synchronism: the pattern of R201 as a Heel order (R198; event 0x3011, F3). -/
def lossOfSync (s : State) : State :=
  issuePackage (patternOrder (rotorPattern s)) 0x3011 (record .fc 0x3011 3 [] s)

/-- RESIDUAL_DISAGREEMENT: declared pairs are resolved by the tables of R198 and R199 (events 0x3001 to 0x3004, 0x3011). The
observers' disagreement becomes a loss of the rotor when the position source is lost after its declaration (R199, R229). -/
def execResidualDisagreement (s : State) : Host.Outcome State Fault Refusal :=
  ok (let n := parN s P.obsResCount
      let d (k : Nat) : Bool := decide (n ≤ nth s.obs.resRun k 0)
      let fv := primaryUsable s
      let v0 := s.obs.oe0.valid
      let v1 := s.obs.oe1.valid
      let fresh := (List.range 3).any (fun k => d k && !nth s.obs.resDecl k false) || (!fv && v0 && v1 && d 2)
      if !fresh || !(s.op.state == .run || s.op.state == .stopping) then s
      else
        let s := { s with obs := { s.obs with resDecl := [d 0, d 1, d 2] } }
        if fv && v0 && v1 then
          if d 0 && d 1 && d 2 then lossOfSync s
          else if d 0 && d 1 then loseSrc (primary s) (detect .fc 0x3003 1 [] s)
          else if d 0 && d 2 then voteOut0 s
          else if d 1 && d 2 then voteOut1 s
          else record .fc 0x3004 0 [] s
        else if fv && v0 then voteOut0 s
        else if fv && v1 then voteOut1 s
        else lossOfRotor s)

/-- OBSERVER_REJOIN (R200; event 0x3005). -/
def execObserverRejoin (oe1 : Bool) (s : State) : Host.Outcome State Fault Refusal :=
  ok (let need := parN s P.obsResRejoin
      if oe1 then
        if s.obs.oe1.out && need ≤ nth s.obs.rejoin 1 0 then
          record .fc 0x3005 0 [] { s with obs := { s.obs with oe1 := { s.obs.oe1 with out := false } } }
        else s
      else if s.obs.oe0.out && need ≤ nth s.obs.rejoin 0 0 then
        record .fc 0x3005 0 [] { s with obs := { s.obs with oe0 := { s.obs.oe0 with out := false } } }
      else s)

/-! ## Validity and what follows from it (R179, R194, R199, R218, R313) -/

/-- OE0 becomes invalid by its speed or by its err test; a seed ends likewise once the catch has locked. -/
def oe0Check (s : State) : State :=
  let o := s.obs.oe0
  let seed := o.seeded && s.obs.phase != .lock
  if !o.valid && !seed then s
  else
    let slow := decide (o.wpll.natAbs < 80 * parN s P.obsOe0WMin)
    let err := decide (parN s P.obsResCount ≤ o.errRun)
    if !slow && !err then s
    else
      let s := { s with obs := { s.obs with oe0 := { o with valid := false, seeded := false } } }
      if s.obs.ctrlSrc != 1 then s
      else if err then lossOfRotor s
      else if s.fb.fallback then s
      else if s.op.state == .run && !parOn s P.obsIfEnable && !block s then detect .fc 0x3061 2 [] s
      else s

/-- While FALLBACK is set, a fall of OE0 below its minimum speed starts an SS1 stop, in STOPPING as R61 says (R179, R180; event
0x2863, F2). -/
def fallbackCheck (s : State) : State :=
  let fast := s.fb.fallback && controlled s && oe0Fast s
  let fell := s.obs.fast && s.fb.fallback && controlled s && !fast && s.obs.reacq.isNone
  let s := { s with obs := { s.obs with fast := fast } }
  if fell && (s.op.state == .run || s.op.state == .stopping) then detect .fc 0x2863 2 [] s else s

/-- What the observers' update decides takes effect at the next update boundary (R201, R229). -/
def observersEnd (s : State) : State := fallbackCheck (if controlled s then oe0Check s else s)

/-- A stop without any control angle left: ASC_LOW under prof.stand.mode 2 in the stop of a stop command, freewheel
otherwise (R313); an SS1 stop that lost its primary source goes on along the ramp in time (R180). -/
def runDown (s : State) : State :=
  if s.op.state == .stopping && s.mod.running && s.mod.pattern == 0 && s.obs.ctrlSrc == 7 && !rampInTime s then
    { s with mod := { s.mod with pattern := if s.saf.stop.isNone && parN s P.profStandMode == 2 then 2 else 1 } }
  else s

/-! ## Floating-phase crossings (R221) -/

/-- The floating phase is read at valleys, and at peaks when c = H. -/
def blockSample (s : State) : State :=
  if !block s || !s.mod.running || s.mod.pattern != 4 then s
  else
    let (p, rise) := blockFloat s.obs.sector
    let full := (s.mod.cmp.get (blockPair s.obs.sector).1) == s.mod.h
    if !(s.mod.up || full) then s
    else
      let vdc := vdcSel s
      let vt := nth s.sense.ya (8 + p.idx) 0
      let fe := 2 * vt - vdc
      let speed := if s.obs.phase == .block then s.obs.lastW.natAbs else (crossW s).natAbs
      let early := decide ((now s - s.obs.commAt) * speed * 65536 < parN s P.obsBlkBlank * 1000000000000)
      let rails := decide (vdc < 20 * vt) && decide (20 * vt < 19 * vdc)
      let up := rise != s.obs.rev
      let hit := s.obs.feAt > s.obs.commAt && (if up then decide (s.obs.fe < 0) && decide (0 ≤ fe) else decide (0 < s.obs.fe) && decide (fe ≤ 0))
      let s0 := { s with obs := { s.obs with fe := fe, feAt := now s } }
      if early || !rails || decide (s.obs.tz > s.obs.commAt) then s0
      else if !hit then s0
      else
        let a := s.obs.fe.natAbs
        let t := s.obs.feAt + (qfree 14 ((now s - s.obs.feAt : Nat) * (a : Int)) ((a + fe.natAbs : Nat) : Int)).toNat
        let s := { s0 with obs := { s0.obs with tzPrev := s.obs.tz, tz := t, missRun := 0 } }
        let w := signedW s (crossW s)
        let at0 := crossAngle s.obs.sector + advance16 w ((now s : Int) - t)
        let ok0 := s.obs.oe0.valid && decide ((wrap16 ((s.obs.oe0.theta : Int) - at0)).natAbs ≤ parN s P.obsResLim)
        let dev := wrap16 (advance16 s.obs.lastW.natAbs ((t : Int) - s.obs.commAt) - 5461)
        let good := s.obs.armed && decide (dev.natAbs ≤ parN s P.obsResLim)
        let n := if good then s.obs.agreeCross + 1 else 0
        let sync := s.obs.phase == .block && decide (3 ≤ n)
        { s with obs := { s.obs with
            syncRun := if ok0 then s.obs.syncRun + 1 else 0, agreeCross := n
            synced := s.obs.synced || sync, phase := if sync then .idle else s.obs.phase } }

/-! ## One update -/

/-- One update of a start measurement: a vector, its unwrapped angle against PT, its magnitude, and the terminals near a rail
(R208, R209). -/
def measAdd (v : Int × Int) (near : List Bool) (s : State) : State :=
  let m := s.obs.meas
  let a := ang16 (atan2_16 v.2 v.1)
  let u := if m.n == 0 then 0 else m.unw + wrap16 ((a : Int) - m.last)
  let first := if m.n == 0 then s.sense.stamp else m.first
  let t : Int := (s.sense.stamp : Int) - first
  { s with obs := { s.obs with meas := { m with
      n := m.n + 1, first := first, lastAt := s.sense.stamp, last := a, unw := u, st := m.st + t, sa := m.sa + u, stt := m.stt + t * t
      sta := m.sta + t * u, saa := m.saa + u * u, smag := m.smag + sqrtFree 25 (v.1 * v.1 + v.2 * v.2)
      rails := (m.rails.zip near).map (fun p => p.1 + bit1 p.2) } } }

/-- A terminal within 2 % of VDC or of 0 V (R209). -/
def nearRail (vdc v : Int) : Bool :=
  decide (50 * (v.natAbs : Int) ≤ vdc) || decide (50 * ((v - vdc).natAbs : Int) ≤ vdc)

/-- What the update adds to a start in progress: the terminals' vector with the currents at zero, the current vector, the peak
current of the settling, the pulse of the Awl (R208, R211, R215). -/
def startUpdate (s : State) : State :=
  match s.obs.phase with
  | .measV => measAdd (lineVolts s.sense.vtMean) (s.sense.vtMean.list.map (nearRail (vdcSel s))) s
  | .measI => measAdd (abOf (ctrlI s)) [false, false, false] s
  | .settle =>
    let i := (ctrlI s).list.foldl (fun m x => max m (abs32 x)) s.obs.meas.peak
    { s with obs := { s.obs with meas := { s.obs.meas with peak := i } } }
  | .awl =>
    let u := 8 * (now s - s.obs.phaseAt)
    let d := awlAt s u
    { s with obs := { s.obs with awlDrive := d, awl := if d.any (fun p => decide (13 ≤ p.1)) then 2 else s.obs.awl } }
  | _ => s

/-- The observers' update, before the loops (R191 to R197). -/
def obsUpdate (s : State) : State :=
  let s := selectAngle (oe1Step s.sense.vtMean s)
  let s := residualTest s.obs.oe0.theta s
  let s := if controlled s then oe0Step s else oe0Idle s
  runDown (blockSample (startUpdate s))

/-! ## Starts (R207 to R217) -/

/-- Current control runs: the ENABLE command that waited for it ends (R548). -/
def enabled (s : State) : State :=
  match s.obs.enableTag with
  | some t => answerOk t { s with obs := { s.obs with enableTag := none } }
  | none => s

/-- A reacquisition has succeeded (R203; event 0x3023). -/
def reacquired (s : State) : State :=
  if s.obs.reacq.isSome then
    record .fc 0x3023 0 [] { s with obs := { s.obs with reacq := none, pattern := 0 } }
  else s

/-- The working value of the electrical offset of an incremental primary without absolute initialisation (R213). -/
def setOffset (theta : Nat) (s : State) : State :=
  if primary s == 1 && primaryUsable s && !s.obs.absInit then
    { s with obs := { s.obs with offset := ((ang16 (theta - posAngle s s.fb.pos) : Nat) : Int), offsetSet := true } }
  else s

/-- The planned state of a standing machine; a target or velocity accepted before control ran is planned from it
(R266, R275, R311). -/
def planAtRest (s : State) : State :=
  let s := { s with pe := { s.pe with p := fOfQ16 (machinePos s), v := fZero, a := fZero, plan := [], tau := fZero
                                      parked := false } }
  match s.pe.source with
  | 1 => planTarget 1 (fOfQ16 s.pe.target) s
  | 2 => planVel s.pe.demand s
  | _ => s

/-- Direction of the speed demand: of a velocity target, towards a position target, of the set-point otherwise (R212, R280). -/
def demandSign (s : State) : Int :=
  match s.pe.source with
  | 1 => sgn (s.pe.target - machinePos s)
  | 2 => sgn s.pe.demand
  | _ => sgn s.pe.velFf

/-- Current control starts from standstill (R223, R266). A sensorless start without a forced angle has no angle below
the observer minimum (R218; event 0x3061, F2). -/
def beginAtRest (method : Nat) (s : State) : State :=
  let s := { s with obs := { s.obs with start := method, phase := .idle, awlDrive := none, dir := false } }
  if s.op.state == .discharge then
    { s with
      obs := { s.obs with forced := s.obs.awlTheta }
      mod := { s.mod with running := true, pattern := 0 }
      saf := { s.saf with dis := s.saf.dis.map (fun d => { d with winding := true, onSince := some (now s), v0 := vdcSel s }) } }
  else
    let s := reacquired (planAtRest (enterControl 0 0 s))
    if block s && !primaryUsable s then
      let back := decide (demandSign s < 0)
      enabled (startPhase .block { s with obs := { s.obs with
        sector := sectorOf s.obs.awlTheta, commAt := now s, tz := now s, tzPrev := now s, sched := 0
        armed := false, synced := false, agreeCross := 0, missRun := 0, syncRun := 0, lastW := 0, dir := back, rev := back } })
    else if primaryUsable s || parOn s P.obsIfEnable then enabled { s with obs := { s.obs with forced := s.obs.awlTheta } }
    else detect .fc 0x3061 2 [] s

/-- Standstill: the angle of an absolute source if usable, otherwise the Awl sequence, with the gates off (R209, R214). -/
def standstill (s : State) : State :=
  let s := { s with mod := { s.mod with running := false, pattern := 0 } }
  if angleKnown s then beginAtRest 1 s
  else startAwl { s with obs := { s.obs with awlRetries := 0 } }

/-- The caught speed as a planned velocity, 48.16 counts/s (R280). -/
def caughtCounts (s : State) (w : Int) : Int := divr (w * cpr s (primary s) * 65536) (1000 * polePairs s)

/-- Takeover at the caught speed: the planned state, then the demand that was in force: a target, a velocity, the phase of a
homing run; a segment table ends, and without a demand the machine stops (R280, R289, log 25). -/
def catchPlan (w : Int) (s : State) : State :=
  let src := s.pe.source
  let s := { s with pe := { s.pe with
    p := fOfQ16 (machinePos s), v := fOfQ16 (caughtCounts s w), a := fZero, plan := [], tau := fZero, parked := false } }
  limitJudge (match src with
  | 1 => planTarget 1 (fOfQ16 s.pe.target) s
  | 2 => planVel s.pe.demand s
  | 4 =>
    if s.pe.homePhase == 5 then planStop 4 (homeAcc s) (profJerk s) s
    else setPlan 4 (velSegs s.pe.v s.pe.a s.pe.vGoal (homeAcc s) (homeAcc s) (profJerk s)) none s.pe.vGoal s
  | _ => planStop 7 (profDec s) (profJerk s) (segEnd stFault 0x3021 s))

/-- OE0 seeded with the angle and frequency measured at the last t0: the flux of the current model there, the angle advanced to
the next t0; its 16 updates begin (R193, R194, R210). -/
def seedOe0 (theta : Nat) (w : Int) (s : State) : State :=
  let psi := modelFlux s (dq (ctrlI s) theta) theta
  { s with obs := { s.obs with oe0 := { s.obs.oe0 with
      psiA := psi.1, psiB := psi.2, wi := divr (w * 65536) 1000, wpll := w
      theta := ang16 (theta + advance16 w (s.mod.h / 8)), errRun := 0, run := 0, valid := false, seeded := true } } }

/-- The magnitude, electrical frequency and angle that a measurement found, the angle at its last update. -/
structure Caught where
  mag : Int
  freq : Int
  angle : Nat
  deriving DecidableEq, Repr

/-- A catch from a measured angle and frequency (R210, R212, R213, R266; events 0x3032, 0x3034). The integrators start so that
the voltage references are the measured back-EMF, or after ASC the zero voltage that holds the measured current; with decoupling
the feed-forward of R249 is part of them (log 21). -/
def catchAt (method : Nat) (asc : Bool) (m : Caught) (s : State) : State :=
  let f := fAngle s
  let abs := absoluteSource s
  let w := m.freq
  if abs && parN s P.obsResLim < (residual f m.angle).natAbs then detect .fc 0x3032 2 [] s
  else if primary s == 0 && !parOn s P.obsIfEnable && sgn w * demandSign s < 0 then detect .fc 0x3034 2 [] s
  else
    let th := if abs then f else m.angle
    let s := seedOe0 th w (setOffset th s)
    let i := if asc then dq (ctrlI s) th else (0, 0)
    let dec := parOn s P.loopIDecouple
    let ffd := if dec then sat32 (-(wl w (par s P.obsMachLq) i.2)) else 0
    let ffq := if dec then sat32 (wl w (par s P.obsMachLd) i.1 + wpsi s w) else 0
    let emf := if asc then 0 else sgn w * mul m.mag c1s3 30
    let s := catchPlan w (enterControl (sat32 (-ffd)) (sat32 (emf - ffq)) s)
    enabled (startPhase .lock { s with
      obs := { s.obs with
        start := method, dir := decide (w < 0), rev := decide (w < 0), measTheta := th, measW := w
        measAt := s.obs.meas.lastAt, rampAt := none, lastW := w, sector := sectorOf th, synced := true
        tz := now s, tzPrev := now s - (divr 1000000000000 (6 * max 1 w.natAbs)).toNat }
      loop := { s.loop with idPrev := i.1, iqPrev := i.2, idr := i.1, iqr := i.2 } })

/-- The least-squares line through the unwrapped angle against PT: slope as a quotient (counts per ns), and the sum of squares
about it times n times the denominator. -/
def MeasAcc.slope (m : MeasAcc) : Int × Int := ((m.n : Int) * m.sta - m.st * m.sa, (m.n : Int) * m.stt - m.st * m.st)

/-- The fit passes: a line exists and the rms deviation from it is within obs.fly.fit_lim (R208). -/
def fitOk (s : State) : Bool :=
  let m := s.obs.meas
  let (c, d) := m.slope
  let n : Int := m.n
  decide (0 < d) && decide ((n * m.saa - m.sa * m.sa) * d - c * c ≤ par s P.obsFlyFitLim * par s P.obsFlyFitLim * n * n * d)

/-- The vector's angle on the line at the last update, in 2^-16 turn (R208). -/
def fitAngle (m : MeasAcc) : Int :=
  let (c, d) := m.slope
  let n : Int := m.n
  ((m.last : Int) - m.unw) + qfree 23 (m.sa * d + c * (n * ((m.lastAt : Int) - m.first) - m.st)) (n * d)

/-- The electrical frequency in mHz, signed by direction (R208). -/
def fitFreq (m : MeasAcc) : Int := qfree 24 (m.slope.1 * 1000000000000) (65536 * m.slope.2)

/-- The angle of the steady short-circuit current in the rotor frame at an electrical frequency in mHz (R211): the vector (i_d,
i_q) is along (-w lq, -rs), with w in rad/s. -/
def ascVectorAngle (s : State) (freq : Int) : Int :=
  let w := 2 * pi120 * freq
  atan2_16 (-(sgn w * 2 ^ 120 * 1000000 * par s P.obsMachRs)) (-(sgn w * w * par s P.obsMachLq))

/-- The rotor angle of a measured vector: back-EMF, which leads the d axis by a quarter turn (R208), or short-circuit current
(R211). -/
def measuredAngle (s : State) (asc : Bool) (freq a : Int) : Nat :=
  if asc then ang16 (wrap16 (a - ascVectorAngle s freq)) else ang16 (a - (if freq < 0 then -16384 else 16384))

/-- The window of R208 is over: two turns, or 20 ms. -/
def windowOver (s : State) : Bool :=
  decide (131072 ≤ s.obs.meas.unw.natAbs) || decide (s.obs.phaseAt + 20000000 ≤ now s)

/-- Some terminal stood near a rail for more than 10 % of the window (R209). -/
def railed (m : MeasAcc) : Bool := m.rails.any (fun k => decide (m.n < 10 * k))

/-- START_MEASUREMENT_END: the measurement's results and the table of R209 (R208, R211; events 0x3031, 0x3033). -/
def execStartMeasurementEnd (s : State) : Host.Outcome State Fault Refusal :=
  ok (let asc := s.obs.phase == .measI
      if !(s.obs.phase == .measV || asc) || s.op.state != .run || !windowOver s then s
      else
        let method : Nat := if asc then 3 else 2
        let acc := s.obs.meas
        let freq := fitFreq acc
        let mag := qfree 26 acc.smag acc.n
        let ang := measuredAngle s asc freq (fitAngle acc)
        let s := record .fc 0x3031 0 [(method : Int), (freq.natAbs : Int), (bit1 (decide (freq < 0)) : Int), voltParam mag] s
        let side : Nat := if parOn s P.safetyAscSide then 3 else 2
        if !asc && decide (mag < par s P.obsFlyEMin * 65536) then standstill s
        else if !asc && (railed acc || decide (9 * vdcSel s ≤ 10 * mag)) then
          startPhase .settle { s with
            mod := { s.mod with running := true, pattern := side }
            obs := { s.obs with probe := false, again := false
                                pattern := if s.obs.reacq.isSome then side else s.obs.pattern } }
        else if !fitOk s then
          if s.obs.again then detect .fc 0x3033 2 [] s
          else startPhase s.obs.phase { s with obs := { s.obs with again := true } }
        else catchAt method asc ⟨mag, freq, ang⟩ s)

/-- ASC_SETTLE_END, obs.fly.asc_settle after ASC was applied: a probe whose peak current stayed below obs.fly.i_min finds
standstill; otherwise the current-vector measurement starts (R211). -/
def execAscSettleEnd (s : State) : Host.Outcome State Fault Refusal :=
  ok (if s.obs.phase != .settle || s.op.state != .run || now s < s.obs.phaseAt + parN s P.obsFlyAscSettle * 1000000 then s
      else if s.obs.probe && decide (s.obs.meas.peak < par s P.obsFlyIMin * 65536) then standstill s
      else startPhase .measI { s with obs := { s.obs with again := false } })

/-- CATCH_LOCK_CHECK: OE0 agrees with the measurement and torque ramps, or the catch fails (R210; events 0x3023,
0x3033). -/
def execCatchLockCheck (s : State) : Host.Outcome State Fault Refusal :=
  ok (if s.obs.phase != .lock || !(s.op.state == .run || s.op.state == .stopping) ||
          now s < s.obs.phaseAt + parN s P.obsFlyLock * 1000000 then s
      else
        let want := s.obs.measTheta + advance16 s.obs.measW ((s.sense.stamp : Int) - s.obs.measAt)
        let s := { s with obs := { s.obs with phase := .idle } }
        if parN s P.obsResLim < (wrap16 ((s.obs.oe0.last : Int) - want)).natAbs then detect .fc 0x3033 2 [] s
        else reacquired { s with obs := { s.obs with rampAt := some (now s) } })

/-! ## The Awl (R214 to R216) -/

/-- Twice cos(k 60°), and sin(k 60°) in units of sqrt 3 / 2. -/
def cos60 (k : Nat) : Int := match k % 6 with | 0 => 2 | 1 | 5 => 1 | 2 | 4 => -1 | _ => -2
def sin60 (k : Nat) : Int := match k % 6 with | 1 | 2 => 1 | 4 | 5 => -1 | _ => 0

/-- The test direction of pulse k, `axis` being the fitted axis: 30° steps from 0, the repeat of 0°, the axis and its opposite
(R215). -/
def awlDir (axis k : Nat) : Int :=
  if k < 12 then qfree 8 ((k * 65536 : Nat) : Int) 12 else if k == 12 then 0 else if k == 13 then axis else axis + 32768

/-- Peak current magnitude of pulse k in 2^-16 A: the phase currents of the loop's set from its path A codes (R215, R216). -/
def awlPeak (s : State) (r : AwlResp) (k : Nat) : Int :=
  let b := if s.sense.ctrlSet == 1 then 3 else 0
  let y (i : Nat) : Int := scaleA s (b + i) (xOfCode (codeOfUv (nth (nth r.uv k []) i 0)))
  let v := abOf ⟨y 0, y 1, y 2⟩
  sqrtFree 27 (v.1 * v.1 + v.2 * v.2)

/-- Twice the second harmonic's cosine sum, its sine sum in units of sqrt 3 / 2, and the plain sum of the axis responses. -/
def awlSums (s : State) (r : AwlResp) : Int × Int × Int :=
  let i := (List.range 12).map (fun k => (k, awlPeak s r k))
  (i.foldl (fun a p => a + p.2 * cos60 p.1) 0, i.foldl (fun a p => a + p.2 * sin60 p.1) 0, i.foldl (fun a p => a + p.2) 0)

/-- The sequence fails (R216). -/
def awlFails (s : State) (r : AwlResp) : Bool :=
  let (c, sn, t) := awlSums s r
  let amin := par s P.obsAwlAnisoMin
  let a0 := awlPeak s r 0
  let pos := awlPeak s r 13
  let neg := awlPeak s r 14
  decide ((c * c + 3 * sn * sn) * 1000000 < 4 * amin * amin * t * t)
  || decide (2000 * ((pos - neg).natAbs : Int) < par s P.obsAwlPolMin * (pos + neg))
  || decide (a0 < 10 * ((awlPeak s r 12 - a0).natAbs : Int))
  || (configured s 1 && decide (par s P.obsAwlMove < ((s.fb.c - s.obs.awlC).natAbs : Int)))

/-- The fitted axis, modulo half a turn (R216). -/
def awlAxis (s : State) (r : AwlResp) : Nat :=
  let (c, sn, _) := awlSums s r
  ang16 (qfree 13 (angle120 (sn * s3120) (c * 2 ^ 120)) (2 ^ 105)) % 32768

/-- Anisotropy in 0.1 % (R216). -/
def awlAniso (s : State) (r : AwlResp) : Nat :=
  let (c, sn, t) := awlSums s r
  (qfree 10 (500 * (isqrtGo ((c * c + 3 * sn * sn) * 4 ^ 60).toNat 200 0 : Int)) (t * 2 ^ 60)).toNat

/-- Polarity margin in 0.1 %, signed (R216). -/
def awlMargin (s : State) (r : AwlResp) : Int :=
  let pos := awlPeak s r 13
  let neg := awlPeak s r 14
  qfree 9 (2000 * (pos - neg)) (pos + neg)

/-- AWL_SEQUENCE_END, when all its pulses are done: axis, polarity, margin; repeated up to obs.awl.retry times (R215, R216;
events 0x3041, 0x3042). -/
def execAwlSequenceEnd (r : AwlResp) (s : State) : Host.Outcome State Fault Refusal :=
  ok (if s.obs.phase != .awl || !(s.op.state == .run || s.op.state == .discharge) ||
          8 * now s < 8 * s.obs.phaseAt + awlLength s then s
      else if awlFails s r then
        if s.obs.awlRetries < parN s P.obsAwlRetry then
          startAwl { s with obs := { s.obs with awlRetries := s.obs.awlRetries + 1 } }
        else
          let s := detect .fc 0x3042 2 [] { s with obs := { s.obs with awl := 4, awlDrive := none, phase := .idle } }
          if s.op.state == .discharge then
            endWinding { s with saf := { s.saf with dis := s.saf.dis.map (fun d => { d with wait := true }) } }
          else s
      else
        let margin := awlMargin s r
        let theta := ang16 (awlDir (awlAxis s r) (if 0 < margin then 13 else 14))
        let s := record .fc 0x3041 0 [(theta : Int), (awlAniso s r : Int), margin] { s with obs := { s.obs with
          awl := 3, awlTheta := theta, awlAniso := min 255 (awlAniso s r), awlMargin := min 255 margin.natAbs } }
        beginAtRest 4 (setOffset theta s))

/-! ## Block commutation (R219 to R224) -/

/-- The legs take the pattern of the next sector at an offset from t0, at t0 + 300 ns at the earliest (R220, R334). -/
def commutate (off : Int) (s : State) : State :=
  let b := if s.obs.rev then (s.obs.sector + 5) % 6 else (s.obs.sector + 1) % 6
  let s := { s with obs := { s.obs with sector := b, commAt := now s, turnAt := now s } }
  maskFaulted (putLegs (turnLegs off.toNat s.mod.legs (blockLegs b (blockChop s).toNat (parOn s P.modBlkChop))) s)

/-- Sectors are commutated by crossings or by the start schedule, not by a control angle. -/
def selfCommutated (s : State) : Bool :=
  s.mod.running && s.mod.pattern == 4 && block s && !primaryUsable s && s.obs.ctrlSrc != 1 && s.obs.ctrlSrc != 3

/-- The start schedule's electrical acceleration in mHz per s (R223). -/
def scheduleA (s : State) : Int := divr (par s P.profAcc * polePairs s * 1000) (cpr s (primary s))

/-- The start schedule's electrical speed in mHz: the profile acceleration since the start (R223). -/
def scheduleW (s : State) : Int := divr (scheduleA s * ((now s - s.obs.phaseAt : Nat) : Int)) 1000000000

/-- The schedule has turned on to its next commutation: half the acceleration times the time squared reaches a sixth of a turn
for each (R223). -/
def scheduleDue (s : State) : Bool :=
  let t : Int := ((now s - s.obs.phaseAt : Nat) : Int)
  decide (((s.obs.sched : Int) + 1) * 10 ^ 21 ≤ 3 * scheduleA s * t * t)

/-- t_comm in 125 ps of the present clock: half an interval after the crossing, less the advance (R221, R334). -/
def commTime (s : State) : Int :=
  let d : Int := (s.obs.tz : Int) - s.obs.tzPrev
  8 * (s.obs.tz : Int) + divr (8 * d * (32768 - 6 * par s P.obsBlkAdv)) 65536

/-- Offset of an instant of the present clock, in 125 ps, from the last t0. -/
def fromT0 (s : State) (t : Int) : Int := t - 8 * ((s.sense.stamp : Int) + now s - ptNow s)

/-- BLOCK_COMMUTATION: on the start schedule, or at t_comm after a crossing, in the update whose half period holds that instant
(R221, R223, R334). -/
def execBlockCommutation (s : State) : Host.Outcome State Fault Refusal :=
  ok (if !selfCommutated s then s
      else if s.obs.phase == .block then
        if !scheduleDue s then s
        else
          let w := scheduleW s
          commutate (fromT0 s (8 * now s)) { s with obs := { s.obs with
            sched := s.obs.sched + 1, lastW := signedW s w
            armed := s.obs.armed || decide (par s P.obsBlkWMin * 100 ≤ w) } }
      else if s.obs.commAt < s.obs.tz && decide (fromT0 s (commTime s) < s.mod.h) then commutate (fromT0 s (commTime s)) s
      else s)

/-- No crossing has been found by 1.5 intervals after the previous one, or an interval after the last forced commutation
(R222). -/
def crossingLate (s : State) : Bool :=
  decide ((3 + 2 * s.obs.missRun) * (s.obs.tz - s.obs.tzPrev) ≤ 2 * (now s - s.obs.tz))

/-- CROSSING_MISSED: the commutation is forced; too many in a row are a loss of the rotor (R201, R222; event 0x3051). -/
def execCrossingMissed (s : State) : Host.Outcome State Fault Refusal :=
  ok (if !selfCommutated s || !s.obs.synced || !crossingLate s then s
      else
        let n := s.obs.missRun + 1
        let s := record .fc 0x3051 0 [] (commutate (fromT0 s (8 * now s)) { s with obs := { s.obs with missRun := n } })
        if parN s P.obsBlkMissMax ≤ n then lossOfRotor s else s)

/-- BLOCK_START_TIMEOUT: the schedule has reached 2 × obs.blk.w_min without synchronising (R223; event 0x3052, F2). -/
def execBlockStartTimeout (s : State) : Host.Outcome State Fault Refusal :=
  ok (if s.obs.phase == .block && decide (2 * par s P.obsBlkWMin * 100 ≤ scheduleW s) then
        detect .fc 0x3052 2 [] { s with obs := { s.obs with phase := .idle } }
      else s)

/-- SIX_STEP_CHANGE at the instant of a sector boundary (R224; event 0x3053, parameter coded as FC_OBS_STATUS.COMM). -/
def execSixStepChange (s : State) : Host.Outcome State Fault Refusal :=
  ok (let w := elecW s
      if parN s P.obsCommMode != 2 || !s.mod.running || s.obs.turnAt != now s then s
      else if s.obs.comm == 1 && decide (par s P.obsSixWOn * 100 ≤ (w.natAbs : Int)) && s.obs.oe0.valid &&
          16 ≤ s.obs.syncRun then
        record .fc 0x3053 0 [2] { s with obs := { s.obs with comm := 2 }, mod := { s.mod with pattern := 5 } }
      else if s.obs.comm == 2 && decide ((w.natAbs : Int) < par s P.obsSixWOff * 100) then
        record .fc 0x3053 0 [1] { s with obs := { s.obs with comm := 1, syncRun := 0 }, mod := { s.mod with pattern := 4 } }
      else s)

end Sys2Proof.Machine
end

