-- ==== Sys2Proof/Machine/SafetyMonitor.lean ====
section
/-! DEFINITION. The Safety Monitor: the Welt and its copies, the torque comparison, the crossover flag, the bounds of the
engines without a copy (10), and the speed functions of each update (11). -/

namespace Sys2Proof.Machine
open Sys2Proof

/-! ## Copies -/

def copyOf (s : State) (k : Nat) : SmCopy := match k with | 0 => s.sm.c0 | 1 => s.sm.c1 | _ => s.sm.c2

def setCopy3 (k : Nat) (c : SmCopy) (s : State) : State :=
  match k with
  | 0 => { s with sm := { s.sm with c0 := c } }
  | 1 => { s with sm := { s.sm with c1 := c } }
  | _ => { s with sm := { s.sm with c2 := c } }

/-- RESYNC: a copy is halted for its resynchronisation (R431). -/
def markResync (s : State) : State :=
  { s with sm := { s.sm with resync := s.sm.c0.halted || s.sm.c1.halted || s.sm.c2.halted } }

/-- The configured safe state as the Welt's own registers give it (R415). -/
def weltOrder (s : State) : HeelOrder :=
  match s.sm.weltState with
  | 0 => .pi
  | 1 => .ascLow
  | 2 => .ascHigh
  | _ => if s.sm.weltXover then (if parOn s P.safetyAscSide then .ascHigh else .ascLow) else .pi

/-- The no-majority reaction: the safe state as a Heel order, all copies in reset, acknowledgement barred until a package
reset (R415). -/
def noMajority (code : Nat) (ps : List Int) (s : State) : State :=
  if s.sm.noMajority then s
  else
    let o := weltOrder s
    let sd := decide (3 ≤ s.sm.weltState) && s.sm.weltXover
    let s := record .fc code 3 ps { s with
      sm := { s.sm with noMajority := true }
      op := { s.op with ackBarred := true } }
    let s := issuePackage o code s
    { s with op := { s.op with speedDependent := s.op.speedDependent || (sd && s.heel.fc == some o) } }

/-- The controlled stop of the degraded policy (R413; event 0x5013, F2). -/
def degradedStop (s : State) : State := detect .fc 0x5013 2 [] { s with sm := { s.sm with degStop := true } }

/-- A cause for NO_TOL; a second one is a no-majority reaction (R413, R414). -/
def noTolerance (kind code : Nat) (ps : List Int) (s : State) : State :=
  let s := detect .fc code 1 ps (degrade s)
  if s.sm.noTol then noMajority 0x5005 [(kind : Int)] s
  else
    let s := { s with sm := { s.sm with noTol := true } }
    if parN s P.smDegPolicy == 0 then degradedStop s
    else match s.op.state with
      | .ready | .standby | .safeHold => s
      | _ => { s with sm := { s.sm with graceSince := some (now s) } }

/-- A minority copy: halted for its resynchronisation, or due for isolation at its third time in the window (R407, R412).
The third time is not resynchronised. -/
def minority (k code : Nat) (ps : List Int) (latent : Bool) (s : State) : State :=
  let c := copyOf s k
  let again := match c.stamps.getLast? with
    | some t => decide (now s < t + parN s P.smResyncWindow * 1000000)
    | none => false
  let s := { s with sm := { s.sm with minority := k } }
  if again && 2 ≤ c.stamps.length then
    markResync (setCopy3 k { c with halted := true, copying := false, due := some 0, since := now s } s)
  else
    let s := setCopy3 k { c with halted := true, copying := true, stamps := if again then c.stamps else [], since := now s } s
    markResync (record .fc code 0 ps { s with sm := { s.sm with
      resyncs := if latent then s.sm.resyncs else satInc 255 s.sm.resyncs
      latent := if latent then satInc 255 s.sm.latent else s.sm.latent } })

/-- The words in a slot: those of the copies that vote. A halted copy issues none, but for a word already aligned. -/
def voters (s : State) (w : List (Option Nat)) : List (Nat × Option Nat) :=
  (List.range 3).filterMap (fun k =>
    let x := nth w k none
    if (copyOf s k).isolated || ((copyOf s k).halted && x.isNone) then none else some (k, x))

/-- The copy that differs from the majority, or no majority (R402, R408). -/
inductive Vote where
  | agree | minority (k : Nat) | none
  deriving DecidableEq, Repr

def voteOf (l : List (Nat × Option Nat)) : Vote :=
  match l with
  | [a, b, c] =>
    if a.2 == b.2 && b.2 == c.2 then .agree
    else if a.2 == b.2 then .minority c.1
    else if a.2 == c.2 then .minority b.1
    else if b.2 == c.2 then .minority a.1
    else .none
  | [a, b] => if a.2 == b.2 then .agree else .none
  | _ => .agree

/-- OUTPUT_SLOT_VOTE (R402, R408; events 0x5001, 0x5005). The slot kinds are 0 output, 1 hash, 2 self-test. -/
def execOutputSlotVote (w0 w1 w2 : Option Nat) (addr : Nat) (s : State) : Host.Outcome State Fault Refusal :=
  ok (if s.sm.noMajority || s.supply.fcLock then s
      else match voteOf (voters s [w0, w1, w2]) with
        | .agree => s
        | .minority k => minority k 0x5001 [(k : Int), (addr : Int)] false s
        | .none => noMajority 0x5005 [0] s)

/-- The idle window of the update is open, and has been for `ns`: from t0 + 2,500 ns to the next t0 - 300 ns (R399). -/
def idleWindow (ns : Nat) (s : State) : Bool :=
  decide (s.sense.stamp + 2500 + ns ≤ ptNow s) && decide ((ptNow s : Int) * 1000 + 300000 ≤ (s.sense.stamp : Int) * 1000 + tsPs s)

/-- The last PT multiple of 1 ms, by its number. -/
def ptMs (s : State) : Nat := ptNow s / 1000000

/-- The hash slot of this millisecond is due (R410). -/
def hashDue (s : State) : Bool := idleWindow 0 s && decide (s.sm.hashMs < ptMs s)

/-- HASH_SLOT (R410, R411; events 0x5002, 0x5005). -/
def execHashSlot (h0 h1 h2 : Option Nat) (s : State) : Host.Outcome State Fault Refusal :=
  ok (if s.sm.noMajority || s.supply.fcLock || !hashDue s then s
      else
        let s := { s with sm := { s.sm with hashMs := ptMs s, busySeq := some s.sense.seq } }
        match voteOf (voters s [h0, h1, h2]) with
        | .agree => s
        | .minority k => minority k 0x5002 [(k : Int)] true s
        | .none => noMajority 0x5005 [1] s)

/-- RESYNC_COPY_DONE: 32,768 cycles of SMCLK after the copy was halted (R407, R409). -/
def execResyncCopyDone (k : Nat) (s : State) : Host.Outcome State Fault Refusal :=
  ok (let c := copyOf s k
      if k < 3 && c.halted && c.copying && c.since + 109226 ≤ now s && !s.sm.noMajority then
        setCopy3 k { c with copying := false } s
      else s)

/-- RESYNC_RENDEZVOUS, at its end in an idle window: the hashes of the two voting copies are compared, and the copy restarts
when its own agrees; otherwise its resynchronisation has failed (R407 to R410; event 0x5005). -/
def execResyncRendezvous (k : Nat) (h : List Nat) (s : State) : Host.Outcome State Fault Refusal :=
  ok (let c := copyOf s k
      let others := ((List.range 3).filter (· != k)).map (fun i => nth h i 0)
      if !(k < 3) || !c.halted || c.copying || c.due.isSome || c.isolated || s.sm.noMajority || !idleWindow 2000 s then s
      else
        let s := { s with sm := { s.sm with hashMs := ptMs s, rdvSeq := some s.sense.seq, busySeq := some s.sense.seq } }
        if nth others 0 0 != nth others 1 0 then noMajority 0x5005 [1] s
        else if nth h k 0 == nth others 0 0 then
          markResync (setCopy3 k { c with halted := false, stamps := c.stamps ++ [now s] } s)
        else setCopy3 k { c with due := some 1 } s)

/-- LANE_FAULT: the copy is isolated (R412, R413; event 0x5004). -/
def execLaneFault (k : Nat) (s : State) : Host.Outcome State Fault Refusal :=
  ok (let c := copyOf s k
      match c.due with
      | some cause =>
        if !(k < 3) || s.sm.noMajority then s
        else
          let s := markResync (setCopy3 k { c with due := none, halted := false, copying := false, isolated := true } s)
          noTolerance 0 0x5004 [(k : Int), (cause : Int)] s
      | none => s)

/-! ## The Welt's self-test (R404 to R406) -/

/-- What both trees must give in patterns 1 to 6 (R404). -/
def weltPatterns : List WeltVerdict :=
  [.forward none, .forward (some 0), .forward (some 1), .forward (some 2), .noMajority, .forward (some 0)]

/-- The first pattern in which a tree gives a wrong verdict, 0 for none (R405). -/
def treeFails (l : List WeltVerdict) : Nat :=
  match ((List.range 6).filter (fun i => nth l i .noMajority != nth weltPatterns i .noMajority)) with
  | i :: _ => i + 1
  | [] => 0

/-- The pattern that the checker fails to flag, 0 for none (R405). -/
def checkerFails (flag7 flag8 : Bool) : Nat := if !flag7 then 7 else if !flag8 then 8 else 0

/-- The outcome of a self-test: the first pattern each part fails, 0 for none. Trees already isolated are not judged. -/
def weltResult (a b c : Nat) (s : State) : State :=
  let useA := s.sm.tree != 2
  let useB := s.sm.tree != 1
  let useC := s.sm.tree == 0
  let fail (tree n next : Nat) (s : State) : State :=
    noTolerance 2 0x5011 [(tree : Int), (n : Int)] { s with sm := { s.sm with tree := next } }
  let fa := useA && a != 0
  let fb := useB && b != 0
  let fc := useC && c != 0
  let s := if fa || fb || fc then { s with sm := { s.sm with testFail := satInc 255 s.sm.testFail } } else s
  let s := if fa then fail 0 a 2 s else s
  let s := if fb then fail 1 b 1 s else s
  if fc && !fa && !fb then fail 2 c 3 s else s

/-- The self-test of this millisecond is due: in the first idle window without a rendezvous, after the hash slot (R404,
R409). -/
def testDue (s : State) : Bool :=
  idleWindow 0 s && decide (s.sm.testMs < ptMs s) && decide (ptMs s ≤ s.sm.hashMs) && s.sm.rdvSeq != some s.sense.seq

/-- WELT_SELF_TEST: the verdicts of trees A and B in patterns 1 to 6, and whether the checker flags patterns 7 and 8
(R404, R405; event 0x5011). -/
def execWeltSelfTest (a b : List WeltVerdict) (flag7 flag8 : Bool) (s : State) : Host.Outcome State Fault Refusal :=
  ok (if s.sm.noMajority || s.supply.fcLock || !testDue s then s
      else weltResult (treeFails a) (treeFails b) (checkerFails flag7 flag8)
        { s with sm := { s.sm with testMs := ptMs s, busySeq := some s.sense.seq } })

/-- CHECKER_DISAGREEMENT: one failed tree is isolated and its verdict dropped; otherwise the no-majority reaction (R406;
event 0x5012). -/
def execCheckerDisagreement (a b : List WeltVerdict) (s : State) : Host.Outcome State Fault Refusal :=
  ok (if s.sm.noMajority || s.sm.tree != 0 || s.supply.fcLock then s
      else
        let fa := treeFails a
        let fb := treeFails b
        if fa == 0 && fb == 0 then noMajority 0x5012 [] s
        else if fa != 0 && fb != 0 then
          noMajority 0x5012 [] { s with sm := { s.sm with testFail := satInc 255 s.sm.testFail } }
        else weltResult fa fb 0 s)

/-- DEGRADED_GRACE_EXPIRY: sm.deg.grace has run since the cause (R413; event 0x5013). -/
def execDegradedGraceExpiry (s : State) : Host.Outcome State Fault Refusal :=
  ok (match s.sm.graceSince with
      | some t =>
        if s.sm.degStop || now s < t + parN s P.smDegGrace * 1000000000 then s
        else degradedStop { s with sm := { s.sm with graceSince := none } }
      | none => s)

/-! ## Speed, crossover, torque comparison (R416 to R425) -/

/-- Electrical speed of the Safety Monitor in mHz and its mechanical speed in 2^-16 rpm (R421). -/
def smSources (s : State) : Option (Int × Int) :=
  if primaryUsable s && !s.fb.fallback then
    let w := nth s.fb.w (primary s - 1) 0
    some (divr (w * polePairs s * 1000) (cpr s (primary s) * 65536), divr (60 * w) (cpr s (primary s)))
  else
    let a := if s.obs.oe0.valid then some s.obs.oe0.wpll else none
    let b := if s.obs.oe1.valid then some s.obs.oe1.w else none
    let best := match a, b with
      | some x, some y => some (if x.natAbs < y.natAbs then y else x)
      | some x, none => some x
      | none, some y => some y
      | none, none => none
    best.map (fun w => (w, divr (w * 60 * 65536) (1000 * polePairs s)))

/-- Electrical speed in mHz from the held speed (R421). -/
def smW (s : State) : Int :=
  match smSources s with
  | some x => x.1
  | none => divr (s.sm.lastSpeed * 1000 * polePairs s) (60 * 65536)

/-- sqrt 3 at 2^60. -/
def s3x : Int := 1996918623117814387

/-- e_s less n / 100 of VDC, scaled (R425): e_s = sqrt 3 · 2 pi f · psi, without rounding but for the constants. -/
def esOver (s : State) (n : Int) : Int :=
  (smW s).natAbs * par s P.obsMachPsi * 65536 * 2 * pi120 * s3x * 100 - s.sm.vdcLast * n * 2 ^ 180 * 1000000000

def crossover (s : State) : State :=
  let s := if anyVdc s && s.sense.vdcSrc != 3 then { s with sm := { s.sm with vdcLast := vdcSel s } } else s
  let x := if 0 < esOver s 100 then true else s.sm.xover && decide (0 ≤ esOver s (100 - par s P.smXoverHyst))
  let s := { s with sm := { s.sm with xover := x, weltXover := x } }
  if s.op.state == .safeHold then contactors s else s

def smOverload (s : State) : Bool :=
  let b := if s.sense.monSet == 1 then 0 else 3
  (List.range 3).any (fun k => nth s.sense.overload (b + k) false)

/-- TQ_MODE (R416). -/
def tqMode (s : State) : Nat :=
  let starting := s.obs.phase == .measV || s.obs.phase == .settle || s.obs.phase == .measI || s.obs.phase == .awl
  if starting || s.sense.monSet == 3 || smOverload s then 3
  else if primaryUsable s && !s.fb.fallback then 0
  else if s.obs.oe1.valid && !s.obs.oe1.out then 1
  else 2

/-- Mean age of a latched path B output, ns (R110, R417). -/
def gdNs (s : State) : Int := 75 * (par s P.senseBOsr - 1) + 25

/-- T_est of R417, and |i|. -/
def torqueEst (s : State) (theta : Int) : Int × Int :=
  let i := monI s
  let (ia, ib) := abOf i
  let th := (theta - divr (smW s * gdNs s * 65536) 1000000000000) % 65536
  let c := cos30 th
  let sn := sin30 th
  let id := dot [(ia, c), (ib, sn)] 30
  let iq := dot [(ia, -sn), (ib, c)] 30
  let fl := par s P.obsMachPsi + divr ((par s P.obsMachLd - par s P.obsMachLq) * id) 65536000
  (sat32 (divr (3 * polePairs s * fl * iq) 512000000), (isqrt (ia * ia + ib * ib).toNat : Int))

/-- The commanded torque counts as 0 (R423). -/
def torqueZero (s : State) : Bool :=
  s.mod.pattern == 1 || s.mod.pattern == 2 || s.mod.pattern == 3 || s.heel.fc.isSome || s.obs.reacq.isSome

/-- The Safety Monitor's speed is at or above prof.stand.speed (R423). -/
def smMoving (s : State) : Bool :=
  decide (par s P.profStandSpeed * 65536 * 60 ≤ (smSpeed s).natAbs * cpr s (primary s))

/-- The band of R419, with the open side of R423: lower bound, upper bound, lim. -/
def torqueBand (s : State) : Option Int × Option Int × Int :=
  let td := s.sm.td
  let tf := s.sm.tf
  let lim := max (par s P.smTqAbsLim * 256) (divr (par s P.smTqRelLim * max (abs32 td) (abs32 tf)) 1000)
  let lo := min 0 (min td tf) - lim
  let hi := max 0 (max td tf) + lim
  let open_ := torqueZero s && smMoving s
  (if open_ && 0 < smSpeed s then none else some lo, if open_ && smSpeed s < 0 then none else some hi, lim)

/-- round(2^30 exp(-ts / sm.tq.tau)) (R418). -/
def lagCoef (s : State) : Int := divRound (expNeg120 (tsPs s).toNat (parN s P.smTqTau * 1000000)) (2 ^ 90)

/-- The references of the comparison (R418, R422, R423). -/
def torqueRefs (s : State) : State :=
  let m := ((gdNs s + 25) * 1000 + tsPs s - 1) / tsPs s
  let m := (max 1 m).toNat
  let hist := (s.loop.tstar :: s.sm.thist).take 64
  let mag : Int := (isqrt (s.loop.idr * s.loop.idr + s.loop.iqr * s.loop.iqr).toNat : Int)
  let refs := (mag :: s.sm.iref).take 64
  let td := nth hist m 0
  let tf := td + mul (s.sm.tf - td) (lagCoef s) 30
  let z := torqueZero s
  { s with sm := { s.sm with
      thist := hist, iref := refs, td := if z then 0 else td, tf := if z then 0 else tf } }

/-- The larger magnitude of the current references of the update of T*_d and the one before it (R422). -/
def iRefBound (s : State) : Int :=
  let m := (max 1 (((gdNs s + 25) * 1000 + tsPs s - 1) / tsPs s)).toNat
  max (nth s.sm.iref m 0) (nth s.sm.iref (m + 1) 0) + par s P.smTqILim * 65536

/-- The comparison mode is taken for the update, a change recorded (event 0x5103) and two updates skipped after a change
of the measured set or of the path (R417, R421). -/
def takeMode (s : State) : State :=
  let old := s.sm.tqMode
  let mode := tqMode s
  let osr := parN s P.senseBOsr
  let changed := mode != old || s.sense.monSet != s.sm.setPrev || osr != s.sm.osrPrev
  let sm := { s.sm with
    tqMode := mode, setPrev := s.sense.monSet, osrPrev := osr, skip := if changed then 2 else s.sm.skip - 1 }
  if mode != old then { record .fc 0x5103 0 [(old : Int), (mode : Int)] s with sm := sm } else { s with sm := sm }

/-- The angle of the estimate: OE1's in mode 1, the feedback's otherwise. -/
def torqueAngle (s : State) : Int := if s.sm.tqMode == 1 then s.obs.oe1.theta else fAngle s

/-- The estimate of the update. -/
def takeEst (s : State) : State :=
  let e := torqueEst s (torqueAngle s)
  let b := torqueBand s
  { s with sm := { s.sm with
    tEst := if s.sm.tqMode < 2 then e.1 else s.sm.tEst, iAbs := e.2, brakeOk := b.1.isNone || b.2.1.isNone } }

/-- The current bound of magnitude mode (R422). -/
def judgeMagnitude (s : State) : State :=
  { s with sm := { s.sm with iRun := run (decide (iRefBound s < s.sm.iAbs)) s.sm.iRun } }

/-- The estimate `e` against the band (R418 to R420). -/
def judgeTorque (e : Int) (s : State) : State :=
  let b := torqueBand s
  let below := match b.1 with | some lo => decide (e < lo) | none => false
  let above := match b.2.1 with | some hi => decide (hi < e) | none => false
  let out := below || above
  let limits := bitOf s.loop.status 3 || bitOf s.loop.status 4 || bitOf s.loop.status 5 || bitOf s.loop.status 6
  let judged := !out && decide (0 < s.sm.td * s.sm.tf) && !limits && !torqueZero s
  let deficit := decide (b.2.2 < abs32 s.sm.tf - abs32 e)
  { s with sm := { s.sm with
      outRun := run out s.sm.outRun
      outBand := if out then satInc 255 s.sm.outBand else s.sm.outBand
      defPs := if !judged then s.sm.defPs else if deficit then s.sm.defPs + (tsPs s).toNat else 0 } }

/-- The comparison of one update (R416 to R424; event 0x5103). -/
def torqueCompare (flagged : Bool) (s : State) : State :=
  let s := takeEst (torqueRefs (takeMode s))
  if flagged || s.sm.tqMode == 3 || s.sm.skip != 0 then s
  else if s.sm.tqMode == 2 then judgeMagnitude s
  else judgeTorque (torqueEst s (torqueAngle s)).1 s

/-- The parameters of event 0x5101. -/
def tqParams (s : State) (x : Int) : List Int := [x, s.sm.td, s.sm.tf, (s.sm.tqMode : Int)]

/-- UNINTENDED_TORQUE (R419; event 0x5101, F3). Torques in 2^-8 N.m. -/
def execUnintendedTorque (s : State) : Host.Outcome State Fault Refusal :=
  ok (if parN s P.smTqN ≤ s.sm.outRun then
        detect .fc 0x5101 3 (tqParams s s.sm.tEst) { s with sm := { s.sm with outRun := 0 } }
      else s)

/-- CURRENT_BOUND_EXCEEDED (R422; event 0x5101, F3). -/
def execCurrentBoundExceeded (s : State) : Host.Outcome State Fault Refusal :=
  ok (if parN s P.smTqN ≤ s.sm.iRun then
        detect .fc 0x5101 3 (tqParams s s.sm.iAbs) { s with sm := { s.sm with iRun := 0 } }
      else s)

/-- TORQUE_DEFICIT: every judged update of sm.tq.def_time was in deficit (R420; event 0x5102, F2). -/
def execTorqueDeficit (s : State) : Host.Outcome State Fault Refusal :=
  ok (if parN s P.smTqDefTime * 1000000000 ≤ s.sm.defPs then
        detect .fc 0x5102 2 [s.sm.tEst, s.sm.tf] { s with sm := { s.sm with defPs := 0 } }
      else s)

/-! ## The engines without a copy (R426, R427) -/

/-- The first bound of R426 that the set-point exceeds: 0 velocity, 1 step, 2 software limit. -/
def boundExceeded (s : State) : Option Nat :=
  let c : Int := cpr s (primary s)
  let vmax := par s P.profVelMax
  let step := match s.sm.posPrev with | some x => ((s.pe.posRef - x).natAbs : Int) | none => 0
  let mach := s.pe.setPos
  if 101 * vmax * 65536 < 100 * (s.pe.velFf.natAbs : Int) * c then some 0
  else if 101 * vmax * tsPs s * 65536 + 65536 * 100000000000000 < 100 * step * 1000000000000 then some 1
  else if limitsOn s && (decide (mach < (par s P.profLimPosMin - 1) * 65536) || decide ((par s P.profLimPosMax + 1) * 65536 < mach)) then
    some 2
  else none

/-- The set-point check while the Profile Engine's set-points are in use. -/
def setpointCheck (s : State) : State :=
  if !controlled s || s.saf.stop.isSome || s.saf.dis.isSome then
    { s with sm := { s.sm with boundRun := 0, posPrev := none } }
  else
    let b := boundExceeded s
    { s with sm := { s.sm with
        boundRun := run b.isSome s.sm.boundRun, posPrev := some s.pe.posRef
        bound := match b with | some k => k | none => s.sm.bound } }

/-- SETPOINT_OUT_OF_BOUND (R426; event 0x5201, F2). -/
def execSetpointOutOfBound (s : State) : Host.Outcome State Fault Refusal :=
  ok (if 2 ≤ s.sm.boundRun then
        detect .fc 0x5201 2 [(s.sm.bound : Int)] { s with sm := { s.sm with boundRun := 0 } }
      else s)

/-- HK is reset; the last round's values stand. A third reset within 60 s is event 0x5203 (R427). -/
def hkReset (s : State) : State :=
  let l := stampIn 60000000000 (now s) s.sm.hkStamps
  let s := detect .fc 0x5202 1 [] { s with sm := { s.sm with hkStamps := l, hkLast := now s } }
  if 3 ≤ l.length then detect .fc 0x5203 2 [] s else s

/-- HK_WATCHDOG_EXPIRY: no round report for 25 ms (R427; events 0x5202, 0x5203). -/
def execHkWatchdogExpiry (s : State) : Host.Outcome State Fault Refusal :=
  ok (if s.supply.fcLock || s.sm.noMajority || now s < s.sm.hkLast + 25000000 then s else hkReset s)

/-! ## Speed functions of each update (R447 to R452) -/

/-- |w0| - dec × t in 2^-16 rpm, not below 0. -/
def rampLeft (s : State) (r : Ss1Run) : Int :=
  let t : Int := ((now s - r.t0 : Nat) : Int)
  max 0 ((r.w0.natAbs : Int) - divr (par s P.safetySs1Dec * 65536 * t) 1000000000)

/-- The stop ramp and the counts of the stop. Without a valid speed the envelope count is kept and standstill begins
anew. -/
def stopUpdate (s : State) : State :=
  match s.saf.stop with
  | none => s
  | some r =>
    let left := rampLeft s r
    let r := if speedDue s then
        { r with
          ref := sgn r.w0 * left
          envRun := match s.sm.speed with
            | some v => run (decide (left + par s P.safetySs1Margin * 65536 < (v.natAbs : Int))) r.envRun
            | none => r.envRun }
      else r
    let r := match s.sm.speed with
      | some v =>
        if (v.natAbs : Int) < par s P.safetySs1Zero * 65536 then
          { r with zeroSince := match r.zeroSince with | some t => some t | none => some (now s) }
        else { r with zeroSince := none }
      | none => { r with zeroSince := none }
    { s with saf := { s.saf with stop := some r } }

def speedLimits (s : State) : State :=
  match s.sm.speed with
  | none => s
  | some v =>
    let a : Int := (v.natAbs : Int)
    let slsOn := s.saf.sls && decide (s.saf.slsSince + parN s P.safetySlsTime * 1000000 ≤ now s)
    { s with saf := { s.saf with
        smsRun := run (decide (par s P.safetySmsLimit * 65536 < a)) s.saf.smsRun
        slsRun := run (slsOn && decide (par s P.safetySlsLimit * 65536 < a)) s.saf.slsRun } }

/-- The time below safety.sds.pi_speed (R438). -/
def sdsCount (s : State) : State :=
  let below := match s.sm.speed with
    | some v => decide ((v.natAbs : Int) < par s P.safetySdsPiSpeed * 65536)
    | none => false
  { s with saf := { s.saf with
      sdsSince := if !below then none else match s.saf.sdsSince with | some t => some t | none => some (now s) } }

/-- The Safety Monitor's work of one update (R398, R399). -/
def smUpdate (flagged : Bool) (s : State) : State :=
  if s.sm.noMajority then s
  else
    let v := smSources s
    let s := { s with sm := { s.sm with
      speed := v.map Prod.snd, lastSpeed := match v with | some x => x.2 | none => s.sm.lastSpeed } }
    preStep (sdsCount (speedLimits (stopUpdate (setpointCheck (torqueCompare flagged (crossover s))))))

end Sys2Proof.Machine
end

