-- ==== Sys2Proof/Machine/Memory.lean ====
section
/-! DEFINITION. Memory integrity: the controllers' tables and counts, scrubbing, repairs (15), and the memory tests
(16). -/

namespace Sys2Proof.Machine
open Sys2Proof

/-! ## Controllers (R601) -/

/-- Controllers in the order HB 0 and 1, FC 0 to 11, the six gate driver dies. -/
def ctlOf (d : Die) (mem : Nat) : Option Nat :=
  match d with
  | .hb => if mem < 2 then some mem else none
  | .fc => if mem < 12 then some (2 + mem) else none
  | .gd p => if mem == 0 then some (12 + p.id) else none

/-- The die and memory number of a controller. -/
def ctlDie (c : Nat) : Die :=
  if c < 2 then .hb else if c < 14 then .fc else match GdPos.ofId? (c - 12) with | some p => .gd p | none => .fc
def ctlMem (c : Nat) : Nat := if c < 2 then c else if c < 14 then c - 2 else 0

/-- Size in bytes. -/
def ctlSize (c : Nat) : Nat :=
  match c with
  | 0 => 0x100000
  | 1 => 0x800000
  | 2 => 0x400000
  | c => if c < 11 then 0x20000 else if c < 14 then 0x40000 else 0x4000

def isMram (c : Nat) : Bool := c == 1

def memCtl (s : State) (c : Nat) : MemCtl := nth s.mem.ctl c .reset
def setCtl (c : Nat) (m : MemCtl) (s : State) : State := { s with mem := { s.mem with ctl := upd s.mem.ctl c (fun _ => m) } }

/-- Macro, row and word address of a byte address (R605). -/
def macroOf (a : Nat) : Nat := a / 65536
def rowOf (a : Nat) : Nat := a / 64 % 1024
def wordOf (a : Nat) : Nat := a / 8 * 8

/-- Every record carries die ID, memory number and byte address (R627). -/
def memParams (c a : Nat) (l : List Int) : List Int := [((ctlDie c).id : Int), (ctlMem c : Int), (a : Int)] ++ l

/-- Scrubbing of a controller begins, passes counted from 0 (R616). -/
def scrubsOn (s : State) (m : MemCtl) : MemCtl := { startPass (now s) (parN s P.memScrubPeriod) m with on := true, pass := 0 }

/-! ## The address table (R619) -/

def entryAt (m : MemCtl) (a : Nat) : Option Nat :=
  m.table.findIdx? (fun e => match e with | some e => e.addr == a | none => false)

/-- The slot of the oldest entry that satisfies `f`. -/
def oldestSlot (m : MemCtl) (f : EccEntry → Bool) : Option Nat :=
  let pick (best : Option (Nat × Nat)) (i : Nat) : Option (Nat × Nat) :=
    match nth m.table i none with
    | some e => if f e then (match best with
        | some b => if e.age < b.2 then some (i, e.age) else best
        | none => some (i, e.age)) else best
    | none => best
  ((List.range 16).foldl pick none).map Prod.fst

/-- The slot a new address takes: a free one, else the oldest correctable entry at least 4 passes old, else the oldest
correctable entry. -/
def newSlot (m : MemCtl) : Option Nat :=
  match m.table.findIdx? (fun e => e.isNone) with
  | some i => some i
  | none =>
    match oldestSlot m (fun e => e.kind == .correctable && decide (e.pass + 4 ≤ m.pass)) with
    | some i => some i
    | none => oldestSlot m (fun e => e.kind == .correctable)

/-- Enters a word; without room TABLE_OVF is set (event 0x5C0A). -/
def enter (c a syn : Nat) (k : EccKind) (s : State) : State :=
  let m := memCtl s c
  match entryAt m a with
  | some i => setCtl c { m with table := upd m.table i (fun e => e.map (fun e => { e with kind := k, syndrome := syn })) } s
  | none =>
    match newSlot m with
    | some i =>
      let e : EccEntry := ⟨a, syn, if k == .poisoned then 0 else 1, m.pass, k, false, m.entered⟩
      setCtl c { m with table := upd m.table i (fun _ => some e), entered := m.entered + 1 } s
    | none => record (ctlDie c) 0x5C0A 0 (memParams c a []) (setCtl c { m with ovf := true } s)

/-! ## Repairs (R620 to R623) -/

def spareUsed (m : MemCtl) (k : Nat) : Nat := (m.spares.filter (fun e => e.1 == k)).length

/-- Fewest free spare rows in any macro. -/
def spareMin (m : MemCtl) : Nat := (m.spares.map (fun e => 4 - spareUsed m e.1)).foldl min 4

/-- A hard fault: its row waits for migration, or no spare is left (R621, R622; event 0x5C03). MRAM has no spare rows
(R604; event 0x5C0C). -/
def hardFault (c a : Nat) (s : State) : State :=
  if isMram c then
    detect .hb 0x5C0C 1 (memParams c a []) { s with mem := { s.mem with
      mramWeak := if s.mem.mramWeak.contains a then s.mem.mramWeak else s.mem.mramWeak ++ [a] } }
  else
    let m := memCtl s c
    if m.spares.contains (macroOf a, rowOf a) || m.migrate.any (fun x => x / 64 == a / 64) then s
    else if spareUsed m (macroOf a) < 4 then setCtl c { m with migrate := m.migrate ++ [a] } s
    else detect (ctlDie c) 0x5C03 1 (memParams c a []) (degrade (setCtl c { m with noSpare := true } s))

/-- The row moves to the lowest free spare row, and the repair joins the pending list (R621; event 0x5C02). -/
def migrateRow (c a : Nat) (s : State) : State :=
  let m := memCtl s c
  let spare := spareUsed m (macroOf a)
  let fix (e : Option EccEntry) : Option EccEntry :=
    e.map (fun e => if e.addr / 64 == a / 64 then { e with repaired := true } else e)
  let s := setCtl c { m with
    migrate := m.migrate.filter (fun x => x / 64 != a / 64), spares := m.spares ++ [(macroOf a, rowOf a)]
    table := m.table.map fix } s
  record (ctlDie c) 0x5C02 0 (memParams c a [(spare : Int)]) { s with mem := { s.mem with
    pendingList := s.mem.pendingList ++ [⟨c, macroOf a, rowOf a, false⟩]
    repairs := satInc (2 ^ 32 - 1) s.mem.repairs } }

/-! ## Corrections (R608, R620) -/

/-- The write-back of a word is pending: its cycle, the next free one, is the next tick of PT (R608, log 12). -/
def backPending (s : State) (m : MemCtl) (a : Nat) : Bool := m.wb.contains (a, now s)

/-- A demand write reaches the word: a pending write-back is cancelled (R609). -/
def cancelBack (c a : Nat) (s : State) : State :=
  let m := memCtl s c
  setCtl c { m with wb := m.wb.filter (fun e => e.1 != a) } s

/-- A correction that no pending write-back covers is counted, tabled, classified and recorded at most once per
mem.record.interval; the corrected word waits for its write-back. -/
def countOne (c a syn : Nat) (s : State) : State :=
  let m := memCtl s c
  let p := m.pass
  let due := match m.lastRec with | some t => decide (t + parN s P.memRecordInterval * 1000000 ≤ now s) | none => true
  let s := setCtl c { m with
    corr := satInc 65535 m.corr, lastRec := if due then some (now s) else m.lastRec
    wb := (a, now s) :: m.wb.filter (fun e => e.2 == now s && e.1 != a) } s
  let s := { s with mem := { s.mem with corrected := satInc (2 ^ 32 - 1) s.mem.corrected } }
  let s := if due then record (ctlDie c) 0x5C01 0 (memParams c a [(syn : Int)]) s else noteClass 0 s
  let m := memCtl s c
  match entryAt m a with
  | none => enter c a syn .correctable s
  | some i =>
    match nth m.table i none with
    | some e =>
      let hard := e.kind == .correctable && decide (p < e.pass + 4)
      let e := { e with count := satInc 255 e.count, pass := p, syndrome := syn, kind := if hard then .hard else e.kind }
      let s := setCtl c { m with table := upd m.table i (fun _ => some e) } s
      if hard then hardFault c a s else s
    | none => s

/-- A correction: not counted again while the word's write-back is pending (R608, R624). -/
def correct1 (c a syn : Nat) (s : State) : State := if backPending s (memCtl s c) a then s else countOne c a syn s

/-- ECC_CORRECTION: a single-bit error met by a demand read (R608). -/
def execEccCorrection (d : Die) (mem addr syndrome : Nat) (s : State) : Host.Outcome State Fault Refusal :=
  ok (match ctlOf d mem with
      | some c => if dieDown s d || ctlSize c ≤ addr then s else correct1 c (wordOf addr) syndrome s
      | none => s)

/-! ## Uncorrectable words (R611 to R614) -/

/-- The region class of a poisoned word. -/
def poisonOf (m : MemCtl) (a : Nat) : Option Nat := (m.poisoned.find? (fun e => e.1 == a)).map Prod.snd

/-- The word is written with the poison syndrome and tabled; `k` is the class of its region (R611, R612). -/
def poison (c a k : Nat) (s : State) : State :=
  let m := memCtl s c
  let l := if (poisonOf m a).isSome then m.poisoned else m.poisoned ++ [(a, k)]
  enter c a 0xFF .poisoned (setCtl c { m with poisoned := l } s)

/-- A write of all 64 bits, or a reload, clears the poison and the entry (R612). -/
def unpoison (c a : Nat) (s : State) : State :=
  let m := memCtl s c
  let gone (e : Option EccEntry) : Option EccEntry :=
    match e with
    | some e => if e.addr == a && e.kind == .poisoned then none else some e
    | none => none
  setCtl c { m with poisoned := m.poisoned.filter (fun e => e.1 != a), table := m.table.map gone } s

/-- The 64-byte row is fetched again from its source and written whole (R614; events 0x5C06, 0x5C0D). -/
def reload (c a : Nat) (srcOk : Bool) (s : State) : State :=
  if srcOk then record (ctlDie c) 0x5C06 0 (memParams c a [])
    ((List.range 8).foldl (fun s k => unpoison c (a / 64 * 64 + 8 * k) s) s)
  else detect (ctlDie c) 0x5C0D 3 (memParams c a []) s

/-- The code of a region, its place in the table of R613 (R659). -/
def regionCode : MemRegion → Nat
  | .cpCode => 0 | .mailbox _ => 1 | .cpState _ => 2 | .hbSafety => 3 | .mram => 4 | .fcCode _ => 5 | .fcControl _ => 6
  | .fcSafety => 7 | .leTcm _ _ => 8 | .oeTcm _ _ => 9 | .smTcm _ => 10 | .gdSram => 11

/-- The CP pair restarts from its checkpoint (R26). -/
def cpRestart (s : State) : State :=
  if cpDown s then s
  else { s with
    pairs := { s.pairs with cp := { s.pairs.cp with restarting := true } }
    mbx := { s.mbx with tags := replay s.cp.ckpt s.cp.journal } }

/-- An observer is invalid until it rejoins (R200). -/
def oeInvalid (second : Bool) (s : State) : State :=
  if second then { s with obs := { s.obs with
    oe1 := { s.obs.oe1 with out := true, valid := false }, rejoin := upd s.obs.rejoin 1 (fun _ => 0) } }
  else { s with obs := { s.obs with
    oe0 := { s.obs.oe0 with out := true, valid := false }, rejoin := upd s.obs.rejoin 0 (fun _ => 0) } }

/-- A copy of the Safety Monitor is resynchronised as a minority is (R407, R613). -/
def smResync (k : Nat) (s : State) : State :=
  if 3 ≤ k || (copyOf s k).isolated || s.sm.noMajority then s
  else markResync (setCopy3 k { copyOf s k with halted := true, copying := true, since := now s }
    { s with sm := { s.sm with minority := k } })

/-- What a demand read of a lost word leads to, by region (R613). -/
def demandOutcome (c a : Nat) (r : MemRegion) (okay : Bool) (s : State) : State :=
  let d := ctlDie c
  let ps := memParams c a [(regionCode r : Int)]
  match r with
  | .cpCode => cpRestart (reload c a okay s)
  | .mailbox (some t) => answer t ⟨stBusError, 0, []⟩ s
  | .mailbox none => s
  | .cpState true => cpRestart s
  | .cpState false =>
    detect .fc 0x1104 2 [] (degrade { s with pairs := { s.pairs with cp := { s.pairs.cp with held := true, persistent := true } } })
  | .hbSafety | .fcSafety => detect d 0x5C07 3 (memParams c a []) s
  | .mram => s
  | .fcCode .pe | .fcCode .se | .fcControl .pe | .fcControl .se => detect .fc 0x5C04 2 ps s
  | .fcCode .hk => hkReset s
  | .fcCode _ => s
  | .fcControl (.le p) => leRestart p .early s
  | .fcControl (.oe k) => oeInvalid k s
  | .fcControl _ => s
  | .leTcm p .good => record .fc 0x5C08 0 (memParams c a []) (leRestart p .early (record .fc 0x1101 0 []
      (setLe p { lePair s p with stamps := stampIn 1000000000 (now s) (lePair s p).stamps } s)))
  | .leTcm p .badCode => leRestart p .early (reload c a okay s)
  | .leTcm p .badData => detect .fc 0x1102 3 [] (degrade (setLe p { lePair s p with persistent := true } s))
  | .oeTcm k code => oeInvalid k (if code then reload c a okay s else s)
  | .smTcm k => record .fc 0x5C08 0 (memParams c a []) (smResync k s)
  | .gdSram => s

/-- What the scrubber's find leads to (R613). -/
def scrubOutcome (c a : Nat) (r : MemRegion) (okay : Bool) (s : State) : State :=
  match r with
  | .cpCode | .fcCode _ | .gdSram => reload c a okay s
  | .oeTcm _ true => reload c a okay s
  | .hbSafety | .fcSafety => detect (ctlDie c) 0x5C07 3 (memParams c a []) s
  | .leTcm _ .good => record .fc 0x5C08 0 (memParams c a []) s
  | .leTcm p .badCode => leRestart p .early (reload c a okay s)
  | .leTcm p .badData => detect .fc 0x1102 3 [] (degrade (setLe p { lePair s p with persistent := true } s))
  | .smTcm k => record .fc 0x5C08 0 (memParams c a []) (smResync k s)
  | _ => s

/-- Words restored from another copy are not poisoned (R613). -/
def restored : MemRegion → Bool
  | .leTcm _ .good | .smTcm _ => true
  | _ => false

def countBad (c : Nat) (s : State) : State :=
  let m := memCtl s c
  let s := setCtl c { m with uncorr := satInc 255 m.uncorr } s
  { s with mem := { s.mem with uncorrected := satInc (2 ^ 32 - 1) s.mem.uncorrected } }

/-- A demand read of an uncorrectable or poisoned word, met by the record 0x5C04 (R611). The record of PE and SE is the
one their F2 reaction makes. -/
def demandBad (c a : Nat) (r : MemRegion) (okay : Bool) (s : State) : State :=
  let s := countBad c s
  let s := if restored r then s else poison c a (regionCode r) s
  let s := match r with
    | .fcCode .pe | .fcCode .se | .fcControl .pe | .fcControl .se => s
    | _ => record (ctlDie c) 0x5C04 0 (memParams c a [(regionCode r : Int)]) s
  demandOutcome c a r okay s

/-- ECC_UNCORRECTABLE (R611, R613). -/
def execEccUncorrectable (d : Die) (mem addr : Nat) (region : MemRegion) (reloadOk : Bool) (s : State) :
    Host.Outcome State Fault Refusal :=
  ok (match ctlOf d mem with
      | some c => if dieDown s d || ctlSize c ≤ addr then s else demandBad c (wordOf addr) region reloadOk s
      | none => s)

/-! ## The merge buffer (R606, R607) -/

/-- An entry is written: whole, or by read-modify-write. A word then found uncorrectable or poisoned is written poisoned and
the gathered bytes are lost; `bad` is the region class of a word found so now (R606, R607, R612; event 0x5C04). -/
def writeEntry (c : Nat) (e : MergeEntry) (bad : Option Nat) (s : State) : State :=
  let m := memCtl s c
  let s := cancelBack c e.addr (setCtl c { m with merge := m.merge.filter (fun x => x.addr != e.addr) } s)
  if e.mask == 255 then unpoison c e.addr s
  else match (match bad with | some k => some k | none => poisonOf m e.addr) with
    | some k =>
      poison c e.addr k (record (ctlDie c) 0x5C04 0 (memParams c e.addr [(k : Int)]) (countBad c s))
    | none => s

/-- The entries that satisfy `f` are written, oldest first. -/
def writeEntries (c : Nat) (f : MergeEntry → Bool) (s : State) : State :=
  ((memCtl s c).merge.filter f).foldl (fun s e => writeEntry c e none s) s

/-- A narrow write joins its entry, or takes one; a whole word and the oldest of nine are written (R606). -/
def mergeWrite (c a mask : Nat) (s : State) : State :=
  let m := memCtl s c
  match m.merge.find? (fun e => e.addr == a) with
  | some e =>
    let e := { e with mask := e.mask ||| mask }
    if e.mask == 255 then writeEntry c e none s
    else setCtl c { m with merge := m.merge.map (fun x => if x.addr == a then e else x) } s
  | none =>
    if mask == 255 then writeEntry c ⟨a, mask⟩ none s
    else
      let s := match m.merge with
        | e :: _ => if m.merge.length == 8 then writeEntry c e none s else s
        | [] => s
      let m := memCtl s c
      setCtl c { m with merge := m.merge ++ [⟨a, mask⟩] } s

/-- MERGE_BUFFER_FLUSH: the entry, with the bytes of a write not held yet, is written (R606, R607); `bad` is the region of a
word that its read finds uncorrectable. -/
def execMergeBufferFlush (d : Die) (mem addr mask : Nat) (bad : Option MemRegion) (s : State) :
    Host.Outcome State Fault Refusal :=
  ok (match ctlOf d mem with
      | none => s
      | some c =>
        if dieDown s d || ctlSize c ≤ addr || isMram c then s
        else
          let a := wordOf addr
          let held : Nat := match (memCtl s c).merge.find? (fun e => e.addr == a) with | some e => e.mask | none => 0
          let all := (held ||| mask) % 256
          if all == 0 then s else writeEntry c ⟨a, all⟩ (bad.map regionCode) s)

/-- CP_CHECKPOINT: every 10 ms, with the in-flight command table; the journal begins anew (R26), and the merge buffer of HB
SRAM is written (R606). -/
def execCpCheckpoint (s : State) : Host.Outcome State Fault Refusal :=
  ok (if cpDown s || s.pairs.cp.restarting then s
      else
        let s := writeEntries 0 (fun _ => true) s
        { s with cp := { s.cp with ckpt := s.mbx.tags, journal := [] } })

/-! ## Scrubbing (R616 to R618) -/

/-- A word is within a range that SCRUB_RANGE scrubs. -/
def inScrub (s : State) (c a : Nat) : Bool := s.mem.scrubs.any (fun j => j.ctl == c && decide (j.pos ≤ a) && decide (a < j.stop))

/-- Words of a memory. -/
def ctlWords (c : Nat) : Nat := ctlSize c / 8

/-- A pass runs (R616, R617). -/
def passRuns (s : State) (c : Nat) : Bool := (memCtl s c).on && parOn s P.memScrubEnable

/-- The address is the next word of the pass, whose reads are paced evenly over the period and go up the memory (R616). -/
def passDue (s : State) (c a : Nat) : Bool :=
  let m := memCtl s c
  passRuns s c && a == 8 * m.pos && decide (m.passAt * ctlWords c + m.pos * (m.period * 1000000000) ≤ now s * ctlWords c)

/-- The word is read; after the last one the next pass begins when the period has passed, or at once (R616). -/
def passOn (c : Nat) (s : State) : State :=
  let m := memCtl s c
  if m.pos + 1 < ctlWords c then setCtl c { m with pos := m.pos + 1 } s
  else
    let t := max (m.passAt + m.period * 1000000000) (now s)
    setCtl c { startPass t (parN s P.memScrubPeriod) m with pass := m.pass + 1 } s

/-- What a scrub read finds (R608, R612, R613): a poisoned word is not counted again. -/
def scrubFound (c a : Nat) (w : WordRead) (s : State) : State :=
  match w with
  | .good => s
  | .single syn => correct1 c a syn s
  | .bad r okay =>
    if (poisonOf (memCtl s c) a).isSome then s
    else
      let s := countBad c s
      let s := if restored r then s
        else detect (ctlDie c) 0x5C05 (if r == .mram then 1 else 0) (memParams c a [(regionCode r : Int)])
          (poison c a (regionCode r) s)
      scrubOutcome c a r okay s

/-- SCRUB_READ: a pass or a SCRUB_RANGE reads a word; an entry of the merge buffer is written first (R606, R616). -/
def execScrubRead (d : Die) (mem addr : Nat) (w : WordRead) (s : State) : Host.Outcome State Fault Refusal :=
  ok (match ctlOf d mem with
      | none => s
      | some c =>
        let a := wordOf addr
        if dieDown s d || ctlSize c ≤ addr || !(passDue s c a || inScrub s c a) then s
        else
          let s' := scrubFound c a w (writeEntries c (fun e => e.addr == a) s)
          if passDue s c a then passOn c s' else s')

/-- SCRUB_PASS_LATE: a pass not finished within 1.25 × its period; the next one starts at once (R616; event 0x5C09). -/
def execScrubPassLate (d : Die) (mem : Nat) (s : State) : Host.Outcome State Fault Refusal :=
  ok (match ctlOf d mem with
      | none => s
      | some c =>
        let m := memCtl s c
        if passRuns s c && decide (m.passAt + m.period * 1250000000 ≤ now s) && !dieDown s d then
          detect d 0x5C09 1 (memParams c 0 [(m.pass : Int)])
            (setCtl c { startPass (now s) (parN s P.memScrubPeriod) m with late := true, pass := m.pass + 1 } s)
        else s)

/-- The engine whose TCM this is has an idle window: an LE or OE engine until 300 ns before the next t0, no restart under way, the
Safety Monitor in the window of R399 (R621, R646). -/
def engineIdle (s : State) (c : Nat) : Bool :=
  let early := decide ((ptNow s : Int) * 1000 + 300000 ≤ (s.sense.stamp : Int) * 1000 + tsPs s)
  if c == 3 || c == 4 then early && !s.pairs.le01.restarting
  else if c == 5 || c == 6 then early && !s.pairs.le23.restarting
  else if c == 7 || c == 8 then early && !s.pairs.le45.restarting
  else if c == 9 || c == 10 then early
  else if 11 ≤ c && c < 14 then idleWindow 0 s
  else true

/-- ROW_MIGRATION: a waiting row moves to a spare row, in a TCM in an idle window of its engine (R621). -/
def execRowMigration (d : Die) (mem addr : Nat) (s : State) : Host.Outcome State Fault Refusal :=
  ok (match ctlOf d mem with
      | none => s
      | some c =>
        let m := memCtl s c
        if dieDown s d || !m.migrate.any (fun x => x / 64 == addr / 64) || !engineIdle s c then s
        else if spareUsed m (macroOf addr) < 4 then
          migrateRow c (wordOf addr) (writeEntries c (fun e => e.addr / 64 == addr / 64) s)
        else
          detect d 0x5C03 1 (memParams c addr []) (degrade (setCtl c { m with
            noSpare := true, migrate := m.migrate.filter (fun x => x / 64 != addr / 64) } s)))

/-- A latch that differs is reloaded with its SRAM from FC's copy (R615; events 0x5C0B, 0x5C0D). -/
def latchDiffers (p : GdPos) (reloadOk : Bool) (s : State) (latch : Nat) : State :=
  let s := detect (.gd p) 0x5C0B 1 (memParams (12 + p.id) 0 [(latch : Int)]) s
  if reloadOk then s else detect (.gd p) 0x5C0D 3 (memParams (12 + p.id) 0 []) s

/-- GD_LATCH_CHECK: once per pass a die compares every latch with its SRAM; `latches` are those that differ (R615). -/
def execGdLatchCheck (p : GdPos) (latches : List Nat) (reloadOk : Bool) (s : State) : Host.Outcome State Fault Refusal :=
  ok (let c := 12 + p.id
      let m := memCtl s c
      if dieDown s (.gd p) || !passRuns s c || m.latched then s
      else latches.foldl (latchDiffers p reloadOk) (setCtl c { m with latched := true } s))

/-- The controller a SCRUB_RANGE or MEM_TEST payload names. -/
def ctlNamed (p : List Byte) : Option Nat :=
  match dieOfId (nth p 0 0).toNat with
  | some d => ctlOf d (nth p 1 0).toNat
  | none => none

/-- SCRUB_RANGE (R552, R618). -/
def execScrubRange (tag : Nat) (s : State) : Host.Outcome State Fault Refusal :=
  ok (longStep tag 0x78 (fun s =>
    let p := payload s tag
    let start := beNat ((p.drop 2).take 4)
    let len := beNat ((p.drop 6).take 4)
    match ctlNamed p with
    | none => .inr (no stBadIndex s)
    | some c =>
      if len == 0 then .inr (yes s)
      else if ctlSize c < start + len then .inr (no stRange s)
      else .inl { s with mem := { s.mem with
        scrubs := s.mem.scrubs ++ [⟨tag, c, wordOf start, wordOf (start + len + 7)⟩] } }) s)

/-- A step of SCRUB_RANGE covers at most 64 KiB; a completion counts as a pass where no pass runs (R617, R618). -/
def scrubStep (i : Nat) (s : State) : State :=
  match s.mem.scrubs.find? (fun j => j.tag == i) with
  | none => s
  | some j =>
    if j.pos + 65536 < j.stop then
      { s with mem := { s.mem with scrubs := s.mem.scrubs.map (fun x => if x.tag == i then { x with pos := x.pos + 65536 } else x) } }
    else
      let s := { s with mem := { s.mem with scrubs := s.mem.scrubs.filter (fun x => x.tag != i) } }
      let m := memCtl s j.ctl
      finishSt i stOk (if parOn s P.memScrubEnable then s else setCtl j.ctl { m with pass := m.pass + 1 } s)

/-! ## Memory tests (R645 to R649) -/

/-- Blocks of 32 words. -/
def ctlBlocks (c : Nat) : Nat := ctlSize c / 256

/-- MEM_TEST (R646): refused while another test runs, for FC shared SRAM while switching, and for a die that is down. -/
def execMemTest (tag : Nat) (s : State) : Host.Outcome State Fault Refusal :=
  ok (longStep tag 0x79 (fun s =>
    match ctlNamed (payload s tag) with
    | none => .inr (no stBadIndex s)
    | some c =>
      if !([OpState.standby, .ready, .safeHold, .run].contains s.op.state) then .inr (no stState s)
      else if s.bist.job.isSome || (c == 2 && s.op.state == .run) then .inr (no stBusy s)
      else if dieDown s (ctlDie c) then .inr (no stFault s)
      else .inl { s with bist := { s.bist with job := some ⟨some tag, c, 0, 0, none, false, false, none, none⟩, memFail := false, records := [] } }) s)

/-- PERIODIC_MEMORY_TEST: every bist.mem.period the next LE, OE or SM TCM; deferred while a test runs (R646, R652). -/
def execPeriodicMemoryTest (s : State) : Host.Outcome State Fault Refusal :=
  ok (if parN s P.bistMemPeriod == 0 || now s < s.bist.memAt + parN s P.bistMemPeriod * 1000000000 ||
          s.bist.job.isSome || s.supply.fcLock then s
      else { s with bist := { s.bist with
        job := some ⟨none, 3 + s.bist.due % 11, 0, 0, none, false, false, none, none⟩, memFail := false, records := []
        memAt := now s
        due := (s.bist.due + 1) % 11 } })

/-- The record of a failing cell (R648). -/
def cellRecord (c a bit flags : Nat) : List Nat :=
  [(ctlDie c).id, ctlMem c, macroOf a / 256, macroOf a % 256, rowOf a / 256, rowOf a % 256, bit, flags]

/-- The controllers whose memories are tested at once: both TCMs of an LE pair, the three copies of the Safety Monitor
(R646). -/
def testCtls (c : Nat) : List Nat :=
  if 3 ≤ c && c < 9 then [3 + (c - 3) / 2 * 2, 4 + (c - 3) / 2 * 2] else if 11 ≤ c && c < 14 then [11, 12, 13] else [c]

/-- A block may run now (R646): once per update in a TCM, for an LE pair until 300 ns before the next t0, for the Safety
Monitor in an idle window that holds no other duty; FC shared SRAM not while switching. -/
def blockWindow (s : State) (j : MemJob) : Bool :=
  let c := j.ctl
  let fresh := j.slot != some s.sense.seq
  if 3 ≤ c && c < 9 then fresh && engineIdle s c
  else if c < 11 && 9 ≤ c then fresh
  else if 11 ≤ c && c < 14 then
    fresh && engineIdle s c && !hashDue s && !testDue s && s.sm.busySeq != some s.sense.seq
  else if c == 2 then s.op.state != .run && s.op.state != .stopping
  else true

/-- A failing cell met at run time, of one of the memories tested at once: its row takes a spare row, or stays unrepairable
(R647, R648). An MRAM word waits for its retest at shutdown (R650, log 37). -/
def cellRepair (job : Nat) (s : State) (x : Nat × Nat × Nat) : State :=
  let c := nth (testCtls job) x.1 job
  let f := x.2
  let a := wordOf f.1
  let m := memCtl s c
  let held := m.spares.contains (macroOf a, rowOf a)
  let can := !isMram c && decide (spareUsed m (macroOf a) < 4)
  let s := if held || !can then s else migrateRow c a s
  let s := if !held && can && spareUsed (memCtl s c) (macroOf a) == 4 then degrade s else s
  let fixed := held || can
  let rec_ := cellRecord c a f.2 (8 + (if fixed then 1 else 4))
  let s := if isMram c && !s.mem.mramWeak.contains a then { s with mem := { s.mem with mramWeak := s.mem.mramWeak ++ [a] } } else s
  { s with bist := { s.bist with
      records := if s.bist.records.length < 64 then s.bist.records ++ [rec_] else s.bist.records, memFail := true
      job := s.bist.job.map (fun j => { j with
        failing := satInc 65535 j.failing, unrep := j.unrep || !fixed
        first := match j.first with | some x => some x | none => some (a, f.2) }) } }

/-- The result of a memory test (R649). -/
def memResult (j : MemJob) : List Byte :=
  let st : Nat := if j.cancel then 3 else if j.unrep then 2 else if j.failing == 0 then 0 else 1
  beBytes 1 st ++ beBytes 1 (match j.first with | some x => x.2 | none => 255) ++ beBytes 2 j.failing ++
    beBytes 4 (match j.first with | some x => x.1 | none => 0)

/-- The failing cells of a block are repaired and the job moves on (R645, R647). -/
def testBlock (j : MemJob) (cells : List (Nat × Nat × Nat)) (s : State) : State :=
  cells.foldl (cellRepair j.ctl)
    { s with bist := { s.bist with job := some { j with blocks := j.blocks + 1, slot := some s.sense.seq, unrep := false } } }

/-- What the block found is recorded (R647, R649; events 0x5F12, 0x5F13). -/
def blockVerdict (job : Nat) (cells : List (Nat × Nat × Nat)) (s : State) : State :=
  match cells with
  | [] => s
  | x :: _ =>
    let c := nth (testCtls job) x.1 job
    let f := x.2
    let id : Int := (ctlDie c).id
    if (match s.bist.job with | some x => x.unrep | none => false) then
      detect .fc 0x5F13 3 [id, (ctlMem c : Int), (f.1 : Int)] { s with op := { s.op with ackBarred := true } }
    else detect .fc 0x5F12 1 [id, (ctlMem c : Int), (cells.length : Int)] s

/-- The job ends: event 0x5F11 when nothing failed, the answer of MEM_TEST, then that of a CANCEL that waited (R523,
R646, R649). -/
def jobEnd (j : MemJob) (s : State) : State :=
  let s := { s with bist := { s.bist with job := none } }
  let s := if j.failing == 0 && !j.cancel
    then record .fc 0x5F11 0 [((ctlDie j.ctl).id : Int), (ctlMem j.ctl : Int)] s else s
  let s := match j.tag with
    | some t => answer t ⟨if j.cancel then stCancelled else stOk, 0, memResult j⟩ s
    | none => s
  match j.canceller with
  | some t => answerOk t s
  | none => s

/-- A job that has met an unrepairable cell keeps that (R649). -/
def keepUnrep (before : Bool) (s : State) : State :=
  { s with bist := { s.bist with job := s.bist.job.map (fun j => { j with unrep := before || j.unrep }) } }

/-- The job goes on while blocks remain and nothing cancels it. -/
def jobGoes (s : State) : State :=
  match s.bist.job with
  | none => s
  | some j => if j.blocks < ctlBlocks j.ctl && !j.cancel then s else jobEnd j s

/-- MEMORY_TEST_BLOCK: a block is tested and restored; its failures, by memory, byte address and bit, are repaired (R645 to
R647, R651; events 0x5F11 to 0x5F13). `bad`: an uncorrectable word met while the block is saved, which is then not tested
(R652). The last block, or a cancellation, ends the test. -/
def execMemoryTestBlock (fails : List (Nat × Nat × Nat)) (bad : Option (Nat × MemRegion × Bool)) (s : State) :
    Host.Outcome State Fault Refusal :=
  ok (match s.bist.job with
      | none => s
      | some j =>
        if dieDown s (ctlDie j.ctl) || !blockWindow s j then s
        else match bad with
          | some (a, r, okay) =>
            jobGoes (keepUnrep j.unrep (testBlock j [] (scrubFound j.ctl (j.blocks * 256 + a % 256 / 8 * 8) (.bad r okay) s)))
          | none =>
            let inside := fails.filter (fun f => decide (f.1 < (testCtls j.ctl).length) && f.2.1 / 256 == j.blocks &&
              decide (f.2.2 < 72))
            jobGoes (keepUnrep j.unrep (blockVerdict j.ctl inside (testBlock j inside s))))

end Sys2Proof.Machine
end

