-- ==== Sys2Proof/Machine/Flags.lean ====
section
/-! DEFINITION. Outputs and flags computed from the state: READY, FAULT and HOST_nIRQ. -/

namespace Sys2Proof.Machine
open Sys2Proof

/-- HB has a trained link to FC (R462). -/
def hbLinked (s : State) : Bool := s.saf.fcLoss.isNone && s.jx.hb.lanes.any laneUp

/-- READY (R462, R463, R472). -/
def readyOut (s : State) : Bool :=
  !s.supply.hbLock && hbLinked s && (match s.op.state with
    | .ready | .run | .stopping => true
    | _ => false)

/-- FAULT (R462, R463, R472): MAX_CLASS holds 3 for F2. Without its link HB asserts it, so it is asserted from reset. -/
def faultOut (s : State) : Bool :=
  s.op.state == .safeHold || s.op.faultHold || decide (3 ≤ s.op.maxClass) || !hbLinked s || s.supply.hbLock

/-- HOST_nIRQ is asserted (R519). -/
def irqOut (s : State) : Bool := s.mbx.irq &&& s.mbx.irqEn != 0

end Sys2Proof.Machine
end

