-- ==== Sys2Proof/Machine/Operands.lean ====
section
/-! DEFINITION. Operands that commands carry in their payload: CAN frames and their limits (R555, R578). -/

namespace Sys2Proof.Machine
open Sys2Proof

/-- A CAN_TX payload (R552, R555). -/
structure TxOp where
  chan : Nat
  fmt : Nat
  len : Nat
  ident : Nat
  xl : List Byte
  data : List Byte
  deriving DecidableEq, Repr

def txOp (p : List Byte) : TxOp :=
  { chan := beNat (p.take 1), fmt := beNat ((p.drop 1).take 1), len := beNat ((p.drop 2).take 2)
    ident := beNat ((p.drop 4).take 4), xl := (p.drop 8).take 8, data := p.drop 16 }

def TxOp.kind (t : TxOp) : Nat := t.fmt % 4
def TxOp.brs (t : TxOp) : Bool := bitOf t.fmt 4
def TxOp.oneShot (t : TxOp) : Bool := bitOf t.fmt 5
def TxOp.buf (t : TxOp) : Bool := bitOf t.fmt 6

/-- Data lengths by kind (R578). -/
def canLenOk (kind n : Nat) : Bool :=
  match kind with
  | 0 => decide (n ≤ 8)
  | 1 => decide (n ≤ 8) || [12, 16, 20, 24, 32, 48, 64].contains n
  | 2 => decide (1 ≤ n) && decide (n ≤ 2048)
  | _ => false

/-- The payload checks of CAN_TX (R578); `loaded` is the data loaded into the staging buffer. -/
def TxOp.inRange (t : TxOp) (loaded : Nat) : Bool :=
  decide (t.chan < 2) && t.kind != 3 && !bitOf t.fmt 2 && !bitOf t.fmt 3 && !bitOf t.fmt 7 && canLenOk t.kind t.len
  && !(decide (0x7FF < t.ident % 2 ^ 29) && !bitOf t.ident 31) && t.ident / 2 ^ 29 % 4 == 0
  && !(bitOf t.ident 31 && t.kind == 2) && !(t.brs && t.kind != 1)
  && (if t.kind == 2 then decide ((nth t.xl 1 0).toNat ≤ 1) && (nth t.xl 3 0) == 0 else t.xl.all (· == 0))
  && (if t.buf then decide (t.len ≤ loaded) else decide (t.len ≤ 992))

/-- The identifier word of R571. -/
def filterWord (f : CanFrame) : Nat := f.word % 2 ^ 29 + (if bitOf f.word 31 then 2 ^ 31 else 0) + (if f.kind == 2 then 2 ^ 30 else 0)

/-- The data of a record or of CAN_TX; for CAN XL it begins with the XL bytes (R576). -/
def recData (f : CanFrame) : List Byte := if f.kind == 2 then f.xl ++ f.data else f.data

/-- One candidate of CAN_RATE_DETECT (R569): brp, tseg1, tseg2. -/
def candTiming (sp rate : Nat) : Option (Nat × Nat × Nat) :=
  if rate < 10000 || 1000000 < rate then none
  else
    let fits (b : Nat) : Bool :=
      80000000 % (b * rate) == 0 && decide (8 ≤ 80000000 / (b * rate)) && decide (80000000 / (b * rate) ≤ 385)
    match ((List.range 256).map (· + 1)).find? fits with
    | none => none
    | some b =>
      let n := 80000000 / (b * rate)
      let t2 := (divRound ((n * (1000 - sp) : Nat) : Int) 1000).toNat
      some (b, n - 1 - t2, t2)

/-- The candidate rates of a CAN_RATE_DETECT payload. -/
def ratesOf : List Byte → List Nat
  | a :: b :: c :: d :: r => beNat [a, b, c, d] :: ratesOf r
  | _ => []

/-- Filter entries of a CAN_FILTER_LOAD payload. -/
def filterEntries : List Byte → List (Nat × Nat)
  | a :: b :: c :: d :: e :: f :: g :: h :: r => (beNat [a, b, c, d], beNat [e, f, g, h]) :: filterEntries r
  | _ => []

end Sys2Proof.Machine
end

