-- ==== Sys2Proof/Machine/Can.lean ====
section
/-! DEFINITION. The CAN channels and network time (14), and the safe status message (R473, R476, R588). -/

namespace Sys2Proof.Machine
open Sys2Proof

def chan (s : State) (c : Ch) : CanCh := s.can.get c
def setCh (c : Ch) (x : CanCh) (s : State) : State := { s with can := s.can.set c x }
def chOf (n : Nat) : Ch := if n == 0 then .a else .b

/-- Subindex of a channel. -/
def chSub (c : Ch) : Nat := c.idx + 1

/-! ## Timing (R563, R564) -/

/-- CANCLK cycles of a nominal, FD data and XL data bit. -/
def nomTq (s : State) (i : Nat) : Nat := 1 + parN s (P.canNomTseg1 i) + parN s (P.canNomTseg2 i)
def nomBit (s : State) (i : Nat) : Nat := parN s (P.canNomBrp i) * nomTq s i
def fdBit (s : State) (i : Nat) : Nat := parN s (P.canFdBrp i) * (1 + parN s (P.canFdTseg1 i) + parN s (P.canFdTseg2 i))
def xlBit (s : State) (i : Nat) : Nat := parN s (P.canXlBrp i) * (1 + parN s (P.canXlTseg1 i) + parN s (P.canXlTseg2 i))

/-- The cases of R564 by the index they are filed under, ascending (log 28). -/
def timingChecks (s : State) (i : Nat) : List (Nat × Bool) :=
  let nom := nomBit s i
  let tq := nomTq s i
  [(0x5804, decide (8000 < nom) || decide (nom < 80) || decide (tq < 8) || decide (385 < tq)),
   (0x5807, decide (parN s (P.canNomTseg2 i) < parN s (P.canNomSjw i))),
   (0x5808, parOn s (P.canNomTriple i) && (decide (nom < 640) || decide (parN s (P.canNomTseg1 i) < 3))),
   (0x5810, decide (nom < fdBit s i) || decide (fdBit s i < 10)),
   (0x5813, decide (parN s (P.canFdTseg2 i) < parN s (P.canFdSjw i))),
   (0x5818, decide (nom < xlBit s i) || decide (xlBit s i < 4)),
   (0x581B, decide (parN s (P.canXlTseg2 i) < parN s (P.canXlSjw i))),
   (0x581F, parOn s (P.canXlTms i) && parOn s (P.canXlErrsig i)),
   (0x5820, parOn s (P.canXlTms i) && (parN s (P.canXlPwms i) + parN s (P.canXlPwml i) != xlBit s i ||
      decide (parN s (P.canXlPwms i) < parN s (P.canXlPwmo i))))]

def timingFault (s : State) (i : Nat) : Option Nat := ((timingChecks s i).find? (fun e => e.2)).map Prod.fst

/-- The nominal rate in bit/s, rounded (R659). -/
def nomRate (s : State) (i : Nat) : Int := divRound 80000000 (nomBit s i)

/-! ## Error counters (R583) -/

def passive (x : CanCh) : Bool := decide (128 ≤ x.tec) || decide (128 ≤ x.rec_)

/-- New counters, with the events of entering and leaving error passive (0x5811, 0x5813). -/
def setCounters (c : Ch) (tec rec_ : Nat) (s : State) : State :=
  let x := chan s c
  let y := { x with tec := tec, rec_ := rec_ }
  let s := setCh c y s
  if !passive x && passive y then detect .hb 0x5811 1 [(c.idx : Int), (tec : Int), (rec_ : Int)] s
  else if passive x && !passive y then detect .hb 0x5813 0 [(c.idx : Int)] s
  else s

/-- A frame received without error lowers REC; above 127 it falls to a value from 119 to 127 that ISO 11898-1 leaves
open (R583, log 2). -/
def recDown (c : Ch) (s : State) : State :=
  let x := chan s c
  if x.rec_ == 0 then s
  else if x.rec_ ≤ 127 then setCounters c x.tec (x.rec_ - 1) s
  else
    let f := takeFree s
    setCounters c x.tec (119 + f.1 % 9) f.2

/-! ## Joining (R567, R568, R587) -/

/-- The channel is ON (event 0x5802). -/
def nowOn (c : Ch) (s : State) : State :=
  let x := chan s c
  let s := setCh c { x with mode := .on, onTag := none } s
  let s := record .hb 0x5802 0 [(c.idx : Int), nomRate s (chSub c)] s
  match x.onTag with | some t => answerOk t s | none => s

/-- A join from OFF or LISTEN, or a recovery from BUS_OFF. -/
def beginJoin (c : Ch) (tag : Option Nat) (s : State) : State :=
  let x := chan s c
  setCh c { x with
    mode := if x.mode == .busOff then .recovering else .joining
    joinAt := match tag with | some t => (Machine.tag s t).at_ | none => now s
    prev := x.mode, idle := 0, onTag := tag, clkStop := false, triple := parOn s (P.canNomTriple (chSub c)) } s

/-- CAN_BUS_ON (R564, R568, R587, R595). Channels above 1 end ST_RANGE (log 29). -/
def execCanBusOn (tag : Nat) (s : State) : Host.Outcome State Fault Refusal :=
  ok (longStep tag 0x83 (fun s =>
    let n := (nth (payload s tag) 0 0).toNat
    let c := chOf n
    let x := chan s c
    let i := chSub c
    if 2 ≤ n then .inr (no stRange s)
    else if !(x.mode == .off || x.mode == .listen || x.mode == .busOff) then .inr (no stState s)
    else if s.clk.hclkRc then .inr (noD stFault 0x1201 s)
    else match timingFault s i with
      | some idx => .inr (noD stFault 0x5801 (record .hb 0x5801 0 [(c.idx : Int), (idx : Int)] s))
      | none =>
        if x.mode != .busOff && parN s (P.canChMode i) == 1 then
          .inr (yes (setCh c { x with mode := .listen, clkStop := false, triple := parOn s (P.canNomTriple i) } s))
        else .inl (beginJoin c (some tag) s)) s)

/-- The start-up join of R567. -/
def startupJoin (c : Ch) (s : State) : State :=
  let i := chSub c
  if !(parOn s (P.canChAutoOn i) || parOn s P.safetyCmsgEnable) || s.clk.hclkRc || (chan s c).mode != .off then s
  else match timingFault s i with
    | some idx => record .hb 0x5801 0 [(c.idx : Int), (idx : Int)] s
    | none =>
      if parN s (P.canChMode i) == 1 then setCh c { chan s c with mode := .listen, triple := parOn s (P.canNomTriple i) } s
      else beginJoin c none s

/-- CAN_RECESSIVE_IDLE: 11 recessive bits end JOINING and count in RECOVERING (R568, R587). -/
def execCanRecessiveIdle (c : Ch) (s : State) : Host.Outcome State Fault Refusal :=
  ok (let x := chan s c
      if s.supply.hbLock then s
      else match x.mode with
        | .joining => nowOn c s
        | .recovering => setCh c { x with idle := satInc 128 x.idle } s
        | _ => s)

/-- CAN_RECOVERY_DONE (R587): after 128 occurrences of 11 recessive bits both counters are 0 and the channel is ON. -/
def execCanRecoveryDone (c : Ch) (s : State) : Host.Outcome State Fault Refusal :=
  ok (if (chan s c).mode == .recovering && (chan s c).idle == 128 && !s.supply.hbLock then
        nowOn c (setCh c { chan s c with tec := 0, rec_ := 0, idle := 0 } s)
      else s)

/-- CAN_ON_TIMEOUT: can.on.timeout after admission (R568; event 0x5803 with rate 0). -/
def execCanOnTimeout (c : Ch) (s : State) : Host.Outcome State Fault Refusal :=
  ok (let x := chan s c
      let lim := parN s (P.canOnTimeout (chSub c))
      if lim != 0 && (x.mode == .joining || x.mode == .recovering) && decide (x.joinAt + lim * 1000000 ≤ now s) &&
          !s.supply.hbLock then
        let s := record .hb 0x5803 0 [(c.idx : Int), 0] (setCh c { x with mode := x.prev, onTag := none } s)
        match x.onTag with | some t => answer t ⟨stFault, 0x5803, []⟩ s | none => s
      else s)

/-! ## Rate detection (R569) -/

/-- CAN_RATE_DETECT. A channel in BUS_OFF, which only CAN_BUS_ON leaves, and one in DETECT end ST_BUSY (log 29). -/
def execCanRateDetect (tag : Nat) (s : State) : Host.Outcome State Fault Refusal :=
  ok (longStep tag 0x84 (fun s =>
    let p := payload s tag
    let n := (nth p 0 0).toNat
    let c := chOf n
    let x := chan s c
    let rates := ratesOf (p.drop 4)
    let sp := parN s (P.canNomSp (chSub c))
    if 2 ≤ n || rates.any (fun r => (candTiming sp r).isNone) then .inr (no stRange s)
    else if !(x.mode == .off || x.mode == .listen) then .inr (no stBusy s)
    else .inl (setCh c { x with mode := .detect, prev := x.mode, det := some ⟨tag, rates, 0, 0, 0, now s⟩ } s)) s)

/-- The candidate fails: the next one, the next pass, or the end of the detection (event 0x5804). -/
def candFails (c : Ch) (d : CanDet) (s : State) : State :=
  let x := chan s c
  if d.idx + 1 < d.rates.length then setCh c { x with det := some { d with idx := d.idx + 1, hits := 0, since := now s } } s
  else if d.pass + 1 < parN s P.canDetPasses then
    setCh c { x with det := some { d with idx := 0, pass := d.pass + 1, hits := 0, since := now s } } s
  else
    let s := detect .hb 0x5804 1 [(c.idx : Int)] (setCh c { x with mode := .listen, det := none } s)
    answer d.tag ⟨stFault, 0x5804, []⟩ s

/-- A frame counts; the fourth one passes the candidate (event 0x5803). -/
def candHit (c : Ch) (d : CanDet) (s : State) : State :=
  let x := chan s c
  if d.hits < 3 then setCh c { x with det := some { d with hits := d.hits + 1 } } s
  else
    let i := chSub c
    let rate := nth d.rates d.idx 0
    match candTiming (parN s (P.canNomSp i)) rate with
    | none => s
    | some (b, t1, t2) =>
      let s := setPar (P.canNomSjw i) t2 (setPar (P.canNomTseg2 i) t2 (setPar (P.canNomTseg1 i) t1 (setPar (P.canNomBrp i) b s)))
      let s := record .hb 0x5803 0 [(c.idx : Int), (rate : Int)] (setCh c { x with mode := .listen, det := none } s)
      answer d.tag ⟨0, 0, beBytes 4 rate⟩ s

/-- CAN_DETECT_WINDOW_END: can.det.window after the candidate's start (R569). -/
def execCanDetectWindowEnd (c : Ch) (s : State) : Host.Outcome State Fault Refusal :=
  ok (match (chan s c).det with
      | some d =>
        if s.supply.hbLock || now s < d.since + parN s P.canDetWindow * 1000000 then s else candFails c d s
      | none => s)

/-- An error flag is counted and its kind kept, with event 0x5814 at most once in 10 ms (R584). -/
def countFlag (c : Ch) (kind : Nat) (s : State) : State :=
  let x := chan s c
  let due := match x.errStamp with | some t => decide (t + 10000000 ≤ now s) | none => true
  let n := satInc 65535 x.errFrames
  let s := setCh c { x with
    errFrames := n, lastErr := kind % 8, errStamp := if due then some (now s) else x.errStamp } s
  if due then record .hb 0x5814 0 [(c.idx : Int), (n : Int), ((kind % 8 : Nat) : Int)] s else noteClass 0 s

/-- CAN_ERROR_FLAG: the flag is counted (R584); a receiver's error raises REC (R583). In DETECT the candidate fails
(R569). -/
def execCanErrorFlag (c : Ch) (kind : Nat) (asTx : Bool) (s : State) : Host.Outcome State Fault Refusal :=
  ok (let x := chan s c
      if s.supply.hbLock || !(x.mode == .on || x.mode == .listen || x.mode == .detect) then s
      else
        let s := countFlag c kind s
        let x := chan s c
        match x.mode with
        | .on => if asTx then s else setCounters c x.tec (x.rec_ + 1) s
        | .detect => (match x.det with | some d => candFails c d s | none => s)
        | _ => s)

/-! ## Receiving (R570 to R576) -/

/-- A reference message (R589). -/
def isRef (s : State) (f : CanFrame) : Bool :=
  f.kind == 0 && decide (f.word < 2 ^ 11) && f.data.length == 8 && !f.rtr && f.word / 8 == parN s P.canTtRefId / 8

/-- A safe message frame (R574). -/
def isSafe (s : State) (f : CanFrame) : Bool :=
  f.kind == 1 && f.data.length == 16 && filterWord f == parN s P.canSafeRxIdent

/-- A frame is lost to a full FIFO (R575; event 0x5831). -/
def fifoLost (c : Ch) (s : State) : State :=
  let x := chan s c
  let n := satInc 65535 x.ovCount
  let s := setCh c { x with overflow := true, ovCount := n, ovRecorded := true } s
  if x.ovRecorded then s else detect .hb 0x5831 1 [(c.idx : Int), (n : Int)] s

/-- CAN_FRAME_RECEIVED: the frame takes a slot, a safe message its safe buffer as well (R570, R574, R575). The safe
buffer keeps the two newest frames (log 30). In DETECT the frame counts for its candidate (R569). -/
def execCanFrameReceived (c : Ch) (f : CanFrame) (s : State) : Host.Outcome State Fault Refusal :=
  ok (let x := chan s c
      if s.supply.hbLock then s
      else match x.mode with
        | .detect => (match x.det with | some d => candHit c d s | none => s)
        | .on | .listen =>
          let safe := isSafe s f
          let buf := x.safe ++ [f]
          let s := if safe then setCh c { x with safe := buf.drop (buf.length - 2) } s else s
          let x := chan s c
          let s := if x.fifo.length < 64 then
              setCh c { x with fifo := x.fifo ++ [⟨f, false, safe, isRef s f, 0⟩] } s
            else fifoLost c s
          if (chan s c).mode == .on then recDown c s else s
        | _ => s)

/-- The acceptance of R571. -/
def accepted (s : State) (c : Ch) (f : CanFrame) : Bool :=
  let w := filterWord f
  (chan s c).filt.any (fun e => (w ^^^ e.1) &&& e.2 == 0) || parN s (P.canFiltDefault (chSub c)) == 1

/-- CAN_FRAME_FILTERING: the oldest frame not yet filtered is kept or dropped; a safe message leaves the safe buffer for
the Safety Monitor (R571, R573, R574). -/
def execCanFrameFiltering (c : Ch) (s : State) : Host.Outcome State Fault Refusal :=
  ok (let x := chan s c
      if cpDown s || s.pairs.cp.restarting || s.supply.hbLock then s
      else match x.fifo.findIdx? (fun e => !e.filtered) with
        | none => setCh c { x with safe := x.safe.drop 1 } s
        | some k =>
          match x.fifo[k]? with
          | none => s
          | some e =>
            let fifo := if accepted s c e.frame then upd x.fifo k (fun e => { e with filtered := true }) else x.fifo.eraseIdx k
            setCh c { x with fifo := fifo, safe := if x.safe.head? == some e.frame then x.safe.drop 1 else x.safe } s)

/-- CAN_FILTER_LOAD (R571, R572). -/
def execCanFilterLoad (tag : Nat) (s : State) : Host.Outcome State Fault Refusal :=
  ok (oneStep tag 0x82 (fun s =>
    let p := payload s tag
    let n := (nth p 0 0).toNat
    let c := chOf n
    let x := chan s c
    let first := beNat ((p.drop 2).take 2)
    let es := filterEntries (p.drop 4)
    if 2 ≤ n || (nth p 1 0) != 0 || x.filt.length < first || 512 < first + es.length ||
        es.any (fun e => bitOf e.1 29 || bitOf e.2 29) then no stRange s
    else yes (setCh c { x with filt := x.filt.take first ++ es ++ x.filt.drop (first + es.length) } s)) s)

/-- The format byte and flags of a record (R576). -/
def fmtByte (f : CanFrame) : Nat := f.kind + 16 * bit1 f.brs
def recFlags (e : CanRx) : Nat :=
  bit1 (e.read != 0) + 2 * bit1 e.frame.brs + 4 * bit1 e.frame.esi + 8 * bit1 e.safe + 16 * bit1 e.ref + 32 * bit1 e.frame.rtr

def padded (l : List Byte) : List Byte := l ++ List.replicate ((4 - l.length % 4) % 4) 0

def recHeader (e : CanRx) : List Byte :=
  beBytes 8 e.frame.pt ++ beBytes 4 e.frame.word ++ beBytes 1 (fmtByte e.frame) ++ beBytes 1 (recFlags e) ++
    beBytes 2 (recData e.frame).length

/-- Records for at most `n` frames in `space` bytes: bytes, number of records, and what the FIFO keeps. A record that does
not fit is split at a multiple of 4 bytes (R555, R576). -/
def readFrames : Nat → Nat → List CanRx → List Byte × Nat × List CanRx
  | 0, _, l => ([], 0, l)
  | _, _, [] => ([], 0, [])
  | n + 1, space, e :: r =>
    if !e.filtered then ([], 0, e :: r)
    else
      let d := (recData e.frame).drop e.read
      if 16 + (padded d).length ≤ space then
        let rest := readFrames n (space - 16 - (padded d).length) r
        (recHeader e ++ padded d ++ rest.1, rest.2.1 + 1, rest.2.2)
      else if space < 20 then ([], 0, e :: r)
      else
        let k := (space - 16) / 4 * 4
        (recHeader e ++ d.take k, 1, { e with read := e.read + k } :: r)

/-- CAN_RX_READ (R555, R576). -/
def execCanRxRead (tag : Nat) (s : State) : Host.Outcome State Fault Refusal :=
  ok (oneStep tag 0x81 (fun s =>
    let p := payload s tag
    let n := (nth p 0 0).toNat
    let max := (nth p 1 0).toNat
    let c := chOf n
    let x := chan s c
    if 2 ≤ n || 63 < max then no stRange s
    else
      let out := readFrames max 1004 x.fifo
      let left := (out.2.2.filter (fun e => e.filtered)).length
      (⟨0, 0, beBytes 1 out.2.1 ++ beBytes 1 left ++ beBytes 2 x.ovCount ++ out.1⟩,
        setCh c { x with fifo := out.2.2, ovCount := 0, ovRecorded := false } s)) s)

/-! ## Transmitting (R577 to R586) -/

def txAt (x : CanCh) (b : Nat) : Option CanTx := nth x.tx b none
def setTx (c : Ch) (b : Nat) (t : Option CanTx) (s : State) : State :=
  let x := chan s c
  setCh c { x with tx := upd x.tx b (fun _ => t) } s

/-- A frame becomes pending in an empty buffer; until the next start of frame it may wait for an attempt (R577). -/
def addTx (c : Ch) (b : Nat) (t : CanTx) (s : State) : State :=
  let x := chan s c
  setCh c { x with tx := upd x.tx b (fun _ => some t), fresh := x.fresh.filter (· != b) ++ [b] } s

/-- Place of an identifier in arbitration: the base part, a base frame before an extended one, the extension (R577). -/
def arbKey (f : CanFrame) : Nat :=
  if f.word < 2 ^ 31 then f.word % 2 ^ 11 * 2 ^ 19
  else f.word / 2 ^ 18 % 2 ^ 11 * 2 ^ 19 + 2 ^ 18 + f.word % 2 ^ 18

/-- Buffer `q` is pending and goes before buffer `b` in arbitration; ties go to the lower number (R577). -/
def goesBefore (x : CanCh) (q b : Nat) : Bool :=
  match txAt x q, txAt x b with
  | some u, some t => decide (arbKey u.frame < arbKey t.frame) || (arbKey u.frame == arbKey t.frame && decide (q < b))
  | _, _ => false

/-- An attempt of buffer `b` can have been the channel's: no buffer that goes before it was pending at the last attempt's end,
or, where `b` came later itself, before `b` came (R577). -/
def arbitrates (x : CanCh) (b : Nat) : Bool :=
  (List.range 8).all (fun q => !goesBefore x q b ||
    (x.fresh.contains q && !(x.fresh.takeWhile (· != b)).contains q))

/-- A buffer's frame that no command waits for (R588, R591). -/
def plainTx (f : CanFrame) : CanTx := ⟨f, none, false, false, none, false, none, 0⟩

def bufPending (x : CanCh) : Bool := x.tx.any (fun t => match t with | some t => t.buf | none => false)

/-- The first free host buffer, 2 to 7. -/
def freeBuf (x : CanCh) : Option Nat := [2, 3, 4, 5, 6, 7].find? (fun b => (txAt x b).isNone)

/-- CAN_TX (R578, R579). -/
def execCanTx (tag : Nat) (s : State) : Host.Outcome State Fault Refusal :=
  ok (longStep tag 0x80 (fun s =>
    let t := txOp (payload s tag)
    let c := chOf t.chan
    let x := chan s c
    if !t.inRange x.stageLen then .inr (no stRange s)
    else if x.mode != .on then
      .inr (noD stFault (if x.mode == .busOff then 0x5812 else if x.clkStop then 0x1201 else 0) s)
    else match freeBuf x with
      | none => .inr (no stBusy s)
      | some b =>
        if t.buf && bufPending x then .inr (no stBusy s)
        else
          let data := if t.buf then memRead s.mbx.mem (stageAt c) t.len else t.data
          let f : CanFrame := ⟨t.ident, t.kind, t.brs, false, false, t.xl, data, 0⟩
          .inl (addTx c b (⟨f, some tag, t.oneShot, t.buf, none, false, none, (Machine.tag s tag).at_⟩) s)) s)

/-- CAN_BUF_WRITE (R579): the staging buffer holds what has been loaded up to its highest byte (log 30). -/
def execCanBufWrite (tag : Nat) (s : State) : Host.Outcome State Fault Refusal :=
  ok (oneStep tag 0x85 (fun s =>
    let p := payload s tag
    let n := (nth p 0 0).toNat
    let c := chOf n
    let x := chan s c
    let off := beNat ((p.drop 2).take 2)
    let data := p.drop 4
    if 2 ≤ n || (nth p 1 0) != 0 || 2048 < off + data.length then no stRange s
    else if bufPending x then no stBusy s
    else yes (writeMem (stageAt c + off) data (setCh c { x with stageLen := max x.stageLen (off + data.length) } s))) s)

/-- Bus-off: every pending buffer is removed (R586; event 0x5812). -/
def busOff (c : Ch) (s : State) : State :=
  let x := chan s c
  let s := x.tx.foldl (fun s t => dropTx stFault 0x5812 stTooLate s t) s
  detect .hb 0x5812 1 [(c.idx : Int)] (setCh c { chan s c with mode := .busOff, tx := List.replicate 8 none } s)

/-- The successful end of an attempt (R579, R582, R585, R590). -/
def attemptSent (c : Ch) (b : Nat) (t : CanTx) (stamp : Nat) (s : State) : State :=
  let x := chan s c
  let had := x.noListener
  let s := setCounters c (x.tec - 1) x.rec_ s
  let s := setCh c { chan s c with noack := 0, noListener := false } s
  let s := if had then record .hb 0x5822 0 [(c.idx : Int)] s else s
  let s := if b == 0 then { s with nt := { s.nt with mark := some stamp } } else s
  let s := setTx c b (t.next.map (fun f => plainTx f)) s
  let s := match t.tag with | some i => answer i ⟨0, 0, beBytes 8 stamp⟩ s | none => s
  match t.cancel with | some i => answer i ⟨stTooLate, 0, []⟩ s | none => s

/-- What a failed attempt leads to for its frame: one-shot, a cancellation or the deadline ends it; otherwise it is sent
again (R580 to R582, R588). -/
def attemptFailed (c : Ch) (b : Nat) (t : CanTx) (cause : Nat) (s : State) : State :=
  let ps : List Int := [(c.idx : Int), (t.frame.word : Int)]
  if t.oneShot then
    dropTx stFault 0x5823 stTooLate (record .hb 0x5823 0 (ps ++ [(cause : Int)]) (setTx c b none s)) (some t)
  else if t.late then dropTx stTooLate 0 stTooLate (record .hb 0x5824 0 ps (setTx c b none s)) (some t)
  else if t.cancel.isSome then dropTx stCancelled 0 stOk (setTx c b none s) (some t)
  else match t.next with
    | some f => setTx c b (some { t with frame := f, next := none }) s
    | none => s

/-- No acknowledgement (R585; event 0x5821). -/
def noAckCount (c : Ch) (t : CanTx) (s : State) : State :=
  let x := chan s c
  let n := x.noack + 1
  let found := decide (parN s (P.canTxNoackN (chSub c)) ≤ n) && !x.noListener
  let s := setCh c { x with noack := n, noListener := x.noListener || found } s
  if found then detect .hb 0x5821 1 [(c.idx : Int), (t.frame.word : Int)] s else s

/-- The offset of the secondary sample point, for a frame whose data phase runs under delay compensation (R566). -/
def tdcOffset (s : State) (c : Ch) (f : CanFrame) : Option Nat :=
  let i := chSub c
  if f.kind == 1 && f.brs && parOn s (P.canFdTdc i) then some (parN s (P.canFdSspOff i))
  else if f.kind == 2 && parOn s (P.canXlTdc i) then some (parN s (P.canXlSspOff i))
  else none

/-- An attempt that errs raises the transmit error counter by 8, up to bus-off (R583, R586). -/
def attemptErred (c : Ch) (b : Nat) (t : CanTx) (s : State) : State :=
  let x := chan s c
  let s := attemptFailed c b t 1 (setCounters c (x.tec + 8) x.rec_ s)
  if 255 < x.tec + 8 then busOff c s else s

/-- CAN_ATTEMPT_END of the buffer that arbitration chose (R577, R579 to R586, R596); every buffer then pending enters the next
one. An attempt without another error measured its transmitter delay in CANCLK
cycles: above 127 it errs at the first data bit (R566). -/
def execCanAttemptEnd (c : Ch) (b : Nat) (o : CanOutcome) (s : State) : Host.Outcome State Fault Refusal :=
  ok (let x := chan s c
      match txAt x b with
      | none => s
      | some t =>
        if x.mode != .on || s.supply.hbLock || !arbitrates x b then s
        else
          let x := { x with fresh := [] }
          let s := setCh c x s
          match o with
          | .sent stamp delay =>
            match tdcOffset s c t.frame with
            | none => attemptSent c b t stamp s
            | some off =>
              if 127 < delay then attemptErred c b t (countFlag c 7 s)
              else attemptSent c b t stamp (setCh c { x with ssp := delay + off } s)
          | .lostArbitration => attemptFailed c b t 0 s
          | .error => attemptErred c b t s
          | .noAck =>
            let tec := if passive x then x.tec else x.tec + 8
            let s := attemptFailed c b t 2 (noAckCount c t (setCounters c tec x.rec_ s))
            if 255 < tec then busOff c s else s)

/-- CAN_TX_DEADLINE: can.tx.deadline after admission; `running` when an attempt of the frame is in progress, whose outcome then decides (R580, R596; event
0x5824). -/
def execCanTxDeadline (c : Ch) (b : Nat) (running : Bool) (s : State) : Host.Outcome State Fault Refusal :=
  ok (match txAt (chan s c) b with
      | none => s
      | some t =>
        let lim := parN s (P.canTxDeadline (chSub c))
        if t.tag.isNone || lim == 0 || now s < t.since + lim * 1000000 || s.supply.hbLock then s
        else if running then
          if t.cancel.isSome then s else setTx c b (some { t with late := true }) s
        else
          dropTx stTooLate 0 stTooLate (record .hb 0x5824 0 [(c.idx : Int), (t.frame.word : Int)] (setTx c b none s)) (some t))

/-! ## The safe status message (R473, R476, R588) -/

/-- The 16 bytes of the status message. -/
def statusBytes (s : State) : List Byte :=
  let fl := bit1 s.op.stoActive + 2 * bit1 s.sm.xover + 4 * bit1 s.saf.sls + 8 * bit1 (!s.saf.brkRel) + 16 * bit1 (faultOut s)
  let b := beBytes 2 (parN s P.safetyCmsgTxId) ++ beBytes 2 s.saf.txSeq ++ beBytes 4 (ptNow s / 1000 % 2 ^ 32) ++
    beBytes 1 fl ++ beBytes 1 s.op.state.code ++ beBytes 2 (tc 16 (sat 16 (rpmOf (smSpeed s))))
  b ++ beBytes 4 (crc32c b)

/-- Buffer 1 takes the message: at once, or at the next start of frame when an attempt of the last one is in progress. -/
def queueStatus (c : Ch) (attempt : Bool) (f : CanFrame) (s : State) : State :=
  if (chan s c).mode != .on then s
  else match txAt (chan s c) 1 with
    | some t => setTx c 1 (some (if attempt then { t with next := some f } else { t with frame := f, next := none })) s
    | none => addTx c 1 (plainTx f) s

/-- SAFE_STATUS_TRANSMIT: sent on both channels every safety.cmsg.tx_period from the end of BOOT (R476). `runA` and `runB` say whether an attempt of
buffer 1 is in progress. -/
def execSafeStatusTransmit (runA runB : Bool) (s : State) : Host.Outcome State Fault Refusal :=
  ok (if !s.boot.done || s.supply.hbLock ||
          (s.saf.msgTxAt.isSome && !heldFor s.saf.msgTxAt (parN s P.safetyCmsgTxPeriod * 1000000) s) then s
      else
        let s := { s with saf := { s.saf with txSeq := (s.saf.txSeq + 1) % 65536, msgTxAt := some (now s) } }
        let w := parN s P.canSafeTxIdent
        let f : CanFrame := ⟨w, 1, true, false, false, List.replicate 8 0, statusBytes s, 0⟩
        queueStatus .b runB f (queueStatus .a runA f s))

/-! ## Network time (R589 to R594) -/

def timeCh (s : State) : Ch := if parN s P.canTtChannel == 2 then .b else .a
def ownPrio (s : State) : Nat := parN s P.canTtRefId % 8

/-- The PT multiple of can.tt.cycle now under way. -/
def ttMultiple (s : State) : Nat := ptNow s / (parN s P.canTtCycle * 1000)

/-- Current time master: a role other than 2 gives it up (R589). -/
def isMaster (s : State) : Bool := s.nt.master && parN s P.canTtRole == 2

/-- REFERENCE_MESSAGE_DUE: at every PT multiple of can.tt.cycle a current master queues a message with the time of the mark before (R590, R591). -/
def execReferenceMessageDue (s : State) : Host.Outcome State Fault Refusal :=
  ok (let c := timeCh s
      if !isMaster s || s.nt.due == some (ttMultiple s) || (chan s c).mode != .on || s.supply.hbLock then s
      else
        let cyc := (s.nt.cycle + 1) % 64
        let nt : Nat := match s.nt.mark with | some t => t / 1000 % 2 ^ 32 | none => 0
        let data := beBytes 1 cyc ++ beBytes 1 (bit1 s.nt.mark.isSome) ++ beBytes 2 0 ++ beBytes 4 nt
        let f : CanFrame := ⟨parN s P.canTtRefId, 0, false, false, false, List.replicate 8 0, data, 0⟩
        let s := { s with nt := { s.nt with cycle := cyc, due := some (ttMultiple s) } }
        if (txAt (chan s c) 0).isNone then addTx c 0 (plainTx f) s else setTx c 0 (some (plainTx f)) s)

/-- The role changes hands (R591; event 0x5845 with role 2 master or 1 slave). -/
def changeRole (master : Bool) (s : State) : State :=
  let s := { s with nt := { s.nt with
    master := master, mark := if master then none else s.nt.mark, due := some (ttMultiple s) } }
  record .hb 0x5845 0 [(if master then 2 else 1 : Int), (ownPrio s : Int)] s

/-- TIME_MASTER_TIMEOUT: a potential master without reference messages for 2 × can.tt.cycle + priority × 100 µs becomes
current master (R591). -/
def execTimeMasterTimeout (s : State) : Host.Outcome State Fault Refusal :=
  ok (let wait := (2 * parN s P.canTtCycle + ownPrio s * 100) * 1000
      if parN s P.canTtRole == 2 && !s.nt.master && decide (s.nt.rxAt + wait ≤ now s) && !s.supply.hbLock then
        changeRole true s
      else s)

/-- NETWORK_TIME_LOST: no reference message for can.tt.lost_n × can.tt.cycle (R594; event 0x5842). -/
def execNetworkTimeLost (s : State) : Host.Outcome State Fault Refusal :=
  ok (let wait := parN s P.canTtLostN * parN s P.canTtCycle * 1000
      if s.nt.sync && decide (s.nt.rxAt + wait ≤ now s) && !s.supply.hbLock then
        detect .hb 0x5842 1 [] { s with nt := { s.nt with sync := false, aligned := false } }
      else s)

/-- A forward step of PT (R47, R593; event 0x5844): every copy takes it, the carrier has a new origin, and a pending
SNAPSHOT whose PT is passed ends ST_TOO_LATE. -/
def stepPt (d : Nat) (s : State) : State :=
  let s := { s with
    pt := { s.pt with off := s.pt.off + (d : Int) }
    nt := { s.nt with mark := s.nt.mark.map (· + d), marks := s.nt.marks.map (fun m => (m.1, m.2 + d)) } }
  let s := setCarrier (closeBarrier 3 s)
  let s := match s.snap.pending with
    | some (t, tag) =>
      if t ≤ ptNow s then answer tag ⟨stTooLate, 0, []⟩ { s with snap := { s.snap with pending := none } } else s
    | none => s
  record .hb 0x5844 0 (wide d) s

/-- A forward step of PT is allowed: the state, with all gates off (R47). -/
def stepState (s : State) : Bool :=
  let off (g : GdDie) : Bool := (g.gate == .offHold || g.gate == .clampHold) && !g.edges.any (fun e => e.on)
  !s.mod.charging && GdPos.all.all (fun p => off (s.gd.get p)) &&
  match s.op.state with
  | .boot | .standby | .precharge | .ready | .shutdown => true
  | _ => false

/-- M of R592. -/
def ntM : Int := 4294967296000

def wrapE (e : Int) : Int := let x := e % ntM; if ntM ≤ 2 * x then x - ntM else x

/-- f_net in ppm as a quotient: network against PT over the last 8 marks. Over fewer than two marks it is free (log 9). -/
def fNet (marks : List (Nat × Nat)) : Int × Int :=
  match marks.head?, marks.getLast? with
  | some a, some b =>
    let dp : Int := (a.2 : Int) - b.2
    if 2 ≤ marks.length && dp != 0 then (wrapE (((a.1 : Int) - b.1) * 1000 - dp) * 1000000, dp)
    else (Config.realFn 34 [(a.1 : Int), (a.2 : Int)], 1)
  | _, _ => (0, 1)

/-- The rate correction of R592; its rounding to whole ppm is free (log 9). -/
def rateOf (s : State) (f : Int × Int) (e : Int) : Int :=
  let cyc : Int := 16 * par s P.canTtCycle * 1000
  clamp (-100) 100 (qfree 33 (f.1 * cyc + e * 1000000 * f.2) (f.2 * cyc))

/-- |f_net| above 100 ppm on 8 consecutive marks (R592; event 0x5843); the correction then stays at its limit. -/
def driftCheck (f : Int × Int) (s : State) : State :=
  let n := run100 f s.nt.beyond
  let s := { s with nt := { s.nt with beyond := n } }
  if n == 8 then detect .hb 0x5843 1 [sat32 (divr f.1 f.2)] s else s
where
  run100 (f : Int × Int) (n : Nat) : Nat := if 100 * f.2.natAbs < f.1.natAbs then n + 1 else 0

/-- The alignment of R592 to mark k, with network time `nt` in µs and own stamp `pt`. -/
def align (nt pt : Nat) (s : State) : State :=
  let e := wrapE ((nt : Int) * 1000 - pt)
  let lim := parN s P.canTtAlignLim
  let marks := ((nt, pt) :: s.nt.marks).take 8
  let first := !s.nt.sync
  let s := { s with nt := { s.nt with e := e, marks := marks, sync := true, aligned := decide (e.natAbs ≤ lim) } }
  let f := fNet marks
  let s := driftCheck f s
  let s := if first then record .hb 0x5841 0 (wide e) s else s
  if !fieldUp s then s
  else if (first || lim < e.natAbs) && parOn s P.canTtStep && stepState s then stepPt (e % ntM).toNat s
  else
    let r := if 8 ≤ s.nt.beyond then 100 * sgn (f.1 * f.2) else rateOf s f e
    { s with nt := { s.nt with rate := r }, pt := { s.pt with masterPpm := r } }

/-- REFERENCE_MESSAGE_RECEIVED: the role gives way to a higher priority, then the message is used (R589 to R592). -/
def execReferenceMessageReceived (f : CanFrame) (s : State) : Host.Outcome State Fault Refusal :=
  ok (let c := timeCh s
      let m := (chan s c).mode
      if !isRef s f || parN s P.canTtRole == 0 || s.supply.hbLock || !(m == .on || m == .listen) then s
      else if isMaster s && ownPrio s ≤ f.word % 8 then s
      else
        let s := if isMaster s then changeRole false { s with nt := { s.nt with mark := none, marks := [] } } else s
        let b := f.data.map BitVec.toNat
        let prev := s.nt.mark
        let s := { s with nt := { s.nt with cycle := nth b 0 0 % 64, rxAt := now s, mark := some f.pt } }
        match prev with
        | some pt => if nth b 1 0 % 2 == 1 then align (beNat (f.data.drop 4)) pt s else s
        | none => s)

end Sys2Proof.Machine
end

