-- ==== Sys2Proof/Machine/GateDrive.lean ====
section
/-! DEFINITION. The gate driver dies: compare sets, edges, profiles, trips, Heel orders, diagnostics, module NTC (09, and
R326, R327 of 08). -/

namespace Sys2Proof.Machine
open Sys2Proof

def die (s : State) (p : GdPos) : GdDie := s.gd.get p
def putDie (p : GdPos) (g : GdDie) (s : State) : State := { s with gd := s.gd.set p g }

/-- The die's logic runs: powered and out of lock-out. -/
def dieUp (s : State) (p : GdPos) : Bool := (die s p).powered && !s.supply.gdLock.get p

/-- PT in units of 125 ps. -/
def now125 (s : State) : Nat := 8 * ptNow s

/-- A compare set or edge of the die acts: no Heel order held, own leg not faulted, outputs not at high impedance. -/
def dieFree (g : GdDie) : Bool := g.held.isNone && !g.leg && !g.hiZ

/-- HELD_ORDER coding of R394; `leg`: a leg is marked faulted. -/
def orderCode (o : Option HeelOrder) (leg : Bool) : Nat :=
  match o with
  | some .ascLow => 2 | some .ascHigh => 3 | some .piSoft => 4 | some .pi => 5
  | _ => bit1 leg

/-- Some leg is marked faulted at the die (R375). -/
def marked (g : GdDie) : Bool := g.marks.u || g.marks.v || g.marks.w

/-- HELD_ORDER of a die. -/
def dieCode (g : GdDie) : Nat := orderCode g.held (marked g)

/-! ## Outputs (R358, R359, R362, R363, R368, R372) -/

/-- Pair `i`, from 1, is in use; with a booster only pair 1 is (R358). -/
def pairUsed (s : State) (p : GdPos) (i : Nat) : Bool :=
  if parOn s (P.gdOutBooster (p.id - 1)) then i == 1
  else decide (1 ≤ i) && decide (i ≤ 4) && bitOf (parN s (P.gdOutMask (p.id - 1))) (i - 1)

def pairsUsed (s : State) (p : GdPos) : Nat := ((List.range 4).filter (fun i => pairUsed s p (i + 1))).length

/-- The duration in ns of segment k + 1 of a profile (R362). -/
def segNs (v : Int) (k : Nat) : Nat := 5 * bitsOf v.toNat (16 * k + 4) 9

/-- The three segments of a profile value: level and duration in ns; one of duration 0 is skipped (R362, R363). -/
def segments (v : Int) : List (Nat × Nat) :=
  ((List.range 3).map (fun k => (bitsOf v.toNat (16 * k) 4, segNs v k))).filter (fun x => x.2 != 0)

/-- Soft turn-off: gd.soft.level for gd.soft.time, rounded up to 5 ns steps (R372). -/
def softDrive (s : State) (p : GdPos) : List (Nat × Nat) :=
  [(parN s (P.gdSoftLevel (p.id - 1)), 5 * ((parN s (P.gdSoftTime (p.id - 1)) + 4) / 5))]

def driveNs (l : List (Nat × Nat)) : Nat := (l.map (·.2)).sum

/-- The level in force `t` ns after the start. -/
def levelAt (t : Nat) : List (Nat × Nat) → Option Nat
  | [] => none
  | x :: r => if t < x.2 then some x.1 else levelAt (t - x.2) r

/-- The regulated gate current of the position in mA over its pairs in use, sourced positive: (L + 1) × 1.25 A on each;
none while the outputs are in a hold (R359). With a booster it is the booster's input current. -/
def gateMilliamps (s : State) (p : GdPos) : Option Int :=
  let g := die s p
  let total := (levelAt (now s - g.drvAt) g.drive).map (fun l => (((l + 1) * 1250 * pairsUsed s p : Nat) : Int))
  match g.gate with
  | .profile true _ => total
  | .profile false _ | .soft => total.map (fun x => -x)
  | _ => none

/-- The profile or soft turn-off that runs has come to its end. -/
def driveOver (s : State) (g : GdDie) : Bool := decide (g.drvAt + driveNs g.drive ≤ now s)

/-- Running and raised threshold of R368 in mV; k = subindex of the position. -/
def vRun (s : State) (k : Nat) : Int := 100 * divRound (par s (P.gdDidtLsk k) * par s (P.gdDidtThr k)) 1000
def vRaise (s : State) (k : Nat) : Int := 100 * divRound (vRun s k * par s (P.gdDidtBlankFactor k)) 10000

/-- Soft turn-off begins (R372). -/
def startSoft (s : State) (p : GdPos) (g : GdDie) : GdDie :=
  { g with gate := .soft, drive := softDrive s p, drvAt := now s }

/-! ## Bands (R364, R365) -/

def hardEdge (p : GdPos) (i : Int) : Bool := if p.high then decide (0 < i) else decide (i < 0)

/-- R365 on a current in 2^-16 A. -/
def bandOf (s : State) (p : GdPos) (i : Int) (prev : Nat) : Nat :=
  let a : Int := (i.natAbs : Int)
  let e (k : Nat) : Int := par s (P.gdBandEdge k (p.id - 1)) * 65536
  let b := ((List.range 7).filter (fun k => decide (e (k + 1) ≤ a))).length
  if b < prev && decide (e prev - par s (P.gdBandHyst (p.id - 1)) * 65536 ≤ a) then prev else b

/-- FC selects the bands of the set it sends; a soft edge takes band 0 and leaves b_prev. -/
def selectBands (s : State) : State :=
  { s with gd := s.gd.mapPos (fun p g =>
      let i := (ctrlI s).get p.phase
      if hardEdge p i then { g with bSelOn := bandOf s p i g.bSelOn, bSelOff := bandOf s p i g.bSelOff } else g) }

def sentBand (s : State) (p : GdPos) (sel : Nat) : Nat := if hardEdge p ((ctrlI s).get p.phase) then sel else 0

/-! ## Placing edges (R326, R327, R336) -/

/-- A turn-off at `t` joins the schedule; a turn-on that still waits for its dead time then is dropped (R336, log 23). -/
def addOff (t band : Nat) (l : List GdEdge) : List GdEdge :=
  l.filter (fun e => !(e.on && decide (t < e.at_))) ++ [⟨false, t, band⟩]

/-- The die schedules its own part of a leg edge at `t`. -/
def placeLeg (p : GdPos) (t dt bOn bOff : Nat) (g : GdDie) : GdDie :=
  let on := !g.on
  let own := p.high == on
  { g with on := on, edges := if own then g.edges ++ [⟨true, t + dt, bOn⟩] else addOff t bOff g.edges }

/-- The die's own switch is on, or will be. -/
def ownOn (g : GdDie) : Bool :=
  match g.edges.getLast? with
  | some e => e.on
  | none => (match g.gate with | .onHold => true | .profile b _ => b | _ => false)

/-- The switch goes to a commanded side without a carrier edge (R334, R345, R346). -/
def placeOwn (want : Bool) (t dly bOn bOff : Nat) (g : GdDie) : GdDie :=
  if want == ownOn g then g
  else { g with edges := if want then g.edges ++ [⟨true, t + dly, bOn⟩] else addOff t bOff g.edges }

/-- t0 at one die: the set in force becomes the old one, and its edge inside the first 300 ns is placed; so is the second edge of a
refresh pulse that lies there (R326, R341). -/
def dieTurn (s : State) (p : GdPos) (g : GdDie) : GdDie :=
  let g := { g with old := g.cmp, done := false }
  if !dieUp s p || !dieFree g || !s.mod.running then g
  else
    let dt := parN s P.modDt
    let early (c : Nat) (on : Bool) (bOn bOff : Nat) : GdDie :=
      match earlyEdge s.mod.up s.mod.h on c with
      | some e => { placeLeg p (now125 s + e) dt bOn bOff g with done := true }
      | none => g
    match g.old with
    | some o => if o.half + 1 != s.mod.half then g else match o.cmd with
      | .cmp c => early c g.on o.bandOn o.bandOff
      | .inv c => early c (!g.on) o.bandOn o.bandOff
      | .edge _ _ =>
        if s.mod.refreshLeg.get p.phase && controlled s && decide (refreshHalf s < 2400) then
          { placeOwn p.high (now125 s + refreshHalf s) dt o.bandOn o.bandOff g with on := true, done := true }
        else g
      | _ => g
    | none => g

/-- COMPARE_SET_RECEIVED: a set that names an ended half period, or comes later than 300 ns after its t0, is discarded,
as is any set while a Heel order is held; class 1 needs a full-rate lane (R32, R38, R40, R327). -/
def execCompareSetReceived (p : GdPos) (half : Nat) (s : State) : Host.Outcome State Fault Refusal :=
  ok (let g := die s p
      if !s.mod.running || half != s.mod.half || s.sense.stamp + 300 < ptNow s || !dieUp s p || !dieFree g ||
          !linkUp (s.jx.gd.get p) then s
      else putDie p { g with cmp := some ⟨half, s.mod.legs.get p.phase, sentBand s p g.bSelOn, sentBand s p g.bSelOff⟩ } s)

/-- The last received turn-off band (R366). -/
def lastOff (g : GdDie) : Nat := match g.cmp with | some c => c.bandOff | none => g.bandOff

/-- A valid set places its edge at t0 + 300 ns or later. -/
def placeNew (s : State) (p : GdPos) (c : CmpSet) (g : GdDie) : GdDie :=
  let t0 := 8 * s.sense.stamp
  let dt := parN s P.modDt
  let fixed (on : Bool) (want : Bool) : GdDie :=
    { placeOwn want (t0 + 2400) (onDelay s) c.bandOn c.bandOff g with on := on }
  let carrier (v : Nat) (on : Bool) : GdDie :=
    match lateEdge s.mod.up s.mod.h on v with
    | some e => placeLeg p (t0 + e) dt c.bandOn c.bandOff g
    | none => placeOwn (p.high == g.on) (t0 + 2400) dt c.bandOn c.bandOff g
  match c.cmd with
  | .cmp v => carrier v g.on
  | .inv v => carrier v (!g.on)
  | .high => fixed true p.high
  | .low => fixed false (!p.high)
  | .off => fixed false false
  | .edge b off =>
    { placeOwn (b == some p.high) (t0 + max 2400 off) dt c.bandOn c.bandOff g with on := b == some true }

/-- LEG_EDGE_DECISION at t0 + 300 ns (R326, R327; event 0x4811). A die without a valid set commands the high side off
and turns nothing on. -/
def execLegEdgeDecision (p : GdPos) (s : State) : Host.Outcome State Fault Refusal :=
  ok (let g := die s p
      if !s.mod.running || !dieUp s p || !dieFree g then s
      else
        let valid := match g.cmp with | some c => c.half == s.mod.half | none => false
        if valid then
          let g := { g with missRun := 0 }
          putDie p (match g.cmp with | some c => if g.done then g else placeNew s p c g | none => g) s
        else
          let t := 8 * s.sense.stamp + 2400
          let off := if p.high && ownOn g then addOff t (lastOff g) g.edges else g.edges
          let g := { g with missRun := g.missRun + 1
                            on := if g.done then g.on else false
                            edges := if g.done then g.edges else off }
          record .fc 0x4811 0 [(p.id : Int), (s.mod.half : Int)]
            { putDie p g s with mod := { s.mod with missed := satInc 255 s.mod.missed } })

/-! ## Profiles and holds (R360 to R363) -/

def clampParam (s : State) (p : GdPos) : Bool := parOn s (P.gdClampEnable (p.id - 1))

/-- A turn-on may start: no trip, no high impedance, no order that forbids it (R361, R373, R377). -/
def mayTurnOn (p : GdPos) (g : GdDie) : Bool :=
  !g.trip && !g.leg && !g.hiZ && (match g.held with
    | none => true
    | some .ascLow => !p.high
    | some .ascHigh => p.high
    | some _ => false)

def startOn (s : State) (p : GdPos) (band : Nat) (g : GdDie) : GdDie :=
  { g with
    gate := .profile true band, clampOn := false, bandOn := band, onAt := now s
    drive := segments (par s (P.gdProfOn band (p.id - 1))), drvAt := now s }

def startOff (s : State) (p : GdPos) (band : Nat) (g : GdDie) : GdDie :=
  { g with
    gate := .profile false band, bandOff := band
    drive := segments (par s (P.gdProfOff band (p.id - 1))), drvAt := now s }

/-- The first scheduled edge runs its profile. A turn-on never starts before the die's own turn-off has ended (R363, R372,
R377). -/
def gateEdge (s : State) (p : GdPos) (g : GdDie) : GdDie :=
  match g.edges with
  | [] => g
  | e :: r =>
    if e.on then
      if !mayTurnOn p g then { g with edges := r }
      else match g.gate with
        | .offHold => startOn s p e.band { g with edges := r }
        | .profile false _ => if g.held.isSome then g else startOn s p e.band { g with edges := r }
        | .soft => g
        | _ => { g with edges := r }
    else match g.gate with
      | .onHold | .profile true _ => startOff s p e.band { g with edges := r }
      | _ => { g with edges := r }

/-- GATE_EDGE: at a scheduled edge instant the die runs the profile of its band (R363). -/
def execGateEdge (p : GdPos) (s : State) : Host.Outcome State Fault Refusal :=
  ok (let g := die s p
      if dieUp s p && g.edges.any (fun e => decide (e.at_ ≤ now125 s)) then putDie p (gateEdge s p g) s else s)

/-- Off-hold with the clamp; a turn-on that waited for this end starts (R360, R377). -/
def enterOff (s : State) (p : GdPos) (g : GdDie) : GdDie :=
  let g := { g with gate := .offHold, clampOn := clampParam s p, holdAt := now s }
  match g.edges with
  | e :: _ => if e.on && decide (e.at_ ≤ now125 s) then gateEdge s p g else g
  | [] => g

/-- PROFILE_END: the segments of the profile have run (R360, R363). -/
def execProfileEnd (p : GdPos) (s : State) : Host.Outcome State Fault Refusal :=
  ok (let g := die s p
      if !dieUp s p || !driveOver s g then s
      else match g.gate with
        | .profile true _ => putDie p { g with gate := .onHold, holdAt := now s } s
        | .profile false _ => putDie p (enterOff s p g) s
        | _ => s)

/-- SOFT_TURN_OFF_END: its time has run (R372, R377). A die that has entered lock-out is then at high impedance (R379). -/
def execSoftTurnOffEnd (p : GdPos) (s : State) : Host.Outcome State Fault Refusal :=
  ok (let g := die s p
      if g.gate == .soft && g.powered && driveOver s g then putDie p (enterOff s p g) s else s)

/-! ## Trips (R367 to R373, R378) -/

/-- The die latches a trip, abandons any profile, and starts soft turn-off; a further condition is only counted (R371,
R373). The record carries die ID, band, T_EDGE and held order (R397). -/
def dieTrip (p : GdPos) (cause code : Nat) (ps : Option (List Int)) (s : State) : State :=
  let g := die s p
  let count := satInc 255 g.count
  if g.trip then putDie p { g with count := count } s
  else
    let turningOn := match g.gate with | .profile true _ => true | _ => false
    let off := match g.gate with | .profile false _ => true | _ => false
    let band : Nat := if off then g.bandOff else g.bandOn
    let t : Nat := min 65535 (now s - g.onAt)
    let g := { g with
      trip := true, cause := cause, tripBand := band, inTurnOn := turningOn, count := count, tEdge := t
      edges := [], gchk := g.gchk || cause == 4 }
    let g := startSoft s p g
    let def_ : List Int := [(p.id : Int), (band : Int), (t : Int), (dieCode g : Int)]
    record (.gd p) code 4 (match ps with | some l => l | none => def_) (putDie p g s)

/-- The switch is between the start of a turn-on and the next turn-off (R367, R370). -/
def armed (g : GdDie) : Bool :=
  match g.gate with
  | .onHold | .profile true _ => true
  | _ => false

/-- A trip is latched and its soft turn-off runs: a coincident condition is counted (R373, R392). -/
def tripping (g : GdDie) : Bool := g.trip && g.gate == .soft

/-- DIDT_TRIP: a DIDT voltage of `mv` above the threshold in force for gd.didt.qual; the raised threshold inside the
blanking, the running threshold after it (R367 to R369; events 0x4C02, 0x4C01). -/
def execDidtTrip (p : GdPos) (mv ns : Nat) (s : State) : Host.Outcome State Fault Refusal :=
  ok (let g := die s p
      let k := p.id - 1
      if !dieUp s p || !(armed g || tripping g) || decide (ns < parN s (P.gdDidtQual k)) then s
      else if now s < g.onAt + parN s (P.gdDesatBlank k) then
        if vRaise s k < (mv : Int) then dieTrip p 2 0x4C02 none s else s
      else if vRun s k < (mv : Int) then dieTrip p 1 0x4C01 none s
      else s)

/-- DESAT_TRIP: DESAT above gd.desat.vth for gd.desat.filt, armed from gd.desat.blank after the turn-on (R370; event
0x4C03). -/
def execDesatTrip (p : GdPos) (mv ns : Nat) (s : State) : Host.Outcome State Fault Refusal :=
  ok (let g := die s p
      let k := p.id - 1
      if !dieUp s p || !(armed g || tripping g) || mv ≤ parN s (P.gdDesatVth k) || ns < parN s (P.gdDesatFilt k) ||
          now s < g.onAt + parN s (P.gdDesatBlank k) + parN s (P.gdDesatFilt k) then s
      else dieTrip p 3 0x4C03 none s)

/-- The pin of a pair lies outside the band of the hold it is in: below VP less the margin in on-hold, above VN plus the
margin in off-hold (R378). Holds are coded as GD_STATUS.HOLD. -/
def outOfHold (s : State) (p : GdPos) (g : GdDie) (mv : Int) : Option Nat :=
  let m := par s (P.gdGchkMargin (p.id - 1))
  match g.gate with
  | .offHold => if s.supply.vn.get p + m < mv then some 0 else none
  | .onHold => if mv < (s.supply.vp.get p : Int) - m then some 1 else none
  | _ => none

/-- GATE_VOLTAGE_FAULT: the pin of a pair in use lies outside its band for 200 ns, from 1 µs after the profile's end (R378;
event 0x4C06). -/
def execGateVoltageFault (p : GdPos) (pair : Nat) (mv : Int) (ns : Nat) (s : State) : Host.Outcome State Fault Refusal :=
  ok (let g := die s p
      if !dieUp s p || !pairUsed s p pair || ns < 200 || now s < g.holdAt + 1200 then s
      else match outOfHold s p g mv with
        | some h => dieTrip p 4 0x4C06 (some [(pair : Int), (h : Int)]) s
        | none => s)

/-! ## Heel orders at a die (R35, R343, R377) -/

/-- Normal turn-off, as an order or a leg fault requires it (R377). -/
def orderOff (s : State) (p : GdPos) (g : GdDie) : GdDie :=
  match g.gate with
  | .profile true b => startOff s p b { g with edges := [] }
  | .onHold => startOff s p (lastOff g) { g with edges := [] }
  | _ => { g with edges := [] }

/-- Soft turn-off under PI_SOFT; the last segment of a turn-off profile runs to its end (R372, R377). -/
def orderSoft (s : State) (p : GdPos) (g : GdDie) : GdDie :=
  let g := { g with edges := [] }
  match g.gate with
  | .profile true _ | .onHold => startSoft s p g
  | .profile false b =>
    let v := par s (P.gdProfOff b (p.id - 1))
    if now s < g.drvAt + segNs v 0 + segNs v 1 then startSoft s p g else g
  | _ => g

/-- An ASC order: this switch turns off, or on with band 0 mod.asc.delay after decoding. -/
def orderAsc (s : State) (on : Bool) (p : GdPos) (g : GdDie) : GdDie :=
  if !on then orderOff s p g
  else if !mayTurnOn p g then { g with edges := [] }
  else match g.gate with
    | .onHold | .profile true _ => { g with edges := [] }
    | _ => { g with edges := [⟨true, now125 s + parN s P.modAscDelay, 0⟩] }

/-- The die decodes an order. A leg order marks the named leg faulted at every die, beside any held order (R375); the dies
of that leg go to high impedance. -/
def dieOrder (s : State) (o : HeelOrder) (p : GdPos) (g : GdDie) : GdDie :=
  match o with
  | .leg q =>
    let g := { g with marks := g.marks.set q true }
    if q == p.phase then orderOff s p { g with leg := true, hiZ := true } else g
  | _ =>
    let held := takeOrder g.held o
    if held == g.held then g
    else
      let g := { g with held := held, on := o == .ascHigh }
      match o with
      | .piSoft => orderSoft s p g
      | .ascLow => orderAsc s (!p.high) p g
      | .ascHigh => orderAsc s p.high p g
      | _ => orderOff s p g

/-- HEEL_RECEIVED: a die decodes an order that FC broadcast, or a false Heel symbol, on a full-rate lane (R32, R33, R35,
R37, R40). The first valid copy acts; the broadcast is then no longer on its way (R34). -/
def execHeelReceived (d : Die) (o : HeelOrder) (s : State) : Host.Outcome State Fault Refusal :=
  ok (match d with
      | .fc => s
      | .hb =>
        if s.supply.hbLock || !linkUp s.jx.hb then s
        else brake { s with heel := { s.heel with hb := takeOrder s.heel.hb o, outHb := s.heel.outHb.erase o } }
      | .gd p =>
        if !dieUp s p || !linkUp (s.jx.gd.get p) then s
        else putDie p (dieOrder s o p (die s p))
          { s with heel := { s.heel with out := s.heel.out.set p ((s.heel.out.get p).erase o) } })

/-- What a release clears at a gate driver die (R35, R361, R373); a switch that an ASC order held on turns off. -/
def dieRelease (s : State) (p : GdPos) (g : GdDie) : GdDie :=
  let g := if g.held.isSome then orderOff s p g else g
  { g with held := none, leg := false, marks := ⟨false, false, false⟩, hiZ := false, trip := false, cause := 0, tripBand := 0, inTurnOn := false
           count := 0, tEdge := 0, gchk := false, on := false, cmp := none, missRun := 0 }

/-- The release's barrier waits for the peers left, and closes with the last (R52). -/
def answerBarrier (rest : List Nat) (l : List Barrier) : List Barrier :=
  (l.map (fun b => if b.op == 0 then { b with missing := rest } else b)).filter (fun b => b.op != 0 || !rest.isEmpty)

/-- HELD_ORDER_RELEASE: a peer takes FC's release and answers the receipt barrier (R35, R50). -/
def execHeldOrderRelease (d : Die) (s : State) : Host.Outcome State Fault Refusal :=
  ok (match s.heel.releasing with
      | none => s
      | some l =>
        if !l.contains d.id || dieDown s d || !(link s d).lanes.any laneUp then s
        else
          let rest := l.filter (· != d.id)
          let s := match d with
            | .hb => brake { s with heel := { s.heel with hb := none } }
            | .fc => s
            | .gd p => putDie p { dieRelease s p (die s p) with hiZ := !linkUp (s.jx.gd.get p) } s
          { s with
            heel := { s.heel with releasing := if rest.isEmpty then none else some rest }
            jx := { s.jx with barriers := answerBarrier rest s.jx.barriers } })

/-- Outputs go to high impedance: source stages off, off-hold kept (R361). -/
def toHiZ (s : State) (p : GdPos) (g : GdDie) : GdDie := orderOff s p { g with hiZ := true, on := false, cmp := none }

/-- GD_LINK_LOST: the die sees no valid symbol for 500 ns, or holds no full-rate lane (R43, R44). -/
def execGdLinkLost (p : GdPos) (s : State) : Host.Outcome State Fault Refusal :=
  ok (if dieUp s p then putDie p (toHiZ s p (die s p)) s else s)

/-- GD_LOGIC_POWER_LOST: below 4 V from VP to KS the logic stops and the unpowered clamp holds the gate (R361, R379). -/
def execGdLogicPowerLost (p : GdPos) (s : State) : Host.Outcome State Fault Refusal :=
  ok (putDie p { GdDie.reset with powered := false, gate := .clampHold, hiZ := true } s)

/-! ## Reports at FC (R36, R374 to R376, R379) -/

/-- The event behind a report of a die (R703). -/
def reportCode (s : State) (p : GdPos) (r : HeelRep) : Nat :=
  match r with
  | .uv => 0x1301
  | .sc => match (die s p).cause with | 2 => 0x4C02 | 3 => 0x4C03 | 4 => 0x4C06 | _ => 0x4C01

def holdsAsc (s : State) : Bool := s.heel.fc == some .ascLow || s.heel.fc == some .ascHigh

/-- One more faulted half-bridge: a leg order, or PI_SOFT where another leg is already faulted. While FC holds ASC, the
leg is marked at every die and the order stands (R374, R376). -/
def reportLeg (p : Phase) (code : Nat) (s : State) : State :=
  if holdsAsc s && !anyLeg s then
    broadcast (.leg p) { abortDiag code s with heel := { s.heel with legs := s.heel.legs.set p true } }
  else faultLeg p code s

/-- The half-bridges reported in one decision step: two of them issue PI_SOFT without a leg order first (R374). -/
def reportLegs (code : Nat) : State → List Phase → State
  | t, [] => abortDiag code t
  | t, [p] => reportLeg p code t
  | t, p :: r => reportLegs code { t with heel := { t.heel with legs := t.heel.legs.set p true } } r

/-- A report of a die is noted; SHOOT_THROUGH follows the last faulted leg (R374, R394; event 0x4C04). -/
def noteReport (p : GdPos) (r : HeelRep) (s : State) : State :=
  let g := die s p
  let shoot := r == .sc && (match s.heel.reports.get p.partner with
    | some t => decide (now s < t + 500)
    | none => false)
  let s := match r with
    | .sc => { s with heel := { s.heel with reports := s.heel.reports.set p (some (now s)) } }
    | .uv => { s with heel := { s.heel with uv := s.heel.uv.set p true } }
  let s := { s with heel := { s.heel with shoot := if shoot then true else if s.heel.legs.get p.phase then s.heel.shoot else false } }
  if shoot then record .fc 0x4C04 4 [(p.id : Int), (g.tripBand : Int), (g.tEdge : Int), (dieCode g : Int)] s else s

/-- HEEL_REPORT: the reports that reach FC on full-rate lanes in one decision step (R32, R40) are grouped by half-bridge
(R36, R374, R376; events 0x4C04, 0x4C05). -/
def execHeelReport (p : GdPos) (r : HeelRep) (also_ : List (GdPos × HeelRep)) (s : State) :
    Host.Outcome State Fault Refusal :=
  ok (let l := ((p, r) :: also_).filter (fun x => linkUp (s.jx.gd.get x.1))
      match l with
      | [] => s
      | x :: _ =>
        if s.supply.fcLock then s
        else
          let new := Phase.all.filter (fun q => !s.heel.legs.get q && l.any (fun y => y.1.phase == q))
          let code := reportCode s x.1 x.2
          reportLegs code (l.foldl (fun s y => noteReport y.1 y.2 s) s) new)

/-! ## Module NTC (R381) -/

/-- NTC_CONVERSION: every tenth conversion gives a mean code and a temperature in 0.1 °C; the last rounding of both is
open (log 9). -/
def execNtcConversion (p : GdPos) (code : Nat) (s : State) : Host.Outcome State Fault Refusal :=
  ok (let g := die s p
      if !dieUp s p || 4096 ≤ code then s
      else if g.ntcSamples < 9 then
        putDie p { g with ntcSamples := g.ntcSamples + 1, ntcSum := g.ntcSum + code } s
      else
        let c := (qfree 29 ((g.ntcSum + code : Nat) : Int) 10).toNat % 4096
        let t := ntcTemp c (par s (P.gdNtcR25 (p.id - 1))) (par s (P.gdNtcBeta (p.id - 1)))
        putDie p { g with ntcSamples := 0, ntcSum := 0, ntcCode := c, ntcTemp := t } s)

/-! ## Off-state diagnostics (R383 to R391) -/

/-- GD_DIAG (R384, R390). -/
def execGdDiag (tag : Nat) (s : State) : Host.Outcome State Fault Refusal :=
  ok (longStep tag 0x32 (fun s =>
    if !([OpState.standby, .ready, .safeHold].contains s.op.state) then .inr (no stState s)
    else if s.diag.isSome then .inr (no stBusy s)
    else .inl (startDiag tag false s)) s)

/-- Verdict of one pair by the table of R386, coded as GD_DIAG.PAIR (R395). -/
def pairVerdict (s : State) (p : GdPos) (m : DiagMeas) (i : Nat) : Nat :=
  let k := p.id - 1
  let trMin := parN s (P.gdDiagTrMin k)
  let trMax := parN s (P.gdDiagTrMax k)
  let t := match nth m.tr i none with | some t => if t ≤ trMax then some t else none | none => none
  if nth m.high i false then 4
  else match t with
    | some t => if t < trMin then 2 else 1
    | none => if 10 * nth m.rise i 0 < parN s (P.gdDiagDv k) then 3 else 5

/-- CMP_FAIL: a comparator must stay quiet at 90 % of its threshold and fire in time at 110 % (R388, R395). -/
def cmpBits (l : List (Bool × Bool)) : Nat :=
  ((List.range 8).map (fun i => let x := nth l i (false, true); if x.1 || !x.2 then 2 ^ i else 0)).sum

def judgeDie (s : State) (p : GdPos) (m : DiagMeas) (g : GdDie) : GdDie :=
  if g.diagMode == 1 then
    { g with pairs := (List.range 4).map (fun i => if nth g.pairs i 15 == 15 then 15 else pairVerdict s p m i) }
  else if g.diagMode == 2 then { g with cmpFail := cmpBits m.cmp }
  else g

/-- How long the diagnostic of one die takes, in ns: 20 µs, the rise and 50 µs for each pair, or the self-test's 200 µs
(R386, R388). -/
def diagNs (s : State) (p : GdPos) (m : DiagMeas) : Nat :=
  let g := die s p
  let trMax := parN s (P.gdDiagTrMax (p.id - 1))
  let rise (i : Nat) : Nat := match nth m.tr i none with | some t => min t trMax | none => trMax
  if g.diagMode == 1 then
    ((List.range 4).map (fun i => if nth g.pairs i 15 == 15 then 0 else 70000 + rise i)).sum
  else if g.diagMode == 2 then 200000
  else 0

/-- The records of one die (events 0x4C22, 0x4C23). -/
def diagRecords (p : GdPos) (m : DiagMeas) (s : State) : State :=
  let g := die s p
  let s := (List.range 4).foldl (fun s i =>
    let v := nth g.pairs i 15
    if 2 ≤ v && v ≤ 5 then
      record (.gd p) 0x4C22 1 [(p.id : Int), ((i + 1 : Nat) : Int), (v : Int),
        (match nth m.tr i none with | some t => (t : Int) | none => 0)] s
    else s) s
  if g.diagMode == 2 && g.cmpFail != 0 then record (.gd p) 0x4C23 1 [(p.id : Int), (g.cmpFail : Int)] s else s

/-- DIAGNOSTIC_COMPLETE: the verdicts go to GD_DIAG, and a PRECHARGE that ordered it goes on or ends ST_FAULT (R384, R386,
R390; events 0x4C21 to 0x4C23); one that the package has left STANDBY under ends ST_STATE (DESIGN CHOICE, log 18). -/
def execDiagnosticComplete (m : List DiagMeas) (s : State) : Host.Outcome State Fault Refusal :=
  ok (match s.diag with
      | none => s
      | some d =>
        let at_ (p : GdPos) : DiagMeas := nth m (p.id - 2) ⟨[], [], [], []⟩
        let ran (p : GdPos) : Bool := !d.pre || parOn s (P.gdDiagMode (p.id - 1))
        if GdPos.all.any (fun p => ran p && decide (now s < d.since + diagNs s p (at_ p))) then s
        else
        let s := { s with diag := none, gd := s.gd.mapPos (fun p g => if ran p then judgeDie s p (at_ p) g else g) }
        let s := GdPos.all.foldl (fun s p => if ran p then diagRecords p (at_ p) s else s) s
        if diagFailed s then answer d.tag ⟨stFault, diagCode s, []⟩ s
        else
          let mask := GdPos.all.foldl (fun a p => a + (die s p).diagMode * 4 ^ (p.id - 2)) 0
          let s := record .fc 0x4C21 0 [(mask : Int)] s
          if !d.pre then answerOk d.tag s
          else if s.op.state == .standby then startPrecharge d.tag s
          else answer d.tag ⟨stState, 0, []⟩ s)

end Sys2Proof.Machine
end

