-- ==== Sys2Proof/Machine/Trigger.lean ====
section
/-! DEFINITION. The sampling trigger, which runs every per-update computation (R106), and the enable command with its
checks. -/

namespace Sys2Proof.Machine
open Sys2Proof

/-! ## The trigger -/

/-- The end of an update: a pair that restarted is ready for the next; a cycle that completed leaves its sequence number in the
checkpoint (R235). Only LE0/LE1 leaves an update flagged (R25, R236). -/
def pairCycle (due flags : Bool) (seq : Nat) (x : PairState) : PairState :=
  { x with
    restarting := false, point := .waiting
    seq := if due && (!x.restarting || x.point == .waiting) then seq else x.seq
    flagRun := if flags && x.restarting && x.point == .early then x.flagRun + 1 else 0 }

def pairsCycle (s : State) : State :=
  { s with pairs := { s.pairs with
      le01 := pairCycle true true s.sense.seq s.pairs.le01
      le23 := pairCycle (speedDue s) false s.sense.seq s.pairs.le23
      le45 := pairCycle true false s.sense.seq s.pairs.le45 } }

/-- The loops of this update: in control, with a pattern held, or with gates off (R265, R267). -/
def runLoops (s : State) : State :=
  if controlled s then loopUpdate s
  else if s.op.state == .run || s.op.state == .stopping then loopsHeld s
  else loopsIdle s

/-- The Profile Engine runs while RUN is in control and throughout STOPPING (R275, R308, R313). -/
def runProfile (s : State) : State :=
  let s := if s.op.state == .run || s.op.state == .stopping then overrunCheck s else s
  if s.op.state == .stopping || (controlled s && s.op.state == .run) then peUpdate s else s

/-- t0 at every die (R326). -/
def diesTurn (s : State) : State := { s with gd := s.gd.mapPos (fun p g => dieTurn s p g) }

/-- SAMPLING_TRIGGER: the sample set, then position, observers, loops, modulator, Profile Engine and Safety Monitor, in
the order of R231 (R106). The trims issued take effect (R640). -/
def execSamplingTrigger (smp : Sample) (s : State) : Host.Outcome State Fault Refusal :=
  ok (if s.supply.fcLock then s
      else
        let was := controlled s
        let (s, rep) := carrierTurn { s with thm := { s.thm with trims := s.thm.trimNext } }
        let s := senseUpdate smp.uvA smp.clkB rep.dist was rep.allHigh rep.on s
        let s := fbUpdate smp (diesTurn s)
        let s := runLoops (obsUpdate s)
        let s := observersEnd (selectBands (modUpdate (legLossCheck s)))
        pairsCycle (smUpdate (flaggedUpdate s) (runProfile s)))

/-! ## The enable checks, in ascending index order (R550) -/

def gainUsed (s : State) : Bool :=
  let b : Nat := if s.sense.ctrlSet == 1 then 3 else 0
  (List.range 3).all (fun k => par s (P.senseGainARaw (b + k + 1)) != 0)

def gainUsedB (s : State) : Bool :=
  let b : Nat := if s.sense.monSet == 1 then 0 else 3
  (List.range 3).all (fun k => par s (P.senseGainBRaw (b + k + 1)) != 0)

/-- Breakpoint 0 is zero in either half of a table's active bank, which the loops use (R242, R272). -/
def tabZero (s : State) (idx : Nat) : Bool := tabVal s idx 1 == 0 || tabVal s idx 0x41 == 0

/-- The rate of a loop with a division, as a fraction of 8 × 10^9, within 1 kHz to 20 kHz (R233). -/
def rateOk (s : State) (d : Nat) : Bool :=
  decide (s.mod.h * d * 1000 ≤ 8000000000) && decide (8000000000 ≤ s.mod.h * d * 20000)

def velRpmOver (s : State) : Bool :=
  decide (par s P.loopSpdMax * cpr s (primary s) < par s P.profVelMax * 60)

def canAscHigh (s : State) : Bool :=
  parN s P.safetyState == 2 || (decide (3 ≤ parN s P.safetyState) && parOn s P.safetyAscSide)

/-- Positions whose die is trained (R393). -/
def posAny (s : State) (f : Nat → Bool) : Bool := GdPos.all.any (fun p => (s.gd.get p).trained && f (p.id - 1))

def profZero (v : Int) : Bool := segNs v 0 + segNs v 1 + segNs v 2 == 0

/-- v_run and v_raise in mV, in 100 mV steps (R368). -/
def mvOut (v : Int) : Bool := decide (v < 200) || decide (25500 < v)

def edgesRise (s : State) (k : Nat) : Bool :=
  (List.range 6).all (fun i => decide (par s (P.gdBandEdge (i + 1) k) < par s (P.gdBandEdge (i + 2) k)))

/-- Each check with the index it is filed under. -/
def enableChecks (s : State) : List (Nat × Bool) :=
  let blk := parN s P.loopMode != 0
  let boots := parN s P.sysBootGdSupply == 1
  let h : Int := s.mod.h
  let dt := par s P.modDt
  [(0x2000, !gainUsed s), (0x2002, !gainUsedB s), (0x2020, par s P.senseOcTrip == 0),
   (0x2800, primary s == 4 && secondary s == 0 && !parOn s P.fbFallbackEnable),
   (0x2805, configured s 2 && s.fb.ssiRate != 0 && decide (8 < ssiEvery s)),
   (0x3005, decide (2 * par s P.senseOcTrip < 5 * par s P.obsAwlIPeak)),
   (0x3006, decide (par s P.obsSixWOn ≤ par s P.obsSixWOff)),
   (0x3800, !rateOk s (parN s P.loopSpdDiv) || !rateOk s (parN s P.loopPosDiv) ||
      parN s P.loopPosDiv % parN s P.loopSpdDiv != 0),
   (0x3801, decide (9 * par s P.senseOcTrip < 10 * par s P.loopIMax)),
   (0x3810, tabZero s P.loopIqKpTab), (0x3812, tabZero s P.loopIdKpTab), (0x3830, tabZero s P.loopSpdKpTab),
   (0x3832, decide (par s P.loopSpdTrip ≤ par s P.loopSpdMax)),
   (0x3833, par s P.loopTMaxMot == 0 || par s P.loopTMaxGen == 0),
   (0x3834, !(decide (par s P.loopVdcRegenStart < par s P.loopVdcRegenEnd) &&
      decide (par s P.loopVdcRegenEnd ≤ par s P.senseVdcOvWarn))),
   (0x3840, parN s P.loopMode == 2 && tabZero s P.loopPosKpTab),
   (0x4000, blk && (par s P.profVelMax == 0 || par s P.profAcc == 0 || par s P.profDec == 0 || par s P.profJerk == 0 ||
      velRpmOver s)),
   (0x4001, blk && (decide (par s P.profLimDec < par s P.profDec) || decide (par s P.profLimJerk < par s P.profJerk))),
   (0x4800, parN s P.modMethod == 4 && decide (par s P.modDpwmMiOn ≤ par s P.modDpwmMiOff)),
   (0x4801, decide (par s P.modAscDelay < dt + 960) || decide (h < par s P.modMinPulse + 2 * dt)),
   (0x4802, boots && decide (h < par s P.modBsRefreshMin + 2 * dt)),
   (0x4C01, posAny s (fun k => par s (P.gdOutMask k) == 0)),
   (0x4C02, posAny s (fun k => parOn s (P.gdOutBooster k) && par s (P.gdOutMask k) != 1)),
   (0x4C04, posAny s (fun k => !edgesRise s k))] ++
  (List.range 8).map (fun i => (0x4C10 + i, posAny s (fun k => profZero (par s (P.gdProfOn i k))))) ++
  (List.range 8).map (fun i => (0x4C18 + i, posAny s (fun k =>
    let v := par s (P.gdProfOff i k)
    profZero v || decide (dt < 8 * ((segNs v 0 + segNs v 1 : Nat) : Int) + 800)))) ++
  [(0x4C31, posAny s (fun k => par s (P.gdDidtThr k) == 0 || mvOut (vRun s k))),
   (0x4C32, posAny s (fun k => mvOut (vRaise s k))),
   (0x4C42, posAny s (fun k => decide (par s (P.gdNtcTrip k) ≤ par s (P.gdNtcWarn k)))),
   (0x5000, par s P.smTqAbsLim == 0 || decide (16000000 < parN s P.smTqN * s.mod.h)),
   (0x5400, boots && canAscHigh s),
   (0x5402, decide (par s P.safetySs1Time * par s P.safetySs1Dec < 1000 * par s P.loopSpdMax)),
   (0x5403, decide (par s P.loopSpdTrip < par s P.safetySlsLimit) || decide (par s P.loopSpdTrip < par s P.safetySmsLimit)),
   (0x5407, decide (625000 < par s P.safetyDisR * par s P.safetyDisC) ||
      (par s P.safetyDisR == 0 && par s P.safetyDisId == 0)),
   (0x5E01, decide (par s P.thmJnStopHf ≤ par s P.thmJnWarnHf) || decide (par s P.thmJnStopGd ≤ par s P.thmJnWarnGd)),
   (0x5E02, decide (par s P.thmWindTrip ≤ par s P.thmWindWarn)),
   (0x5E03, decide (par s P.thmCoolTrip ≤ par s P.thmCoolWarn))]

/-- The index of the first enable check that fails (R550). -/
def enableRange (s : State) : Option Nat := ((enableChecks s).find? (fun c => c.2)).map Prod.fst

/-- A standing fault that ends ENABLE with ST_FAULT, with the code of its event: links (R43), diagnostic (R390), lost
primary (R170), terminals for block commutation without a primary (R223), the STO and brake tests (R446, R456), lost
tolerance of the Safety Monitor (R413). -/
def enableFault (s : State) : Option Nat :=
  if !linksFull s then some 0x1804
  else if diagFailed s then some (diagCode s)
  else if primary s != 0 && !primaryUsable s then some 0x2861
  else if primary s == 0 && parN s P.obsCommMode != 0 && !terminalsOk s then some 0
  else if s.saf.stoTestFail then some 0x5303
  else if s.saf.brkFault then some 0x5331
  else if s.sm.noTol then some 0x5004
  else none

/-- What ENABLE meets before its parameter checks: a calibration, a diagnostic, a feedback restart, the STO test of the
entry to READY, or another ENABLE (R113, R171, R390, R446). -/
def enableBusy (s : State) : Bool :=
  s.sense.cal.isSome || s.diag.isSome || s.fb.restart.isSome || s.saf.stoTest.isSome || s.obs.enableTag.isSome

def highTrained (s : State) : Bool := Phase.all.all (fun p => (s.gd.get p.hi).trained)

/-- READY is left for RUN; the machine is measured before control starts (R54, R207). -/
def enterRun (tag : Nat) (s : State) : State :=
  let s := changeState .run 0 s
  startMeasure { s with
    mod := { s.mod with charging := false, pattern := 0 }
    loop := { s.loop with mode := parN s P.loopMode }
    obs := { s.obs with enableTag := some tag }
    pe := { s.pe with reached := false, ended := false } }

/-- ENABLE: the checks, then the charge pulses of the bootstrap setting, then RUN (R54, R70, R207, R342). -/
def execEnable (tag : Nat) (s : State) : Host.Outcome State Fault Refusal :=
  ok (longStep tag 0x21 (fun s =>
    if s.op.state != .ready || s.op.stoActive then .inr (no stState s)
    else if enableBusy s then .inr (no stBusy s)
    else match enableFault s, enableRange s with
      | some c, _ => .inr (noD stFault c s)
      | none, some i => .inr (noD stRange i s)
      | none, none =>
        if bootstrap s && !highTrained s then
          .inl { s with
            mod := { s.mod with charging := true, pattern := 6, chargeAt := now s, pulseAt := now s }
            obs := { s.obs with enableTag := some tag } }
        else .inl (enterRun tag s)) s)

/-! ## Charge pulses (R342) -/

/-- One charge pulse at a low-side die that may switch: on now, off after mod.bs.charge_on. -/
def chargeDie (s : State) (p : GdPos) (g : GdDie) : GdDie :=
  if p.high || !dieUp s p || !dieFree g || s.heel.legs.get p.phase then g
  else { g with edges := [⟨true, now125 s, g.bSelOn⟩, ⟨false, now125 s + 8 * parN s P.modBsChargeOn, g.bSelOff⟩] }

/-- BOOTSTRAP_CHARGE_PULSE: every mod.bs.charge_period the three low sides are pulsed together; once the three high-side dies have trained and passed
their self-test, the pulses stop and the start goes on (R70, R342, R389). A failed self-test ends the command. -/
def execBootstrapChargePulse (s : State) : Host.Outcome State Fault Refusal :=
  ok (if !s.mod.charging || s.op.state != .ready || s.supply.fcLock then s
      else match s.obs.enableTag with
        | none => s
        | some t =>
          if Phase.all.any (fun p => (s.gd.get p.hi).cmpFail != 0) then
            answer t ⟨stFault, 0x4C23, []⟩
              { s with mod := { s.mod with charging := false, pattern := 0 }, obs := { s.obs with enableTag := none } }
          else if highTrained s then enterRun t s
          else if s.mod.pulseAt ≤ now s then
            { s with gd := s.gd.mapPos (fun p g => chargeDie s p g)
                     mod := { s.mod with pulseAt := s.mod.pulseAt + parN s P.modBsChargePeriod * 1000 } }
          else s)

end Sys2Proof.Machine
end

