-- ==== Sys2Proof/Machine/Thermal.lean ====
section
/-! DEFINITION. The housekeeping round: readings, cross-check, limits, shutdown sensors, trims (16), and the housekeeping
ADC checks of 03. -/

namespace Sys2Proof.Machine
open Sys2Proof

/-! ## Binary32 arithmetic (R632) -/

/-- Rounds a binary64 value to binary32, to nearest, ties to even. The sums and quotients formed here come out as if
rounded once. -/
def f32 (x : F64) : F64 :=
  if x.m == 0 || x.e == fTop then x
  else
    let n := x.m.natAbs
    let q := n / 2 ^ 29
    let r := n % 2 ^ 29
    let q := if 2 ^ 28 < r || (r == 2 ^ 28 && q % 2 == 1) then q + 1 else q
    fNorm (if x.m < 0 then -((q * 2 ^ 29 : Nat) : Int) else ((q * 2 ^ 29 : Nat) : Int)) x.e

def gAdd (x y : F64) : F64 := f32 (fAdd x y)
def gSub (x y : F64) : F64 := f32 (fSub x y)
def gDiv (x y : F64) : F64 := f32 (fDiv x y)

/-- 0.1 °C to °C. -/
def tenth (v : Int) : F64 := gDiv (fOfInt v) (fOfInt 10)

def insertF (x : F64) : List F64 → List F64
  | [] => [x]
  | y :: r => if fLe x y then x :: y :: r else y :: insertF x r

def sortF (l : List F64) : List F64 := l.foldr insertF []

/-- The median; for an even count the mean of the two middle values (R632). -/
def medianF (l : List F64) : F64 :=
  let l := sortF l
  let n := l.length
  if n % 2 == 1 then nth l (n / 2) fZero else gDiv (gAdd (nth l (n / 2 - 1) fZero) (nth l (n / 2) fZero)) fTwo

/-! ## Sensors (R628, R631) -/

def sensor (s : State) (i : Nat) : Sensor := nth s.thm.sensors i .reset
def setSensor (i : Nat) (f : Sensor → Sensor) (s : State) : State :=
  { s with thm := { s.thm with sensors := upd s.thm.sensors i f } }

def neighbours (i : Nat) : List Nat :=
  if i == 0 then [1, 16]
  else if i == 1 then [0, 2, 3, 4, 5, 6, 7]
  else if i < 8 then [2, 3, 4, 5, 6, 7].filter (· != i)
  else if i < 14 then [8, 9, 10, 11, 12, 13].filter (· != i)
  else if i == 14 then [15, 16]
  else if i == 15 then [14, 16]
  else [8, 9, 10, 11, 12, 13]

/-- Tolerance in 0.1 °C. -/
def tolOf (s : State) (i : Nat) : Int :=
  if i < 8 then par s P.thmXchkTolJn else if i < 14 then par s P.thmXchkTolNtc
  else if i < 16 then par s P.thmXchkTolWind else par s P.thmXchkTolCool

/-- Warning and stop level in °C (R382, R636). -/
def levels (s : State) (i : Nat) : Int × Int :=
  if i < 2 then (par s P.thmJnWarnHf, par s P.thmJnStopHf)
  else if i < 8 then (par s P.thmJnWarnGd, par s P.thmJnStopGd)
  else if i < 14 then (par s (P.gdNtcWarn (i - 7)), par s (P.gdNtcTrip (i - 7)))
  else if i < 16 then (par s P.thmWindWarn, par s P.thmWindTrip)
  else (par s P.thmCoolWarn, par s P.thmCoolTrip)

/-- A winding or coolant reading in 0.1 °C with its open or shorted mark; none where no sensor is fitted (R630). -/
def hkTemp (type c : Nat) (r25 beta : Int) : Option (Int × Bool) :=
  match type with
  | 1 => some (ntcTemp c r25 beta, codeBroken c)
  | 2 => some (ptTemp c, codeBroken c)
  | _ => none

/-- The reading of a sensor in this round; none when it is not usable (R628, R629). -/
def reading (s : State) (r : HkRound) (i : Nat) : Option (Int × Bool) :=
  let up (d : Die) : Bool := !dieDown s d
  let jn := (nth r.jn i none).map (fun t => (t, false))
  if i == 0 then (if up .hb then jn else none)
  else if i == 1 then (if s.sense.hkSuspect then none else jn)
  else if i < 8 then
    match GdPos.ofId? i with
    | some p => if (s.gd.get p).trained && up (.gd p) then jn else none
    | none => none
  else if i < 14 then
    match GdPos.ofId? (i - 6) with
    | some p =>
      let g := s.gd.get p
      if g.trained && up (.gd p) && (nth r.jn (i - 6) none).isSome then some (g.ntcTemp, codeBroken g.ntcCode) else none
    | none => none
  else if s.sense.hkSuspect then none
  else if i < 16 then
    hkTemp (parN s P.thmWindType) (nth s.sense.hk (i - 3) 0) (par s P.thmWindR25) (par s P.thmWindBeta)
  else hkTemp (parN s P.thmCoolType) (nth s.sense.hk 13 0) (par s P.thmCoolR25) (par s P.thmCoolBeta)

/-- A sensor that is not usable keeps its last value (R629). -/
def takeReading (x : Sensor) (v : Option (Int × Bool)) : Sensor :=
  match v with
  | some (t, o) => { x with raw := t, usable := true, open_ := o }
  | none => { x with usable := false }

/-- Readings that count for a neighbour: usable, not broken, not open or shorted in this round. -/
def counted (x : Sensor) : Bool := x.usable && !x.broken && !x.open_

/-- Every median of the last 100 rounds lies within 0.5 °C of the present one (R632; DEDUCED, log 27). -/
def steady (med : List F64) : Bool :=
  match med with
  | [] => false
  | m :: r => decide (100 ≤ r.length) && r.all (fun x => fLt (fAbs (gSub m x)) (fHalf (fOfInt 1)))

def clampF (lim x : F64) : F64 := if fLt x (fNeg lim) then fNeg lim else if fLt lim x then lim else x

/-- Estimate, offset and cross-check count of one sensor (R632, R633). -/
def crossCheck (s : State) (i : Nat) (x : Sensor) : Sensor :=
  let nb := ((neighbours i).map (sensor s)).filter counted
  if nb.length < 2 then { x with est := none, med := [] }
  else
    let m := medianF (nb.map (fun y => tenth y.raw))
    let med := (m :: x.med).take 101
    let est := gAdd m x.off
    let x := { x with est := some est, med := med }
    if !x.usable || x.open_ then x
    else
      let r := gSub (tenth x.raw) est
      let tol := tenth (tolOf s i)
      let learn := steady med && fLe (fAbs r) (fHalf tol)
      { x with
        off := if learn then clampF (tenth (par s P.thmXchkOffMax)) (gAdd x.off (gDiv r (fOfInt 6000))) else x.off
        xrun := if fLt tol (fAbs r) then x.xrun + 1 else 0 }

/-- The sensor is broken, or is found so in this round (R633). -/
def isBroken (s : State) (x : Sensor) : Bool := x.broken || (x.usable && x.open_) || decide (parN s P.thmXchkN ≤ x.xrun)

/-- The replacement value in °C (R634). -/
def replacement (s : State) (x : Sensor) : Option F64 := x.est.map (fun e => gAdd e (tenth (par s P.thmReplMargin)))

/-- A value in °C as 0.1 °C; its last bit is free (log 9). -/
def tenthsOf (v : F64) : Int :=
  if v.e == fTop then Config.realFn 32 [v.m]
  else if 0 ≤ v.e then v.m * 10 * 2 ^ v.e.toNat else qfree 32 (v.m * 10) (2 ^ (-v.e).toNat)

/-- The value in use is above, or below, a level in °C. -/
def aboveT (s : State) (x : Sensor) (lvl : Int) : Bool :=
  if isBroken s x then (match replacement s x with | some v => fLt (fOfInt lvl) v | none => false)
  else decide (10 * lvl < x.raw)

def belowT (s : State) (x : Sensor) (lvl : Int) : Bool :=
  if isBroken s x then (match replacement s x with | some v => fLt v (fOfInt lvl) | none => false)
  else decide (x.raw < 10 * lvl)

/-- The limits of one sensor, judged on the value in use (R636). A sensor without a value in this round keeps its
counts. -/
def judgeLimits (s : State) (i : Nat) (x : Sensor) : Sensor :=
  let has := if isBroken s x then x.est.isSome else x.usable
  if !has then x
  else
    let l := levels s i
    let stop := run (aboveT s x l.2) x.stopRun
    let x := { x with
      used := if isBroken s x then (match replacement s x with | some v => tenthsOf v | none => x.used)
              else x.raw
      warnRun := run (aboveT s x l.1) x.warnRun
      clearRun := run (belowT s x (l.1 - 5)) x.clearRun
      stopRun := stop
      stopped := x.stopped && stop != 0 }
    if 8 ≤ i && i < 14 && 2 ≤ x.clearRun then { x with warned := false } else x

/-- A broken sensor without an estimate (R635; event 0x5E02). -/
def noEstimate (i : Nat) (s : State) : State :=
  let x := sensor s i
  let lacks := isBroken s x && x.est.isNone
  let s := setSensor i (fun x => { x with noEst := lacks }) s
  if lacks && !x.noEst then detect .fc 0x5E02 (if i < 8 then 1 else 2) [(i : Int)] s else s

def sensorIds : List Nat := List.range 17

/-- The thermal part of a round. -/
def thermalRound (r : HkRound) (s : State) : State :=
  let s := sensorIds.foldl (fun s i => setSensor i (fun x => takeReading x (reading s r i)) s) s
  let s0 := s
  let s := sensorIds.foldl (fun s i => setSensor i (crossCheck s0 i) s) s
  let s := sensorIds.foldl (fun s i => setSensor i (judgeLimits s i) s) s
  let warn (p : GdPos) (g : GdDie) : GdDie :=
    { g with ntcWarn := g.ntcWarn && (sensor s (p.id + 6)).warned }
  sensorIds.foldl (fun s i => noEstimate i s) { s with gd := s.gd.mapPos warn }

/-- Shutdown sensors against the junction sensors usable in this round, by die ID (R639). A difference already recorded stays at 3. -/
def shutdownSensors (r : HkRound) (s : State) : State :=
  let one (s : State) (d : Nat) : State :=
    match nth r.shd d none, nth r.jn d none with
    | some a, some b =>
      if !(sensor s d).usable then s else
      let n := nth s.thm.shdRun d 0
      let out := decide (50 < (a - b).natAbs)
      { s with thm := { s.thm with
          shdDiff := upd s.thm.shdDiff d (fun _ => a - b)
          shdRun := upd s.thm.shdRun d (fun _ => if !out then 0 else if n < 2 then n + 1 else n) } }
    | _, _ => s
  (List.range 8).foldl one s

/-- Sensor and largest step per round of each trim: ppm for oscillators and references, ps for delay lines (R640). -/
def trimOf (k : Nat) : Nat × Int :=
  if k < 8 then (k, 500) else if k < 14 then (k - 6, 125) else if k == 14 then (1, 125) else (1, 100)

/-- Degree of a trim in the temperature: cubic for oscillators, linear for delay lines, quadratic for references. -/
def trimDegree (k : Nat) : Nat := if k < 8 then 3 else if k < 15 then 1 else 2

/-- What a trim aims at: the polynomial in 0.1 °C whose coefficients, over 2^40, were fused at manufacture and are free, as
is its rounding (log 4, log 9). -/
def trimTarget (k : Nat) (t : Int) : Int :=
  qfree (50 + k) (((List.range (trimDegree k + 1)).map (fun (j : Nat) => Config.realFn (50 + k) [(j : Int)] * t ^ j)).foldl (· + ·) 0)
    (2 ^ 40)

/-- The trims of a round, each moved by at most its largest change; they take effect at the next update (R640). -/
def trims (s : State) : State :=
  let one (s : State) (k : Nat) : State :=
    let t := trimOf k
    let aim := trimTarget k (sensor s t.1).used
    { s with thm := { s.thm with trimNext := upd s.thm.trimNext k (fun x => x + clamp (-t.2) t.2 (aim - x)) } }
  (List.range 18).foldl one s

/-! ## Housekeeping ADC checks (R133 to R136, R468) -/

/-- Sum of the 64 conversions of an input; the checks judge it, so no rounding enters them. -/
def hkSum (r : HkRound) (i : Nat) : Nat := (nth r.conv i []).foldl (· + ·) 0

/-- The mean code of an input; its rounding is open (log 9). -/
def hkMean (r : HkRound) (i : Nat) : Nat := (qfree 18 (hkSum r i) 64).toNat

/-- The test points of the scan, within 8 LSB (R133). -/
def pointBad (r : HkRound) (i : Nat) : Bool :=
  let want : Nat := if i == 20 then 0 else if i == 21 then 1024 else if i == 22 then 3072 else 4088
  decide (8 * 64 < ((hkSum r i : Int) - 64 * (want : Int)).natAbs)

/-- An input outside its window (R133, R160, R174). Inputs 7 and 8 read 30 V at full scale, input 9 reads 15 V. -/
def hkBad (s : State) (r : HkRound) (i : Nat) : Bool :=
  let mv (fs lo hi : Int) : Bool :=
    let v := (hkSum r i : Int) * fs
    decide (v < lo * 4096 * 64) || decide (hi * 4096 * 64 < v)
  let ppm (k lim : Nat) : Bool := decide (lim < (nth r.refPpm k 0).natAbs)
  if i == 2 then decide (r.supMv < 3200) || decide (3400 < r.supMv)
  else if 3 ≤ i && i < 6 then ppm (i - 3) 5000
  else if i == 6 then ppm 3 3000
  else if i == 7 || i == 8 then mv 30000 (par s P.senseTsLo) (par s P.senseTsHi)
  else if i == 9 then mv 15000 (par s P.fbEncSupLo) (par s P.fbEncSupHi)
  else if i == 10 then decide (15 * par s P.fbResExcAmp < 100 * (r.excMv - par s P.fbResExcAmp).natAbs)
  else if 20 ≤ i then pointBad r i
  else false

/-- The readings and the consecutive rounds of each input outside its window; a suspect converter suspends the checks
(R136). -/
def hkInputs (r : HkRound) (s : State) : State :=
  let codes := (List.range 24).map (hkMean r)
  if s.sense.hkSuspect then { s with sense := { s.sense with hk := codes } }
  else
    { s with sense := { s.sense with
        hk := codes
        hkFail := (List.range 24).map (fun i => run (hkBad s r i) (nth s.sense.hkFail i 0)) } }

/-- The resistor path of a discharge, from the first round that starts 5 ms after DIS_ON (R468): the current within 25 % of
voltage / safety.dis.r, the voltage within 10 % of VDC. Inputs 14 and 15 read 30 A and 1,500 V at full scale (R695). -/
def resistorCheck (r : HkRound) (s : State) : State :=
  match s.saf.dis with
  | none => s
  | some d =>
    let begun := now s / 10000000 * 10000000
    let due := s.saf.disOn && (match d.onSince with | some t => decide (t + 5000000 ≤ begun) | none => false)
    if !due then s
    else
      let i := hkSum r 14
      let u := hkSum r 15
      let want : Int := 50 * (u : Int)
      let v := vdcSel s
      let bad := decide (want.natAbs < 4 * ((i : Int) * par s P.safetyDisR - want).natAbs) ||
        decide (v.natAbs < 10 * (375 * (u : Int) - v).natAbs)
      { s with saf := { s.saf with dis := some { d with fails := run bad d.fails, iSum := i, vSum := u } } }

/-- The PT multiple of 10 ms now under way. -/
def roundNow (s : State) : Nat := ptNow s / 10000000

/-- HOUSEKEEPING_ROUND: at every PT multiple of 10 ms the scan, its checks, the sensors, the limits, the trims, and the report to the Safety Monitor
(R133, R427, R628 to R640; event 0x5E02). -/
def execHousekeepingRound (r : HkRound) (s : State) : Host.Outcome State Fault Refusal :=
  ok (if s.supply.fcLock || s.thm.round == some (roundNow s) then s
      else
        let s := resistorCheck r (hkInputs r s)
        let s := trims (shutdownSensors r (thermalRound r s))
        { s with sm := { s.sm with hkLast := now s }, thm := { s.thm with round := some (roundNow s) } })

/-! ## Events of a round -/

/-- The estimate as a parameter in 0.1 °C (R659); 0 without one (log 26). -/
def estParam (x : Sensor) : Int := match x.est with | some v => fRound 0 (fMul v (fOfInt 10)) | none => 0

/-- SENSOR_BROKEN (R633; events 0x5E01 and, for an open or shorted module NTC, 0x4C13). -/
def execSensorBroken (i : Nat) (s : State) : Host.Outcome State Fault Refusal :=
  ok (let x := sensor s i
      if 17 ≤ i || x.broken || !isBroken s x || s.supply.fcLock then s
      else
        let module_ := 8 ≤ i && i < 14 && x.open_
        let s := detect .fc 0x5E01 1 [(i : Int), x.raw, estParam x]
          (degrade (setSensor i (fun x => { x with broken := true }) s))
        if module_ then
          match GdPos.ofId? (i - 6) with
          | some p =>
            let g := s.gd.get p
            detect .fc 0x4C13 1 [(g.ntcCode : Int)] { s with gd := s.gd.set p { g with ntcBroken := true } }
          | none => s
        else s)

/-- The value in use as a parameter in °C (R659). -/
def degC (s : State) (x : Sensor) : Int :=
  match (if isBroken s x then replacement s x else none) with
  | some v => fRound 0 v
  | none => divRound x.used 10

/-- Warning and stop codes of the sensors but the module NTCs (R636, R656). -/
def limitCode (i : Nat) : Nat := if i < 8 then 0x5E11 else if i < 16 then 0x5E13 else 0x5E15

def judged (i : Nat) : Bool := decide (i < 8) || (decide (14 ≤ i) && decide (i < 17))

/-- TEMPERATURE_WARNING (R636; events 0x5E11, 0x5E13, 0x5E15). -/
def execTemperatureWarning (i : Nat) (s : State) : Host.Outcome State Fault Refusal :=
  ok (let x := sensor s i
      if judged i && 2 ≤ x.warnRun && !x.warned && !s.supply.fcLock then
        detect .fc (limitCode i) 1 [(i : Int), degC s x] (setSensor i (fun x => { x with warned := true }) s)
      else s)

/-- TEMPERATURE_WARNING_CLEAR (R636). -/
def execTemperatureWarningClear (i : Nat) (s : State) : Host.Outcome State Fault Refusal :=
  ok (let x := sensor s i
      if judged i && 2 ≤ x.clearRun && !s.supply.fcLock then setSensor i (fun x => { x with warned := false }) s else s)

/-- TEMPERATURE_STOP_LEVEL (R636; events 0x5E12, 0x5E14, 0x5E16, F2). -/
def execTemperatureStopLevel (i : Nat) (s : State) : Host.Outcome State Fault Refusal :=
  ok (let x := sensor s i
      if judged i && 2 ≤ x.stopRun && !x.stopped && !s.supply.fcLock then
        detect .fc (limitCode i + 1) 2 [(i : Int), degC s x] (setSensor i (fun x => { x with stopped := true }) s)
      else s)

/-- MODULE_TEMP_WARNING (R382; event 0x4C11, F1). -/
def execModuleTempWarning (p : GdPos) (s : State) : Host.Outcome State Fault Refusal :=
  ok (let i := p.id + 6
      let x := sensor s i
      if 2 ≤ x.warnRun && !x.warned && !s.supply.fcLock then
        let s := setSensor i (fun x => { x with warned := true }) s
        detect .fc 0x4C11 1 [degC s x] { s with gd := s.gd.set p { s.gd.get p with ntcWarn := true } }
      else s)

/-- MODULE_OVERTEMPERATURE (R382; event 0x4C12, F2). -/
def execModuleOvertemperature (p : GdPos) (s : State) : Host.Outcome State Fault Refusal :=
  ok (let i := p.id + 6
      let x := sensor s i
      if 2 ≤ x.stopRun && !x.stopped && !s.supply.fcLock then
        detect .fc 0x4C12 2 [degC s x] (setSensor i (fun x => { x with stopped := true }) s)
      else s)

/-- SHUTDOWN_SENSOR_DISAGREE (R639; event 0x5E03). -/
def execShutdownSensorDisagree (d : Die) (s : State) : Host.Outcome State Fault Refusal :=
  ok (if nth s.thm.shdRun d.id 0 == 2 && !s.supply.fcLock then
        detect .fc 0x5E03 1 [(d.id : Int), nth s.thm.shdDiff d.id 0] (degrade { s with thm := { s.thm with
          shdRun := upd s.thm.shdRun d.id (fun _ => 3), shdSuspect := true } })
      else s)

end Sys2Proof.Machine
end

