-- ==== Sys2Proof/Machine/Reset.lean ====
section
/-! DEFINITION. Lock-out, thermal shutdown and the resets: what each die loses and what it keeps (R63 to R77, R379,
R603, R623, R637, R638, R661). -/

namespace Sys2Proof.Machine
open Sys2Proof

/-! ## What a reset leaves -/

/-- A controller after its die's reset: words zeroed, table and counts empty, burned and pending repairs applied; a fuse
entry without its valid bit is ignored (R97, R603, R623). -/
def ctlAfterReset (s : State) (c : Nat) : MemCtl :=
  let l := ((s.mem.burned.filter (fun f => f.valid)).map (fun f => f.rep) ++ s.mem.pendingList).filter (fun r => r.ctl == c)
  { MemCtl.reset with
    spares := (l.filter (fun r => !r.col)).map (fun r => (r.macro_, r.item))
    cols := (l.filter (fun r => r.col)).map (fun r => (r.macro_, r.item)) }

def resetCtls (cs : List Nat) (s : State) : State :=
  cs.foldl (fun s c => setCtl c (ctlAfterReset s c) s) s

/-- A store whose writing a reset cuts short: the copy being written is invalid (R544, R545). -/
def spoilCopy (a b : Option StoreCopy) : Option StoreCopy × Option StoreCopy :=
  let bad (c : Option StoreCopy) : Option StoreCopy := c.map (fun c => { c with valid := false })
  match a, b with
  | some x, some y => if !x.valid then (a, b) else if !y.valid then (a, b) else if x.seq < y.seq then (bad a, b) else (a, bad b)
  | _, _ => (a, b)

/-- Values that HB holds itself (R543). -/
def hbKey (k : Nat) : Bool := !fieldIndex (k / 256)

/-- HB's reset: its registers, SRAM, mailbox, CAN channels and outputs; MRAM keeps its content, and the record counter
resumes at its reservation (R463, R545, R603, R661, R664, R704). -/
def hbReset (s : State) : State :=
  let u := if s.par.storing.isSome then spoilCopy s.par.userA s.par.userB else (s.par.userA, s.par.userB)
  let s := { s with
    gdSelect := 2
    op := { s.op with maxClass := 0 }
    pt := { s.pt with hbHi := 0 }
    id := { s.id with running := 0 }
    boot := { s.boot with
      step := 1, shutdownDone := false, startBist := false, recovery := false, slot := false, waitGd := false
      waitFc := false, burn := [], burnt := 0
      fcRuns := s.boot.fcRuns && (s.boot.running == none || s.boot.running == some .rejoin)
      rom := true, drain := false, stage := none, stageVerify := none, done := false, onTrial := false
      running := none, since := now s }
    rst := { s.rst with rejected := false, due := none, kind := .plain }
    pairs := { s.pairs with cp := .reset }
    cp := .reset
    clk := { s.clk with hclkRc := false, pll := s.clk.pll.filter (· != 0) }
    snap := { s.snap with pending := none }
    heel := { s.heel with hb := none }
    port := .reset
    mbx := .reset
    par := { s.par with
      work := s.par.work.filter (fun e => !hbKey e.1), userA := u.1, userB := u.2, storing := none }
    last := { s.last with pending := 0, computing := none }
    evt := { s.evt with
      vlog := [], vOver := 0, vCur := 0, pCur := 0, logSel := false, seq := s.evt.reserve % 2 ^ 32, pq := []
      pQueueLost := false, pqLost := 0 }
    saf := { s.saf with
      stoDiff := none, stoDisc := false, stoBoth := false, stoMsg := none, stoTest := none, stoTestFail := false
      brkRel := false, brkHs := false, brkLs := false, brkFault := false, brkMis := false, brkTest := none, brkNextHs := true
      stoTxAt := 0, brkAt := none, brkTestAt := 0, brkDue := [], msgAt := now s, msgTxAt := none
      kCmd := kon false, kAt := kon none, check := none
      cand := ⟨none, none⟩, msgSeq := none, msgSingle := 0, singleBit := false, cmsgOk := false, cmsgMissed := false
      ss1Req := false, vsrc := SafBlock.reset.vsrc, fcLoss := none, txSeq := 0 }
    can := ⟨.reset, .reset⟩
    nt := { NtBlock.reset with rxAt := now s }
    tap := { s.tap with unlocked := false, extest := false, refused := false, challenge := none, chalUsed := false }
    sense := { s.sense with cal := s.sense.cal.map (fun c => { c with tag := none }) }
    fb := { s.fb with restart := none }
    bist := { s.bist with
      job := (s.bist.job.filter (fun j => decide (2 ≤ j.ctl))).map (fun j => { j with tag := none, canceller := none }) }
    mem := { s.mem with hbMem := 0, hbEntry := 0, scrubs := [], corrected := 0, uncorrected := 0, repairs := 0 } }
  resetCtls [0, 1] s

/-- FC's reset: cores, engines, its copies of the parameters, its records still waiting (R71, R603, R623). -/
def fcReset (s : State) : State :=
  let s := { s with
    op := { s.op with
      commissioning := false, degraded := false, holdFrom := .boot, f2Stop := false, speedDependent := false, runClass := 0 }
    boot := { s.boot with loaded := false, waitGd := false, done := false, drain := false, fcRuns := false }
    pairs := { s.pairs with le01 := .reset, le23 := .reset, le45 := .reset }
    clk := { s.clk with fcRc := false, pll := s.clk.pll.filter (· != 1) }
    jx := { s.jx with barriers := [], report := none, errs := [] }
    snap := .reset
    heel := { HeelBlock.reset with hb := s.heel.hb }
    par := { s.par with work := s.par.work.filter (fun e => hbKey e.1) }
    evt := { s.evt with fcq := [], fcDropped := 0, fcLost := 0, fcLostBit := false }
    saf := { s.saf with
      fcSto := true, stoMsg := none, pre := none, dis := none, disPath := 0, disOn := false, stop := none, sdsSince := none, ctlAt := none
      sls := false, slsSince := 0, slsRun := 0, smsRun := 0, held := 0 }
    supply := { s.supply with vfWarn := false }
    sense := .reset
    fb := .reset
    obs := .reset
    loop := .reset
    pe := .reset
    mod := .reset
    diag := none
    sm := { SmBlock.reset with hkLast := now s }
    thm := { ThmBlock.reset with shd := s.thm.shd }
    bist := { s.bist with job := none, records := [], recIdx := 0, memFail := false, due := 0 }
    mem := { s.mem with fcDie := 1, fcMem := 0, fcEntry := 0, scrubs := s.mem.scrubs.filter (fun j => decide (j.ctl < 2)) } }
  resetCtls (List.range' 2 12) s

/-- A gate driver die's reset (R71). -/
def gdReset (p : GdPos) (s : State) : State :=
  resetCtls [12 + p.id] (putDie p GdDie.reset { s with
    clk := { s.clk with pll := s.clk.pll.filter (· != p.id) } })

/-- The package shows BOOT after a reset; the record of the change waits for the boot (R703). -/
def intoBoot (s : State) : State :=
  { s with
    op := { s.op with state := .boot, prev := s.op.state }
    boot := { s.boot with came := if s.op.state == .boot then s.boot.came else some s.op.state } }

/-- The fuse entry in progress at step 0x23 is completed, its valid bit last; power lost then leaves it without
(R97, R99). -/
def endFuse (valid : Bool) (s : State) : State :=
  match s.boot.burn with
  | [] => s
  | none :: _ =>
    if valid then { s with boot := { s.boot with fused := s.boot.raise.getD s.boot.fused, raise := none, burn := [] } }
    else { s with boot := { s.boot with burn := [] } }
  | some r :: _ => { s with
      boot := { s.boot with burn := [], burnt := if valid then s.boot.burnt + 1 else s.boot.burnt }
      mem := { s.mem with
        burned := s.mem.burned ++ [⟨r, valid⟩]
        pendingList := if valid then s.mem.pendingList.filter (· != r) else s.mem.pendingList } }

/-- A package reset: all eight dies reset, links kept trained, PT and its copies kept; a barrier closes it (R50, R71). Its boot is due once
nRESET is high (R74). During step 0x23 it acts once the fuse entry in progress is complete, and during step 0x24 at
once, with the step's entry left started (R99). -/
def packageReset (kind : ResetKind) (s : State) : State :=
  let s := endFuse true s
  let powered := s.gd.map (fun g => g.powered)
  let trained := s.gd.map (fun g => g.trained)
  let s := hbReset (fcReset (GdPos.all.foldl (fun s p => gdReset p s) (intoBoot s)))
  closeBarrier 1 { s with
    gd := s.gd.mapPos (fun p g => { g with
      powered := powered.get p, trained := trained.get p
      hiZ := s.supply.gdLock.get p || !powered.get p || !linkUp (s.jx.gd.get p) })
    op := { s.op with faultHold := false, ackBarred := false }
    rst := { s.rst with kind := kind, due := some .package } }

/-- HB journals the step in progress as failed and orders a package reset itself (R83). -/
def insoleRetry (s : State) : State := packageReset .plain (journalSet s.boot.step 3 0 s)

/-! ## Lock-out (R65, R101, R379) -/

/-- A die's own lock, of lock-out or of thermal shutdown. -/
def locked (s : State) : Die → Bool
  | .hb => s.supply.hbLock
  | .fc => s.supply.fcLock
  | .gd p => s.supply.gdLock.get p

def setLocked (d : Die) (b : Bool) (s : State) : State :=
  { s with supply := match d with
    | .hb => { s.supply with hbLock := b }
    | .fc => { s.supply with fcLock := b }
    | .gd p => { s.supply with gdLock := s.supply.gdLock.set p b } }

/-- A rail of R65 beyond its entry threshold, in mV. -/
def railOut (rail : Nat) (mv : Int) : Bool :=
  match rail with
  | 0 | 2 => decide (mv < 2800)
  | 1 => decide (mv < 1500)
  | 3 => decide (mv < 4400)
  | 4 => decide (mv < 13000) || decide (23500 < mv)
  | _ => decide (500 < mv) || decide (mv < -9500)

/-- A rail of R65 inside its leave threshold, in mV. -/
def railIn (rail : Nat) (mv : Int) : Bool :=
  match rail with
  | 0 | 2 => decide (2900 < mv)
  | 1 => decide (1580 < mv)
  | 3 => decide (4550 < mv)
  | 4 => decide (14000 ≤ mv) && decide (mv ≤ 23000)
  | _ => decide (-9000 ≤ mv) && decide (mv ≤ 200)

/-- Every monitored rail of a die inside its leave threshold; `mv` gives the die's rails in the order of R65. VIOH is
judged by the selection that VIOSEL shows at HB's return (R64). -/
def railsIn (vio33 : Bool) (d : Die) (mv : List Int) : Bool :=
  match d with
  | .hb => railIn 0 (nth mv 0 0) && railIn (if vio33 then 2 else 1) (nth mv 1 0)
  | .fc => railIn 3 (nth mv 0 0)
  | .gd _ => railIn 4 (nth mv 0 0) && railIn 5 (nth mv 1 0)

/-- The rails of R65 in the order of its table: which die each belongs to. VIOH is the rail of the selection in use. -/
def railOf (s : State) (d : Die) (rail : Nat) : Bool :=
  match d with
  | .hb => rail == 0 || (rail == 1 && !s.supply.vio33) || (rail == 2 && s.supply.vio33)
  | .fc => rail == 3
  | .gd _ => rail == 4 || rail == 5

def addCause (bit : Nat) (s : State) : State := { s with rst := { s.rst with cause := s.rst.cause ||| 2 ^ bit } }

/-- A gate driver die's outputs: soft turn-off if its switch is on or a profile runs, then high impedance (R379). -/
def gdHold (p : GdPos) (therm : Bool) (s : State) : State :=
  let g := orderSoft s p (die s p)
  putDie p { g with
    hiZ := true, on := false, cmp := none, therm := therm, cause := if g.trip || therm then g.cause else 5 } s

/-- REPORT_UV reaches FC while the die's link holds a full-rate lane (R36, R374, R376). -/
def reportUv (p : GdPos) (code : Nat) (s : State) : State :=
  if s.supply.fcLock || fullLanes (link s (.gd p)) == 0 then s
  else
    reportLeg p.phase code { s with heel := { s.heel with uv := s.heel.uv.set p true } }

/-- HB held in reset: outputs de-energised (R463). -/
def hbDown (s : State) : State := setLocked .hb true (hbReset (endFuse false s))

/-- FC held in reset: its links fall silent and the package shows BOOT (R65, R101). A rejoin of HB that is due or waits
becomes a full boot, since FC starts as well (R71). -/
def fcDown (s : State) : State :=
  let cut := s.op.state == .discharge || (s.op.state == .safeHold && s.op.prev == .discharge && s.supply.vfWarn)
  let s := if s.supply.hbLock then s else addCause 1 s
  let s := fcReset (intoBoot s)
  let untrain (l : LinkState) : LinkState := { l with lanes := l.lanes.map (fun _ => .untrained), lost := false }
  setLocked .fc true { s with
    boot := { s.boot with
      disCut := s.boot.disCut || cut
      running := if s.boot.running == some .rejoin then some .full else s.boot.running }
    rst := { s.rst with due := if s.rst.due == some .rejoin then some .full else s.rst.due }
    jx := { s.jx with hb := untrain s.jx.hb, gd := s.jx.gd.map untrain }
    gd := s.gd.map (fun g => { g with trained := false }) }

/-- LOCKOUT_ENTER: a rail beyond its entry threshold for 2 µs (event 0x1301). `retained` says whether the record's
retention register keeps its content (R658). -/
def execLockoutEnter (d : Die) (rail : Nat) (mv : Int) (retained : Bool) (s : State) : Host.Outcome State Fault Refusal :=
  ok (let again := (nth s.thm.shd d.id none).isSome
      if !railOf s d rail || !railOut rail mv || (locked s d && !again) then s
      else
        let s := { s with thm := { s.thm with shd := upd s.thm.shd d.id (fun _ => none) } }
        let ps : List Int := [(d.id : Int), (rail : Int), mv]
        let pt : Nat := if retained then (ptOf s d).1 else 0
        match d with
        | .hb =>
          let s := hbDown (addCause 0 s)
          { s with supply := { s.supply with hbRet := some ⟨0x1301, pt, ps, 0⟩ } }
        | .fc =>
          let s := fcDown s
          { s with supply := { s.supply with fcRet := s.supply.fcRet ++ [⟨0x1301, pt, ps, 4⟩] } }
        | .gd p =>
          let s := record (.gd p) 0x1301 4 ps s
          let s := { s with supply := if rail == 4 then { s.supply with vp := s.supply.vp.set p mv.toNat }
                                      else { s.supply with vn := s.supply.vn.set p mv } }
          setLocked (.gd p) true (reportUv p 0x1301 (gdHold p false s)))

/-- A record held over the reset is written LATE (R658). -/
def lateRec (d : Die) (r : Retained) : EventRec :=
  { code := r.code, die := d.id, cls := r.cls, pt := r.pt, noPt := false, late := true, persist := false
    params := r.params.map satParam, seq := 0 }

/-- HB leaves reset: VIOSEL is read, its copy of PT is not yet disciplined, and the boot that follows is a rejoin unless
FC is also starting, that is, does not run its part of the image with its boot over (R64, R71). -/
def hbUp (vio33 : Bool) (s : State) : State :=
  let s := setLocked .hb false { s with
    supply := { s.supply with vio33 := vio33 }
    pt := { s.pt with hb := .reset, hbEpoch := now s }
    boot := { s.boot with since := now s }
    rst := { s.rst with
      kind := .plain
      due := if s.rst.nresetLow then none else some (if s.boot.fcRuns && !s.supply.fcLock then .rejoin else .full) } }
  let s := match s.supply.hbRet with
    | some r => arrive (lateRec .hb r) (noteClass r.cls s)
    | none => s
  { s with supply := { s.supply with hbRet := none } }

/-- FC leaves reset: PT goes on from HB's disciplined copy, or starts at 0 (R46, R72). -/
def fcUp (s : State) : State :=
  let keep := s.pt.hb.disciplined && !s.supply.hbLock
  let s := setLocked .fc false { s with
    pt := { s.pt with fcEpoch := now s, stepDue := keep, off := if keep then s.pt.off else -(now s : Int) } }
  let s := if s.supply.hbLock then s else addCause 1 s
  let s := s.supply.fcRet.foldl (fun s r => fcPush (lateRec .fc r) s) s
  { s with
    supply := { s.supply with fcRet := [] }
    rst := { s.rst with due := match s.rst.due with
      | some k => some k
      | none => if s.boot.waitFc || s.supply.hbLock || s.rst.nresetLow then none else some .fieldSide } }

/-- A record of FC at the end of its power-on reset, where PT is 0 (R46). -/
def fcFirst (code : Nat) (ps : List Int) (s : State) : State :=
  fcPush { mkRec .fc code 0 ps s with pt := 0 } (noteClass 0 s)

/-- Lanes of a link trained at a die's return. -/
def laneOf (n : Nat) : Lane := if n == 2 then .full else if n == 1 then .half else .dropped

/-- A gate driver die resets and rejoins: its link is trained while FC is up (R40; event 0x1802 and DEGRADED for a lane
at half rate or dropped, the reaction of event 0x1803 without a full-rate lane, R43), its copy of PT disciplined before
use, and it holds FC's order (R35, R71). A high-side die of the bootstrap setting runs its comparator self-test when it first
trains (R389). `note` records the return while the die's copy is not yet disciplined. -/
def gdUp (p : GdPos) (lanes : List Nat) (cmp : List (Bool × Bool)) (note : State → State) (s : State) : State :=
  let bad := cmpBits cmp
  let first := bootstrap s && p.high && !(die s p).trained
  let s := gdReset p (setLocked (.gd p) false { s with
    pt := { s.pt with gd := s.pt.gd.set p .reset, gdEpoch := s.pt.gdEpoch.set p (now s) }
    heel := { s.heel with uv := s.heel.uv.set p false } })
  let s := note s
  if s.supply.fcLock then s
  else
    let l : LinkState := ⟨(List.range 2).map (fun k => laneOf (nth lanes k 0)), false⟩
    let up := fullLanes l != 0
    let leg := s.heel.legs.get p.phase
    let s := setLink (.gd p) l s
    let s := (l.lanes.filter (· != .full)).foldl (fun s _ => record .fc 0x1802 1 [] (degrade s)) s
    let s := if up then s else linkReaction (.gd p) s
    let s := if (memCtl s 2).on then setCtl (12 + p.id) (scrubsOn s (memCtl s (12 + p.id))) s else s
    let s := putDie p { die s p with
      trained := l.lanes.any laneUp, held := s.heel.fc, leg := leg, hiZ := leg || !up
      diagMode := if first then 2 else 0, cmpFail := if first then bad else 0 } s
    let s := { s with pt := { s.pt with gd := s.pt.gd.set p { PtCopy.reset with disciplined := up } } }
    if first && bad != 0 then record (.gd p) 0x4C23 1 [(p.id : Int), (bad : Int)] s else s

/-- LOCKOUT_LEAVE: every rail inside its leave threshold for 100 µs (event 0x1302). -/
def execLockoutLeave (d : Die) (trained : List Nat) (cmp : List (Bool × Bool)) (vio33 : Bool) (mv : List Int) (s : State) :
    Host.Outcome State Fault Refusal :=
  ok (if !locked s d || !railsIn vio33 d mv || (nth s.thm.shd d.id none).isSome then s
      else match d with
        | .hb => record .hb 0x1302 0 [0] (hbUp vio33 s)
        | .fc => fcFirst 0x1302 [1] (fcUp s)
        | .gd p => gdUp p trained cmp (record (.gd p) 0x1302 0 [(p.id : Int)]) s)

/-! ## Thermal shutdown (R637, R638) -/

/-- THERMAL_SHUTDOWN_ENTER: the shutdown sensor, in °C, stays above its level for 10 µs (event 0x5E21). -/
def execThermalShutdownEnter (d : Die) (temp : Int) (s : State) : Host.Outcome State Fault Refusal :=
  ok (if locked s d || dieDown s d || temp ≤ (match d with | .gd _ => 175 | _ => 165) then s
      else
        let ps : List Int := [(d.id : Int), temp]
        let mark (s : State) : State := { s with thm := { s.thm with shd := upd s.thm.shd d.id (fun _ => some (now s)) } }
        match d with
        | .hb => hbDown (mark (record .fc 0x5E21 3 ps s))
        | .fc =>
          let pt := ptNow s
          let s := fcDown (mark (f4React .piSoft 0x5E21 s))
          { s with supply := { s.supply with fcRet := s.supply.fcRet ++ [⟨0x5E21, pt, ps, 4⟩] } }
        | .gd p =>
          let s := mark (record .fc 0x5E21 4 ps s)
          setLocked (.gd p) true (reportUv p 0x5E21 (gdHold p true s)))

/-- THERMAL_SHUTDOWN_LEAVE: below the restart level for 10 ms, and 2 s since entry (event 0x5E22). `hot` is the highest
reading of the shutdown sensor in the last `ns`, in °C. -/
def execThermalShutdownLeave (d : Die) (trained : List Nat) (cmp : List (Bool × Bool)) (hot : Int) (ns : Nat) (s : State) :
    Host.Outcome State Fault Refusal :=
  ok (match nth s.thm.shd d.id none with
      | none => s
      | some t =>
        let restart : Int := match d with | .gd _ => 150 | _ => 140
        if now s < t + 2000000000 || restart ≤ hot || ns < 10000000 || !locked s d then s
        else
          let ps : List Int := [(d.id : Int), (((now s - t) / 1000000 : Nat) : Int)]
          let s := { s with thm := { s.thm with shd := upd s.thm.shd d.id (fun _ => none) } }
          match d with
          | .hb => record .fc 0x5E22 0 ps (addCause 4 (hbUp s.supply.vio33 s))
          | .fc => fcFirst 0x5E22 ps (addCause 4 (fcUp s))
          | .gd p => gdUp p trained cmp (record .fc 0x5E22 0 ps) s)

/-! ## nRESET (R74) -/

/-- NRESET_ASSERT: a PI trip reaches every gate output, then the package reset is ordered and held. -/
def execNresetAssert (s : State) : Host.Outcome State Fault Refusal :=
  ok (if s.rst.nresetLow || s.supply.hbLock then s
      else
        let s := addCause 2 (packageReset .plain { s with gd := s.gd.mapPos (dieOrder s .pi) })
        { s with rst := { s.rst with nresetLow := true, due := none } })

/-- NRESET_RELEASE: the held reset ends and the boot is due. -/
def execNresetRelease (s : State) : Host.Outcome State Fault Refusal :=
  ok (if !s.rst.nresetLow then s
      else { s with
        rst := { s.rst with nresetLow := false, due := if s.supply.hbLock then none else some (if s.pt.hb.disciplined then .package else .full) }
        boot := { s.boot with since := now s } })

end Sys2Proof.Machine
end

