-- ==== Sys2Proof/Machine/Boot.lean ====
section
/-! DEFINITION. The boot steps, the Insole rules, trial boots, and the orderly shutdown (R78 to R101, R567, R641 to R651,
R664). -/

namespace Sys2Proof.Machine
open Sys2Proof

/-! ## The Insole (R88 to R91) -/

def entryOf (j : Journal) (step : Nat) : Option InsoleEntry := j.entries.find? (fun e => e.step == step)

def statusOf (j : Journal) (step : Nat) : Nat := match entryOf j step with | some e => e.status | none => 0
def detailOf (j : Journal) (step : Nat) : Nat := match entryOf j step with | some e => e.detail | none => 0

/-- Steps that are self-tests (R90). -/
def selfTests : List Nat := [0x07, 0x08, 0x09, 0x24]

/-- A parameter before the stores are loaded, as MRAM holds it: the sealed Last, else the newest user store. -/
def bootVal (s : State) (k : Nat × Int) : Int :=
  let find (l : List (Nat × Int)) : Int := match l.find? (fun e => e.1 == k.1) with | some e => e.2 | none => k.2
  let isLast := match findRow (k.1 / 256) (k.1 % 256) with | some r => r.store == 2 | none => false
  if isLast && s.last.code != 0 then find s.last.image
  else match newest s.par.userA s.par.userB with
    | some c => find c.vals
    | none => k.2

/-- The lane rules of R90: how each lane of each link is trained. -/
def lanePlan (j : Option Journal) : List (List Nat) :=
  let full : List (List Nat) := [2, 2, 2, 2] :: List.replicate 6 [2, 2]
  match j with
  | none => full
  | some j => (j.entries.filter (fun e => (e.step == 3 || e.step == 4) && e.status == 3)).foldl (fun p e =>
      let d := e.detail / 256
      let l := e.detail % 128
      upd p (if d < 2 then 0 else d - 1) (fun x => upd x l (fun v => min v (if bitOf e.detail 7 then 0 else 1)))) full

/-- R91 (an entry whose STATUS reads 0x00 is ignored, R89): the step that the last `n` journals each end with, interrupted, none of them with a failed step. -/
def repeated (hist : List Journal) (n : Nat) : Option Nat :=
  let l := hist.take n
  let lastStep (j : Journal) : Option Nat := match (j.entries.filter (fun e => e.status != 0)).getLast? with
    | some e => if e.status == 1 then some e.step else none
    | none => none
  if l.length < n || l.any (fun j => j.entries.any (fun e => e.status == 3)) then none
  else match l with
    | [] => none
    | j :: _ => match lastStep j with
      | some k => if l.all (fun j => lastStep j == some k) then some k else none
      | none => none

def ruleEvent (step detail : Nat) (s : State) : State := record .hb 0x1331 0 [(step : Int), (detail : Int)] s

/-- FAULT_HOLD is set, and persists (R92; event 0x1332). -/
def setHold (step detail : Nat) (s : State) : State :=
  record .hb 0x1332 1 [(step : Int), (detail : Int)] { s with
    op := { s.op with faultHold := true }, boot := { s.boot with fuseHold := true } }

/-- The start-time BIST that the last journal or the parameters call for (R90). -/
def bistDue (j : Option Journal) (s : State) : Bool :=
  (match j with | some j => statusOf j 0x24 | none => 0) != 2 || bootVal s P.sysShutdownBist == 0

/-- A rule of the Insole that applies is recorded (R90). -/
def ruleWhen (c : Bool) (step detail : Nat) (s : State) : State := if c then ruleEvent step detail s else s

/-- A shutdown that did not end is recorded (R90; event 0x1354). -/
def lateShutdown (c : Bool) (shut : List Nat) (s : State) : State :=
  if c then record .hb 0x1354 0 [((shut.foldl max 0 : Nat) : Int)] s else s

/-- What an older journal shows, recorded at step 0x01 (R90): lanes that failed, the SSI rate, an unclean or late
shutdown, the BIST that is due, failed self-tests and the calibration. -/
def insoleEvents (j : Option Journal) (s : State) : State :=
  let e (k : Nat) : Nat := match j with | some j => statusOf j k | none => 0
  let d (k : Nat) : Nat := match j with | some j => detailOf j k | none => 0
  let lanes : List InsoleEntry := match j with
    | some j => j.entries.filter (fun e => (e.step == 3 || e.step == 4) && e.status == 3)
    | none => []
  let rate := e 0x0C == 1 || e 0x0C == 3
  let shut : List Nat := match j with | some j => (j.entries.map (fun x => x.step)).filter (fun k => decide (0x21 ≤ k)) | none => []
  let again := e 0x0A == 1 || e 0x0A == 3
  ruleWhen again 0x0A (d 0x0A)
    ((selfTests.filter (fun k => e k == 3)).foldl (fun s k => ruleEvent k (d k) s)
      (ruleWhen (bistDue j s) 0x24 (d 0x24)
        (lateShutdown (!shut.isEmpty && e 0x25 != 2) shut
          (ruleWhen rate 0x0C (d 0x0C) (lanes.foldl (fun s x => ruleEvent x.step x.detail s) s)))))

/-- A step that repeats through the journals is recorded (R91; event 0x1334). -/
def noteRepeat (rep : Option Nat) (n : Nat) (s : State) : State :=
  match rep with
  | some k => record .hb 0x1334 1 [(k : Int), (n : Int)] s
  | none => s

/-- The boot is planned by the journals (R90, R91). -/
def insolePlan (j : Option Journal) (rep : Option Nat) (s : State) : State :=
  let rate := match j with | some j => statusOf j 0x0C == 1 || statusOf j 0x0C == 3 | none => false
  { s with boot := { s.boot with
    startBist := s.boot.startBist || bistDue j s || bootVal s P.sysBootBistAlways == 1
    plan := lanePlan j, atLast := rate || rep == some 0x0C, no0A := rep == some 0x0A } }

/-- The rules of R90 and R91, applied at step 0x01 to the journals as they stood. `trial`: the boot is a trial boot, for
which a hold is not set (R83). -/
def insoleRules (trial : Bool) (hist : List Journal) (s : State) : State :=
  let j := hist.head?
  let n := (bootVal s P.sysBootRepeatLimit).toNat
  let rep := repeated hist n
  let s := insolePlan j rep (noteRepeat rep n (insoleEvents j s))
  let failed : List (Nat × Nat) := match j with
    | some j => (selfTests.filter (fun k => statusOf j k == 3)).map (fun k => (k, detailOf j k))
    | none => []
  let ruled := match rep with | some k => k == 0x0A || k == 0x0C | none => true
  let again : State := if s.boot.fuseHold then setHold 0x01 0 s else s
  if trial then again
  else match failed, rep with
    | k :: _, _ => setHold k.1 k.2 s
    | [], some k => if !ruled then setHold k 0 s else again
    | [], none => again

/-! ## Running steps -/

/-- How a step ends (R88). -/
inductive StepEnd where
  | done | alt | skip | failed | hold (detail : Nat) | wait | stop
  deriving DecidableEq, Repr

/-- A failure whose consequence is FAULT_HOLD; on a trial boot the retry takes its place (R83, R84). -/
def failStep (n detail : Nat) (s : State) : State :=
  if s.boot.onTrial then insoleRetry s
  else
    let s := setHold n detail (journalSet n 3 detail s)
    { s with boot := { s.boot with running := none } }

/-- The native report of a run (R644). -/
def bistReport (kind fails duration coverage : Nat) (s : State) : State :=
  { s with bist := { s.bist with
      kind := kind, pass := 15 - fails % 16, complete := true, boot := s.boot.number
      duration := duration, coverage := coverage } }

/-- A run of the logic BIST begins; abandoned, it leaves the report incomplete (R644). -/
def bistBegins (s : State) : State := { s with bist := { s.bist with complete := false } }

/-- Runs step `n` unless the boot has stopped. A boot cut short leaves the entry started, or, between the two writes of
the entry, with STATUS 0x00 (R89, R90, R100). -/
def bootStep (i : BootIn) (n : Nat) (f : State → StepEnd × State) (r : Bool × State) : Bool × State :=
  if !r.1 then r
  else
    let s := r.2
    let s := { s with boot := { s.boot with step := n } }
    if i.cut == some n && i.half then (false, journalPt n s)
    else
    let s := journalSet n 1 0 s
    if i.cut == some n then (false, if n == 0x08 && s.boot.startBist then bistBegins s else s)
    else
      let e := f s
      match e.1 with
      | .done => (true, journalSet n 2 0 e.2)
      | .alt => (true, journalSet n 5 0 e.2)
      | .skip => (true, journalSet n 4 0 e.2)
      | .failed => (true, journalSet n 3 0 e.2)
      | .hold d => (false, failStep n d e.2)
      | .wait | .stop => (false, e.2)

/-! ## Steps 0x01 and 0x02 -/

/-- The boot is a trial boot: at a package reset, or at a power-on after a trial boot has begun (R82, R83, R100, R556). -/
def trialDue (s : State) (k : BootKind) : Bool :=
  s.boot.trial.isSome && s.rst.kind != .recovery && decide (s.boot.trialFails < 2) &&
  (k == .package || (k == .full && decide (0 < s.boot.trialFails)))

/-- A boot begins: number, journal, reset record, the change into BOOT (R84, R703; events 0x1311, 0x1001). -/
def openBoot (k : BootKind) (rot : Two Nat) (s : State) : State :=
  let trial := trialDue s k
  let s := { s with boot := { s.boot with
    rot := ⟨s.boot.rot.a ||| rot.a, s.boot.rot.b ||| rot.b⟩
    number := s.boot.number + 1, insole := (⟨s.boot.number + 1, []⟩ :: s.boot.insole).take 8
    startBist := s.rst.kind == .bist, running := some k, shutdownDone := false
    onTrial := trial, trialFails := if trial then s.boot.trialFails + 1 else s.boot.trialFails } }
  record .hb 0x1311 0 [(s.rst.cause : Int), (s.boot.number : Int)] s

/-- The record of the change into BOOT (R703): FC's, or HB's while FC is absent. -/
def bootChange (s : State) : State :=
  match s.boot.came with
  | none => s
  | some o =>
    let s := { s with boot := { s.boot with came := none } }
    record (if dieDown s .fc then .hb else .fc) 0x1001 0 [0, (o.code : Int), 0x1311] s

/-- A valid record past the fill count is counted, and the persistent log ends at a bad record (R664; event 0x6006). -/
def logScan (bad : Option Nat) (s : State) : State :=
  let s := countTail s
  match bad with
  | none => s
  | some n =>
    let fill := s.evt.plog.length
    if n < fill then
      record .hb 0x6006 1 [(n : Int), (fill : Int)] { s with evt := { s.evt with plog := s.evt.plog.take n } }
    else s

def step01 (i : BootIn) (hist : List Journal) (s : State) : StepEnd × State :=
  let s := insoleRules s.boot.onTrial hist (bootChange (logScan i.logBad s))
  (if i.fusesOk then .done else .hold 0, s)

/-- Why a slot is not booted, coded as event 0x1321; key, signature and SEC_VER are checked anew at every boot (R79). -/
def slotReason (s : State) (b : Bool) : Nat :=
  match slotOf s b with
  | none => 6
  | some h => slotCheck s.boot.keyDigest s.boot.fused (rotOf s b) h

/-- A slot refused by the anti-rollback count is recorded (event 0x1323). -/
def slotTried (b : Bool) (s : State) : State :=
  if slotReason s b == 3 then
    record .hb 0x1323 1 [(bit1 b : Int), ((match slotOf s b with | some h => h.secVer | none => 0 : Nat) : Int)] s
  else s

def enterRecovery (s : State) : State :=
  addCause 5 { s with boot := { s.boot with recovery := true, rom := true } }

/-- An image of slot `b` starts (R5, R81). -/
def startImage (b : Bool) (s : State) : State :=
  { s with
    boot := { s.boot with slot := b, rom := false }
    id := { s.id with running := match slotOf s b with | some h => h.version | none => 0 } }

/-- Step 0x02: the trial slot or the active slot first, the other second, then recovery (R79, R81 to R83; events 0x1321
to 0x1324). -/
def step02 (s : State) : StepEnd × State :=
  if s.rst.kind == .recovery then (.skip, enterRecovery s)
  else
    let trial := s.boot.onTrial
    let s := if !trial && s.boot.trial.isSome && 2 ≤ s.boot.trialFails then
        record .hb 0x1324 1 [] { s with boot := { s.boot with trial := none, trialFails := 0 } }
      else s
    let first := if trial then s.boot.trial.getD s.boot.active else s.boot.active
    let s := slotTried first s
    if slotReason s first == 0 then (.done, startImage first s)
    else
      let s := slotTried (!first) s
      if slotReason s (!first) == 0 then
        let s := if !first == s.boot.active then s
          else record .hb 0x1321 1 [(bit1 first : Int), (slotReason s first : Int)] s
        (.alt, startImage (!first) { s with boot := { s.boot with onTrial := false } })
      else
        let s := record .hb 0x1322 1 [] s
        if trial then (.stop, insoleRetry s) else (.failed, enterRecovery s)

/-! ## Steps 0x03 to 0x05 -/

/-- One lane trained as planned: its state, its journal entry, and whether attempts failed (R40, R88, R90). -/
def trainLane (die lane plan res : Nat) : Lane × Option (Nat × Nat) × Bool :=
  let d := die * 256 + lane
  if plan == 2 then
    if res == 2 then (.full, none, false)
    else if res == 1 then (.half, some (3, d), true) else (.dropped, some (3, d + 128), true)
  else if plan == 1 then
    if 1 ≤ res then (.half, some (5, d + 128), false) else (.dropped, some (3, d + 128), true)
  else (.dropped, some (4, d), false)

/-- A link is trained (R40, R43; event 0x1802). -/
def trainLink (i : BootIn) (step : Nat) (d : Die) (s : State) : State :=
  let k := if d.id < 2 then 0 else d.id - 1
  let n : Nat := if d == .hb then 4 else 2
  let r := (List.range n).map (fun l => trainLane d.id l (nth (nth s.boot.plan k []) l 2) (nth (nth i.lanes k []) l 0))
  let s := setLink d ⟨r.map (fun x => x.1), false⟩ s
  let s := r.foldl (fun s x =>
    let s := match x.2.1 with | some e => journalLane step e.1 e.2 s | none => s
    let s := if x.1 == .full then s else degrade s
    if x.2.2 then record .fc 0x1802 1 [] s else s) s
  if fullLanes (link s d) == 0 then linkReaction d s else s

/-- The boot waits for FC (`fc`) or for a gate driver die (R84). -/
def startWait (fc : Bool) (s : State) : State :=
  { s with boot := { s.boot with
      waitAt := if s.boot.waitFc || s.boot.waitGd then s.boot.waitAt else now s
      waitFc := fc, waitGd := !fc } }

/-- A wait ends; its time does not count (R83, R84). -/
def endWait (s : State) : State :=
  { s with boot := { s.boot with
      since := if s.boot.waitFc || s.boot.waitGd then s.boot.since + (now s - s.boot.waitAt) else s.boot.since
      waitFc := false, waitGd := false } }

/-- Step 0x03: the HB link; FC takes HB's copy of PT as a forward step after its own reset, and HB takes the order that FC
holds (R72, R73, R84; event 0x5844; log 31). -/
def step03 (i : BootIn) (s : State) : StepEnd × State :=
  if s.supply.fcLock then (.wait, startWait true s)
  else
    let s := endWait s
    let s := trainLink i 3 .hb { s with saf := { s.saf with fcLoss := none }, heel := { s.heel with hb := s.heel.fc } }
    let s := if s.pt.stepDue then
        closeBarrier 3 (record .hb 0x5844 0 (wide (s.pt.off + (s.pt.fcEpoch : Int)))
          { s with pt := { s.pt with stepDue := false } })
      else s
    (.done, contactors s)

def required (s : State) (p : GdPos) : Bool := bootVal s P.sysBootGdSupply == 0 || !p.high

def absent (s : State) (p : GdPos) : Bool := !dieUp s p

/-- A gate driver die is trained at boot: FC holds no order from before its own reset (R68, R71). -/
def trainDie (i : BootIn) (s : State) (p : GdPos) : State :=
  if absent s p then s
  else
    let s := trainLink i 4 (.gd p) s
    let up := fullLanes (link s (.gd p)) != 0
    putDie p { die s p with trained := (s.jx.gd.get p).lanes.any laneUp, held := s.heel.fc, leg := s.heel.legs.get p.phase, marks := s.heel.legs, hiZ := !up } s

/-- Step 0x04: the links of the dies; a required die that is absent is waited for (R68, R84; event 0x1341). -/
def step04 (i : BootIn) (expired : Bool) (s : State) : StepEnd × State :=
  let missing := GdPos.all.filter (fun p => required s p && absent s p)
  if !missing.isEmpty && !expired then (.wait, startWait false s)
  else
    let s := GdPos.all.foldl (trainDie i) (endWait s)
    let s := if missing.isEmpty then s else record .fc 0x1341 1 [(dieMask (missing.map GdPos.id) : Int)] s
    (.done, s)

/-- FC sets the carrier origin, also where the step is skipped after FC's reset (R325). -/
def carrierOrigin (s : State) : State := { s with mod := { s.mod with origin := ptNow s + 2000, up := false } }

/-- Step 0x05: every copy is disciplined, and FC sets the carrier origin (R47, R325). -/
def step05 (i : BootIn) (s : State) : StepEnd × State :=
  if !i.disciplineOk then (.hold 0, s)
  else
    let good : PtCopy := { PtCopy.reset with disciplined := true }
    (.done, closeBarrier 2 (carrierOrigin { s with
      pt := { s.pt with hb := good, gd := s.pt.gd.mapPos (fun p c => if (die s p).trained then good else c) } }))

/-! ## Steps 0x06 to 0x09 -/

/-- Step 0x06: the FC part, over a link with a trained lane, must match its digest (R80). -/
def step06 (s : State) : StepEnd × State :=
  let okay := match slotOf s s.boot.slot with | some h => fcPartOk (rotOf s s.boot.slot) h | none => false
  if okay && s.jx.hb.lanes.any laneUp then (.done, { s with boot := { s.boot with fcRuns := true } }) else (.hold 0, s)

/-- The failing cells of one macro: macro, row, bit. -/
abbrev Cell := Nat × Nat

/-- Columns that take a spare column: a bit failing in two or more rows, while one is free (R647). -/
def spareCols (m : MemCtl) (k : Nat) (cells : List Cell) : List Nat :=
  let free := 2 - (m.cols.filter (fun c => c.1 == k)).length
  let bits := (cells.map Prod.snd).eraseDups.filter (fun b =>
    2 ≤ ((cells.filter (fun c => c.2 == b)).map Prod.fst).eraseDups.length && !m.cols.contains (k, b))
  bits.take free

/-- The repair analysis of one macro at step 0x07; the flag says that a cell stays unrepaired (R647, R648). -/
def repairMacro (c k : Nat) (cells : List Cell) (s : State) : Bool × State :=
  let m := memCtl s c
  let cols := spareCols m k cells
  let inCol (x : Cell) : Bool := cols.contains x.2 || m.cols.contains (k, x.2)
  let rows := ((cells.filter (fun x => !inCol x)).map Prod.fst).eraseDups.filter (fun r => !m.spares.contains (k, r))
  let take := rows.take (4 - spareUsed m k)
  let fixedRow (r : Nat) : Bool := take.contains r || m.spares.contains (k, r)
  let s := setCtl c { m with spares := m.spares ++ take.map (fun r => (k, r)), cols := m.cols ++ cols.map (fun b => (k, b)) } s
  let new := cols.map (fun b => (⟨c, k, b, true⟩ : Repair)) ++ take.map (fun r => (⟨c, k, r, false⟩ : Repair))
  let flags (x : Cell) : Nat := if inCol x then 2 else if fixedRow x.1 then 1 else 4
  let recs := cells.map (fun x => cellRecord c (k * 65536 + x.1 * 64) x.2 (flags x))
  let bad := cells.any (fun x => flags x == 4)
  (bad, { s with
    mem := { s.mem with
      pendingList := s.mem.pendingList ++ new
      repairs := new.foldl (fun n _ => satInc (2 ^ 32 - 1) n) s.mem.repairs }
    bist := { s.bist with records := (s.bist.records ++ recs).take 64, memFail := true } })

/-- The test of one TCM at step 0x07 (R646, R647, R651; events 0x5F11 to 0x5F13). -/
def testTcm (fails : List (Nat × Nat × Nat)) (r : Bool × State) (mem : Nat) : Bool × State :=
  let s := r.2
  let c := 2 + mem
  let cells := fails.filterMap (fun f => if f.1 == mem && f.2.1 < ctlSize c && f.2.2 < 72 then some f.2 else none)
  match cells with
  | [] => (r.1, record .fc 0x5F11 0 [1, (mem : Int)] s)
  | f :: _ =>
    let macros := (cells.map (fun x => macroOf x.1)).eraseDups
    let e := macros.foldl (fun (a : Bool × State) k =>
      let b := repairMacro c k ((cells.filter (fun x => macroOf x.1 == k)).map (fun x => (rowOf x.1, x.2))) a.2
      (a.1 || b.1, b.2)) (false, s)
    if e.1 then (true, record .fc 0x5F13 1 [1, (mem : Int), (wordOf f.1 : Int)] e.2)
    else (r.1, record .fc 0x5F12 1 [1, (mem : Int), (cells.length : Int)] e.2)

def step07 (i : BootIn) (s : State) : StepEnd × State :=
  let s := { s with bist := { s.bist with records := [], memFail := false } }
  let e := (List.range' 1 11).foldl (testTcm i.memFails) (false, s)
  (if e.1 then .hold 0 else .done, e.2)

/-- Step 0x08, when ordered (R642, R643; events 0x5F01, 0x5F02). -/
def step08 (i : BootIn) (s : State) : StepEnd × State :=
  if !s.boot.startBist then (.skip, s)
  else
    let f := i.bistFails % 16
    let s := bistReport 2 f 180 912 s
    if f == 0 then (.done, record .fc 0x5F01 0 [2, 180, 912] s)
    else (.hold f, record .fc 0x5F02 1 [(f : Int)] s)

/-- Step 0x09 judges the most recent report; a KIND 0b01 boot that passes it clears FAULT_HOLD (R92, R644). -/
def step09 (s : State) : StepEnd × State :=
  if s.bist.complete && s.bist.pass != 15 then (.hold s.bist.pass, s)
  else if s.rst.kind == .bist then
    (.done, { s with op := { s.op with faultHold := false }, boot := { s.boot with fuseHold := false } })
  else (.done, s)

/-! ## Steps 0x0A to 0x0E -/

def lastKey (k : Nat) : Bool := match findRow (k / 256) (k % 256) with | some r => r.store == 2 | none => false

/-- A copy that fails its check at boot (R544). -/
def checkCopy (bad : Bool) (c : Option StoreCopy) : Option StoreCopy :=
  c.map (fun c => if bad then { c with valid := false } else c)

def checkCopies (i : BootIn) (s : State) : State :=
  { s with par := { s.par with
      userA := checkCopy (bitOf i.bad 0) s.par.userA, userB := checkCopy (bitOf i.bad 1) s.par.userB
      devA := checkCopy (bitOf i.bad 2) s.par.devA, devB := checkCopy (bitOf i.bad 3) s.par.devB } }

/-- One copy of a record invalid, the other valid (event 0x1022). -/
def oneInvalid (a b : Option StoreCopy) : Bool :=
  match a, b with
  | some x, some y => x.valid != y.valid
  | _, _ => false

/-- The sealed image reproduces the sealed code (R477). -/
def imageOk (i : BootIn) (s : State) : Bool :=
  !bitOf i.bad 4 && lastCode { s with par := { s.par with work := s.last.image } } == s.last.code

/-- Merges loaded values over the working values. -/
def mergeVals (l : List (Nat × Int)) (work : List (Nat × Int)) : List (Nat × Int) :=
  l.foldl (fun w e => match findRow (e.1 / 256) (e.1 % 256) with
    | some r => putVal (e.1, rowDflt r (e.1 % 256)) e.2 w
    | none => w) work

/-- Step 0x0A: the Last (R84, R91, R93, R477, R546; events 0x1023, 0x1333). -/
def step0A (i : BootIn) (s : State) : StepEnd × State :=
  let s := checkCopies i s
  let s := if (newest s.par.userA s.par.userB).isNone then record .hb 0x1023 1 [] s else s
  let noLast (s : State) : State :=
    { s with
      last := { s.last with sealed := false }
      par := { s.par with work := s.par.work.filter (fun e => !lastKey e.1) }
      op := { s.op with commissioning := true } }
  if s.boot.no0A then (.skip, noLast s)
  else if s.last.code == 0 then (.done, noLast s)
  else if imageOk i s then
    (.done, { s with
      last := { s.last with sealed := true }
      par := { s.par with work := mergeVals s.last.image s.par.work }
      op := { s.op with commissioning := false } })
  else (.failed, record .hb 0x1333 1 [] (noLast s))

/-- Step 0x0B: the user store and the device record (R544 to R546; events 0x1022, 0x1024). Unsealed Last values come from
the user store unless they were set to their defaults. Scrubbing starts at its end (R616). -/
def step0B (i : BootIn) (s : State) : StepEnd × State :=
  let s := if oneInvalid s.par.userA s.par.userB then record .hb 0x1022 0 [0] s else s
  let s := if oneInvalid s.par.devA s.par.devB then record .hb 0x1022 0 [1] s else s
  let u : List (Nat × Int) := match newest s.par.userA s.par.userB with | some c => c.vals | none => []
  let takeLast := s.last.code == 0 && !s.boot.no0A
  let u := u.filter (fun e => !lastKey e.1 || takeLast)
  let dev := newest s.par.devA s.par.devB
  let s := if dev.isNone then record .hb 0x1024 1 [] s else s
  let dv : List (Nat × Int) := match dev with | some c => c.vals | none => []
  let s := { s with par := { s.par with work := mergeVals dv (mergeVals u s.par.work) } }
  if !i.deliverOk then (.hold 0, s)
  else
    let s := setCarrier (bothBanks s)
    (.done, { s with
      boot := { s.boot with loaded := true }
      loop := { s.loop with mode := parN s P.loopMode }
      mem := { s.mem with ctl := s.mem.ctl.map (fun m =>
        { startPass (now s) (parN s P.memScrubPeriod) m with on := true, pass := 0 }) } })

/-- Step 0x0C: feedback start; it fails when it ends with the primary source lost (R168 to R170). -/
def step0C (i : BootIn) (s : State) : StepEnd × State :=
  let s := fbStartEnd s.boot.atLast i.fb s
  (if fbFailed s then .failed else .done, s)

/-- Step 0x0D: offset calibration (R117; events 0x2065, 0x5355). -/
def step0D (i : BootIn) (s : State) : StepEnd × State :=
  let s := calEvaluate i.cal s
  let s := if s.boot.disCut && decide (60 * 65536 ≤ i.vdc) then record .fc 0x5355 1 [] s else s
  let s := { s with boot := { s.boot with disCut := false } }
  if calUsable s then (.done, s) else (.hold 0, record .fc 0x2065 1 [] s)

/-- Step 0x0E: STO input paths and output readback (R446, R693; event 0x5303). -/
def step0E (i : BootIn) (s : State) : StepEnd × State :=
  let a := stoPathOk s i.stoA
  let b := stoPathOk s i.stoB
  let s := { s with saf := { s.saf with stoTestFail := !(a && b) } }
  let s := if a && b then s else record .hb 0x5303 1 [(if a then 1 else 0 : Int)] s
  if a && b && i.readback then (.done, s) else (.hold 0, s)

/-! ## Ends of a boot -/

def joinBoth (s : State) : State := startupJoin .b (startupJoin .a s)

/-- A trial boot that reaches its end makes its slot the active one (R82). -/
def trialPassed (s : State) : State :=
  if s.boot.onTrial then { s with
    boot := { s.boot with active := s.boot.slot, trial := none, trialFails := 0, onTrial := false }
    id := { s.id with staged := 0 } }
  else s

/-- The raise of the fused SEC_VER falls due when the active image holds a higher one (R82). -/
def raiseDue (s : State) : State :=
  let sec : Nat := match slotOf s s.boot.active with | some h => h.secVer | none => 0
  if s.boot.fused < sec then { s with boot := { s.boot with raise := some sec } } else s

/-- STANDBY, unless FAULT_HOLD keeps the package in BOOT (R56, R82, R93). -/
def bootEnd (s : State) : State :=
  let s := { s with boot := { s.boot with running := none } }
  if s.op.faultHold then s
  else
    let s := raiseDue (trialPassed s)
    changeState .standby 0 { s with
      boot := { s.boot with done := true }, saf := { s.saf with msgAt := now s }, sm := { s.sm with weltState := parN s P.safetyState } }

/-- The end of an HB rejoin: HB adopts the state FC reports (R73, R462, R567). -/
def rejoinEnd (s : State) : State :=
  let u : List (Nat × Int) := match newest s.par.userA s.par.userB with | some c => c.vals | none => []
  let l := if s.last.sealed then s.last.image else []
  let vals := (u ++ l).filter (fun e => hbKey e.1)
  let s := addCause 6 { s with
    par := { s.par with work := mergeVals vals s.par.work }
    pt := { s.pt with hb := { PtCopy.reset with disciplined := true } }
    heel := { s.heel with hb := s.heel.fc }
    saf := { s.saf with msgAt := now s }
    mem := { s.mem with ctl := [0, 1].foldl (fun l c => upd l c (scrubsOn s)) s.mem.ctl }
    boot := { s.boot with loaded := true, done := true, running := none } }
  joinBoth (brake (contactors s))

/-- Steps 0x04 to 0x0E; `s` stands at the end of step 0x03. -/
def bootRest (i : BootIn) (k : BootKind) (links expired : Bool) (r : Bool × State) : Bool × State :=
  let r := if links then bootStep i 0x05 (step05 i) (bootStep i 0x04 (step04 i expired) r)
    else bootStep i 0x05 (fun s => (.skip, carrierOrigin s)) (bootStep i 0x04 (fun s => (.skip, s)) r)
  let r := bootStep i 0x07 (step07 i) (bootStep i 0x06 step06 r)
  let r := bootStep i 0x09 step09 (bootStep i 0x08 (step08 i) r)
  let r := bootStep i 0x0B (step0B i) (bootStep i 0x0A (step0A i) r)
  let r := bootStep i 0x0D (step0D i) (bootStep i 0x0C (step0C i) r)
  let r := bootStep i 0x0E (step0E i) r
  if r.1 then (true, bootEnd (if k == .fieldSide then r.2 else joinBoth r.2)) else r

/-- The links need training: not after a package reset with the HB link kept (R71). -/
def needLinks (s : State) (k : BootKind) : Bool :=
  k != .package || s.supply.fcLock || fullLanes s.jx.hb == 0

/-- Step 0x03 and what follows. -/
def bootFrom03 (i : BootIn) (k : BootKind) (r : Bool × State) : Bool × State :=
  let links := needLinks r.2 k
  let r := bootStep i 0x03 (if links then step03 i else fun s => (.skip, s)) r
  if k == .rejoin then (if r.1 then (true, rejoinEnd r.2) else r) else bootRest i k links false r

/-- A boot from step 0x01. -/
def bootFrom01 (i : BootIn) (k : BootKind) (s : State) : Bool × State :=
  let hist := s.boot.insole
  let r := bootStep i 0x01 (step01 i hist) (true, openBoot k i.rot s)
  let r := bootStep i 0x02 step02 r
  if r.2.boot.recovery then r else bootFrom03 i k r

/-- A boot from step 0x03 after FC's return; HB's firmware has run on (R71). It runs step 0x08 where every boot does
(R92), and being no KIND 0b01 boot it does not clear FAULT_HOLD. -/
def bootField (i : BootIn) (s : State) : Bool × State :=
  let s := bootChange { s with
    rst := { s.rst with kind := .plain }
    boot := { s.boot with
      running := some .fieldSide, plan := lanePlan none, atLast := false, no0A := false
      startBist := parOn s P.sysBootBistAlways } }
  bootFrom03 i .fieldSide (true, s)

/-- BOOT: the boot that is due runs (R84); one that waits for FC or for a gate driver die goes on once it is present. -/
def execBoot (i : BootIn) (s : State) : Host.Outcome State Fault Refusal :=
  ok (if s.supply.hbLock || s.rst.nresetLow then s
      else match s.rst.due with
        | some k =>
          let s := { s with rst := { s.rst with due := none } }
          (if k == .fieldSide then bootField i s else bootFrom01 i k s).2
        | none =>
          match s.boot.running with
          | none => s
          | some k =>
            if s.boot.waitFc && !s.supply.fcLock then (bootFrom03 i k (true, s)).2
            else if s.boot.waitGd && GdPos.all.all (fun p => !required s p || !absent s p) then
              (bootRest i k true false (true, s)).2
            else s)

/-- GD_WAIT_TIMEOUT: sys.boot.gd_wait has passed; boot goes on without the absent dies (R84; event 0x1341). -/
def execGdWaitTimeout (i : BootIn) (s : State) : Host.Outcome State Fault Refusal :=
  ok (match s.boot.running with
      | none => s
      | some k =>
        if s.boot.waitGd && decide (s.boot.waitAt + (bootVal s P.sysBootGdWait).toNat * 1000000 ≤ now s) &&
            !s.supply.hbLock && !s.supply.fcLock then (bootRest i k true true (true, s)).2
        else s)

/-- TRIAL_BOOT_TIMEOUT: a trial boot not in STANDBY within 2 s, not counting the waits (R83). -/
def execTrialBootTimeout (s : State) : Host.Outcome State Fault Refusal :=
  ok (if s.boot.onTrial && s.op.state == .boot && !s.boot.waitFc && !s.boot.waitGd && s.rst.due.isNone && !s.supply.hbLock
        && decide (s.boot.since + 2000000000 ≤ now s)
      then insoleRetry s else s)

/-- HIGH_SIDE_TRAIN_TIMEOUT: 50 ms after ENABLE a high-side die is still untrained (R70; event 0x1342). -/
def execHighSideTrainTimeout (s : State) : Host.Outcome State Fault Refusal :=
  ok (match s.obs.enableTag with
      | none => s
      | some t =>
        if s.mod.charging && s.op.state == .ready && !highTrained s && decide (s.mod.chargeAt + 50000000 ≤ now s) then
          answer t ⟨stFault, 0x1342, []⟩ (record .fc 0x1342 1 [] { s with
            mod := { s.mod with charging := false, pattern := 0 }, obs := { s.obs with enableTag := none } })
        else s)

/-! ## Orderly shutdown (R95 to R97) -/

/-- Tags with a command in flight. -/
def openTags (s : State) : List Nat := (List.range 128).filter (fun i => (tag s i).st == .queued || (tag s i).st == .running)

/-- Commands still open at the end of the drain end ST_CANCELLED (R95). -/
def cancelOpen (s : State) : State :=
  let s := (openTags s).foldl (fun s i => finishSt i stCancelled s) s
  let u := if s.par.storing.isSome then spoilCopy s.par.userA s.par.userB else (s.par.userA, s.par.userB)
  { s with
    mbx := { s.mbx with bells := [] }
    snap := { s.snap with pending := none }
    par := { s.par with storing := none, userA := u.1, userB := u.2 }
    last := { s.last with computing := none }
    saf := { s.saf with check := none }
    sense := { s.sense with cal := none }
    fb := { s.fb with restart := none }
    diag := none
    boot := { s.boot with stageVerify := none }
    bist := { s.bist with job := none }
    mem := { s.mem with scrubs := [] } }

/-- A recorded MRAM block is retested, and remapped when it fails (R650; events 0x5F14, 0x5F15). -/
def retestBlock (bad : List Nat) (s : State) (b : Nat) : State :=
  if !bad.contains b || s.mem.mramRemap.contains b then s
  else if s.mem.mramRemap.length < 256 then
    record .hb 0x5F14 0 [(b : Int)] { s with mem := { s.mem with mramRemap := s.mem.mramRemap ++ [b] } }
  else record .hb 0x5F15 1 [] s

/-- The persistent queue is written (R663). -/
def drainLog (s : State) : State :=
  let s := countTail s
  s.evt.pq.foldl (fun s r => putP r s) { s with evt := { s.evt with pq := [] } }

/-- Scrubbing stops in every controller (R616). -/
def scrubOff (s : State) : State := { s with mem := { s.mem with ctl := s.mem.ctl.map (fun m => { m with on := false }) } }

/-- Step 0x22: the persistent queue is written and the recorded MRAM words are retested; scrubbing stops (R616, R650,
R663; events 0x5F14, 0x5F15). `bad` names the blocks that fail. -/
def step22 (bad : List Nat) (s : State) : State :=
  let s := scrubOff (drainLog s)
  let blocks := (s.mem.mramWeak.map (fun a => a / 64)).eraseDups
  let s : State := blocks.foldl (retestBlock bad) s
  { s with mem := { s.mem with mramWeak := [] } }

/-- What step 0x23 has to burn: the anti-rollback raise and the pending repairs, at most 16 entries (R95). -/
def fuseList (s : State) : List (Option Repair) :=
  ((if s.boot.raise.isSome then [none] else []) ++ s.mem.pendingList.map some).take 16

/-- The fuse entry in progress ends and the next one begins; a repair whose burn fails stays pending as a soft repair
(R97; event 0x1353). -/
def burnNext (bad : Bool) (s : State) : State :=
  match s.boot.burn with
  | [] => s
  | some r :: l =>
    if bad then record .hb 0x1353 1 [(r.macro_ : Int)] { s with boot := { s.boot with burn := l } }
    else
      let s := endFuse true s
      { s with boot := { s.boot with burn := l } }
  | none :: l =>
    let s := endFuse true s
    { s with boot := { s.boot with burn := l } }

/-- Step 0x23 as far as `upto` of the entries left; `bad` names those whose burn fails. -/
def burnUpTo (bad : List Nat) (upto : Nat) (s : State) : State :=
  (List.range (min upto s.boot.burn.length)).foldl (fun s k => burnNext (bad.contains k) s) s

/-- The results of step 0x24: logic BIST in four partitions (R642 to R644; events 0x5F01, 0x1352). -/
def shutBist (fails : Nat) (s : State) : State :=
  let f := fails % 16
  let s := bistReport 1 f 420 945 s
  if f == 0 then journalSet 0x24 2 0 (record .fc 0x5F01 0 [1, 420, 945] s)
  else
    let s := ((List.range 4).filter (bitOf f)).foldl (fun s k => record .fc 0x1352 1 [(k : Int)] s) s
    journalSet 0x24 3 f s

/-- Step 0x25: SHUTDOWN_DONE and event 0x1351; its BIST result is 0 when no logic BIST ran (DESIGN CHOICE, log 48). -/
def shutEnd (s : State) : State :=
  let res : Nat := if parN s P.sysShutdownBist == 0 then 0 else s.bist.pass + 128
  let s := record .hb 0x1351 0 [(s.boot.burnt : Int), (s.mem.pendingList.length : Int), (res : Int)]
    { s with boot := { s.boot with step := 0x25, shutdownDone := true } }
  journalSet 0x25 2 0 (drainLog s)

/-- Step 0x24, when sys.shutdown.bist = 1, then step 0x25. `stop`: the sequence stands in step 0x24, its entry started. -/
def shutFrom24 (fails : Nat) (stop : Bool) (s : State) : State :=
  if parN s P.sysShutdownBist == 0 then shutEnd (journalSet 0x24 4 0 s)
  else
    let s := journalSet 0x24 1 0 (bistBegins { s with boot := { s.boot with step := 0x24 } })
    if stop then s else shutEnd (shutBist fails s)

/-- The drain goes on: commands are in flight and sys.shutdown.drain has not passed (R95). -/
def draining (s : State) : Bool :=
  s.boot.drain && !(openTags s).isEmpty && decide (now s < s.boot.drainAt + parN s P.sysShutdownDrain * 1000000)

/-- SHUTDOWN_DRAIN_END: the end of step 0x21, then steps 0x22 to 0x25 (event 0x1351). `cut` names the step, 0x23 with the
entries burned by then or 0x24, in which the next operation meets the sequence (R99, R100); from there the operation
goes on where the sequence stands (log 12). -/
def execShutdownDrainEnd (bistFails : Nat) (burnFails : List Nat) (mramFails : List Nat) (cut : Option (Nat × Nat))
    (s : State) : Host.Outcome State Fault Refusal :=
  ok (if s.op.state != .shutdown || s.boot.shutdownDone || dieDown s .hb || draining s then s
      else
        let s : State := if !s.boot.drain then s
          else
            let s := journalSet 0x21 2 0 (cancelOpen { s with boot := { s.boot with drain := false } })
            let s := journalSet 0x22 2 0 (step22 mramFails { s with boot := { s.boot with step := 0x22 } })
            journalSet 0x23 1 0 { s with boot := { s.boot with step := 0x23, burn := fuseList s, burnt := 0 } }
        let stop24 := match cut with | some c => c.1 == 0x24 | none => false
        if s.boot.step == 0x24 then shutFrom24 bistFails stop24 s
        else
          let upto := match cut with | some c => if c.1 == 0x23 then c.2 else 16 | none => 16
          let s := burnUpTo burnFails upto s
          if s.boot.burn.isEmpty then shutFrom24 bistFails stop24 (journalSet 0x23 2 0 s) else s)

end Sys2Proof.Machine
end

