-- ==== Sys2Proof/Machine/CommandStep.lean ====
section
/-! DEFINITION. The steps of long commands (R520) and CANCEL (R523, R524, R582). -/

namespace Sys2Proof.Machine
open Sys2Proof

/-! ## Steps -/

/-- A short step waits: a reply to take up, or a one-step command admitted and not yet run (R520). -/
def shortWaiting (s : State) : Bool :=
  s.mbx.tags.any (fun t => t.st == .running && (t.reply.isSome || (!t.started && !longOps.contains t.opcode)))

/-- What a further step of a long command does. The work of the field side and of the CAN controllers goes on by itself;
their commands only wait for it. -/
def longBody (i : Nat) (s : State) : State :=
  match (tag s i).opcode with
  | 0x18 => storeHeader i s
  | 0x31 => fbRestartDone i s
  | 0x50 => lastComputeDone i s
  | 0x60 => finishSt i stOk s
  | 0x62 => stageVerified i s
  | 0x78 => scrubStep i s
  | _ => s

/-- COMMAND_STEP: one step of the long command after the one stepped last, once no doorbell and no short step waits
(R520). -/
def execCommandStep (i : Nat) (s : State) : Host.Outcome State Fault Refusal :=
  ok (if cpDown s || s.pairs.cp.restarting || !s.mbx.bells.isEmpty || shortWaiting s || s.mbx.rr.head? != some i then s
      else
        let s := postInterim i (setTag i (fun t => { t with steps := t.steps + 1 }) s)
        longBody i { s with mbx := { s.mbx with rr := s.mbx.rr.filter (· != i) ++ [i] } })

/-! ## CANCEL -/

/-- The target ends ST_CANCELLED and the CANCEL ends ST_OK, in one step (R523). -/
def bothEnd (t i : Nat) (s : State) : State := finishSt i stOk (finishSt t stCancelled s)

/-- The channel and buffer of a pending CAN_TX. -/
def txOf (s : State) (t : Nat) : Option (Ch × Nat) :=
  let at_ (c : Ch) : Option Nat := (chan s c).tx.findIdx? (fun x => match x with | some x => x.tag == some t | none => false)
  match at_ .a, at_ .b with
  | some b, _ => some (.a, b)
  | none, some b => some (.b, b)
  | none, none => none

/-- CANCEL of a CAN_TX; `sof` when an attempt of the frame is past its start of frame (R582). -/
def cancelTx (t i : Nat) (sof : Bool) (s : State) : State :=
  match txOf s t with
  | none => finishSt i stTooLate s
  | some (c, b) =>
    match txAt (chan s c) b with
    | none => finishSt i stTooLate s
    | some x =>
      if !sof then bothEnd t i (setTx c b none s)
      else if x.cancel.isSome then finishSt i stTooLate s
      else setTx c b (some { x with cancel := some i }) s

/-- The channel whose CAN_BUS_ON or CAN_RATE_DETECT runs on a tag. -/
def chanOf (s : State) (f : CanCh → Option Nat) (t : Nat) : Option Ch :=
  if f s.can.a == some t then some .a else if f s.can.b == some t then some .b else none

/-- Homing or segment execution ends its source like a velocity target of 0 (R524). A command not yet taken is withdrawn. -/
def cancelMotion (t : Nat) (s : State) : State :=
  if s.pe.homeTag == some t || s.pe.segTag == some t then
    planStop 2 (profDec s) (profJerk s) (endSource stCancelled 0 s)
  else { s with pe := { s.pe with queue := s.pe.queue.filter (fun m => motionTag m != some t) } }

/-- CANCEL of a command that has started. -/
def cancelRunning (t i : Nat) (sof : Bool) (s : State) : State :=
  let x := tag s t
  if x.reply.isSome then finishSt i stTooLate s
  else match x.opcode with
    | 0x18 =>
      let u := spoilCopy s.par.userA s.par.userB
      bothEnd t i { s with par := { s.par with storing := none, userA := u.1, userB := u.2 } }
    | 0x34 => bothEnd t i { s with snap := { s.snap with pending := none } }
    | 0x44 | 0x46 => bothEnd t i (cancelMotion t s)
    | 0x50 => bothEnd t i { s with last := { s.last with computing := none } }
    | 0x60 | 0x62 => bothEnd t i (setSlot (!s.boot.active) none
        { s with boot := { s.boot with stage := none, stageVerify := none } })
    | 0x78 => bothEnd t i { s with mem := { s.mem with scrubs := s.mem.scrubs.filter (fun j => j.tag != t) } }
    | 0x79 =>
      match s.bist.job with
      | some j =>
        if j.tag != some t || j.cancel then finishSt i stTooLate s
        else { s with bist := { s.bist with job := some { j with cancel := true, canceller := some i } } }
      | none => finishSt i stTooLate s
    | 0x80 => cancelTx t i sof s
    | 0x83 =>
      match chanOf s CanCh.onTag t with
      | some c => bothEnd t i (setCh c { chan s c with mode := (chan s c).prev, onTag := none } s)
      | none => finishSt i stTooLate s
    | 0x84 =>
      match chanOf s (fun x => x.det.map CanDet.tag) t with
      | some c => bothEnd t i (setCh c { chan s c with mode := .listen, det := none } s)
      | none => finishSt i stTooLate s
    | _ => finishSt i stTooLate s

/-- CANCEL (R523). A target admitted and not started counts as QUEUED (log 14). -/
def execCancel (i : Nat) (sof : Bool) (s : State) : Host.Outcome State Fault Refusal :=
  ok (if canStart s i 0x01 then
        let s := start i s
        let t := cancelTarget s i
        if t == i then finishSt i stBadIndex s
        else match (tag s t).st with
          | .free => finishSt i stBadIndex s
          | .done => finishSt i stTooLate s
          | .queued => bothEnd t i { s with mbx := { s.mbx with bells := s.mbx.bells.filter (· != t) } }
          | .running => if (tag s t).started then cancelRunning t i sof s else bothEnd t i s
      else s)

end Sys2Proof.Machine
end

