-- ==== Sys2Proof/Machine/Tap.lean ====
section
/-! DEFINITION. The test access port: the instructions of R683, the debug unlock of R684. -/

namespace Sys2Proof.Machine
open Sys2Proof

/-- The 5-bit code of an instruction is loaded; EXTEST ends with any other instruction. -/
def loadIr (code : Nat) (s : State) : State := { s with tap := { s.tap with ir := code, extest := false } }

/-- What the instruction shifts out. -/
def shiftsOut (v : Nat) (s : State) : State := { s with tap := { s.tap with dr := v } }

/-- An instruction replaced by BYPASS (R683, R685). -/
def replaced (s : State) : State := { loadIr 0x1F s with tap := { (loadIr 0x1F s).tap with refused := true } }

/-- The port runs while HB is powered. -/
def tapOp (f : State → State) (s : State) : State := if s.supply.hbLock then s else f s

/-- An instruction that only an unlocked port takes. -/
def unlockedOp (code : Nat) (s : State) : State := if s.tap.unlocked then loadIr code s else replaced s

def execTapBypass (s : State) : Host.Outcome State Fault Refusal := ok (tapOp (loadIr 0x1F) s)

/-- IDCODE shifts out 0x20812B4F. -/
def idcode : Nat := 0x20812B4F

def execTapIdcode (s : State) : Host.Outcome State Fault Refusal := ok (tapOp (fun s => shiftsOut idcode (loadIr 0x01 s)) s)

def execTapSamplePreload (s : State) : Host.Outcome State Fault Refusal := ok (tapOp (unlockedOp 0x02) s)

/-- EXTEST drives the H balls when unlocked and with HB in recovery, and is replaced otherwise (R683, R702). -/
def execTapExtest (s : State) : Host.Outcome State Fault Refusal :=
  ok (tapOp (fun s =>
    if s.tap.unlocked && s.boot.recovery then
      let t := loadIr 0x03 s
      { t with tap := { t.tap with extest := true } }
    else replaced s) s)

/-- DBG_CHAL makes and shifts out a fresh 256-bit challenge, a free value (R684, log 8). -/
def execDbgChal (s : State) : Host.Outcome State Fault Refusal :=
  ok (tapOp (fun s =>
    let f := takeFree (loadIr 0x10 s)
    { f.2 with tap := { f.2.tap with
        dr := f.1 % 2 ^ 256, challenge := some (f.1 % 2 ^ 256), chalUsed := false } }) s)

/-- DBG_RESP: the signature uses the challenge up and unlocks debug in the states of R684; else REFUSED. `verifies` says
whether it verifies over that challenge and the serial number. -/
def execDbgResp (verifies : Bool) (s : State) : Host.Outcome State Fault Refusal :=
  ok (tapOp (fun s =>
    let fresh := s.tap.challenge.isSome && !s.tap.chalUsed
    let where_ := s.boot.recovery || (match s.op.state with
      | .boot | .standby | .shutdown => true
      | _ => false)
    let good := verifies && fresh && where_
    let s := loadIr 0x11 s
    { s with tap := { s.tap with
        chalUsed := true, unlocked := s.tap.unlocked || good, refused := s.tap.refused || !good } }) s)

def execDbgAccess (s : State) : Host.Outcome State Fault Refusal := ok (tapOp (unlockedOp 0x12) s)

/-- TAP_RESET: nTRST resets the test access port alone; debug stays as it was (R684, R702). -/
def execTapReset (s : State) : Host.Outcome State Fault Refusal := ok (tapOp (fun s => shiftsOut idcode (loadIr 0x01 s)) s)

end Sys2Proof.Machine
end

