-- ==== Sys2Proof/Machine/Regs.lean ====
section
/-! DEFINITION. The direct register window (R504): every register's word, and what a read or a write of it does. -/

namespace Sys2Proof.Machine
open Sys2Proof

/-- A signed value saturated to ±32,767, as 16 bits. -/
def sat16 (v : Int) : Nat := tc 16 (max (-32767) (min 32767 v))

/-- A count saturated to a field of `n` bits. -/
def satN (n v : Nat) : Nat := min (2 ^ n - 1) v

/-! ## HB registers -/

def hbPt (s : State) : Nat := if s.pt.hb.disciplined then ptNow s else now s - s.pt.hbEpoch

/-- HB_OP_STATE (R57). -/
def opStateWord (s : State) : Nat :=
  pack [(19, 1, bit1 s.op.faultHold), (18, 1, bit1 s.op.commissioning), (17, 1, bit1 s.op.degraded),
    (16, 1, bit1 s.op.stoActive), (8, 3, s.op.maxClass), (4, 4, s.op.prev.code), (0, 4, s.op.state.code)]

/-- HB_BOOT_STATUS (R87). -/
def bootStatusWord (s : State) : Nat :=
  pack [(8, 8, s.boot.step), (7, 1, bit1 s.boot.shutdownDone), (6, 1, bit1 s.boot.startBist),
    (5, 1, bit1 s.boot.recovery), (4, 1, bit1 s.boot.slot), (3, 1, bit1 s.boot.waitGd), (2, 1, bit1 s.boot.waitFc)]

/-- HB_SAFE_IO (R482). -/
def safeIoWord (s : State) : Nat :=
  pack [(18, 1, bit1 (readyOut s)), (17, 1, bit1 (faultOut s)),
    (14, 3, maskOf [s.saf.weld.neg, s.saf.weld.pre, s.saf.weld.pos]),
    (11, 3, maskOf [s.saf.kFb.pos, s.saf.kFb.neg, s.saf.kFb.pre]),
    (8, 3, maskOf [s.saf.kCmd.pos, s.saf.kCmd.neg, s.saf.kCmd.pre]), (7, 1, bit1 (s.saf.brkFault || s.saf.brkMis)),
    (6, 1, bit1 s.saf.brkFb), (5, 1, bit1 s.saf.brkRel), (4, 1, bit1 s.saf.stoDisc),
    (2, 2, maskOf [s.saf.stoFilt.a, s.saf.stoFilt.b]), (0, 2, maskOf [s.saf.stoRaw.a, s.saf.stoRaw.b])]

/-- HB_DBG_STATUS (R685). -/
def dbgWord (s : State) : Nat := maskOf [s.tap.unlocked, s.tap.extest, s.tap.refused]

def portCfgWord (s : State) : Nat :=
  pack [(24, 8, s.port.version), (16, 8, s.port.mhz), (10, 1, bit1 s.port.mode3), (8, 2, s.port.width)]

def portStatusWord (s : State) : Nat :=
  pack [(24, 8, s.port.lastCode), (16, 8, satN 8 s.port.hdrErr), (8, 8, satN 8 s.port.stalls), (0, 5, s.port.sticky)]

def errCntWord (s : State) : Nat :=
  pack [(24, 8, s.mbx.errCrc), (16, 8, s.mbx.errOp), (8, 8, s.mbx.errBusy), (0, 8, s.mbx.violLost)]

/-- HB_MBX_BUSYk (R510). -/
def busyWord (s : State) (k : Nat) : Nat := maskOf ((List.range 32).map (fun n => (tag s (32 * k + n)).st != .free))

/-- CAN mode codes (R561). -/
def CanMode.code : CanMode → Nat
  | .off => 0 | .detect => 1 | .listen => 2 | .joining => 3 | .on => 4 | .busOff => 5 | .recovering => 6

/-- HB_CAN_x_STATUS (R597). -/
def canStatusWord (c : CanCh) : Nat :=
  let err : Nat := if c.mode == .busOff || c.mode == .recovering then 2
    else if 127 < c.tec || 127 < c.rec_ then 1 else 0
  pack [(23, 7, c.fifo.length), (15, 8, maskOf (c.tx.map (fun t => t.isSome))), (14, 1, bit1 c.noListener),
    (13, 1, bit1 c.overflow), (12, 1, bit1 c.triple), (11, 1, bit1 c.clkStop), (8, 3, c.mode.code), (6, 2, err),
    (0, 3, c.lastErr)]

def canErrWord (c : CanCh) : Nat :=
  pack [(16, 16, satN 16 c.errFrames), (8, 8, satN 8 c.rec_), (0, 8, satN 8 c.tec)]

/-- HB_NT_STATUS and HB_NT_OFFSET (R598). -/
def ntWord (s : State) : Nat :=
  pack [(16, 8, tc 8 s.nt.rate), (8, 6, s.nt.cycle), (2, 1, bit1 (isMaster s)), (1, 1, bit1 s.nt.aligned), (0, 1, bit1 s.nt.sync)]

def ntOffsetWord (s : State) : Nat := tc 32 (max (-(2 ^ 31)) (min (2 ^ 31 - 1) s.nt.e))

/-- The recorder window (R667, R671). -/
def evtCursorWord (s : State) : Nat :=
  pack [(16, 16, (logOf s s.evt.logSel).length), (0, 16, curOf s s.evt.logSel)]

def evtStatusWord (s : State) : Nat :=
  pack [(7, 1, bit1 s.evt.pQueueLost), (6, 1, bit1 s.evt.fcLostBit), (5, 1, bit1 (decide (16384 ≤ s.evt.plog.length))),
    (4, 1, bit1 (decide (4096 ≤ s.evt.vlog.length)))]

def evtDataWord (s : State) (k : Nat) : Nat :=
  match (logOf s s.evt.logSel)[curOf s s.evt.logSel]? with
  | some r => beNat (((recBytes r).drop (4 * k)).take 4)
  | none => 0

/-! ## Memory registers (R625) -/

/-- The selected controller of a register set: HB's, or FC's with its DIE field. -/
def memSel (s : State) (fc : Bool) : Option Nat :=
  if fc then (match dieOfId s.mem.fcDie with | some d => ctlOf d s.mem.fcMem | none => none) else ctlOf .hb s.mem.hbMem

def memEntry (s : State) (fc : Bool) : Option EccEntry :=
  match memSel s fc with
  | some c => nth (memCtl s c).table (if fc then s.mem.fcEntry else s.mem.hbEntry) none
  | none => none

def memSelectWord (s : State) (fc : Bool) : Nat :=
  if fc then pack [(24, 3, s.mem.fcDie), (16, 4, s.mem.fcMem), (0, 4, s.mem.fcEntry)]
  else pack [(16, 4, s.mem.hbMem), (0, 4, s.mem.hbEntry)]

def memStatusWord (s : State) (fc : Bool) : Nat :=
  match memSel s fc with
  | none => 0
  | some c =>
    let m := memCtl s c
    pack [(24, 8, m.pass), (16, 8, satN 8 (s.mem.pendingList.filter (fun r => r.ctl == c)).length),
      (8, 4, if isMram c then 0 else spareMin m), (3, 1, bit1 m.noSpare), (2, 1, bit1 m.ovf), (1, 1, bit1 m.late),
      (0, 1, bit1 (m.on && parOn s P.memScrubEnable))]

def memCountsWord (s : State) (fc : Bool) : Nat :=
  match memSel s fc with
  | none => 0
  | some c =>
    let m := memCtl s c
    pack [(16, 16, satN 16 m.corr), (8, 8, satN 8 m.uncorr), (0, 8, satN 8 m.poisoned.length)]

def memAddrWord (s : State) (fc : Bool) : Nat := match memEntry s fc with | some e => e.addr | none => 0xFFFFFFFF

def memInfoWord (s : State) (fc : Bool) : Nat :=
  match memEntry s fc with
  | none => 0
  | some e =>
    let k : Nat := match e.kind with | .correctable => 1 | .hard => 2 | .poisoned => 3
    pack [(30, 2, k), (29, 1, bit1 e.repaired), (16, 8, e.syndrome), (8, 8, satN 8 e.count), (0, 8, e.pass)]

/-- The HB ranges of the window: none where no register exists (R504). -/
def readHb (s : State) (a : Nat) : Option Nat :=
  match a with
  | 0x0000 => some identWord
  | 0x0004 => some s.id.running
  | 0x0008 => some (s.id.serial % 2 ^ 32)
  | 0x000C => some (s.id.serial / 2 ^ 32 % 2 ^ 32)
  | 0x0010 => some (opStateWord s)
  | 0x0014 => some s.gdSelect
  | 0x0018 => some (hbPt s % 2 ^ 32)
  | 0x001C => some s.pt.hbHi
  | 0x0020 => some s.rst.cause
  | 0x0024 => some (bit1 s.rst.rejected * 256)
  | 0x0028 => some (bootStatusWord s)
  | 0x0030 => some (safeIoWord s)
  | 0x0034 => some (dbgWord s)
  | 0x0040 => some (portCfgWord s)
  | 0x0044 => some (portStatusWord s)
  | 0x0048 => some 0
  | 0x004C => some s.mbx.tail
  | 0x0050 => some s.mbx.head
  | 0x0054 => some s.mbx.irq
  | 0x0058 => some s.mbx.irqEn
  | 0x005C => some (errCntWord s)
  | 0x0060 => some (busyWord s 0)
  | 0x0064 => some (busyWord s 1)
  | 0x0068 => some (busyWord s 2)
  | 0x006C => some (busyWord s 3)
  | 0x1000 => some (canStatusWord s.can.a)
  | 0x1004 => some (canErrWord s.can.a)
  | 0x1010 => some (canStatusWord s.can.b)
  | 0x1014 => some (canErrWord s.can.b)
  | 0x1020 => some (ntWord s)
  | 0x1024 => some (ntOffsetWord s)
  | 0x1200 => some (bit1 s.evt.logSel)
  | 0x1204 => some (evtCursorWord s)
  | 0x1208 => some (overOf s s.evt.logSel)
  | 0x120C => some (evtStatusWord s)
  | 0x1210 => some (evtDataWord s 0)
  | 0x1214 => some (evtDataWord s 1)
  | 0x1218 => some (evtDataWord s 2)
  | 0x121C => some (evtDataWord s 3)
  | 0x1220 => some (evtDataWord s 4)
  | 0x1224 => some (evtDataWord s 5)
  | 0x1228 => some (evtDataWord s 6)
  | 0x122C => some (evtDataWord s 7)
  | 0x1800 => some (memSelectWord s false)
  | 0x1804 => some (memStatusWord s false)
  | 0x1808 => some (memCountsWord s false)
  | 0x180C => some (memAddrWord s false)
  | 0x1810 => some (memInfoWord s false)
  | _ => none

/-! ## FC registers -/

/-- FC_SENSE_STATUS (R137). -/
def senseWord (s : State) : Nat :=
  pack [(30, 1, bit1 s.sense.cal.isSome), (28, 2, s.sense.vdcSrc),
    (26, 2, s.sense.ctrlSet), (24, 2, s.sense.monSet), (12, 12, s.sense.repB), (0, 12, s.sense.repA)]

/-- FC_FB_STATUS, FC_FB_IDX_CORR, FC_FB_ERRCNT (R182 to R184). -/
def fbIdxWord (s : State) : Nat := pack [(16, 16, satN 16 s.fb.indexNo), (0, 16, tc 16 s.fb.corr)]
def fbErrWord (s : State) : Nat := pack [(16, 16, satN 16 s.fb.errIllegal), (0, 16, satN 16 s.fb.errSsi)]

/-- FC_OBS_STATUS and its companions (R225, R226). -/
def obsWord (s : State) : Nat :=
  let o := s.obs
  let cnt := min 3 (o.reacqStamps.filter (fun t => decide (now s < t + 60000000000))).length
  pack [(25, 3, o.ctrlSrc), (23, 2, o.comm), (22, 1, bit1 o.oe0.valid), (21, 1, bit1 o.oe1.valid), (20, 1, bit1 o.oe0.out),
    (19, 1, bit1 o.oe1.out), (18, 1, bit1 o.reacq.isSome), (16, 2, cnt), (15, 1, bit1 o.dir), (12, 3, o.start),
    (9, 3, o.awl), (0, 8, o.resMax)]

def obsThetaWord (s : State) : Nat := pack [(16, 16, s.obs.theta), (0, 16, s.obs.oe0.last)]
def obsAwlWord (s : State) : Nat :=
  pack [(16, 16, s.obs.awlTheta), (8, 8, satN 8 s.obs.awlMargin), (0, 8, satN 8 s.obs.awlAniso)]

/-- FC_LOOP_STATUS: the limit bits stand in `status` at the register's places (R269). -/
def loopWord (s : State) : Nat :=
  pack [(24, 8, satN 8 s.loop.restarts), (11, 1, bit1 (!s.loop.commit.isEmpty)), (3, 8, s.loop.status / 8),
    (0, 2, s.loop.mode)]

/-- A current in A, rounded half away from zero and saturated (R270). -/
def ampWord (v : Int) : Nat := sat16 (divRound v 65536)
def idqWord (d q : Int) : Nat := pack [(16, 16, ampWord d), (0, 16, ampWord q)]

/-- FC_PROF_STATUS (R316). -/
def profWord (s : State) : Nat :=
  let p := s.pe
  pack [(16, 4, p.homePhase), (15, 1, bit1 p.homed), (14, 1, bit1 p.overrun), (13, 1, bit1 p.limitStop),
    (12, 1, bit1 p.swStop), (11, 1, bit1 p.parked), (10, 1, bit1 p.clamped), (9, 1, bit1 p.reversing.isSome),
    (8, 1, bit1 p.reached), (7, 1, bit1 (p.v.m != 0)), (0, 3, p.source)]

/-- FC_PROF_SWITCH and FC_PROF_SEG (R318). -/
def switchWord (s : State) : Nat :=
  pack [(8, 1, bit1 (bothLimits s)), (4, 3, maskOf [s.pe.swNeg.chatter, s.pe.swPos.chatter, s.pe.swHome.chatter]),
    (0, 3, maskOf [swActive s 0, swActive s 1, swActive s 2])]

def segWord (s : State) : Nat := pack [(16, 16, s.pe.segIdx), (0, 16, s.pe.segs.length)]

/-- FC_MOD_STATUS (R352). -/
def modWord (s : State) : Nat :=
  let m := s.mod
  pack [(24, 4, m.pattern), (22, 2, if m.legLoss then m.lostLeg else 0), (21, 1, bit1 m.legLoss), (20, 1, bit1 m.bsClamp),
    (19, 1, bit1 (m.refresh != 0)), (16, 3, m.method), (14, 2, m.region), (13, 1, bit1 m.dtcActive),
    (12, 1, bit1 (m.calFail != 0)), (0, 8, satN 8 m.missed)]

/-- FC_GD_SUMMARY (R394). -/
def gdSummaryWord (s : State) : Nat :=
  let l := s.heel.legs
  pack [(24, 3, orderCode s.heel.fc (anyLeg s)), (20, 3, maskOf [l.u, l.v, l.w]), (19, 1, bit1 s.heel.shoot),
    (18, 1, bit1 (diagFailed s)), (12, 6, maskOf (s.gd.list.map (fun g => g.ntcWarn))),
    (6, 6, maskOf (s.gd.list.map (fun g => g.trip))), (0, 6, maskOf s.heel.uv.list)]

/-- FC_SM_STATUS, FC_SM_TORQUE, FC_SM_COUNTS (R431, R432). -/
def smWord (s : State) : Nat :=
  let m := s.sm
  pack [(22, 2, m.tqMode), (21, 1, bit1 m.xover), (20, 1, bit1 m.brakeOk), (19, 1, bit1 m.degStop), (18, 1, bit1 m.noTol),
    (16, 2, m.tree), (15, 1, bit1 m.resync), (12, 3, maskOf [m.c0.isolated, m.c1.isolated, m.c2.isolated]),
    (10, 2, m.minority)]

def torqueWord (s : State) : Nat := pack [(16, 16, sat16 (divRound s.sm.tEst 256)), (0, 16, sat16 (divRound s.sm.tf 256))]
def smCountsWord (s : State) : Nat :=
  pack [(24, 8, satN 8 s.sm.resyncs), (16, 8, satN 8 s.sm.latent), (8, 8, satN 8 s.sm.testFail), (0, 8, satN 8 s.sm.outBand)]

/-- FC_SAFE_STATUS (R483); VSRC reads 0 until an update has completed. -/
def safeWord (s : State) : Nat :=
  let v : Nat := if s.sense.seq == 0 then 0 else match vSrc s with
    | some v => min 0xFFFE (max 0 (divRound v 65536)).toNat
    | none => 0xFFFF
  pack [(16, 16, v), (13, 1, bit1 s.last.sealed), (12, 1, bit1 (s.last.pending != 0)), (11, 1, bit1 s.saf.singleBit),
    (10, 1, bit1 s.saf.cmsgOk), (9, 1, bit1 s.saf.sls), (8, 1, bit1 s.saf.stop.isSome), (6, 2, s.saf.disPath),
    (3, 3, s.saf.held), (0, 3, parN s P.safetyState)]

/-- FC_THM_STATUS and FC_THM_READ (R653). -/
def thmWord (s : State) : Nat :=
  let t := s.thm.sensors
  pack [(29, 1, bit1 s.thm.shdSuspect), (28, 1, bit1 (t.any (fun x => x.noEst))),
    (27, 1, bit1 ((t.take 8).any (fun x => x.warned))), (26, 1, bit1 (((t.drop 14).take 2).any (fun x => x.warned))),
    (25, 1, bit1 ((t.drop 16).any (fun x => x.warned))), (0, 17, maskOf (t.map (fun x => x.broken)))]

def thmReadWord (s : State) : Nat :=
  let x := nth s.thm.sensors s.thm.select .reset
  pack [(16, 16, tc 16 x.used), (0, 16, tc 16 x.raw)]

/-- The self-test registers (R654). -/
def bistWord (s : State) : Nat :=
  let b := s.bist
  pack [(20, 12, satN 12 b.duration), (10, 10, satN 10 b.coverage), (8, 2, b.kind), (4, 4, b.pass),
    (3, 1, bit1 b.complete), (2, 1, bit1 b.job.isSome), (1, 1, bit1 b.memFail)]

def repIndexWord (s : State) : Nat := pack [(8, 7, s.bist.records.length), (0, 6, s.bist.recIdx)]

def repWord (s : State) (hi : Bool) : Nat :=
  let r := nth s.bist.records s.bist.recIdx []
  (List.range 4).foldl (fun a k => a * 256 + nth r (k + if hi then 4 else 0) 0 % 256) 0

def readFc (s : State) (a : Nat) : Option Nat :=
  match a with
  | 0x0400 => some (senseWord s)
  | 0x0480 => some s.fb.word
  | 0x0484 => some (fbIdxWord s)
  | 0x0488 => some (fbErrWord s)
  | 0x0500 => some (obsWord s)
  | 0x0504 => some (obsThetaWord s)
  | 0x0508 => some (tc 32 s.obs.oe0.wpll)
  | 0x050C => some (obsAwlWord s)
  | 0x0580 => some (loopWord s)
  | 0x0584 => some (idqWord s.loop.id s.loop.iq)
  | 0x0588 => some (idqWord s.loop.idr s.loop.iqr)
  | 0x058C => some (tc 32 s.loop.tstar)
  | 0x0600 => some (profWord s)
  | 0x0604 => some (tc 64 s.pe.setPos % 2 ^ 32)
  | 0x0608 => some s.pe.setposHi
  | 0x060C => some (switchWord s)
  | 0x0610 => some (segWord s)
  | 0x0680 => some (modWord s)
  | 0x0684 => some s.mod.h
  | 0x0688 => some s.mod.cmp.u
  | 0x068C => some s.mod.cmp.v
  | 0x0690 => some s.mod.cmp.w
  | 0x0700 => some (gdSummaryWord s)
  | 0x0880 => some (smWord s)
  | 0x0884 => some (torqueWord s)
  | 0x0888 => some (smCountsWord s)
  | 0x0900 => some (safeWord s)
  | 0x2000 => some (memSelectWord s true)
  | 0x2004 => some (memStatusWord s true)
  | 0x2008 => some (memCountsWord s true)
  | 0x200C => some (memAddrWord s true)
  | 0x2010 => some (memInfoWord s true)
  | 0x2100 => some (thmWord s)
  | 0x2104 => some s.thm.select
  | 0x2108 => some (thmReadWord s)
  | 0x2200 => some (bistWord s)
  | 0x2204 => some (repIndexWord s)
  | 0x2208 => some (repWord s false)
  | 0x220C => some (repWord s true)
  | _ => none

/-! ## Gate driver registers (R395) -/

def gdStatusWord (s : State) (p : GdPos) : Nat :=
  let g := die s p
  let hold : Nat := match g.gate with | .offHold => 0 | .onHold => 1 | .profile _ _ | .soft => 2 | .clampHold => 3
  pack [(25, 3, dieCode g), (24, 1, bit1 g.leg), (23, 1, bit1 (s.supply.gdLock.get p && !g.therm)),
    (22, 1, bit1 g.therm), (21, 1, bit1 g.trip), (20, 1, bit1 (g.gate == .soft)), (18, 2, hold), (17, 1, bit1 g.gchk),
    (16, 1, bit1 g.clampOn), (13, 3, g.bandOn), (10, 3, g.bandOff), (9, 1, bit1 g.ntcBroken), (8, 1, bit1 g.ntcWarn),
    (0, 4, parN s (P.gdOutMask (p.id - 1)))]

def readGd (s : State) (p : GdPos) (a : Nat) : Option Nat :=
  let g := die s p
  match a with
  | 0x0800 => some (gdStatusWord s p)
  | 0x0804 => some (pack [(16, 16, s.supply.vp.get p), (0, 16, tc 16 (s.supply.vn.get p))])
  | 0x0808 => some (pack [(16, 16, tc 16 g.ntcTemp), (0, 12, g.ntcCode)])
  | 0x080C => some (pack [(28, 4, g.cause), (25, 3, g.tripBand), (24, 1, bit1 g.inTurnOn), (16, 8, satN 8 g.count),
      (0, 16, satN 16 g.tEdge)])
  | 0x0810 => some (pack [(28, 4, g.diagMode), (20, 8, g.cmpFail), (0, 4, nth g.pairs 0 0), (4, 4, nth g.pairs 1 0),
      (8, 4, nth g.pairs 2 0), (12, 4, nth g.pairs 3 0)])
  | _ => none

/-! ## The window (R504) -/

/-- Who serves an address. -/
inductive Served where
  | hb | fc | gd | none
  deriving DecidableEq, Repr

/-- The range of the window map in which an address lies: who serves it, and its end. -/
def rangeOf (a : Nat) : Served × Nat :=
  if a < 0x0400 then (.hb, 0x0400) else if a < 0x0800 then (.fc, 0x0800) else if a < 0x0880 then (.gd, 0x0880)
  else if a < 0x1000 then (.fc, 0x1000) else if a < 0x2000 then (.hb, 0x2000) else if a < 0x4000 then (.fc, 0x4000)
  else (.none, 0x10000)

def selGd (s : State) : GdPos := (GdPos.ofId? s.gdSelect).getD .uh

/-- A register's word at an address, for the gate driver die `p` in its range. -/
def readReg (s : State) (p : GdPos) (a : Nat) : Option Nat :=
  match (rangeOf a).1 with
  | .hb => readHb s a
  | .fc => readFc s a
  | .gd => readGd s p a
  | .none => none

/-- What the reading of a word does at once: PT_HI and SP_HI latch (R49, R317). -/
def readLatch (a : Nat) (s : State) : State :=
  match a with
  | 0x0018 => { s with pt := { s.pt with hbHi := hbPt s / 2 ^ 32 % 2 ^ 32 } }
  | 0x0604 => { s with pe := { s.pe with setposHi := tc 64 s.pe.setPos / 2 ^ 32 } }
  | _ => s

/-- Addresses with RC fields. -/
def rcAddrs : List Nat := [0x0044, 0x005C, 0x0488, 0x0888, 0x1004, 0x1014, 0x1808, 0x2008]

/-- What a completed read of a word does: RC fields clear, and DATA7 advances the cursor (R495, R667). -/
def readDone (a : Nat) (s : State) : State :=
  match a with
  | 0x0044 => { s with port := { s.port with hdrErr := 0, stalls := 0 } }
  | 0x005C => { s with mbx := { s.mbx with errCrc := 0, errOp := 0, errBusy := 0, violLost := 0 } }
  | 0x0488 => { s with fb := { s.fb with errIllegal := 0, errSsi := 0 } }
  | 0x0888 => { s with sm := { s.sm with resyncs := 0, latent := 0, testFail := 0, outBand := 0 } }
  | 0x1004 => { s with can := { s.can with a := { s.can.a with errFrames := 0 } } }
  | 0x1014 => { s with can := { s.can with b := { s.can.b with errFrames := 0 } } }
  | 0x1808 => match memSel s false with
    | some c => setCtl c { memCtl s c with corr := 0, uncorr := 0 } s
    | none => s
  | 0x2008 => match memSel s true with
    | some c => setCtl c { memCtl s c with corr := 0, uncorr := 0 } s
    | none => s
  | 0x122C =>
    let n := curOf s s.evt.logSel
    if n < (logOf s s.evt.logSel).length then setCur s.evt.logSel (n + 1) s else s
  | _ => s

/-! ## Writes -/

/-- The bits of `v` that are not in `w`: write 1 to clear. -/
def w1c (v w : Nat) : Nat := v - (v &&& w)

/-- A doorbell on a tag (R511, R528): the code that answers it. -/
def doorbell (i : Nat) (s : State) : Nat × State :=
  if (tag s i).st != .free then (9, tagBusy i s)
  else if cpDown s then (12, s)
  else (0, ringBell i s)

/-- A write of HB_MBX_CQ_HEAD: releases, or a ring overrun (R518; event 0x1407). During a restart of the Command
Processor the write is held (R27), and a further write counts from the head held. -/
def headWrite (w : Nat) (s : State) : Nat × State :=
  let h := w % 1024
  let head := (s.cp.heldHead.getLast?).getD s.mbx.head
  if (s.mbx.tail + 1024 - head) % 1024 < (h + 1024 - head) % 1024 then
    (10, recordPort 0x1407 1 [(h : Int), (s.mbx.tail : Int)] { s with
      port := { s.port with sticky := s.port.sticky ||| 8 }, mbx := { s.mbx with irq := s.mbx.irq ||| 16 } })
  else if s.pairs.cp.restarting then (0, { s with cp := { s.cp with heldHead := s.cp.heldHead ++ [h] } })
  else (0, moveHead h s)

/-- A W1C write of HB_IRQ_STATUS (R519): clearing CQ restarts its count and its timer. -/
def irqWrite (w : Nat) (s : State) : State :=
  let cq := bitOf w 0 && bitOf s.mbx.irq 0
  { s with mbx := { s.mbx with
      irq := w1c s.mbx.irq (w % 128)
      coalCount := if bitOf w 0 then 0 else s.mbx.coalCount
      coalSince := if cq || bitOf w 0 then none else s.mbx.coalSince } }

/-- The reset that a write of HB_RESET_CTRL orders, when it acts (R76). -/
def resetOrdered (w : Nat) (s : State) : Option ResetKind :=
  match s.op.state with
  | .boot | .standby | .safeHold | .shutdown =>
    if bitsOf w 24 8 != 0x5C then none
    else match w % 4 with
      | 0 => some .plain
      | 1 => some .bist
      | 2 => some .recovery
      | _ => none
  | _ => none

/-- A write of HB_RESET_CTRL (R76, R77; event 0x1355). -/
def resetCtrl (w : Nat) (s : State) : State :=
  let s := if bitOf w 8 then { s with rst := { s.rst with rejected := false } } else s
  match resetOrdered w s with
  | some k => addCause 3 (packageReset k s)
  | none =>
    if bitsOf w 24 8 != 0x5C then s
    else record .hb 0x1355 0 [] { s with rst := { s.rst with rejected := true } }

def gdSelectWrite (w : Nat) (s : State) : State := if w % 8 < 2 then s else { s with gdSelect := w % 8 }

/-- The cursor is limited to the fill count (R668). -/
def cursorWrite (w : Nat) (s : State) : State :=
  setCur s.evt.logSel (min (w % 65536) (logOf s s.evt.logSel).length) s

/-- One word written to an HB register: its code and the state (R505, R529, R597, R625, R671, R685). -/
def writeHb (a w : Nat) (s : State) : Nat × State :=
  match a with
  | 0x0014 => (0, gdSelectWrite w s)
  | 0x0020 => (0, { s with rst := { s.rst with cause := w1c s.rst.cause (w % 128) } })
  | 0x0024 => (0, resetCtrl w s)
  | 0x0034 => (0, { s with tap := { s.tap with refused := s.tap.refused && !bitOf w 2 } })
  | 0x0044 => (0, { s with port := { s.port with sticky := w1c s.port.sticky (w % 32) } })
  | 0x0048 => doorbell (w % 128) s
  | 0x0050 => headWrite w s
  | 0x0054 => (0, irqWrite w s)
  | 0x0058 => (0, { s with mbx := { s.mbx with irqEn := w % 128 } })
  | 0x1000 => (0, { s with can := { s.can with a := { s.can.a with overflow := s.can.a.overflow && !bitOf w 13 } } })
  | 0x1010 => (0, { s with can := { s.can with b := { s.can.b with overflow := s.can.b.overflow && !bitOf w 13 } } })
  | 0x1200 => (0, { s with evt := { s.evt with logSel := bitOf w 0 } })
  | 0x1204 => (0, cursorWrite w s)
  | 0x120C => (0, { s with evt := { s.evt with
      pQueueLost := s.evt.pQueueLost && !bitOf w 7, fcLostBit := s.evt.fcLostBit && !bitOf w 6 } })
  | 0x1800 =>
    let m := bitsOf w 16 4
    (0, { s with mem := { s.mem with hbMem := if m < 2 then m else s.mem.hbMem, hbEntry := w % 16 } })
  | 0x1804 => (0, match memSel s false with
      | some c => setCtl c { memCtl s c with
          ovf := (memCtl s c).ovf && !bitOf w 2, late := (memCtl s c).late && !bitOf w 1 } s
      | none => s)
  | _ => (0, s)

/-- One word written to an FC register (R625, R653, R654). -/
def writeFc (a w : Nat) (s : State) : State :=
  match a with
  | 0x2000 =>
    let d := if bitsOf w 24 3 == 0 then s.mem.fcDie else bitsOf w 24 3
    let m := bitsOf w 16 4
    let okay := match dieOfId d with | some x => (ctlOf x m).isSome | none => false
    let keep := match dieOfId d with | some x => (ctlOf x s.mem.fcMem).isSome | none => false
    { s with mem := { s.mem with
        fcDie := d, fcMem := if okay then m else if keep then s.mem.fcMem else 0, fcEntry := w % 16 } }
  | 0x2004 => match memSel s true with
    | some c => setCtl c { memCtl s c with
        ovf := (memCtl s c).ovf && !bitOf w 2, late := (memCtl s c).late && !bitOf w 1 } s
    | none => s
  | 0x2104 => if w % 32 ≤ 16 then { s with thm := { s.thm with select := w % 32 } } else s
  | 0x2204 => { s with bist := { s.bist with recIdx := w % 64 } }
  | _ => s

/-! ## Snapshots (R50, R51, R554) -/

/-- SNAPSHOT_LATCH: at the named PT every die that is up latches its registers; an address without a register reads 0
(log 5). -/
def execSnapshotLatch (s : State) : Host.Outcome State Fault Refusal :=
  ok (match s.snap.pending with
      | none => s
      | some (_, t) =>
        if s.supply.fcLock then s
        else
          let fc := (List.range 768).map (fun k => BitVec.ofNat 32 ((readFc s (0x400 + 4 * k)).getD 0))
          let gd := s.snap.gd.mapPos (fun p old => if dieUp s p
            then (List.range 32).map (fun k => BitVec.ofNat 32 ((readGd s p (0x800 + 4 * k)).getD 0)) else old)
          answerOk t { s with snap := { s.snap with pending := none, fc := fc, gd := gd } })

end Sys2Proof.Machine
end

