-- ==== Sys2Proof/Machine/Port.lean ====
section
/-! DEFINITION. Frames of the host port (R487 to R505, R525 to R529). A frame acts whole, as its last CRC byte and its
response give it; `Frame` says how it arrives. -/

namespace Sys2Proof.Machine
open Sys2Proof

/-! ## A frame begins and ends -/

/-- The CRC of the frame header (R491, R492). -/
def headOk (f : Frame) : Bool := crc16 (beBytes 4 f.raw) == f.hcrc

/-- KIND is one of the six (R492). -/
def kindOk (f : Frame) : Bool := decide (1 ≤ f.raw / 2 ^ 28) && decide (f.raw / 2 ^ 28 ≤ 6)

/-- The CRC of the frame's data words (R491, R495). -/
def dataOk (f : Frame) (d : List Word) : Bool := crc16 (d.map wordBytes).flatten == f.dcrc

/-- HB serves the port: its power is good and nRESET is high. -/
def portUp (s : State) : Bool := !dieDown s .hb

/-- nCS falls: the mode of the last HELLO applies (R503), SPI mode is detected (R488), and an access still in flight is
one whose frame has ended (R528). -/
def beginFrame (f : Frame) (s : State) : State :=
  { s with port := { s.port with
      mode3 := f.mode3
      width := match s.port.next with | some m => m.1 | none => s.port.width
      mhz := match s.port.next with | some m => m.2 | none => s.port.mhz
      next := none, dropAccess := s.port.access.isSome, resp := ⟨none, 0, [], 0⟩ } }

/-- A sticky bit of HB_PORT_STATUS is set, and with it the PORT cause (R519, R529). -/
def setSticky (b : Nat) (s : State) : State :=
  { s with port := { s.port with sticky := s.port.sticky ||| b }, mbx := { s.mbx with irq := s.mbx.irq ||| 16 } }

/-- A header without a known length: no response (R498, R526). -/
def badHeader (f : Frame) (code : Nat) (s : State) : State :=
  recordPort 0x1401 0 [(f.raw : Int)] (setSticky 1 { s with port := { s.port with
    badRun := s.port.badRun + 1, hdrErr := satInc 255 s.port.hdrErr, lastCode := code } })

/-- The response (R496): token, code, data words, and the CRC over them. -/
def response (code : Nat) (words : List Word) : Resp :=
  let t := if code == 0 then 0xA5 else 0xC3
  let d := if code == 0 then words else []
  ⟨some t, code, d, crc16 (beBytes 1 t ++ beBytes 1 code ++ (d.map wordBytes).flatten)⟩

def respond (code : Nat) (words : List Word) (s : State) : State :=
  { s with port := { s.port with
      resp := response code words
      lastCode := if code == 0 then s.port.lastCode else code } }

/-- A frame refused by its data CRC or by R493, with event 0x1402 (R526). -/
def refuseFrame (kind addr code : Nat) (s : State) : State :=
  let s := if code == 2 then { s with port := { s.port with hdrErr := satInc 255 s.port.hdrErr } } else s
  respond code [] (recordPort 0x1402 0 [(kind : Int), (addr : Int), (code : Int)] s)

/-- A frame of the given kind: its header checks, then the data CRC where it carries data, then R493; `act` is what a
frame that passes does (log 33). -/
def frame (f : Frame) (kind addr : Nat) (data : List Word) (addrOk : Bool) (act : State → State) (s : State) : State :=
  if !portUp s then s
  else
    let s := beginFrame f s
    if !headOk f then badHeader f 1 s
    else if !kindOk f then badHeader f 3 s
    else
      let s := { s with port := { s.port with badRun := 0 } }
      if !data.isEmpty && !dataOk f data then refuseFrame kind addr 2 s
      else if !addrOk then refuseFrame kind addr 4 s
      else act s

/-! ## The direct register window -/

/-- The addresses of `n` words from `a`. -/
def addrsFrom (a n : Nat) : List Nat := (List.range n).map (fun k => a + 4 * k)

/-- R493 for the register window. -/
def windowOk (addr count : Nat) : Bool :=
  addr % 4 == 0 && decide (addr < 0x10000) && decide (count ≤ 256) && decide (addr + 4 * count ≤ (rangeOf addr).2)

/-- FC, or the gate driver die, is in reset or without a link (R496, code 0x07). -/
def fieldDown (s : State) (r : Served) (p : GdPos) : Bool :=
  let gdOff : Bool := r == .gd && (!dieUp s p || (s.jx.gd.get p).lost || !(s.jx.gd.get p).lanes.any laneUp)
  !fieldUp s || !s.jx.hb.lanes.any laneUp || dieDown s .fc || gdOff

/-- Reads the words in order, each with what its reading does at once. -/
def readWords (p : GdPos) : List Nat → State → List Word × State
  | [], s => ([], s)
  | a :: r, s =>
    let w := BitVec.ofNat 32 ((readReg s p a).getD 0)
    let x := readWords p r (readLatch a s)
    (w :: x.1, x.2)

/-- What the reads do once the last CRC byte has left (R495). -/
def readsDone (clocked : Bool) (l : List Nat) (s : State) : State :=
  if clocked then l.foldl (fun s a => readDone a s) s else s

/-- Words read and answered. -/
def answerRead (clocked busErr : Bool) (p : GdPos) (addr count : Nat) (s : State) : State :=
  let l := addrsFrom addr count
  let x := readWords p l s
  if busErr then respond 8 [] x.2 else readsDone clocked l (respond 0 x.1 x.2)

/-- The words of a write to HB, in order; the code is that of the first word refused (log 33). -/
def writeWords : Nat → List Word → State → Nat × State
  | _, [], s => (0, s)
  | a, w :: r, s =>
    let x := writeHb a w.toNat s
    let y := writeWords (a + 4) r x.2
    (if x.1 != 0 then x.1 else y.1, y.2)

def writeFcWords : Nat → List Word → State → State
  | _, [], s => s
  | a, w :: r, s => writeFcWords (a + 4) r (writeFc a w.toNat s)

/-- A field-side access as FC, or the die, serves it: a write takes effect, a read gives its words. Every gate driver
register is RO (R395). -/
def serve (a : Access) (s : State) : List Word × State :=
  if a.write then ([], if (rangeOf a.addr).1 == .fc then writeFcWords a.addr a.words s else s)
  else readWords a.gd (addrsFrom a.addr a.count) s

/-- The port's access to the field side begins (R497); the gate driver die is the one selected now (R20). An access
whose frame ended earlier has completed first (R528). -/
def beginAccess (write : Bool) (addr count : Nat) (data : List Word) (s : State) : State :=
  if fieldDown s (rangeOf addr).1 (selGd s) then respond 7 [] s
  else
    let s := match s.port.access with | some a => (serve a s).2 | none => s
    { s with port := { s.port with access := some ⟨write, addr, count, data, selGd s, now s⟩, dropAccess := false } }

/-- A word of the frame without a register: NO_REG (R504). -/
def noReg (s : State) (addr count : Nat) : Bool :=
  (addrsFrom addr count).any (fun a => (readReg s (selGd s) a).isNone)

/-- REG_READ that has passed its checks. -/
def doRead (f : Frame) (addr count : Nat) (s : State) : State :=
  if count == 0 then respond 0 [] s
  else if noReg s addr count then respond 5 [] s
  else if (rangeOf addr).1 == .hb then answerRead f.clocked f.busErr (selGd s) addr count s
  else beginAccess false addr count [] s

/-- Registers writable in boot ROM service and in recovery (R505). -/
def romWritable (a : Nat) : Bool := a == 0x0024 || (decide (0x0040 ≤ a) && decide (a ≤ 0x006C))

/-- A word of the frame orders a reset: the port itself is reset and drives no response (log 33). -/
def ordersReset (s : State) (addr : Nat) (data : List Word) : Bool :=
  decide (addr ≤ 0x0024) && (match data[(0x0024 - addr) / 4]? with
    | some w => (resetOrdered w.toNat s).isSome
    | none => false)

/-- REG_WRITE that has passed its checks: all words take effect together (R495). -/
def doWrite (addr : Nat) (data : List Word) (s : State) : State :=
  if data.isEmpty then respond 0 [] s
  else if noReg s addr data.length then respond 5 [] s
  else if inRom s && !(addrsFrom addr data.length).all romWritable then respond 13 [] s
  else if (rangeOf addr).1 == .hb then
    let x := writeWords addr data s
    if ordersReset s addr data then x.2 else respond x.1 [] x.2
  else beginAccess true addr data.length data s

def regRead (f : Frame) (addr count : Nat) (s : State) : State :=
  frame f 1 addr [] (windowOk addr count) (doRead f addr count) s

def regWrite (f : Frame) (addr : Nat) (data : List Word) (s : State) : State :=
  frame f 2 addr data (windowOk addr data.length) (doWrite addr data) s

/-- REG_READ (R497, R504). -/
def execRegRead (f : Frame) (addr count : Nat) (s : State) : Host.Outcome State Fault Refusal :=
  ok (regRead f addr count s)

/-- REG_WRITE (R505). -/
def execRegWrite (f : Frame) (addr : Nat) (data : List Word) (s : State) : Host.Outcome State Fault Refusal :=
  ok (regWrite f addr data s)

/-- DOORBELL: a write of HB_MBX_DOORBELL (R511). -/
def execDoorbell (f : Frame) (w : Word) (s : State) : Host.Outcome State Fault Refusal := ok (regWrite f 0x0048 [w] s)

/-- CQ_HEAD_WRITE: a write of HB_MBX_CQ_HEAD (R518). -/
def execCqHeadWrite (f : Frame) (w : Word) (s : State) : Host.Outcome State Fault Refusal := ok (regWrite f 0x0050 [w] s)

/-- IRQ_STATUS_CLEAR: a write of HB_IRQ_STATUS (R519). -/
def execIrqStatusClear (f : Frame) (w : Word) (s : State) : Host.Outcome State Fault Refusal := ok (regWrite f 0x0054 [w] s)

/-- RC_REGISTER_READ: a read of a register with RC fields (R495). -/
def execRcRegisterRead (f : Frame) (addr : Nat) (s : State) : Host.Outcome State Fault Refusal :=
  ok (if rcAddrs.contains addr then regRead f addr 1 s else s)

/-- PT_LO_READ: a read of HB_PT_LO (R49). -/
def execPtLoRead (f : Frame) (s : State) : Host.Outcome State Fault Refusal := ok (regRead f 0x0018 1 s)

/-- SETPOS_LO_READ: a read of FC_PROF_SETPOS_LO (R317). -/
def execSetposLoRead (f : Frame) (s : State) : Host.Outcome State Fault Refusal := ok (regRead f 0x0604 1 s)

/-- EVT_DATA_READ: a read of HB_EVT_DATA0 to HB_EVT_DATA7 (R667). -/
def execEvtDataRead (f : Frame) (s : State) : Host.Outcome State Fault Refusal := ok (regRead f 0x1210 8 s)

/-- EVT_CURSOR_WRITE: a write of HB_EVT_CURSOR (R668). -/
def execEvtCursorWrite (f : Frame) (w : Word) (s : State) : Host.Outcome State Fault Refusal := ok (regWrite f 0x1204 [w] s)

/-- GD_SELECT_WRITE: a write of HB_GD_SELECT (R20). -/
def execGdSelectWrite (f : Frame) (w : Word) (s : State) : Host.Outcome State Fault Refusal := ok (regWrite f 0x0014 [w] s)

/-- The word of a write of HB_RESET_CTRL: KEY, the W1C bit of REJECTED, KIND. -/
def resetWord (key : Nat) (clear : Bool) (kind : Nat) : Word := BitVec.ofNat 32 (key % 256 * 2 ^ 24 + bit1 clear * 256 + kind)

/-- RESET_CTRL_PACKAGE_RESET: KIND 0b00 (R76). -/
def execResetCtrlPackageReset (f : Frame) (key : Nat) (clear : Bool) (s : State) : Host.Outcome State Fault Refusal :=
  ok (regWrite f 0x0024 [resetWord key clear 0] s)

/-- RESET_CTRL_BIST_RESET: KIND 0b01 (R76). -/
def execResetCtrlBistReset (f : Frame) (key : Nat) (clear : Bool) (s : State) : Host.Outcome State Fault Refusal :=
  ok (regWrite f 0x0024 [resetWord key clear 1] s)

/-- RESET_CTRL_RECOVERY_RESET: KIND 0b10 (R76). -/
def execResetCtrlRecoveryReset (f : Frame) (key : Nat) (clear : Bool) (s : State) : Host.Outcome State Fault Refusal :=
  ok (regWrite f 0x0024 [resetWord key clear 2] s)

/-! ## Replies from the field side -/

/-- FIELD_ACCESS_REPLY: the access completes; a frame still waiting gets its token and data (R497), one that has ended
gets nothing (R528). -/
def execFieldAccessReply (clocked busErr : Bool) (s : State) : Host.Outcome State Fault Refusal :=
  ok (match s.port.access with
      | none => s
      | some a =>
        let dropped := s.port.dropAccess
        let s := { s with port := { s.port with access := none, dropAccess := false } }
        if fieldDown s (rangeOf a.addr).1 a.gd then (if dropped then s else respond 7 [] s)
        else
          let x := serve a s
          if dropped then x.2
          else if a.write then respond 0 [] x.2
          else if busErr then respond 8 [] x.2
          else readsDone clocked (addrsFrom a.addr a.count) (respond 0 x.1 x.2))

/-- WAIT_TIMEOUT: port.read_wait has passed without a reply (R497; event 0x1414). -/
def execWaitTimeout (s : State) : Host.Outcome State Fault Refusal :=
  ok (match s.port.access with
      | some a =>
        if s.port.dropAccess || now s < a.since + parN s P.portReadWait then s
        else respond 6 [] (recordPort 0x1414 0 [(a.addr : Int), par s P.portReadWait]
          { s with port := { s.port with dropAccess := true } })
      | none => s)

/-! ## Eyelets and the completion ring -/

/-- R493 for Eyelet frames. -/
def eyeletOk (addr count : Nat) : Bool := decide (addr < 0x8000) && decide (addr % 256 + count ≤ 256)
def eyeletTag (addr : Nat) : Nat := addr / 256 % 128
def eyeletWord (addr : Nat) : Nat := eyeletAt (eyeletTag addr) + 4 * (addr % 256)

/-- Bytes of HB SRAM are written by the port: the words, and what their writing does to the merge buffer and to poison
(R607, R611). -/
def putWords : Nat → List Word → State → State
  | _, [], s => s
  | a, w :: r, s => putWords (a + 4) r (mergeWrite 0 (wordOf a) (if a % 8 == 0 then 0xF0 else 0x0F) (writeMem a (wordBytes w) s))

/-- A word of the range is poisoned in HB SRAM (R611). -/
def poisonedIn (s : State) (lo n : Nat) : Bool := (memCtl s 0).poisoned.any (fun w => decide (lo < w.1 + 8) && decide (w.1 < lo + n))

def readMemWords (s : State) (a n : Nat) : List Word := toWords (memRead s.mbx.mem a (4 * n))

/-- EYELET_WRITE that has passed its checks (R506, R511, R512). -/
def doEyeletWrite (db : Bool) (addr : Nat) (data : List Word) (s : State) : State :=
  let i := eyeletTag addr
  if (tag s i).st != .free then respond 9 [] (tagBusy i s)
  else
    let s := putWords (eyeletWord addr) data s
    let s := { s with mbx := { s.mbx with empty := upd s.mbx.empty i (fun _ => false) } }
    if db then
      let x := doorbell i s
      respond x.1 [] x.2
    else respond 0 [] s

/-- EYELET_WRITE (R506). -/
def execEyeletWrite (f : Frame) (db : Bool) (addr : Nat) (data : List Word) (s : State) : Host.Outcome State Fault Refusal :=
  ok (frame f 3 addr data (eyeletOk addr data.length) (doEyeletWrite db addr data) s)

/-- EYELET_READ (R506). -/
def execEyeletRead (f : Frame) (addr count : Nat) (s : State) : Host.Outcome State Fault Refusal :=
  ok (frame f 4 addr [] (eyeletOk addr count) (fun s =>
    if f.busErr || poisonedIn s (eyeletWord addr) (4 * count) then respond 8 [] s
    else respond 0 (readMemWords s (eyeletWord addr) count) s) s)

/-- R493 for CQ_READ. -/
def cqOk (addr count : Nat) : Bool := decide (addr < 512) && count % 4 == 0 && decide (count ≤ 256)

/-- Ring entries from an index, which wraps from 511 to 0. -/
def ringWords (s : State) (idx n : Nat) : List Word :=
  ((List.range n).map (fun k => readMemWords s (ringAt ((idx + k) % 512)) 4)).flatten

/-- CQ_READ (R514). -/
def execCqRead (f : Frame) (addr count : Nat) (s : State) : Host.Outcome State Fault Refusal :=
  ok (frame f 5 addr [] (cqOk addr count) (fun s =>
    if f.busErr || (List.range (count / 4)).any (fun k => poisonedIn s (ringAt ((addr + k) % 512)) 16) then respond 8 [] s
    else respond 0 (ringWords s addr (count / 4)) s) s)

/-! ## Negotiation -/

/-- The widest width in the host's mask (R502). -/
def widest (cap : Nat) : Nat := if bitOf cap 2 then 2 else if bitOf cap 1 then 1 else 0

/-- A mode word (R501). -/
def modeWord (mhz width : Nat) : Nat := 2 ^ 24 + mhz * 65536 + width

/-- HELLO that has passed its checks (R501 to R503; event 0x1406). -/
def doHello (cap : Nat) (s : State) : State :=
  let host := bitsOf cap 16 8
  if !bitOf cap 0 || host == 0 then
    respond 11 [] (recordPort 0x1406 0 [(cap : Int), (modeWord s.port.mhz s.port.width : Int), 11] s)
  else
    let mhz := min host (parN s P.portMaxMhz)
    let w := modeWord mhz (widest cap)
    respond 0 [BitVec.ofNat 32 w] (recordPort 0x1406 0 [(cap : Int), (w : Int), 0]
      { s with port := { s.port with next := some (widest cap, mhz) } })

/-- HELLO (R501). -/
def execHello (f : Frame) (addr : Nat) (data : List Word) (s : State) : Host.Outcome State Fault Refusal :=
  ok (frame f 6 addr data (addr == 0 && data.length == 1) (doHello (nth data 0 0).toNat) s)

/-- PORT_FALLBACK: eight consecutive frames answered under R498 (R499; event 0x1405). -/
def execPortFallback (s : State) : Host.Outcome State Fault Refusal :=
  ok (if portUp s && decide (8 ≤ s.port.badRun) then
        recordPort 0x1405 1 [] (setSticky 16 { s with port := { s.port with next := some (0, 25), badRun := 0 } })
      else s)

/-! ## Abandoned frames (R525) -/

/-- A frame is abandoned after `bytes` bytes: nothing is written, and an Eyelet named by a passed header is marked
empty with a violation report. -/
def abandon (sticky code : Nat) (f : Frame) (kind addr bytes : Nat) (s : State) : State :=
  if !portUp s then s
  else
    let s := beginFrame f s
    let i := eyeletTag addr
    let passed : Bool := decide (6 ≤ bytes) && headOk f && kindOk f
    let s := if passed then { s with port := { s.port with badRun := 0 } } else s
    let s := recordPort code 0 [(kind : Int), (bytes : Int), (if kind == 3 then i else 0 : Nat)]
      (setSticky sticky { s with port := { s.port with stalls := satInc 255 s.port.stalls } })
    if kind == 3 && passed && decide (addr < 0x8000) && (tag s i).st == .free then
      violation i 0x19 { s with mbx := { s.mbx with empty := upd s.mbx.empty i (fun _ => true) } }
    else s

/-- FRAME_STALL: 50 µs without an SCLK edge (event 0x1403). -/
def execFrameStall (f : Frame) (kind addr bytes ns : Nat) (s : State) : Host.Outcome State Fault Refusal :=
  ok (if ns ≤ 50000 then s else abandon 2 0x1403 f kind addr bytes s)

/-- FRAME_TRUNCATED: nCS rises before the last CRC byte of the host (event 0x1404). -/
def execFrameTruncated (f : Frame) (kind addr bytes : Nat) (s : State) : Host.Outcome State Fault Refusal :=
  ok (abandon 4 0x1404 f kind addr bytes s)

end Sys2Proof.Machine
end

