-- ==== Sys2Proof/Machine/Dispatch.lean ====
section
/-! DEFINITION. Dispatch: one arm per command of the table. -/

namespace Sys2Proof.Machine

def exec (i : Instr) (s : State) : Host.Outcome State Fault Refusal :=
  match i with
  | .regRead f addr count => Sys2Proof.Machine.execRegRead f addr count s
  | .regWrite f addr data => Sys2Proof.Machine.execRegWrite f addr data s
  | .eyeletWrite f db addr data => Sys2Proof.Machine.execEyeletWrite f db addr data s
  | .eyeletRead f addr count => Sys2Proof.Machine.execEyeletRead f addr count s
  | .cqRead f addr count => Sys2Proof.Machine.execCqRead f addr count s
  | .hello f addr data => Sys2Proof.Machine.execHello f addr data s
  | .portFallback => Sys2Proof.Machine.execPortFallback s
  | .frameStall f kind addr bytes ns => Sys2Proof.Machine.execFrameStall f kind addr bytes ns s
  | .frameTruncated f kind addr bytes => Sys2Proof.Machine.execFrameTruncated f kind addr bytes s
  | .fieldAccessReply clocked busErr => Sys2Proof.Machine.execFieldAccessReply clocked busErr s
  | .waitTimeout => Sys2Proof.Machine.execWaitTimeout s
  | .doorbell f w => Sys2Proof.Machine.execDoorbell f w s
  | .cqHeadWrite f w => Sys2Proof.Machine.execCqHeadWrite f w s
  | .irqStatusClear f w => Sys2Proof.Machine.execIrqStatusClear f w s
  | .rcRegisterRead f addr => Sys2Proof.Machine.execRcRegisterRead f addr s
  | .ptLoRead f => Sys2Proof.Machine.execPtLoRead f s
  | .setposLoRead f => Sys2Proof.Machine.execSetposLoRead f s
  | .evtDataRead f => Sys2Proof.Machine.execEvtDataRead f s
  | .evtCursorWrite f w => Sys2Proof.Machine.execEvtCursorWrite f w s
  | .gdSelectWrite f w => Sys2Proof.Machine.execGdSelectWrite f w s
  | .resetCtrlPackageReset f key clear => Sys2Proof.Machine.execResetCtrlPackageReset f key clear s
  | .resetCtrlBistReset f key clear => Sys2Proof.Machine.execResetCtrlBistReset f key clear s
  | .resetCtrlRecoveryReset f key clear => Sys2Proof.Machine.execResetCtrlRecoveryReset f key clear s
  | .commandAdmission => Sys2Proof.Machine.execCommandAdmission s
  | .commandStep tag => Sys2Proof.Machine.execCommandStep tag s
  | .fieldSideReply tag => Sys2Proof.Machine.execFieldSideReply tag s
  | .irqCoalescingTimeout => Sys2Proof.Machine.execIrqCoalescingTimeout s
  | .nop tag => Sys2Proof.Machine.execNop tag s
  | .cancel tag sof => Sys2Proof.Machine.execCancel tag sof s
  | .paramRead tag => Sys2Proof.Machine.execParamRead tag s
  | .paramWrite tag => Sys2Proof.Machine.execParamWrite tag s
  | .lastConfirmWrite tag => Sys2Proof.Machine.execLastConfirmWrite tag s
  | .tableCommitWrite tag => Sys2Proof.Machine.execTableCommitWrite tag s
  | .paramDesc tag => Sys2Proof.Machine.execParamDesc tag s
  | .blockRead tag => Sys2Proof.Machine.execBlockRead tag s
  | .blockWrite tag => Sys2Proof.Machine.execBlockWrite tag s
  | .store tag => Sys2Proof.Machine.execStore tag s
  | .restoreDefaults tag => Sys2Proof.Machine.execRestoreDefaults tag s
  | .precharge tag => Sys2Proof.Machine.execPrecharge tag s
  | .enable tag => Sys2Proof.Machine.execEnable tag s
  | .stop tag => Sys2Proof.Machine.execStop tag s
  | .faultAck tag => Sys2Proof.Machine.execFaultAck tag s
  | .discharge tag => Sys2Proof.Machine.execDischarge tag s
  | .shutdown tag => Sys2Proof.Machine.execShutdown tag s
  | .senseCal tag => Sys2Proof.Machine.execSenseCal tag s
  | .fbRestart tag r => Sys2Proof.Machine.execFbRestart tag r s
  | .gdDiag tag => Sys2Proof.Machine.execGdDiag tag s
  | .contactorCheck tag => Sys2Proof.Machine.execContactorCheck tag s
  | .snapshot tag => Sys2Proof.Machine.execSnapshot tag s
  | .moveAbs tag => Sys2Proof.Machine.execMoveAbs tag s
  | .moveRel tag => Sys2Proof.Machine.execMoveRel tag s
  | .velTarget tag => Sys2Proof.Machine.execVelTarget tag s
  | .torqueTarget tag => Sys2Proof.Machine.execTorqueTarget tag s
  | .home tag => Sys2Proof.Machine.execHome tag s
  | .segLoad tag => Sys2Proof.Machine.execSegLoad tag s
  | .segExec tag => Sys2Proof.Machine.execSegExec tag s
  | .lastCompute tag => Sys2Proof.Machine.execLastCompute tag s
  | .lastImageRead tag => Sys2Proof.Machine.execLastImageRead tag s
  | .unseal tag => Sys2Proof.Machine.execUnseal tag s
  | .fwStageBegin tag => Sys2Proof.Machine.execFwStageBegin tag s
  | .fwStageData tag => Sys2Proof.Machine.execFwStageData tag s
  | .fwStageEnd tag img => Sys2Proof.Machine.execFwStageEnd tag img s
  | .fwActivate tag => Sys2Proof.Machine.execFwActivate tag s
  | .eventRead tag => Sys2Proof.Machine.execEventRead tag s
  | .eventClear tag => Sys2Proof.Machine.execEventClear tag s
  | .scrubRange tag => Sys2Proof.Machine.execScrubRange tag s
  | .memTest tag => Sys2Proof.Machine.execMemTest tag s
  | .canTx tag => Sys2Proof.Machine.execCanTx tag s
  | .canRxRead tag => Sys2Proof.Machine.execCanRxRead tag s
  | .canFilterLoad tag => Sys2Proof.Machine.execCanFilterLoad tag s
  | .canBusOn tag => Sys2Proof.Machine.execCanBusOn tag s
  | .canRateDetect tag => Sys2Proof.Machine.execCanRateDetect tag s
  | .canBufWrite tag => Sys2Proof.Machine.execCanBufWrite tag s
  | .leLockstepMismatch p a => Sys2Proof.Machine.execLeLockstepMismatch p a s
  | .lePairPersistent p => Sys2Proof.Machine.execLePairPersistent p s
  | .cpLockstepMismatch => Sys2Proof.Machine.execCpLockstepMismatch s
  | .cpRestartDone => Sys2Proof.Machine.execCpRestartDone s
  | .cpPairPersistent => Sys2Proof.Machine.execCpPairPersistent s
  | .crystalClockFault => Sys2Proof.Machine.execCrystalClockFault s
  | .referenceClockLost => Sys2Proof.Machine.execReferenceClockLost s
  | .pllClockFault d => Sys2Proof.Machine.execPllClockFault d s
  | .laneErrorLimit d lane errs => Sys2Proof.Machine.execLaneErrorLimit d lane errs s
  | .laneTrainingDone d lane pass => Sys2Proof.Machine.execLaneTrainingDone d lane pass s
  | .linkLost d => Sys2Proof.Machine.execLinkLost d s
  | .gdLinkLost p => Sys2Proof.Machine.execGdLinkLost p s
  | .hbLinkLoss => Sys2Proof.Machine.execHbLinkLoss s
  | .heelReceived d o => Sys2Proof.Machine.execHeelReceived d o s
  | .heelReport p r also_ => Sys2Proof.Machine.execHeelReport p r also_ s
  | .heldOrderRelease d => Sys2Proof.Machine.execHeldOrderRelease d s
  | .compareSetReceived p half => Sys2Proof.Machine.execCompareSetReceived p half s
  | .ptDisciplineExchange d offset => Sys2Proof.Machine.execPtDisciplineExchange d offset s
  | .ptOffsetWarning d => Sys2Proof.Machine.execPtOffsetWarning d s
  | .barrierFailed => Sys2Proof.Machine.execBarrierFailed s
  | .snapshotLatch => Sys2Proof.Machine.execSnapshotLatch s
  | .lockoutEnter d rail mv retained => Sys2Proof.Machine.execLockoutEnter d rail mv retained s
  | .lockoutLeave d trained cmp vio33 mv => Sys2Proof.Machine.execLockoutLeave d trained cmp vio33 mv s
  | .vfPowerFailWarning => Sys2Proof.Machine.execVfPowerFailWarning s
  | .nresetAssert => Sys2Proof.Machine.execNresetAssert s
  | .nresetRelease => Sys2Proof.Machine.execNresetRelease s
  | .boot b => Sys2Proof.Machine.execBoot b s
  | .gdWaitTimeout b => Sys2Proof.Machine.execGdWaitTimeout b s
  | .trialBootTimeout => Sys2Proof.Machine.execTrialBootTimeout s
  | .highSideTrainTimeout => Sys2Proof.Machine.execHighSideTrainTimeout s
  | .shutdownDrainEnd bistFails burnFails mramFails cut => Sys2Proof.Machine.execShutdownDrainEnd bistFails burnFails mramFails cut s
  | .samplingTrigger smp => Sys2Proof.Machine.execSamplingTrigger smp s
  | .pathAConversion ch uv => Sys2Proof.Machine.execPathAConversion ch uv s
  | .overcurrentTrip ch => Sys2Proof.Machine.execOvercurrentTrip ch s
  | .overvoltageTrip ch => Sys2Proof.Machine.execOvervoltageTrip ch s
  | .pathComparisonWindow => Sys2Proof.Machine.execPathComparisonWindow s
  | .comparisonFailed p => Sys2Proof.Machine.execComparisonFailed p s
  | .crossCheckVerdict p => Sys2Proof.Machine.execCrossCheckVerdict p s
  | .sumCheckFailed set => Sys2Proof.Machine.execSumCheckFailed set s
  | .vdcDisagreement => Sys2Proof.Machine.execVdcDisagreement s
  | .vdcArbitrationTimeout => Sys2Proof.Machine.execVdcArbitrationTimeout s
  | .terminalImplausible p => Sys2Proof.Machine.execTerminalImplausible p s
  | .openInput ch => Sys2Proof.Machine.execOpenInput ch s
  | .stuckChannel ch => Sys2Proof.Machine.execStuckChannel ch s
  | .pathBOverload ch => Sys2Proof.Machine.execPathBOverload ch s
  | .overvoltageWarning => Sys2Proof.Machine.execOvervoltageWarning s
  | .overvoltageWarningClear => Sys2Proof.Machine.execOvervoltageWarningClear s
  | .undervoltage => Sys2Proof.Machine.execUndervoltage s
  | .housekeepingRound r => Sys2Proof.Machine.execHousekeepingRound r s
  | .referenceOutOfTolerance ref => Sys2Proof.Machine.execReferenceOutOfTolerance ref s
  | .bandgapDisagreement => Sys2Proof.Machine.execBandgapDisagreement s
  | .transducerSupplyFault set => Sys2Proof.Machine.execTransducerSupplyFault set s
  | .hkAdcSuspect input => Sys2Proof.Machine.execHkAdcSuspect input s
  | .calibrationComplete m => Sys2Proof.Machine.execCalibrationComplete m s
  | .quadratureTransition a b na nb => Sys2Proof.Machine.execQuadratureTransition a b na nb s
  | .illegalLimitExceeded src => Sys2Proof.Machine.execIllegalLimitExceeded src s
  | .indexLatch illegal => Sys2Proof.Machine.execIndexLatch illegal s
  | .indexFaultCheck => Sys2Proof.Machine.execIndexFaultCheck s
  | .hallStateChange st ns => Sys2Proof.Machine.execHallStateChange st ns s
  | .hallStateInvalid ns => Sys2Proof.Machine.execHallStateInvalid ns s
  | .resolverAmplitudeFault => Sys2Proof.Machine.execResolverAmplitudeFault s
  | .resolverTrackingLost => Sys2Proof.Machine.execResolverTrackingLost s
  | .resolverExcitationFault => Sys2Proof.Machine.execResolverExcitationFault s
  | .ssiFrameDecoded f => Sys2Proof.Machine.execSsiFrameDecoded f s
  | .ssiFrameAbort badNs => Sys2Proof.Machine.execSsiFrameAbort badNs s
  | .ssiStaleLimit => Sys2Proof.Machine.execSsiStaleLimit s
  | .wireFault input ns => Sys2Proof.Machine.execWireFault input ns s
  | .encoderSupplyFault => Sys2Proof.Machine.execEncoderSupplyFault s
  | .sourceDisagreement => Sys2Proof.Machine.execSourceDisagreement s
  | .frozenSource src => Sys2Proof.Machine.execFrozenSource src s
  | .oe0Valid => Sys2Proof.Machine.execOe0Valid s
  | .oe1Valid => Sys2Proof.Machine.execOe1Valid s
  | .residualDisagreement => Sys2Proof.Machine.execResidualDisagreement s
  | .observerRejoin oe1 => Sys2Proof.Machine.execObserverRejoin oe1 s
  | .startMeasurementEnd => Sys2Proof.Machine.execStartMeasurementEnd s
  | .ascSettleEnd => Sys2Proof.Machine.execAscSettleEnd s
  | .catchLockCheck => Sys2Proof.Machine.execCatchLockCheck s
  | .reacquisitionTimeout => Sys2Proof.Machine.execReacquisitionTimeout s
  | .awlSequenceEnd r => Sys2Proof.Machine.execAwlSequenceEnd r s
  | .blockCommutation => Sys2Proof.Machine.execBlockCommutation s
  | .crossingMissed => Sys2Proof.Machine.execCrossingMissed s
  | .blockStartTimeout => Sys2Proof.Machine.execBlockStartTimeout s
  | .sixStepChange => Sys2Proof.Machine.execSixStepChange s
  | .tableCommitCopy table => Sys2Proof.Machine.execTableCommitCopy table s
  | .loopModeChange => Sys2Proof.Machine.execLoopModeChange s
  | .currentDeviation => Sys2Proof.Machine.execCurrentDeviation s
  | .voltageLimitHeld => Sys2Proof.Machine.execVoltageLimitHeld s
  | .disturbedPredictionLimit => Sys2Proof.Machine.execDisturbedPredictionLimit s
  | .speedDeviation => Sys2Proof.Machine.execSpeedDeviation s
  | .overspeed => Sys2Proof.Machine.execOverspeed s
  | .followingError => Sys2Proof.Machine.execFollowingError s
  | .dampingClamped => Sys2Proof.Machine.execDampingClamped s
  | .pePlan => Sys2Proof.Machine.execPePlan s
  | .targetReached => Sys2Proof.Machine.execTargetReached s
  | .switchInputChange k high => Sys2Proof.Machine.execSwitchInputChange k high s
  | .switchDebounced k => Sys2Proof.Machine.execSwitchDebounced k s
  | .switchChatter k => Sys2Proof.Machine.execSwitchChatter k s
  | .switchChatterEnd k => Sys2Proof.Machine.execSwitchChatterEnd k s
  | .homingTimeout => Sys2Proof.Machine.execHomingTimeout s
  | .standstill => Sys2Proof.Machine.execStandstill s
  | .standstillAction => Sys2Proof.Machine.execStandstillAction s
  | .legEdgeDecision p => Sys2Proof.Machine.execLegEdgeDecision p s
  | .compareSetsMissedTwice p => Sys2Proof.Machine.execCompareSetsMissedTwice p s
  | .echoReceived p hi lo => Sys2Proof.Machine.execEchoReceived p hi lo s
  | .delayLineCalibration d span => Sys2Proof.Machine.execDelayLineCalibration d span s
  | .bootstrapRefresh p => Sys2Proof.Machine.execBootstrapRefresh p s
  | .bootstrapChargePulse => Sys2Proof.Machine.execBootstrapChargePulse s
  | .legLossRampEnd => Sys2Proof.Machine.execLegLossRampEnd s
  | .gateEdge p => Sys2Proof.Machine.execGateEdge p s
  | .profileEnd p => Sys2Proof.Machine.execProfileEnd p s
  | .didtTrip p mv ns => Sys2Proof.Machine.execDidtTrip p mv ns s
  | .desatTrip p mv ns => Sys2Proof.Machine.execDesatTrip p mv ns s
  | .softTurnOffEnd p => Sys2Proof.Machine.execSoftTurnOffEnd p s
  | .gateVoltageFault p pair mv ns => Sys2Proof.Machine.execGateVoltageFault p pair mv ns s
  | .ntcConversion p code => Sys2Proof.Machine.execNtcConversion p code s
  | .moduleTempWarning p => Sys2Proof.Machine.execModuleTempWarning p s
  | .moduleOvertemperature p => Sys2Proof.Machine.execModuleOvertemperature p s
  | .diagnosticComplete m => Sys2Proof.Machine.execDiagnosticComplete m s
  | .outputSlotVote w0 w1 w2 addr => Sys2Proof.Machine.execOutputSlotVote w0 w1 w2 addr s
  | .resyncCopyDone k => Sys2Proof.Machine.execResyncCopyDone k s
  | .resyncRendezvous k h => Sys2Proof.Machine.execResyncRendezvous k h s
  | .weltSelfTest a b flag7 flag8 => Sys2Proof.Machine.execWeltSelfTest a b flag7 flag8 s
  | .checkerDisagreement a b => Sys2Proof.Machine.execCheckerDisagreement a b s
  | .hashSlot h0 h1 h2 => Sys2Proof.Machine.execHashSlot h0 h1 h2 s
  | .laneFault k => Sys2Proof.Machine.execLaneFault k s
  | .degradedGraceExpiry => Sys2Proof.Machine.execDegradedGraceExpiry s
  | .unintendedTorque => Sys2Proof.Machine.execUnintendedTorque s
  | .currentBoundExceeded => Sys2Proof.Machine.execCurrentBoundExceeded s
  | .torqueDeficit => Sys2Proof.Machine.execTorqueDeficit s
  | .setpointOutOfBound => Sys2Proof.Machine.execSetpointOutOfBound s
  | .hkWatchdogExpiry => Sys2Proof.Machine.execHkWatchdogExpiry s
  | .stoInputChange c active => Sys2Proof.Machine.execStoInputChange c active s
  | .stoFilterChange c => Sys2Proof.Machine.execStoFilterChange c s
  | .stoStatusPeriodic => Sys2Proof.Machine.execStoStatusPeriodic s
  | .stoStatusReceived => Sys2Proof.Machine.execStoStatusReceived s
  | .stoDiscrepancy => Sys2Proof.Machine.execStoDiscrepancy s
  | .sdsPiReplacement => Sys2Proof.Machine.execSdsPiReplacement s
  | .ss1EnvelopeExceeded => Sys2Proof.Machine.execSs1EnvelopeExceeded s
  | .ss1Standstill => Sys2Proof.Machine.execSs1Standstill s
  | .ss1Timeout => Sys2Proof.Machine.execSs1Timeout s
  | .smsExceeded => Sys2Proof.Machine.execSmsExceeded s
  | .slsExceeded => Sys2Proof.Machine.execSlsExceeded s
  | .brakeReleaseDelay => Sys2Proof.Machine.execBrakeReleaseDelay s
  | .brakeDemand => Sys2Proof.Machine.execBrakeDemand s
  | .brakeTestPulse hs => Sys2Proof.Machine.execBrakeTestPulse hs s
  | .brakeTestPulseEnd fb => Sys2Proof.Machine.execBrakeTestPulseEnd fb s
  | .brakeFeedbackMismatch fb ns => Sys2Proof.Machine.execBrakeFeedbackMismatch fb ns s
  | .contactorFeedbackChange k closed => Sys2Proof.Machine.execContactorFeedbackChange k closed s
  | .contactorCheckDue k => Sys2Proof.Machine.execContactorCheckDue k s
  | .prechargeWeldCheckEnd => Sys2Proof.Machine.execPrechargeWeldCheckEnd s
  | .prechargeTargetReached => Sys2Proof.Machine.execPrechargeTargetReached s
  | .prechargeTimeout => Sys2Proof.Machine.execPrechargeTimeout s
  | .fcLossHoldExpiry => Sys2Proof.Machine.execFcLossHoldExpiry s
  | .dischargeResistorFailed => Sys2Proof.Machine.execDischargeResistorFailed s
  | .dischargeWindingFailed => Sys2Proof.Machine.execDischargeWindingFailed s
  | .dischargeComplete => Sys2Proof.Machine.execDischargeComplete s
  | .safeMessageReceived c bytes => Sys2Proof.Machine.execSafeMessageReceived c bytes s
  | .safeMessageDeadline => Sys2Proof.Machine.execSafeMessageDeadline s
  | .safeStatusTransmit runA runB => Sys2Proof.Machine.execSafeStatusTransmit runA runB s
  | .canFrameReceived c f => Sys2Proof.Machine.execCanFrameReceived c f s
  | .canFrameFiltering c => Sys2Proof.Machine.execCanFrameFiltering c s
  | .canAttemptEnd c b o => Sys2Proof.Machine.execCanAttemptEnd c b o s
  | .canTxDeadline c b running => Sys2Proof.Machine.execCanTxDeadline c b running s
  | .canErrorFlag c kind asTx => Sys2Proof.Machine.execCanErrorFlag c kind asTx s
  | .canRecessiveIdle c => Sys2Proof.Machine.execCanRecessiveIdle c s
  | .canRecoveryDone c => Sys2Proof.Machine.execCanRecoveryDone c s
  | .canOnTimeout c => Sys2Proof.Machine.execCanOnTimeout c s
  | .canDetectWindowEnd c => Sys2Proof.Machine.execCanDetectWindowEnd c s
  | .referenceMessageDue => Sys2Proof.Machine.execReferenceMessageDue s
  | .referenceMessageReceived f => Sys2Proof.Machine.execReferenceMessageReceived f s
  | .timeMasterTimeout => Sys2Proof.Machine.execTimeMasterTimeout s
  | .networkTimeLost => Sys2Proof.Machine.execNetworkTimeLost s
  | .eccCorrection d mem addr syndrome => Sys2Proof.Machine.execEccCorrection d mem addr syndrome s
  | .eccUncorrectable d mem addr region reloadOk => Sys2Proof.Machine.execEccUncorrectable d mem addr region reloadOk s
  | .scrubRead d mem addr w => Sys2Proof.Machine.execScrubRead d mem addr w s
  | .scrubPassLate d mem => Sys2Proof.Machine.execScrubPassLate d mem s
  | .mergeBufferFlush d mem addr mask bad => Sys2Proof.Machine.execMergeBufferFlush d mem addr mask bad s
  | .rowMigration d mem addr => Sys2Proof.Machine.execRowMigration d mem addr s
  | .gdLatchCheck p latches reloadOk => Sys2Proof.Machine.execGdLatchCheck p latches reloadOk s
  | .periodicMemoryTest => Sys2Proof.Machine.execPeriodicMemoryTest s
  | .memoryTestBlock fails bad => Sys2Proof.Machine.execMemoryTestBlock fails bad s
  | .sensorBroken sensor => Sys2Proof.Machine.execSensorBroken sensor s
  | .temperatureWarning sensor => Sys2Proof.Machine.execTemperatureWarning sensor s
  | .temperatureWarningClear sensor => Sys2Proof.Machine.execTemperatureWarningClear sensor s
  | .temperatureStopLevel sensor => Sys2Proof.Machine.execTemperatureStopLevel sensor s
  | .thermalShutdownEnter d temp => Sys2Proof.Machine.execThermalShutdownEnter d temp s
  | .thermalShutdownLeave d trained cmp hot ns => Sys2Proof.Machine.execThermalShutdownLeave d trained cmp hot ns s
  | .shutdownSensorDisagree d => Sys2Proof.Machine.execShutdownSensorDisagree d s
  | .recordArrival => Sys2Proof.Machine.execRecordArrival s
  | .fcRecordQueueRoom => Sys2Proof.Machine.execFcRecordQueueRoom s
  | .persistentLogWrite cut => Sys2Proof.Machine.execPersistentLogWrite cut s
  | .tapBypass => Sys2Proof.Machine.execTapBypass s
  | .tapIdcode => Sys2Proof.Machine.execTapIdcode s
  | .tapSamplePreload => Sys2Proof.Machine.execTapSamplePreload s
  | .tapExtest => Sys2Proof.Machine.execTapExtest s
  | .dbgChal => Sys2Proof.Machine.execDbgChal s
  | .dbgResp verifies => Sys2Proof.Machine.execDbgResp verifies s
  | .dbgAccess => Sys2Proof.Machine.execDbgAccess s
  | .tapReset => Sys2Proof.Machine.execTapReset s
  | .cpCheckpoint => Sys2Proof.Machine.execCpCheckpoint s
  | .stoPathTestEnd ta tb => Sys2Proof.Machine.execStoPathTestEnd ta tb s
  | .gdLogicPowerLost p => Sys2Proof.Machine.execGdLogicPowerLost p s

end Sys2Proof.Machine
end

