-- ==== Sys2Proof/Safety.lean ====
section
/-! DEFINITION. What counts as a safe run, in the terms the statements use. -/

namespace Sys2Proof.Safety
open Sys2Proof Sys2Proof.Machine

/-- The memory of the mailbox has its canonical form: addresses rise and no cell lists what an unlisted one reads as. -/
def memoryCanonical (s : State) : Prop := memWf s.mbx.mem = true

/-- Replaying the Command Processor's journal over its checkpoint gives the in-flight command table (R26, R27). -/
def replayComplete (s : State) : Prop := replay s.cp.ckpt s.cp.journal = s.mbx.tags

/-- What every step keeps of the mailbox. -/
def mailboxSound (s : State) : Prop := memoryCanonical s ∧ replayComplete s

/-- The bounds of the logs and queues of the recorder, and the counter within its reservation (R660 to R665). -/
def logsBounded (s : State) : Prop :=
  s.evt.vlog.length ≤ 4096 ∧ s.evt.plog.length ≤ 16384 ∧ s.evt.pq.length ≤ 64 ∧ s.evt.fcq.length ≤ 256 ∧
  s.evt.seq ≤ s.evt.reserve

/-- The command completes: it answers a next state that has the property. -/
def completes (c : Instr) (s : State) (p : State → Prop) : Prop := ∃ t, exec c s = .next t ∧ p t

end Sys2Proof.Safety
end

