-- ==== Sys2Proof/Certificates/Slice0/Obligations.lean ====
section
/-! DEFINITION. The statements for the provers. -/

open Sys2Proof Sys2Proof.Machine Sys2Proof.Safety

/-- A step runs the command at the front of the queue (R520, R508). -/
def Obligations.StepRunsFront : Prop :=
  ∀ (c : Instr) (s : State), step { s with pending := c :: s.pending } = exec c s

/-- A step on an empty queue counts PT on by one nanosecond (the model's choice, log 1) (R45). -/
def Obligations.StepIdle : Prop :=
  ∀ s : State, s.pending = [] →
    ∃ t, step s = .next t ∧ t.pt.ns = s.pt.ns + 1 ∧ { t with pt := { t.pt with ns := s.pt.ns } } = s

/-- No command changes the queue of waiting commands (R520). -/
def Obligations.QueueKept : Prop :=
  ∀ (c : Instr) (s t : State), exec c s = .next t → t.pending = s.pending

/-- Every step keeps the mailbox memory canonical and the Command Processor's journal complete (R26, R27, R506, R510, R603). -/
def Obligations.MailboxInvariant : Prop :=
  ∀ s t : State, mailboxSound s → s.cp.ckpt.length = 128 → step s = .next t →
    mailboxSound t ∧ t.cp.ckpt.length = 128

/-- The mailbox and log invariants hold right after reset (R26, R603, R661, R665). -/
def Obligations.InvariantsAtReset : Prop :=
  mailboxSound State.reset ∧ State.reset.cp.ckpt.length = 128 ∧ logsBounded State.reset

/-- Every step keeps the bounds of the logs and the reservation of SEQ (R660, R661, R663, R665). -/
def Obligations.LogInvariant : Prop :=
  ∀ s t : State, logsBounded s → step s = .next t → logsBounded t

/-- Every step leaves the fused SEC_VER as it is or raises it (R78, R82). -/
def Obligations.SecVerNeverFalls : Prop :=
  ∀ s t : State, (∀ v, s.boot.raise = some v → s.boot.fused ≤ v) → step s = .next t →
    s.boot.fused ≤ t.boot.fused ∧ ∀ v, t.boot.raise = some v → t.boot.fused ≤ v

/-- No step changes the serial number (R8, R78). -/
def Obligations.SerialFixed : Prop :=
  ∀ s t : State, s.id.serial = Config.serial → step s = .next t → t.id.serial = Config.serial

/-- Debug is unlocked by nothing but a verified DBG_RESP (R683, R684). -/
def Obligations.DebugUnlockOnlyByResponse : Prop :=
  ∀ (c : Instr) (s t : State), s.tap.unlocked = false → exec c s = .next t → t.tap.unlocked = true →
    c = .dbgResp true ∧ s.supply.hbLock = false ∧ s.tap.challenge.isSome = true ∧ s.tap.chalUsed = false ∧
      (s.boot.recovery = true ∨ s.op.state = .boot ∨ s.op.state = .standby ∨ s.op.state = .shutdown)

/-- FC's held order falls in severity only by the release or a reset (R35, R549). -/
def Obligations.HeldOrderNeverFalls : Prop :=
  ∀ (c : Instr) (s t : State), exec c s = .next t →
    (match s.heel.fc, t.heel.fc with
      | none, _ => True
      | some o, some p => sev o ≤ sev p
      | some _, none => False) ∨
    (match c with
      | .faultAck _ | .lockoutEnter _ _ _ _ | .thermalShutdownEnter _ _ | .nresetAssert | .boot _ | .gdWaitTimeout _
      | .trialBootTimeout | .regWrite _ _ _ | .resetCtrlPackageReset _ _ _ | .resetCtrlBistReset _ _ _
      | .resetCtrlRecoveryReset _ _ _ => True
      | _ => False)

/-- A Loop Engine pair mismatch restarts the pair; two flagged updates or three mismatches declare it persistent (R23, R24, R25, R28, R236). -/
def Obligations.LePairMismatch : Prop :=
  (∀ (p : LePair) (a : CyclePoint) (s : State), s.supply.fcLock = false →
    exec (.leLockstepMismatch p a) s = .next (record .fc 0x1101 0 []
      { setLe p { lePair s p with
          stamps := stampIn 1000000000 s.pt.ns (lePair s p).stamps
          restarting := (lePair s p).restarting || a != .waiting
          point := if (lePair s p).restarting then firstPoint (lePair s p).point a else a } s with
        loop := { s.loop with restarts := satInc 255 s.loop.restarts } })) ∧
  (∀ (p : LePair) (s : State), s.supply.fcLock = false → (lePair s p).persistent = false →
    (2 ≤ (lePair s p).flagRun ∨ 3 ≤ ((lePair s p).stamps.filter (fun a => s.pt.ns < a + 1000000000)).length) →
    exec (.lePairPersistent p) s = .next (detect .fc 0x1102 3 []
      { setLe p { lePair s p with persistent := true } s with op := { s.op with degraded := true } }))

/-- A Command Processor mismatch loses no command (R26, R27). -/
def Obligations.CpMismatchLosesNothing : Prop :=
  ∀ s : State, s.pairs.cp.held = false → s.supply.hbLock = false → replayComplete s →
    ∃ t, exec .cpLockstepMismatch s = .next t ∧ t.mbx.tags = s.mbx.tags ∧ t.pairs.cp.restarting = true ∧
      t.mbx.mem = s.mbx.mem ∧ t.mbx.bells = s.mbx.bells ∧ t.mbx.tail = s.mbx.tail ∧ t.mbx.head = s.mbx.head ∧
      t.par = s.par ∧ t.op.state = s.op.state

/-- The checkpoint, the end of a restart and the persistent fault of the Command Processor pair (R26, R27, R28). -/
def Obligations.CpRestart : Prop :=
  (∀ s : State, s.pairs.cp.held = false → s.pairs.cp.restarting = false →
    exec .cpCheckpoint s = .next { writeEntries 0 (fun _ => true) s with
      cp := { (writeEntries 0 (fun _ => true) s).cp with
        ckpt := (writeEntries 0 (fun _ => true) s).mbx.tags, journal := [] } } ∧
    ((memCtl s 0).merge = [] →
      exec .cpCheckpoint s = .next { s with cp := { s.cp with ckpt := s.mbx.tags, journal := [] } })) ∧
  (∀ s : State, s.pairs.cp.restarting = true →
    exec .cpRestartDone s = .next (s.cp.heldHead.foldl (fun s v => moveHead v s) { s with
      pairs := { s.pairs with cp := { s.pairs.cp with restarting := false } }
      mbx := { s.mbx with bells := s.mbx.bells ++ s.cp.heldBells }
      cp := { s.cp with heldBells := [], heldHead := [] } })) ∧
  (∀ s : State, s.pairs.cp.held = false → 3 ≤ (s.pairs.cp.stamps.filter (fun a => s.pt.ns < a + 1000000000)).length →
    exec .cpPairPersistent s = .next (detect .fc 0x1104 2 [] { s with
      pairs := { s.pairs with cp := { s.pairs.cp with held := true, persistent := true } }
      op := { s.op with degraded := true } }))

/-- A clock fault moves its clock to the RC oscillator (R31, R595). -/
def Obligations.ClockFaults : Prop :=
  (∀ s : State, s.clk.hclkRc = false → s.supply.hbLock = false →
    exec .crystalClockFault s = .next (detect .hb 0x1201 1 []
      (stopChannel .b (stopChannel .a { s with clk := { s.clk with hclkRc := true } })))) ∧
  (∀ s : State, s.clk.fcRc = false → s.supply.fcLock = false →
    exec .referenceClockLost s = .next (detect .fc 0x1202 1 [] { s with clk := { s.clk with fcRc := true } })) ∧
  (∀ (d : Die) (s : State), d.id ∉ s.clk.pll → dieDown s d = false →
    exec (.pllClockFault d) s = .next (detect d 0x1203 3 [(d.id : Int)] { s with clk := { s.clk with pll := d.id :: s.clk.pll } })) ∧
  (∀ (c : Ch) (s : State), ((stopChannel c s).can.get c).mode = .off ∧ ((stopChannel c s).can.get c).clkStop = true ∧
    ((stopChannel c s).can.get c).tx = List.replicate 8 none)

/-- Lanes are retrained, fall to half rate or are dropped; a lost link is untrained and reacts (R39, R40, R41, R43, R44). -/
def Obligations.LanesAndLinks : Prop :=
  (∀ (d : Die) (s : State), d ≠ .fc → (link s d).lost = false → s.supply.fcLock = false →
    exec (.linkLost d) s = .next (linkReaction d
      (setLink d { link s d with lost := true, lanes := (link s d).lanes.map (fun _ => .untrained) } s))) ∧
  (∀ (d : Die) (lane errs : Nat) (s : State), s.supply.fcLock = false →
    (par s P.jxLaneErrLimit).toNat ≤ laneErrors d lane (countErrors d lane errs s) →
    laneUp (nth (link s d).lanes lane .untrained) = true → (((link s d).lanes.eraseIdx lane).any (· == .full)) = true →
    exec (.laneErrorLimit d lane errs) s = .next (record .fc 0x1801 0 [(d.id : Int), (lane : Int)]
      (setLink d { link s d with lanes := upd (link s d).lanes lane (fun _ => .training 1) }
        { s with jx := { s.jx with
          errs := (countErrors d lane errs s).jx.errs.filter (fun e => !(e.1 == d.id && e.2.1 == lane)) } }))) ∧
  (∀ (d : Die) (lane errs : Nat) (s : State), s.supply.fcLock = false →
    laneErrors d lane (countErrors d lane errs s) < (par s P.jxLaneErrLimit).toNat →
    exec (.laneErrorLimit d lane errs) s = .next { s with jx := { s.jx with
      errs := (s.jx.errs.filter (fun e => s.pt.ns < e.2.2 + (par s P.jxLaneErrWindow).toNat * 1000)) ++
        List.replicate errs (d.id, lane, s.pt.ns) } }) ∧
  (∀ (d : Die) (lane n : Nat) (s : State), d ≠ .fc → n < 4 → nth (link s d).lanes lane .untrained = .training n →
    exec (.laneTrainingDone d lane true) s =
      .next (setLink d { link s d with lanes := upd (link s d).lanes lane (fun _ => .full) } s) ∧
    exec (.laneTrainingDone d lane false) s =
      .next (setLink d { link s d with lanes := upd (link s d).lanes lane (fun _ => .training (n + 1)) } s)) ∧
  (∀ (lane : Nat) (s : State), nth s.jx.hb.lanes lane .untrained = .training 4 → (s.jx.hb.lanes.any (· == .full)) = true →
    ∃ t, exec (.laneTrainingDone .hb lane true) s = .next t ∧ t.op.degraded = true ∧
      t.jx.hb.lanes = upd s.jx.hb.lanes lane (fun _ => .half) ∧ t.op.state = s.op.state ∧ t.heel = s.heel)

/-- HB without its link starts the contactor hold, deasserts READY and asserts FAULT; a falling VF is PI_SOFT (R44, R66, R462, R472). -/
def Obligations.HbLosesItsLink : Prop :=
  (∀ s : State, s.saf.fcLoss = none → s.supply.hbLock = false →
    ∃ t, exec .hbLinkLoss s = .next t ∧ t.saf.fcLoss = some s.pt.ns ∧ readyOut t = false ∧ faultOut t = true) ∧
  (∀ (p : GdPos) (s : State), (s.gd.get p).powered = true → s.supply.gdLock.get p = false → (s.gd.get p).trained = true →
    ∃ t, exec (.gdLinkLost p) s = .next t ∧ (t.gd.get p).hiZ = true) ∧
  (∀ s : State, s.supply.fcLock = false →
    exec .vfPowerFailWarning s = .next (f4React .piSoft 0x1303
      (record .fc 0x1303 4 [] { s with supply := { s.supply with vfWarn := true } })))

/-- FC disciplines the PT copies within ±100 ppm and watches their offset; a failed barrier names the missing peers (R47, R48, R52). -/
def Obligations.PackageTime : Prop :=
  (∀ (o : Int) (s : State), s.supply.fcLock = false → fullLanes (link s .hb) ≠ 0 → o.natAbs ≤ 10000 →
    ∃ t, exec (.ptDisciplineExchange .hb o) s = .next t ∧ t.pt.hb.offset = o ∧ t.pt.hb.rate.natAbs ≤ 100 ∧
      (o.natAbs ≤ 300 → t.pt.hb.outSince = none ∧ t.pt.hb.warned = false) ∧
      (300 < o.natAbs → s.pt.hb.outSince = none → t.pt.hb.outSince = some s.pt.ns) ∧
      { t with pt := { t.pt with hb := s.pt.hb }, free := s.free } = s) ∧
  (∀ (o : Int) (s : State), s.supply.fcLock = false → fullLanes (link s .hb) ≠ 0 → 10000 < o.natAbs →
    ∃ u, u.pt.hb.offset = o ∧ exec (.ptDisciplineExchange .hb o) s = .next (detect .fc 0x1806 3 [] u)) ∧
  (∀ (t : Nat) (s : State), s.pt.hb.outSince = some t → t + 1000000 ≤ s.pt.ns → s.pt.hb.warned = false →
    exec (.ptOffsetWarning .hb) s = .next (detect .fc 0x1805 1 [0, s.pt.hb.offset]
      { s with pt := { s.pt with hb := { s.pt.hb with warned := true } } })) ∧
  (∀ (b : Barrier) (r : List Barrier) (s : State), s.jx.barriers = b :: r →
    exec .barrierFailed s = .next (b.missing.foldl checkPeer (record .fc 0x1807 0 [(b.op : Int), (dieMask b.missing : Int)]
      { s with
        jx := { s.jx with barriers := r, report := some b }
        heel := { s.heel with releasing := if b.op = 0 then none else s.heel.releasing } })))

/-- SNAPSHOT names a PT at least 2 µs ahead, at which every die latches its state (R50, R51, R554, R557). -/
def Obligations.Snapshots : Prop :=
  (∀ (i : Nat) (s : State), canStart s i 0x34 = true → s.snap.pending = none →
    ptNow s + 2000 ≤ beNat (payload (start i s) i) →
    ∃ t, exec (.snapshot i) s = .next t ∧ t.snap.pending = some (beNat (payload (start i s) i), i) ∧
      t.mbx.rr = s.mbx.rr ++ [i] ∧ t.op = s.op) ∧
  (∀ (n i : Nat) (s : State), s.snap.pending = some (n, i) → s.supply.fcLock = false →
    ∃ t, exec .snapshotLatch s = .next t ∧ t.snap.pending = none ∧ t.snap.fc.length = 768 ∧
      (∀ k, k < 768 → nth t.snap.fc k 0 = BitVec.ofNat 32 ((readFc s (0x400 + 4 * k)).getD 0)) ∧ t.op = s.op)

/-- The two STO channels: filter, status message, discrepancy and path test (R439, R440, R443, R445, R446). -/
def Obligations.StoChannels : Prop :=
  (∀ (c : Ch) (a : Bool) (s : State), s.saf.stoRaw.get c ≠ a →
    exec (.stoInputChange c a) s = .next { s with saf := { s.saf with
      stoRaw := s.saf.stoRaw.set c a, stoSince := s.saf.stoSince.set c s.pt.ns } }) ∧
  (∀ s : State, s.supply.hbLock = false → s.saf.stoTest = none → s.saf.stoFilt.b = false → s.saf.stoRaw.b = true →
    s.saf.stoSince.b + (par s P.safetyStoFilter).toNat * 100000 ≤ s.pt.ns →
    ∃ t, exec (.stoFilterChange .b) s = .next t ∧ t.saf.stoFilt = ⟨s.saf.stoFilt.a, true⟩ ∧ t.op.stoActive = true ∧
      t.saf.stoMsg = some true ∧ t.saf.stoDiff = (if s.saf.stoFilt.a then none else some s.pt.ns) ∧ t.op.state = s.op.state) ∧
  (∀ s : State, s.supply.hbLock = false → s.saf.fcLoss = none → s.saf.stoTxAt + 30000 ≤ s.pt.ns →
    exec .stoStatusPeriodic s = .next { s with saf := { s.saf with stoMsg := some s.saf.stoFilt.b, stoTxAt := s.pt.ns } }) ∧
  (∀ s : State, s.saf.stoMsg = some true → s.supply.fcLock = false → linkUp s.jx.hb = true →
    exec .stoStatusReceived s = .next (brake (stoPi { s with saf := { s.saf with fcSto := true, stoMsg := none } }))) ∧
  (∀ s : State, s.saf.stoMsg = some false → s.supply.fcLock = false → linkUp s.jx.hb = true →
    exec .stoStatusReceived s = .next { s with saf := { s.saf with fcSto := false, stoMsg := none } }) ∧
  (∀ (u : Nat) (s : State), s.saf.stoDiff = some u → u + (par s P.safetyStoDiscTime).toNat * 1000000 ≤ s.pt.ns →
    s.saf.stoDisc = false →
    exec .stoDiscrepancy s = .next (detect .hb 0x5302 3 [] { s with saf := { s.saf with stoDisc := true, stoBoth := false } })) ∧
  (∀ (b : Bool) (x y : Nat) (s : State), s.saf.stoTest = some b → s.saf.stoTestAt + stoTestNs s ≤ s.pt.ns →
    x < stoTestNs s → y < stoTestNs s →
    exec (.stoPathTestEnd (some x) (some y)) s = .next { s with saf := { s.saf with stoTest := none, stoTestFail := false } }) ∧
  (∀ (x y : Option Nat) (s : State), s.saf.stoTest = some false → s.saf.stoTestAt + stoTestNs s ≤ s.pt.ns →
    (y = none ∨ ∃ n, y = some n ∧ stoTestNs s ≤ n) →
    exec (.stoPathTestEnd x y) s = .next (detect .hb 0x5303 1 [if stoPathOk s x then 1 else 0]
      { s with saf := { s.saf with stoTest := none, stoTestFail := true } }))

/-- An active STO channel A in RUN holds PI and enters SAFE_HOLD (R54, R440, R443). -/
def Obligations.StoOrdersPi : Prop :=
  ∀ s : State, s.op.state = .run → s.supply.hbLock = false → s.saf.stoTest = none → s.saf.stoFilt.a = false →
    s.saf.stoRaw.a = true → s.saf.stoSince.a + (par s P.safetyStoFilter).toNat * 100000 ≤ s.pt.ns → s.heel.fc = none →
    ∃ t, exec (.stoFilterChange .a) s = .next t ∧ t.op.state = .safeHold ∧ t.op.holdFrom = .run ∧
      t.heel.fc = some .pi ∧ t.saf.held = 1 ∧ t.op.stoActive = true ∧ t.mod.running = false

/-- The stop ramp and the speed limits (R60, R438, R447, R448, R449, R451, R452). -/
def Obligations.SafeSpeedLimits : Prop :=
  (∀ (r : Ss1Run) (s : State), s.saf.stop = some r → 3 ≤ r.envRun →
    exec .ss1EnvelopeExceeded s = .next (detect .fc 0x5311 3 [divRound (smSpeed s) 65536] s)) ∧
  (∀ (r : Ss1Run) (s : State), s.saf.stop = some r → s.op.state = .stopping →
    r.t0 + (par s P.safetySs1Time).toNat * 1000000 ≤ s.pt.ns →
    exec .ss1Timeout s = .next (detect .fc 0x5312 3 [] s)) ∧
  (∀ (r : Ss1Run) (z : Nat) (s : State), s.saf.stop = some r → s.op.state = .stopping → r.zeroSince = some z →
    z + 10000000 ≤ s.pt.ns → par s P.safetyBrkEnable = 1 → s.saf.brkRel = true →
    exec .ss1Standstill s = .next { s with saf := { s.saf with
      brkRel := false, brkHs := false, brkLs := false, brkTest := none, brkAt := some s.pt.ns } }) ∧
  (∀ (r : Ss1Run) (z : Nat) (s : State), s.saf.stop = some r → s.op.state = .stopping → r.zeroSince = some z →
    z + 10000000 ≤ s.pt.ns → (par s P.safetyBrkEnable ≠ 1 ∨ brakeHeld s = true) →
    ∃ t, exec .ss1Standstill s = .next t ∧ t.op.state = .safeHold ∧ t.heel.fc.isSome = true) ∧
  (∀ s : State, 2 ≤ s.saf.smsRun → exec .smsExceeded s = .next (detect .fc 0x5321 3 [] s)) ∧
  (∀ s : State, s.saf.sls = true → 2 ≤ s.saf.slsRun → exec .slsExceeded s = .next (detect .fc 0x5322 3 [] s)) ∧
  (∀ (u : Nat) (s : State), s.op.state = .safeHold → s.op.speedDependent = true →
    s.saf.sdsSince = some u → u + 100000000 ≤ s.pt.ns → s.heel.fc = some .ascLow →
    ∃ t, exec .sdsPiReplacement s = .next t ∧ t.heel.fc = some .pi ∧ t.saf.held = 1 ∧ t.op.speedDependent = false ∧
      t.op.state = .safeHold ∧ t.evt = s.evt)

/-- The brake switches and their test (R453, R454, R455, R456, R457). -/
def Obligations.BrakeSwitches : Prop :=
  (∀ (u : Nat) (s : State), s.op.state = .run → s.mod.running = true → brakeApplied s = false →
    s.saf.ctlAt = some u → u + (par s P.safetyBrkReleaseDelay).toNat * 1000000 ≤ s.pt.ns →
    exec .brakeReleaseDelay s = .next { s with saf := { s.saf with
      brkRel := true, brkHs := true, brkLs := true } }) ∧
  (∀ s : State, brakeApplied s = true →
    exec .brakeDemand s = .next { s with saf := { s.saf with
      brkRel := false, brkHs := false, brkLs := false, brkTest := none
      brkAt := if s.saf.brkRel then some s.pt.ns else s.saf.brkAt } }) ∧
  (∀ s : State, par s P.safetyBrkEnable = 1 → s.saf.brkTest = none → s.supply.hbLock = false →
    s.saf.brkRel = true → s.op.state = .run →
    s.saf.brkTestAt + (par s P.safetyBrkTestPeriod).toNat * 1000000000 ≤ s.pt.ns →
    exec (.brakeTestPulse s.saf.brkNextHs) s = .next { s with saf := { s.saf with
      brkTest := some ⟨s.saf.brkNextHs, false, s.pt.ns⟩, brkHs := s.saf.brkHs && !s.saf.brkNextHs
      brkLs := s.saf.brkLs && s.saf.brkNextHs, brkTestAt := s.pt.ns } }) ∧
  (∀ (hs : Bool) (l : List Bool) (s : State), par s P.safetyBrkEnable = 1 → s.saf.brkTest = none → s.supply.hbLock = false →
    s.saf.brkRel = false → s.op.state = .ready → s.saf.brkDue = hs :: l →
    exec (.brakeTestPulse hs) s = .next { s with saf := { s.saf with
      brkTest := some ⟨hs, true, s.pt.ns⟩, brkHs := hs, brkLs := !hs, brkDue := l } }) ∧
  (∀ (fb : Nat) (x : BrkTest) (s : State), s.saf.brkTest = some x →
    x.since + (par s P.safetyBrkTestPulse).toNat * 1000 ≤ s.pt.ns → fb < 10 →
    ∃ t, exec (.brakeTestPulseEnd fb) s = .next t ∧ t.saf.brkTest = none ∧ t.saf.brkHs = s.saf.brkRel ∧
      t.saf.brkLs = s.saf.brkRel ∧ t.saf.brkFault = (x.close && s.saf.brkDue.isEmpty && s.saf.brkFault) ∧ t.saf.brkMis = false ∧ t.op = s.op ∧ t.evt = s.evt) ∧
  (∀ (fb : Nat) (x : BrkTest) (s : State), s.saf.brkTest = some x →
    x.since + (par s P.safetyBrkTestPulse).toNat * 1000 ≤ s.pt.ns → 10 ≤ fb →
    ∃ u, u.saf.brkFault = true ∧ u.saf.brkTest = none ∧ exec (.brakeTestPulseEnd fb) s =
      .next (detect .hb 0x5331 (brakeClass s) [if x.hs then 0 else 1, (fb : Int)] u)) ∧
  (∀ (fb ns : Nat) (s : State), par s P.safetyBrkEnable = 1 → s.saf.brkTest = none → 1000000 ≤ ns →
    ((s.saf.brkRel = false ∧ 10 < fb) ∨ (s.saf.brkRel = true ∧ fb < 50)) →
    exec (.brakeFeedbackMismatch fb ns) s = .next (detect .hb 0x5332 (brakeClass s) []
      { s with saf := { s.saf with brkMis := true, brkFb := decide (50 ≤ fb) } }))

/-- Contactor feedbacks and their judgement (R459, R461, R462, R466, R469). -/
def Obligations.Contactors : Prop :=
  (∀ (k : Kont) (b : Bool) (s : State), konGet s.saf.kFb k ≠ b → s.supply.hbLock = false → s.saf.dis = none →
    s.saf.pre = none → s.op.state ≠ .safeHold →
    exec (.contactorFeedbackChange k b) s = .next { s with saf := { s.saf with kFb := konSet s.saf.kFb k b } }) ∧
  (∀ (k : Kont) (u : Nat) (s : State), konGet s.saf.kAt k = some u → u + 100000000 ≤ s.pt.ns → s.supply.hbLock = false →
    s.saf.check = none → konGet s.saf.kFb k = konGet s.saf.kCmd k → s.op.state ≠ .discharge →
    exec (.contactorCheckDue k) s = .next { s with saf := { s.saf with kAt := konSet s.saf.kAt k none } }) ∧
  (∀ (k : Kont) (u : Nat) (s : State), konGet s.saf.kAt k = some u → u + 100000000 ≤ s.pt.ns → s.supply.hbLock = false →
    s.saf.check = none → konGet s.saf.kCmd k = true → konGet s.saf.kFb k = false →
    exec (.contactorCheckDue k) s = .next (detect .hb 0x5341 2 [(kontNum k : Int)]
      { s with saf := { s.saf with kAt := konSet s.saf.kAt k none } })) ∧
  (∀ (k : Kont) (u : Nat) (s : State), konGet s.saf.kAt k = some u → u + 100000000 ≤ s.pt.ns → s.supply.hbLock = false →
    s.saf.check = none → konGet s.saf.kCmd k = false → konGet s.saf.kFb k = true → s.op.state ≠ .discharge →
    exec (.contactorCheckDue k) s = .next (weldFound k { s with saf := { s.saf with kAt := konSet s.saf.kAt k none } })) ∧
  (∀ (k : Kont) (i u : Nat) (s : State), konGet s.saf.kAt k = some u → u + 100000000 ≤ s.pt.ns → s.supply.hbLock = false →
    s.saf.check = some (i, kontNum k, true) → konGet s.saf.kFb k = true →
    exec (.contactorCheckDue k) s = .next { s with saf := { s.saf with
      kCmd := konSet s.saf.kCmd k false, kAt := konSet s.saf.kAt k (some s.pt.ns), check := some (i, kontNum k, false) } }) ∧
  (∀ (k : Kont) (i u : Nat) (s : State), konGet s.saf.kAt k = some u → u + 100000000 ≤ s.pt.ns → s.supply.hbLock = false →
    s.saf.check = some (i, kontNum k, false) → konGet s.saf.kFb k = false → s.op.state ≠ .discharge →
    exec (.contactorCheckDue k) s = .next (answerOk i { s with saf := { s.saf with
      kAt := konSet s.saf.kAt k none, check := none, weld := konSet s.saf.weld k false } })) ∧
  (∀ (i n : Nat) (s : State), canStart s i 0x33 = true → s.op.state = .standby → s.saf.check = none →
    (nth (payload (start i s) i) 0 0).toNat = n → n ≤ 2 →
    ∃ t, exec (.contactorCheck i) s = .next t ∧
      t.saf.kCmd = konSet s.saf.kCmd (if n = 0 then .neg else if n = 1 then .pre else .pos) true ∧
      t.saf.kAt = konSet s.saf.kAt (if n = 0 then .neg else if n = 1 then .pre else .pos) (some s.pt.ns) ∧
      t.saf.check = some (i, n, true) ∧ t.mbx.rr = s.mbx.rr ++ [i] ∧ t.op = s.op) ∧
  (∀ (u : Nat) (s : State), s.saf.fcLoss = some u → u + (par s P.safetyContFcLossHold).toNat * 1000000000 ≤ s.pt.ns →
    ∃ t, exec .fcLossHoldExpiry s = .next t ∧ t.saf.kCmd = ⟨false, false, false⟩ ∧ t.op = s.op ∧ t.evt = s.evt)

/-- PRECHARGE and the steps of its sequence (R54, R61, R93, R464, R465). -/
def Obligations.PrechargeSequence : Prop :=
  (∀ (i : Nat) (s : State), canStart s i 0x20 = true → s.op.state = .standby →
    (∀ p, requiredDie s p = true → (s.gd.get p).trained = true) → s.op.commissioning = false → s.last.sealed = true →
    s.tap.unlocked = false → s.sense.cal = none → s.diag = none → s.saf.coolUntil ≤ s.pt.ns → s.saf.check = none →
    s.op.maxClass < 3 → anyWeld s = false → diagFailed s = false → linksFull s = true → s.sense.vdcSuspect = 0 →
    diagOrdered s = false →
    ∃ t, exec (.precharge i) s = .next t ∧ t.op.state = .precharge ∧ t.op.prev = .standby ∧ t.saf.kCmd = ⟨true, false, false⟩ ∧
      t.saf.pre = some ⟨i, .weld, s.pt.ns, if s.saf.kFb.neg then some s.pt.ns else none, vdcSel s, none, false⟩) ∧
  (∀ (r : PreRun) (u : Nat) (s : State), s.saf.pre = some r → r.phase = .weld → r.at_ = some u → u + 20000000 ≤ s.pt.ns →
    (match vSrc s with
      | some v => 10 * max r.vmax (vdcSel s) < v
      | none => max r.vmax (vdcSel s) < 60 * 65536) →
    ∃ t, exec .prechargeWeldCheckEnd s = .next t ∧ t.saf.kCmd = ⟨true, true, false⟩ ∧
      t.saf.pre = some { r with phase := .charge, at_ := none } ∧ t.op = s.op) ∧
  (∀ (r : PreRun) (u : Nat) (s : State), s.saf.pre = some r → r.phase = .weld → r.at_ = some u → u + 20000000 ≤ s.pt.ns →
    (match vSrc s with
      | some v => v ≤ 10 * max r.vmax (vdcSel s)
      | none => 60 * 65536 ≤ max r.vmax (vdcSel s)) →
    exec .prechargeWeldCheckEnd s = .next (detect .fc 0x5344 2 []
      { s with saf := { s.saf with weld := { s.saf.weld with pos := true } } })) ∧
  (∀ (r : PreRun) (s : State), s.saf.pre = some r → r.phase = .charge → chargeReached r s = true →
    ∃ t, exec .prechargeTargetReached s = .next t ∧ t.saf.kCmd = ⟨true, true, true⟩ ∧
      t.saf.pre = some { r with phase := .closing, at_ := none } ∧ t.op = s.op) ∧
  (∀ (r : PreRun) (s : State), s.saf.pre = some r → r.phase = .opening → s.saf.kFb.pre = true → s.supply.hbLock = false →
    s.saf.dis = none →
    ∃ t, exec (.contactorFeedbackChange .pre false) s = .next t ∧ t.op.state = .ready ∧ t.saf.pre = none ∧
      t.saf.stoTest = some false) ∧
  (∀ (r : PreRun) (s : State), s.saf.pre = some r → s.saf.kFb.pos = false → r.phase ≠ .opening →
    r.start + (par s P.safetyPreTime).toNat * 1000000 ≤ s.pt.ns →
    exec .prechargeTimeout s = .next (detect .fc 0x5345 2 [] { s with saf := { s.saf with
      coolUntil := s.pt.ns + (par s P.safetyPreCool).toNat * 1000000000 } }))

/-- DISCHARGE, its failures and its end (R466, R468, R469, R471). -/
def Obligations.DischargePaths : Prop :=
  (∀ (i : Nat) (s : State), canStart s i 0x24 = true → s.op.state = .standby →
    (nth (payload (start i s) i) 0 0).toNat = 0 → parN s P.safetyDisR ≠ 0 →
    ∃ t, exec (.discharge i) s = .next t ∧ t.op.state = .discharge ∧ t.saf.disOn = true ∧ t.saf.disPath = 1 ∧
      t.saf.dis = some ⟨some i, s.pt.ns, false, false, some s.pt.ns, 0, false, 0, 0, 0,
        if s.saf.kFb.pos then none else some s.pt.ns⟩) ∧
  (∀ (d : DisRun) (s : State), s.saf.dis = some d → s.saf.disOn = true → 2 ≤ d.fails → windingAllowed s = false →
    exec .dischargeResistorFailed s = .next (detect .fc 0x5353 3 []
      (let u := record .fc 0x5352 1 [divRound (30 * d.iSum) 262144, divRound (1500 * d.vSum) 262144] { s with saf := { s.saf with
          disOn := false, disPath := 2, dis := some { d with resFailed := true, wait := true, onSince := none } } }
       { u with saf := { u.saf with disPath := 3 } }))) ∧
  (∀ (d : DisRun) (u : Nat) (s : State), s.saf.dis = some d → d.winding = true →
    ((d.onSince = some u ∧ u + 210000000 ≤ s.pt.ns ∧ 9 * d.v0 < 10 * vdcSel s) ∨
     (d.posOpen = some u ∧ u + 3000000000 ≤ s.pt.ns ∧ 60 * 65536 ≤ vdcSel s)) →
    exec .dischargeWindingFailed s = .next (detect .fc 0x5353 3 [] { s with saf := { s.saf with disPath := 3 } })) ∧
  (∀ (d : DisRun) (s : State), s.saf.dis = some d → s.op.state = .discharge → vdcSel s < 60 * 65536 →
    ∃ t, exec .dischargeComplete s = .next t ∧ t.op.state = .standby ∧ t.saf.dis = none ∧ t.saf.disOn = false ∧
      t.saf.disPath = 0 ∧ t.mod.running = false)

/-- A safe message is checked and paired; a missed deadline takes the safe values (R450, R452, R460, R473, R474, R475). -/
def Obligations.SafeMessages : Prop :=
  (∀ (c : Ch) (b : List Byte) (s : State), par s P.safetyCmsgEnable = 1 → s.supply.hbLock = false → b.length = 16 →
    beNat (b.take 2) = parN s P.safetyCmsgRxId → crc32c (b.take 12) ≠ beNat (b.drop 12) →
    exec (.safeMessageReceived c b) s = .next (record .hb 0x5362 0 [] s)) ∧
  (∀ (c : Ch) (b : List Byte) (s : State), par s P.safetyCmsgEnable = 1 → s.supply.hbLock = false → b.length = 16 →
    beNat (b.take 2) = parN s P.safetyCmsgRxId → crc32c (b.take 12) = beNat (b.drop 12) → s.nt.aligned = false →
    s.saf.cand = ⟨none, none⟩ → s.saf.msgSeq = none →
    exec (.safeMessageReceived c b) s = .next { s with saf := { s.saf with
      cand := s.saf.cand.set c (some ⟨beNat ((b.drop 2).take 2), bitOf (nth b 8 0).toNat 0, bitOf (nth b 8 0).toNat 1,
        beNat ((b.drop 10).take 2), s.pt.ns⟩) } }) ∧
  (∀ s : State, par s P.safetyCmsgEnable = 1 → s.saf.cmsgMissed = false → s.boot.done = true →
    s.saf.msgAt + (par s P.safetyCmsgDeadline).toNat * 1000000 ≤ s.pt.ns →
    exec .safeMessageDeadline s = .next (detect .hb 0x5365 2 [] { s with saf := { s.saf with
      cmsgOk := false, cmsgMissed := true, ss1Req := true, sls := true
      slsSince := if s.saf.sls then s.saf.slsSince else s.pt.ns, vsrc := none } }))

/-- FAULT_ACK leaves SAFE_HOLD when the cause has gone; SHUTDOWN begins its drain (R35, R54, R94, R95, R549). -/
def Obligations.AckAndShutdown : Prop :=
  (∀ (i : Nat) (s : State), canStart s i 0x23 = true → s.op.state = .safeHold → causeStands s = false →
    s.supply.hbLock = false → s.saf.fcLoss = none →
    ∃ t, exec (.faultAck i) s = .next t ∧ t.heel.fc = none ∧ t.saf.held = 0 ∧
      t.op.state = (if charged s then OpState.ready else .standby) ∧ t.op.prev = .safeHold ∧
      t.heel.releasing = some [0, 2, 3, 4, 5, 6, 7]) ∧
  (∀ (i : Nat) (s : State), canStart s i 0x23 = true → s.op.state = .safeHold → causeStands s = true →
    i < s.mbx.tags.length →
    ∃ t, exec (.faultAck i) s = .next t ∧ t.op = s.op ∧ t.heel = s.heel ∧ (tag t i).reply = some ⟨0x20, 0, []⟩) ∧
  (∀ (i : Nat) (s : State), canStart s i 0x25 = true → s.op.state = .standby → vdcBelow60 s = true →
    i < s.mbx.tags.length →
    ∃ t, exec (.shutdown i) s = .next t ∧ t.op.state = .shutdown ∧ t.boot.drain = true ∧ t.boot.step = 0x21 ∧
      (tag t i).reply = some ⟨0, 0, []⟩)

/-- Conversions, hardware trips and the link warnings (R107, R128, R129, R130, R131, R132). -/
def Obligations.HardwareTrips : Prop :=
  (∀ (c : Nat) (uv : Int) (s : State), c < 6 → s.supply.fcLock = false → testSource s = false →
    lostA s c = false → 0 < par s P.senseOcTrip → (gainA s c).1 ≠ 0 →
    par s P.senseOcTrip * 65536 < ((scaleA s c (xOfCode (codeOfUv uv))).natAbs : Int) →
    exec (.pathAConversion c uv) s = .next { s with sense := { s.sense with
      convA := upd s.sense.convA c (fun _ => scaleA s c (xOfCode (codeOfUv uv)))
      winA := upd s.sense.winA c (PathWin.add (ptNow s / 1000000) (scaleA s c (xOfCode (codeOfUv uv))))
      ocRun := upd s.sense.ocRun c (fun n => n + 1) } }) ∧
  (∀ (c : Nat) (uv : Int) (s : State), c < 6 → s.supply.fcLock = false → testSource s = false →
    lostA s c = false → 0 < par s P.senseOcTrip → (gainA s c).1 ≠ 0 →
    ((scaleA s c (xOfCode (codeOfUv uv))).natAbs : Int) ≤ par s P.senseOcTrip * 65536 → bitOf s.sense.ocTrip c = true →
    exec (.pathAConversion c uv) s = .next { s with sense := { s.sense with
      convA := upd s.sense.convA c (fun _ => scaleA s c (xOfCode (codeOfUv uv)))
      winA := upd s.sense.winA c (PathWin.add (ptNow s / 1000000) (scaleA s c (xOfCode (codeOfUv uv))))
      ocRun := upd s.sense.ocRun c (fun _ => 0), ocTrip := s.sense.ocTrip - 2 ^ c } }) ∧
  (∀ (c : Nat) (uv : Int) (s : State), (c = 6 ∨ c = 7) → s.supply.fcLock = false → testSource s = false →
    lostA s c = false → par s P.senseVdcOvTrip * 65536 < scaleA s c (xOfCode (codeOfUv uv)) →
    exec (.pathAConversion c uv) s = .next { s with sense := { s.sense with
      convA := upd s.sense.convA c (fun _ => scaleA s c (xOfCode (codeOfUv uv)))
      winA := upd s.sense.winA c (PathWin.add (ptNow s / 1000000) (scaleA s c (xOfCode (codeOfUv uv))))
      ovRun := upd s.sense.ovRun (c - 6) (fun n => n + 1) } }) ∧
  (∀ (p : Phase) (uv : Int) (s : State), s.supply.fcLock = false → testSource s = false →
    ∃ t, exec (.pathAConversion (8 + p.idx) uv) s = .next t ∧
      t.sense.convA = upd s.sense.convA (8 + p.idx) (fun _ => scaleA s (8 + p.idx) (xOfCode (codeOfUv uv))) ∧
      t.sense.vtAcc = upd s.sense.vtAcc p.idx (fun a => (a.1 + nth t.sense.convA (8 + p.idx) 0, a.2 + 1)) ∧
      t.sense.ocRun = s.sense.ocRun ∧ t.sense.ovRun = s.sense.ovRun ∧ t.op = s.op ∧ t.heel = s.heel) ∧
  (∀ (c : Nat) (s : State), c < 6 → parN s P.senseOcCount ≤ nth s.sense.ocRun c 0 → bitOf s.sense.ocTrip c = false →
    lostA s c = false →
    exec (.overcurrentTrip c) s = .next (f4React .piSoft 0x2001 (record .fc 0x2001 4
      [((c + 1 : Nat) : Int), divRound (nth s.sense.convA c 0) 65536]
      { s with sense := { s.sense with ocTrip := s.sense.ocTrip + 2 ^ c } }))) ∧
  (∀ (c : Nat) (s : State), (c = 6 ∨ c = 7) → 2 ≤ nth s.sense.ovRun (c - 6) 0 → bitOf s.sense.ovTrip (c - 6) = false →
    lostA s c = false → s.sm.xover = true →
    exec (.overvoltageTrip c) s = .next (f4React .ascLow 0x2002 (record .fc 0x2002 4
      [((c + 1 : Nat) : Int), divRound (nth s.sense.convA c 0) 65536, 2]
      { s with sense := { s.sense with ovTrip := s.sense.ovTrip + 2 ^ (c - 6) } }))) ∧
  (∀ (c : Nat) (s : State), (c = 6 ∨ c = 7) → 2 ≤ nth s.sense.ovRun (c - 6) 0 → bitOf s.sense.ovTrip (c - 6) = false →
    lostA s c = false → s.sm.xover = false →
    exec (.overvoltageTrip c) s = .next (f4React .piSoft 0x2002 (record .fc 0x2002 4
      [((c + 1 : Nat) : Int), divRound (nth s.sense.convA c 0) 65536, 4]
      { s with sense := { s.sense with ovTrip := s.sense.ovTrip + 2 ^ (c - 6) } }))) ∧
  (∀ s : State, 10 ≤ s.sense.ovWarnRun → s.sense.ovWarn = false →
    exec .overvoltageWarning s = .next (detect .fc 0x2003 1 [] { s with sense := { s.sense with ovWarn := true } })) ∧
  (∀ s : State, 10 ≤ s.sense.ovClearRun → s.sense.ovWarn = true →
    exec .overvoltageWarningClear s = .next { s with sense := { s.sense with ovWarn := false } }) ∧
  (∀ (u : Nat) (s : State), s.sense.uvSince = some u → u + 1000000 ≤ s.pt.ns → s.sense.uvRec = false →
    exec .undervoltage s = .next (detect .fc 0x2004 2 [] { s with sense := { s.sense with uvRec := true } }))

/-- The comparisons of the fast channels and what they find (R118, R119, R120, R121, R122, R123, R124, R125). -/
def Obligations.CrossChecks : Prop :=
  (∀ s : State, testSource s = false → s.supply.fcLock = false →
    exec .pathComparisonWindow s = .next ([0, 1, 2, 3, 4, 5].foldl judgeWindow s)) ∧
  (∀ (c : Nat) (s : State), c < 6 →
    ((judgeWindow s c).sense.failed = s.sense.failed ∨ ∃ a b, a.no = b.no ∧
      ((nth s.sense.winA c .reset).roll (ptNow s / 1000000)).last = some a ∧
      ((nth s.sense.winB c .reset).roll ((ptNow s - groupDelay (parN s P.senseBOsr)) / 1000000)).last = some b ∧
      (judgeWindow s c).sense.failed = (windowCheck c a b s).sense.failed)) ∧
  (∀ (p : Phase) (s : State), nth s.sense.failed p.idx 0 ≠ 0 → nth s.sense.verdict p.idx none = none →
    exec (.comparisonFailed p) s = .next { s with sense := { s.sense with
      verdict := upd s.sense.verdict p.idx (fun _ => some s.pt.ns) } }) ∧
  (∀ (p : Phase) (v : Nat) (s : State), nth s.sense.verdict p.idx none = some v → v + 3000000 ≤ s.pt.ns → nth s.sense.failed p.idx 0 = 5 →
    ∃ u, u.sense.verdict = upd s.sense.verdict p.idx (fun _ => none) ∧
      u.sense.failed = upd s.sense.failed p.idx (fun _ => 0) ∧ u.sense.lostA = s.sense.lostA ∧ u.op = s.op ∧
      exec (.crossCheckVerdict p) s = .next (lose [p.idx] [] (detect .fc 0x2011 1 [(p.idx : Int), 0, 0, 5] u))) ∧
  (∀ (p : Phase) (v : Nat) (s : State), nth s.sense.verdict p.idx none = some v → v + 3000000 ≤ s.pt.ns → nth s.sense.failed p.idx 0 = 2 →
    ∃ u, u.sense.verdict = upd s.sense.verdict p.idx (fun _ => none) ∧
      u.sense.failed = upd s.sense.failed p.idx (fun _ => 0) ∧ u.sense.lostA = s.sense.lostA ∧ u.op = s.op ∧
      exec (.crossCheckVerdict p) s = .next (detect .fc 0x2012 2 [(p.idx : Int), 2] u)) ∧
  (∀ (st : Nat) (s : State), st < 2 → 8 ≤ nth s.sense.sumRun st 0 → bitOf s.sense.sumFail st = false →
    (usable s.sense.lostA st = false ∨ usable s.sense.lostA (1 - st) = true) →
    exec (.sumCheckFailed st) s = .next { s with sense := { s.sense with sumFail := s.sense.sumFail + 2 ^ st } }) ∧
  (∀ (st : Nat) (s : State), st < 2 → 8 ≤ nth s.sense.sumRun st 0 → bitOf s.sense.sumFail st = false →
    usable s.sense.lostA st = true → usable s.sense.lostA (1 - st) = false →
    exec (.sumCheckFailed st) s = .next (detect .fc 0x2013 3 []
      { s with sense := { s.sense with sumFail := s.sense.sumFail + 2 ^ st } })) ∧
  (∀ s : State, 16 ≤ s.sense.vdcRun → s.sense.vdcArb = none →
    exec .vdcDisagreement s = .next { s with sense := { s.sense with vdcArb := some 0, vdcRun := 0 } }) ∧
  (∀ (n : Nat) (s : State), s.sense.vdcArb = some n → 100 ≤ n → s.op.state = .run →
    exec .vdcArbitrationTimeout s = .next (detect .fc 0x2042 2 []
      { s with sense := { s.sense with vdcArb := none, vdcRun := 0 } })) ∧
  (∀ (p : Phase) (s : State), 16 ≤ nth s.sense.termRun p.idx 0 → lostA s (8 + p.idx) = false →
    exec (.terminalImplausible p) s = .next (lose [8 + p.idx] [] (detect .fc 0x2051 1 [((8 + p.idx + 1 : Nat) : Int)]
      { s with sense := { s.sense with termRun := upd s.sense.termRun p.idx (fun _ => 0) } })))

/-- Lost channels, reference checks and calibration (R111, R113, R117, R121, R126, R127, R134, R135, R136). -/
def Obligations.ChannelLosses : Prop :=
  (∀ (c : Nat) (s : State), c < 12 → 4 ≤ nth s.sense.openRun c 0 → (lostA s c && lostB s c) = false →
    exec (.openInput c) s = .next (lose [c] [c] (detect .fc 0x2031 1 [((c + 1 : Nat) : Int)] s))) ∧
  (∀ (c : Nat) (s : State), c < 6 → stuck s c = true → lostA s c = false →
    exec (.stuckChannel c) s = .next (lose [c] [] (detect .fc 0x2032 1 [((c + 1 : Nat) : Int)] s))) ∧
  (∀ (c : Nat) (s : State), c < 12 → 8 ≤ nth s.sense.ovlRun c 0 → lostB s c = false →
    exec (.pathBOverload c) s = .next (lose [] [c] (detect .fc 0x2033 1 [((c + 1 : Nat) : Int)] s))) ∧
  (∀ (r : Nat) (s : State), r < 3 → 2 ≤ nth s.sense.hkFail (3 + r) 0 → s.sense.bandgap = false →
    s.sense.hkSuspect = false →
    exec (.referenceOutOfTolerance r) s = .next
      (let u := detect .fc 0x2061 1 [(r : Int), ((nth s.sense.hk (3 + r) 0 : Nat) : Int)]
          { s with sense := { s.sense with hkFail := upd s.sense.hkFail (3 + r) (fun _ => 0) } }
       if r = 0 then lose [0, 1, 2, 6, 8, 10] [] u
       else if r = 1 then lose [3, 4, 5, 7, 9, 11] [] u
       else lose [] [0, 1, 2, 3, 4, 5, 6, 7, 8, 9, 10, 11] u)) ∧
  (∀ s : State, 2 ≤ nth s.sense.hkFail 6 0 → s.sense.bandgap = false → s.sense.hkSuspect = false →
    exec .bandgapDisagreement s = .next (detect .fc 0x2062 2 [] { s with sense := { s.sense with bandgap := true } })) ∧
  (∀ (st : Nat) (s : State), st < 2 → 2 ≤ nth s.sense.hkFail (7 + st) 0 → s.sense.hkSuspect = false →
    exec (.transducerSupplyFault st) s = .next
      (lose [setBase st, setBase st + 1, setBase st + 2] [setBase st, setBase st + 1, setBase st + 2]
        (detect .fc 0x2071 1 [(st : Int), hkMv s (7 + st) 30000]
          { s with sense := { s.sense with hkFail := upd s.sense.hkFail (7 + st) (fun _ => 0) } }))) ∧
  (∀ (n : Nat) (s : State), 20 ≤ n → n < 24 → 2 ≤ nth s.sense.hkFail n 0 → s.sense.hkSuspect = false →
    exec (.hkAdcSuspect n) s = .next (detect .fc 0x2072 1 [(n : Int)]
      { s with sense := { s.sense with hkSuspect := true } })) ∧
  (∀ (i : Nat) (s : State), canStart s i 0x30 = true → (s.op.state = .standby ∨ s.op.state = .ready) →
    s.sense.cal = none →
    ∃ t, exec (.senseCal i) s = .next t ∧ t.sense = { s.sense with cal := some ⟨s.pt.ns, some i⟩ } ∧ t.op = s.op ∧
      t.mbx.rr = s.mbx.rr ++ [i]) ∧
  (∀ (m : CalMeas) (r : CalRun) (i : Nat) (s : State), s.sense.cal = some r → r.tag = some i →
    r.start + 20000000 ≤ s.pt.ns →
    exec (.calibrationComplete m) s = .next (if calUsable (calEvaluate m s) then answer i ⟨0, 0, []⟩ (calEvaluate m s)
      else answer i ⟨0x20, 0x2063, []⟩ (calEvaluate m s)))

/-- Incremental encoder, index, Hall states and the supply of the sources (R147, R148, R149, R151, R152, R154, R155, R157, R158, R174, R179). -/
def Obligations.CountingSources : Prop :=
  (∀ (a b : Bool) (na nb : Nat) (s : State),
    let x := if parN s P.fbIncFilter ≤ na then a else s.fb.a
    let y := if parN s P.fbIncFilter ≤ nb then b else s.fb.b
    s.supply.fcLock = false → ((x ≠ s.fb.a ∧ y = s.fb.b) ∨ (x = s.fb.a ∧ y ≠ s.fb.b)) →
    exec (.quadratureTransition a b na nb) s = .next (watchIndex (moveCount
      (if par s P.fbIncDir = 1 then -quadStep s.fb.a s.fb.b x y else quadStep s.fb.a s.fb.b x y)
      { s with fb := { s.fb with a := x, b := y } }))) ∧
  (∀ (a b : Bool) (na nb : Nat) (s : State), s.supply.fcLock = false → parN s P.fbIncFilter ≤ na → parN s P.fbIncFilter ≤ nb →
    a ≠ s.fb.a → b ≠ s.fb.b →
    ∃ t, exec (.quadratureTransition a b na nb) s = .next t ∧ t.fb.a = a ∧ t.fb.b = b ∧ t.fb.c = s.fb.c ∧ t.fb.p = s.fb.p ∧
      t.fb.posUncertain = true ∧ t.fb.errIllegal = satInc 65535 s.fb.errIllegal) ∧
  (∀ (src : Nat) (s : State), (src = 1 ∨ src = 4) → srcLost s src = false →
    parN s P.fbIncIllegalMax < ((if src = 1 then s.fb.illegal else s.fb.hallIllegal).filter
      (fun t => s.pt.ns < t + parN s P.fbIncIllegalWindow * 1000000)).length →
    exec (.illegalLimitExceeded src) s = .next (loseSrc src (detect .fc 0x2802 1
      [(src : Int), (((if src = 1 then s.fb.illegal else s.fb.hallIllegal).filter
        (fun t => s.pt.ns < t + parN s P.fbIncIllegalWindow * 1000000)).length : Int)] s))) ∧
  (∀ s : State, parN s P.fbIdxMode ≠ 0 → s.supply.fcLock = false → (parN s P.fbIdxMode = 1 → s.fb.a = true ∧ s.fb.b = true) →
    s.fb.idxOff = false → s.fb.cref = none →
    ∃ t, exec (.indexLatch false) s = .next t ∧ t.fb.cref = some s.fb.c ∧ t.fb.indexNo = 0 ∧
      t.fb.c = s.fb.c ∧ t.evt = s.evt) ∧
  (∀ (r : Int) (s : State), parN s P.fbIdxMode ≠ 0 → s.supply.fcLock = false →
    (parN s P.fbIdxMode = 1 → s.fb.a = true ∧ s.fb.b = true) → s.fb.idxOff = false → s.fb.cref = some r →
    idxDev (incN s) (s.fb.c - r) = 0 →
    ∃ t, exec (.indexLatch false) s = .next t ∧ t.fb.indexNo = satInc 65535 s.fb.indexNo ∧ t.fb.idxReg = s.fb.c ∧
      t.fb.posUncertain = false ∧ t.fb.cref = some r ∧ t.fb.c = s.fb.c ∧ t.evt = s.evt) ∧
  (∀ (d : Int) (s : State), s.fb.idxPending = some d → absSecondary s = false →
    exec .indexFaultCheck s = .next (loseSrc 1 (detect .fc 0x2804 1 [d] { s with fb := { s.fb with idxPending := none } }))) ∧
  (∀ (d : Int) (s : State), s.fb.idxPending = some d → absSecondary s = true →
    ((s.fb.c * 65536 - convCounts s (srcPos s (secondary s)) (secondary s) 1).natAbs : Int) ≤ par s P.fbXchkLim * 65536 →
    exec .indexFaultCheck s = .next (detect .fc 0x2805 1 []
      { s with fb := { s.fb with idxPending := none, idxOff := true } })) ∧
  (∀ (n ns : Nat) (s : State), 1 ≤ n → n ≤ 6 → parN s P.fbHallFilter ≤ ns → s.supply.fcLock = false → s.fb.hallKnown = true →
    (parN s (P.fbHallMap n) + 6 - s.fb.hallSector) % 6 = 1 →
    exec (.hallStateChange n ns) s = .next { s with fb := { s.fb with
      hallSector := parN s (P.fbHallMap n), hallKnown := true, hallCount := s.fb.hallCount + 1, hallAt := s.pt.ns } }) ∧
  (∀ (ns : Nat) (s : State), parN s P.fbHallFilter ≤ ns → srcLost s 4 = false → s.supply.fcLock = false →
    exec (.hallStateInvalid ns) s = .next (loseSrc 4 (detect .fc 0x2831 1 [] s))) ∧
  (∀ s : State, 2 ≤ nth s.sense.hkFail 9 0 → s.sense.hkSuspect = false →
    ∃ u, u = detect .fc 0x2851 1 [hkMv s 9 15000]
        { s with sense := { s.sense with hkFail := upd s.sense.hkFail 9 (fun _ => 0) } } ∧
      exec .encoderSupplyFault s = .next (if parOn (loseSrc 3 (loseSrc 2 (loseSrc 1 u))) P.fbHallDiff
        then loseSrc 4 (loseSrc 3 (loseSrc 2 (loseSrc 1 u))) else loseSrc 3 (loseSrc 2 (loseSrc 1 u))))

/-- Resolver, SSI, wires, disagreement and the restart of the sources (R160, R161, R163, R164, R165, R166, R167, R171, R173, R176, R177, R179). -/
def Obligations.AbsoluteSources : Prop :=
  (∀ s : State, 4 ≤ s.fb.ampRun → srcLost s 3 = false →
    exec .resolverAmplitudeFault s = .next (loseSrc 3 (detect .fc 0x2821 1 [] s))) ∧
  (∀ s : State, 4 ≤ s.fb.trkRun → srcLost s 3 = false →
    exec .resolverTrackingLost s = .next (loseSrc 3 (detect .fc 0x2822 1 [] s))) ∧
  (∀ s : State, 2 ≤ nth s.sense.hkFail 10 0 → s.sense.hkSuspect = false → srcLost s 3 = false →
    exec .resolverExcitationFault s = .next (loseSrc 3 (detect .fc 0x2823 1 [] s))) ∧
  (∀ (f : SsiFrame) (s : State), s.fb.ssiRunning = true → s.supply.fcLock = false → s.fb.ssiT0 + ssiFrameNs s ≤ s.pt.ns →
    frameCause s f = none →
    ∃ t, exec (.ssiFrameDecoded f) s = .next t ∧ t.fb.ssiRunning = false ∧ t.fb.ssiEnd = s.pt.ns ∧ t.op.state = s.op.state ∧
      t.fb.lost = s.fb.lost ∧
      (s.fb.ssiKnown = false → t.fb.ssiKnown = true ∧ t.fb.ssiPos = framePos s f ∧ t.fb.ssiRaw = framePos s f ∧
        t.fb.ssiAt = s.fb.ssiT0 + s.fb.ssiTrt / 2 ∧ t.fb.ssiRun = 0 ∧ t.evt = s.evt) ∧
      (∀ d : Int, s.fb.ssiKnown = true → ((framePos s f : Int) - s.fb.ssiRaw - d) % 2 ^ parN s P.fbSsiStBits = 0 →
        -(2 ^ parN s P.fbSsiStBits) ≤ 2 * d → 2 * d < 2 ^ parN s P.fbSsiStBits →
        ((s.fb.ssiPos + d - divr (ssiAtPt s (s.fb.ssiT0 + s.fb.ssiTrt / 2)) 65536).natAbs : Int) ≤ par s P.fbSsiJump →
        t.fb.ssiPos = s.fb.ssiPos + d ∧ t.fb.ssiRaw = framePos s f ∧ t.fb.ssiAt = s.fb.ssiT0 + s.fb.ssiTrt / 2 ∧
        t.fb.ssiRun = 0 ∧ t.evt = s.evt)) ∧
  (∀ (f : SsiFrame) (c : Nat) (s : State), s.fb.ssiRunning = true → s.supply.fcLock = false →
    s.fb.ssiT0 + ssiFrameNs s ≤ s.pt.ns → frameCause s f = some c →
    exec (.ssiFrameDecoded f) s = .next (record .fc 0x2812 0 [(c : Int)] { s with fb := { s.fb with
      ssiRunning := false, ssiEnd := s.pt.ns, ssiRun := s.fb.ssiRun + 1, errSsi := satInc 65535 s.fb.errSsi } })) ∧
  (∀ (f : SsiFrame) (s : State), f.startLow = false → frameCause s f = some 2) ∧
  (∀ (n : Option Nat) (s : State), s.fb.ssiRunning = true → s.supply.fcLock = false → ssiAborts s n = true →
    exec (.ssiFrameAbort n) s = .next (record .fc 0x2813 0 [] { s with fb := { s.fb with
      ssiRunning := false, ssiEnd := s.pt.ns, ssiRun := s.fb.ssiRun + 1, errSsi := satInc 65535 s.fb.errSsi } })) ∧
  (∀ s : State, parN s P.fbSsiStaleMax ≤ s.fb.ssiRun → srcLost s 2 = false →
    exec .ssiStaleLimit s = .next (loseSrc 2 (detect .fc 0x2814 1 [] s))) ∧
  (∀ (n ns : Nat) (s : State), n < 11 → n ≠ 2 → (5 ≤ n → n < 8 → par s P.fbHallDiff = 1) → parN s P.fbWireFilter ≤ ns →
    s.supply.fcLock = false → bitOf s.fb.wire n = false →
    exec (.wireFault n ns) s = .next (loseSrc (if n < 2 then 1 else if n < 5 then 2 else if n < 8 then 4 else 3)
      (detect .fc 0x2811 1 [(n : Int)] { s with fb := { s.fb with wire := s.fb.wire + 2 ^ n } }))) ∧
  (∀ (ns : Nat) (s : State), parN s P.fbWireFilter ≤ ns → s.supply.fcLock = false → bitOf s.fb.wire 2 = false →
    ∃ t, exec (.wireFault 2 ns) s = .next t ∧ t.fb = { s.fb with wire := s.fb.wire + 4, idxOff := true }) ∧
  (∀ s : State, parN s P.fbXchkCount ≤ s.fb.xchkRun → primaryUsable s = true → secondary s ≠ 0 →
    srcLost s (secondary s) = false →
    exec .sourceDisagreement s = .next (loseSrc (secondary s) (loseSrc (primary s)
      (detect .fc 0x2841 1 [sat32 s.fb.xchkDiff] { s with fb := { s.fb with xchkRun := 0 } })))) ∧
  (∀ (n : Nat) (s : State), 1 ≤ n → n ≤ 4 → configured s n = true → srcLost s n = false →
    parN s P.fbFrozenN ≤ nth s.fb.frozenRun (n - 1) 0 →
    exec (.frozenSource n) s = .next (loseSrc n (detect .fc 0x2842 1 [(n : Int)] s))) ∧
  (∀ (i : Nat) (r : FbStart) (s : State), canStart s i 0x31 = true →
    (s.op.state = .standby ∨ s.op.state = .ready ∨ s.op.state = .safeHold) → s.sense.cal = none →
    s.fb.restart = none →
    ∃ t, exec (.fbRestart i r) s = .next t ∧ t.fb = { s.fb with
        restart := some (i, r, s.pt.ns), lost := 0, posUncertain := false, idxOff := false, cref := none
        fallback := false, indexNo := 0, corr := 0 } ∧ t.op = s.op ∧ t.mbx.rr = s.mbx.rr ++ [i])

/-- Validity of the observers, the residual test and block commutation (R194, R196, R198, R200, R204, R221, R222, R223, R224). -/
def Obligations.ObserversAndBlock : Prop :=
  (∀ s : State, 16 ≤ s.obs.oe0.run → s.obs.oe0.out = false →
    exec .oe0Valid s = .next { s with obs := { s.obs with oe0 := { s.obs.oe0 with valid := true, seeded := false } } }) ∧
  (∀ s : State, 16 ≤ s.obs.oe1.run → s.obs.oe1.out = false → terminalsOk s = true → anySetA s = true →
    exec .oe1Valid s = .next { s with obs := { s.obs with oe1 := { s.obs.oe1 with valid := true, lastOk := 0 } } }) ∧
  (∀ (a b c : Nat) (s : State), s.obs.resRun = [a, b, c] → parN s P.obsResCount ≤ a → parN s P.obsResCount ≤ b →
    parN s P.obsResCount ≤ c → s.obs.resDecl = [false, false, false] → s.op.state = .run → primaryUsable s = true →
    s.obs.oe0.valid = true → s.obs.oe1.valid = true →
    ∃ u, u.obs = { s.obs with resDecl := [true, true, true] } ∧ u.op = s.op ∧ u.heel = s.heel ∧ u.evt = s.evt ∧
      exec .residualDisagreement s = .next (issuePackage (patternOrder (rotorPattern u)) 0x3011 (record .fc 0x3011 3 [] u))) ∧
  (∀ (a b c : Nat) (s : State), s.obs.resRun = [a, b, c] → parN s P.obsResCount ≤ a → b < parN s P.obsResCount →
    parN s P.obsResCount ≤ c → s.obs.resDecl = [false, false, false] → s.op.state = .run → primaryUsable s = true →
    s.obs.oe0.valid = true → s.obs.oe1.valid = true →
    exec .residualDisagreement s = .next (voteOut0 { s with obs := { s.obs with resDecl := [true, false, true] } })) ∧
  (∀ s : State, s.obs.oe0.out = true → parN s P.obsResRejoin ≤ nth s.obs.rejoin 0 0 →
    exec (.observerRejoin false) s = .next (record .fc 0x3005 0 []
      { s with obs := { s.obs with oe0 := { s.obs.oe0 with out := false } } })) ∧
  (∀ s : State, s.obs.oe1.out = true → parN s P.obsResRejoin ≤ nth s.obs.rejoin 1 0 →
    exec (.observerRejoin true) s = .next (record .fc 0x3005 0 []
      { s with obs := { s.obs with oe1 := { s.obs.oe1 with out := false } } })) ∧
  (∀ (r : Nat) (s : State), s.obs.reacq = some r → r + (par s P.obsFlyTimeout).toNat * 1000000 ≤ s.pt.ns → s.op.state = .run →
    exec .reacquisitionTimeout s = .next (issuePackage (patternOrder s.obs.pattern) 0x3024 (record .fc 0x3024 3 [] s))) ∧
  (∀ s : State, selfCommutated s = true → s.obs.phase ≠ .block → s.obs.commAt < s.obs.tz →
    fromT0 s (commTime s) < s.mod.h →
    ∃ t, exec .blockCommutation s = .next t ∧ t.obs = { s.obs with
        sector := if s.obs.rev then (s.obs.sector + 5) % 6 else (s.obs.sector + 1) % 6
        commAt := s.pt.ns, turnAt := s.pt.ns } ∧
      t.evt = s.evt ∧ t.op = s.op) ∧
  (∀ s : State, selfCommutated s = true → s.obs.phase = .block → scheduleDue s = true →
    ∃ t, exec .blockCommutation s = .next t ∧
      t.obs.sector = (if s.obs.rev then (s.obs.sector + 5) % 6 else (s.obs.sector + 1) % 6) ∧ t.obs.sched = s.obs.sched + 1 ∧
      t.obs.armed = (s.obs.armed || decide (par s P.obsBlkWMin * 100 ≤ scheduleW s)) ∧ t.evt = s.evt ∧ t.op = s.op) ∧
  (∀ s : State, selfCommutated s = true → s.obs.synced = true → crossingLate s = true →
    s.obs.missRun + 1 < parN s P.obsBlkMissMax →
    exec .crossingMissed s = .next (record .fc 0x3051 0 []
      (commutate (fromT0 s (8 * s.pt.ns)) { s with obs := { s.obs with missRun := s.obs.missRun + 1 } }))) ∧
  (∀ s : State, s.obs.phase = .block → 2 * par s P.obsBlkWMin * 100 ≤ scheduleW s →
    exec .blockStartTimeout s = .next (detect .fc 0x3052 2 [] { s with obs := { s.obs with phase := .idle } })) ∧
  (∀ s : State, parN s P.obsCommMode = 2 → s.mod.running = true → s.obs.turnAt = s.pt.ns → s.obs.comm = 1 →
    par s P.obsSixWOn * 100 ≤ ((elecW s).natAbs : Int) → s.obs.oe0.valid = true → 16 ≤ s.obs.syncRun →
    exec .sixStepChange s = .next (record .fc 0x3053 0 [2]
      { s with obs := { s.obs with comm := 2 }, mod := { s.mod with pattern := 5 } }))

/-- Start measurement, probe, catch and the Awl (R208, R209, R210, R211, R214, R215, R216). -/
def Obligations.RotorStarts : Prop :=
  (∀ s u : State,
    let freq := fitFreq s.obs.meas
    let mag := qfree 26 s.obs.meas.smag s.obs.meas.n
    s.obs.phase = .measV → s.op.state = .run → windowOver s = true →
    u = record .fc 0x3031 0 [2, (freq.natAbs : Int), if freq < 0 then 1 else 0, voltParam mag] s →
    (mag < par u P.obsFlyEMin * 65536 → exec .startMeasurementEnd s = .next (standstill u)) ∧
    (par u P.obsFlyEMin * 65536 ≤ mag → (railed s.obs.meas = true ∨ 9 * vdcSel u ≤ 10 * mag) → par u P.safetyAscSide = 0 →
      ∃ t, exec .startMeasurementEnd s = .next t ∧ t.mod = { u.mod with running := true, pattern := 2 } ∧
        t.obs.phase = .settle ∧ t.obs.probe = false ∧ t.op = u.op ∧ t.evt = u.evt) ∧
    (par u P.obsFlyEMin * 65536 ≤ mag → railed s.obs.meas = false → 10 * mag < 9 * vdcSel u → fitOk u = false →
      exec .startMeasurementEnd s = .next (if u.obs.again then detect .fc 0x3033 2 [] u
        else startPhase .measV { u with obs := { u.obs with again := true } })) ∧
    (par u P.obsFlyEMin * 65536 ≤ mag → railed s.obs.meas = false → 10 * mag < 9 * vdcSel u → fitOk u = true →
      exec .startMeasurementEnd s = .next (catchAt 2 false ⟨mag, freq,
        ang16 (fitAngle s.obs.meas - if freq < 0 then -16384 else 16384)⟩ u))) ∧
  (∀ s : State, s.obs.phase = .settle → s.op.state = .run →
    s.obs.phaseAt + (par s P.obsFlyAscSettle).toNat * 1000000 ≤ s.pt.ns → s.obs.probe = true →
    s.obs.meas.peak < par s P.obsFlyIMin * 65536 → exec .ascSettleEnd s = .next (standstill s)) ∧
  (∀ s : State, s.obs.phase = .settle → s.op.state = .run →
    s.obs.phaseAt + (par s P.obsFlyAscSettle).toNat * 1000000 ≤ s.pt.ns →
    (s.obs.probe = false ∨ par s P.obsFlyIMin * 65536 ≤ s.obs.meas.peak) →
    exec .ascSettleEnd s = .next { s with obs := { s.obs with
      phase := .measI, phaseAt := s.pt.ns, meas := .reset, again := false } }) ∧
  (∀ s : State, s.obs.phase = .lock → (s.op.state = .run ∨ s.op.state = .stopping) → s.obs.reacq = none →
    s.obs.phaseAt + (par s P.obsFlyLock).toNat * 1000000 ≤ s.pt.ns →
    (wrap16 ((s.obs.oe0.last : Int) - (s.obs.measTheta + advance16 s.obs.measW ((s.sense.stamp : Int) - s.obs.measAt)))).natAbs
      ≤ parN s P.obsResLim →
    exec .catchLockCheck s = .next { s with obs := { s.obs with phase := .idle, rampAt := some s.pt.ns } }) ∧
  (∀ s : State, s.obs.phase = .lock → (s.op.state = .run ∨ s.op.state = .stopping) →
    s.obs.phaseAt + (par s P.obsFlyLock).toNat * 1000000 ≤ s.pt.ns → parN s P.obsResLim <
    (wrap16 ((s.obs.oe0.last : Int) - (s.obs.measTheta + advance16 s.obs.measW ((s.sense.stamp : Int) - s.obs.measAt)))).natAbs →
    exec .catchLockCheck s = .next (detect .fc 0x3033 2 [] { s with obs := { s.obs with phase := .idle } })) ∧
  (∀ (r : AwlResp) (s : State), s.obs.phase = .awl → s.op.state = .run → 8 * s.obs.phaseAt + awlLength s ≤ 8 * s.pt.ns →
    awlFails s r = true → s.obs.awlRetries < parN s P.obsAwlRetry →
    exec (.awlSequenceEnd r) s = .next { s with obs := { s.obs with
      awlRetries := s.obs.awlRetries + 1, awlC := s.fb.c, awlTon := awlOnTime s, awl := 1, phaseAt := s.pt.ns, meas := .reset } }) ∧
  (∀ (r : AwlResp) (s : State), s.obs.phase = .awl → s.op.state = .run → 8 * s.obs.phaseAt + awlLength s ≤ 8 * s.pt.ns →
    awlFails s r = true → parN s P.obsAwlRetry ≤ s.obs.awlRetries → dieDown s .fc = false →
    exec (.awlSequenceEnd r) s = .next (detect .fc 0x3042 2 []
      { s with obs := { s.obs with awl := 4, awlDrive := none, phase := .idle } })) ∧
  (∀ (r : AwlResp) (s : State), s.obs.phase = .awl → s.op.state = .run → 8 * s.obs.phaseAt + awlLength s ≤ 8 * s.pt.ns →
    awlFails s r = false →
    ∃ theta : Nat, theta = ang16 (awlDir (awlAxis s r) (if 0 < awlMargin s r then 13 else 14)) ∧
      exec (.awlSequenceEnd r) s = .next (beginAtRest 4 (setOffset theta (record .fc 0x3041 0
        [(theta : Int), (awlAniso s r : Int), awlMargin s r] { s with obs := { s.obs with
          awl := 3, awlTheta := theta, awlAniso := min 255 (awlAniso s r)
          awlMargin := min 255 (awlMargin s r).natAbs } }))))

/-- Table commits, the loop mode and the faults of the loops (R242, R248, R254, R262, R264, R273). -/
def Obligations.LoopFaults : Prop :=
  (∀ (n : Nat) (s : State), s.loop.commit = [n] → s.supply.fcLock = false → ownerRestarts s n = false →
    n ≠ P.loopMtpaIdTab →
    ∃ u : State, u.loop = { s.loop with
        commit := [], changed := s.loop.changed.filter (· != n)
        active := (s.par.work.filter (fun e => e.1 / 256 == n)).foldl
          (fun l e => putVal (e.1, if e.1 % 256 == 0x81 then 1 else 0) e.2 l) (s.loop.active.filter (fun e => e.1 / 256 != n))
        copied := s.loop.copied + 2 ^ tables.findIdx (· == n) } ∧ u.par = s.par ∧ u.op = s.op ∧
      exec (.tableCommitCopy n) s = .next (record .fc 0x3841 0 [(u.loop.copied : Int)] u)) ∧
  (∀ (n : Nat) (s : State), ownerRestarts s n = true → exec (.tableCommitCopy n) s = .next s) ∧
  (∀ s : State, s.loop.mode = 0 → parN s P.loopMode = 1 → s.supply.fcLock = false → s.op.state ≠ .stopping →
    posDue s = true → s.loop.commit = [] →
    ∃ u, u = record .fc 0x3843 0 [0, 1] { s with loop := { s.loop with mode := 1 } } ∧
      exec .loopModeChange s = .next { u with loop := { u.loop with
        xw := u.loop.tstar - sat32 (gainMul u P.loopSpdKpTab (u.pe.velFf - mechW u)) -
          mul u.pe.accRef (par u P.loopSpdJRaw) (parN u P.loopSpdJS) } }) ∧
  (∀ s : State, s.loop.mode ≠ 2 → parN s P.loopMode = 2 → s.supply.fcLock = false → s.op.state ≠ .stopping →
    posDue s = true → s.loop.commit = [] → s.pe.source ≠ 1 →
    ∃ u, u = record .fc 0x3843 0 [(s.loop.mode : Int), 2] { s with loop := { s.loop with mode := 2 } } ∧
      exec .loopModeChange s = .next { u with pe := { u.pe with posRef := u.fb.pos, p := fOfQ16 (machinePos u) } }) ∧
  (∀ s : State, parN s P.loopIDevN ≤ s.loop.devRun →
    exec .currentDeviation s = .next (detect .fc 0x3801 3 [divRound s.loop.ed 65536, divRound s.loop.eq 65536]
      { s with loop := { s.loop with devRun := 0 } })) ∧
  (∀ s : State, s.loop.satDue = true →
    exec .voltageLimitHeld s = .next (detect .fc 0x3802 1 []
      { s with loop := { s.loop with satSince := none, satDue := false } })) ∧
  (∀ s : State, s.loop.distDue = true → s.loop.distRec = false →
    exec .disturbedPredictionLimit s = .next (record .fc 0x3803 0 [par s P.loopIDistMax]
      { s with loop := { s.loop with distRec := true } })) ∧
  (∀ s : State, s.loop.spdDue = true →
    exec .speedDeviation s = .next (detect .fc 0x3811 2 [] { s with loop := { s.loop with spdAcc := 0, spdDue := false } })) ∧
  (∀ s : State, 2 ≤ s.loop.ovspRun →
    exec .overspeed s = .next (detect .fc 0x3812 3 [] { s with loop := { s.loop with ovspRun := 0 } })) ∧
  (∀ s : State, s.loop.ferrDue = true →
    exec .followingError s = .next (detect .fc 0x3821 2 [sat32 (divRound s.loop.ep 256)]
      { s with loop := { s.loop with ferrSince := none, ferrDue := false } })) ∧
  (∀ s : State, 1000 ≤ s.loop.dcdRun →
    exec .dampingClamped s = .next (detect .fc 0x3832 1 [] { s with loop := { s.loop with dcdRun := 0 } }))

/-- Motion commands wait for the Profile Engine, which takes them in order (R277, R278, R282, R285, R297, R303, R308, R314, R315). -/
def Obligations.MotionCommands : Prop :=
  (∀ (i : Nat) (s : State), canStart s i 0x40 = true → s.op.state = .run → s.loop.mode = 2 →
    ∃ t, exec (.moveAbs i) s = .next t ∧ t.pe = { s.pe with
      queue := s.pe.queue ++ [.moveAbs i (sx 64 (beNat ((payload (start i s) i).take 8)))] } ∧ t.op = s.op ∧ t.mod = s.mod) ∧
  (∀ (i : Nat) (s : State), canStart s i 0x41 = true → s.op.state = .run → s.loop.mode = 2 →
    ∃ t, exec (.moveRel i) s = .next t ∧ t.pe = { s.pe with
      queue := s.pe.queue ++ [.moveRel i (sx 64 (beNat ((payload (start i s) i).take 8)))] } ∧ t.op = s.op ∧ t.mod = s.mod) ∧
  (∀ (i : Nat) (s : State), canStart s i 0x42 = true → s.op.state = .run → (s.loop.mode = 1 ∨ s.loop.mode = 2) →
    ∃ t, exec (.velTarget i) s = .next t ∧ t.pe = { s.pe with
      queue := s.pe.queue ++ [.vel i (sx 64 (beNat ((payload (start i s) i).take 8)))] } ∧ t.op = s.op ∧ t.mod = s.mod) ∧
  (∀ (i : Nat) (s : State), canStart s i 0x43 = true → s.op.state = .run → s.loop.mode = 0 →
    ∃ t, exec (.torqueTarget i) s = .next t ∧ t.pe = { s.pe with
      queue := s.pe.queue ++ [.torque i (sx 32 (beNat (payload (start i s) i)))] } ∧ t.op = s.op ∧ t.loop = s.loop) ∧
  (∀ (i : Nat) (s : State), canStart s i 0x44 = true → i < s.mbx.tags.length → s.op.state = .run →
    (s.loop.mode = 1 ∨ s.loop.mode = 2) → par s P.profHomeVFast ≤ par s P.profVelMax →
    par s P.profHomeVSlow ≤ par s P.profVelMax →
    ∃ t, exec (.home i) s = .next t ∧ t.pe = { s.pe with queue := s.pe.queue ++ [.home i] } ∧ t.op = s.op ∧
      t.mbx.rr = s.mbx.rr ++ [i]) ∧
  (∀ (i : Nat) (s : State), canStart s i 0x46 = true → i < s.mbx.tags.length → s.op.state = .run → s.loop.mode = 2 →
    s.pe.segs ≠ [] →
    ∃ t, exec (.segExec i) s = .next t ∧ t.pe = { s.pe with queue := s.pe.queue ++ [.segExec i] } ∧ t.op = s.op ∧
      t.mbx.rr = s.mbx.rr ++ [i]) ∧
  (∀ (i : Nat) (s : State), canStart s i 0x45 = true → i < s.mbx.tags.length → s.pe.segTag = none →
    beNat ((payload (start i s) i).take 2) = 0 → beNat (((payload (start i s) i).drop 2).take 2) = 0 →
    ∃ t, exec (.segLoad i) s = .next t ∧ t.pe = { s.pe with segs := [] } ∧ (tag t i).reply = some ⟨0, 0, []⟩) ∧
  (∀ (m : MotionCmd) (r : List MotionCmd) (s : State), s.supply.fcLock = false → s.pe.queue = m :: r →
    exec .pePlan s = .next (takeMotion m { s with pe := { s.pe with queue := r } })) ∧
  (∀ (i : Nat) (s : State), canStart s i 0x22 = true → s.op.state = .run → i < s.mbx.tags.length →
    ∃ t, exec (.stop i) s = .next t ∧ t.op.state = .stopping ∧ t.op.prev = .run ∧ t.pe.queue = [] ∧
      (tag t i).reply = some ⟨0, 0, []⟩) ∧
  (∀ (i : Nat) (s : State), canStart s i 0x40 = true → s.op.state ≠ .run → i < s.mbx.tags.length →
    ∃ t, exec (.moveAbs i) s = .next t ∧ t.pe = s.pe ∧ (tag t i).st = .done ∧ t.op = s.op)

/-- Switch inputs, homing's time limit, the target window and standstill (R283, R299, R300, R307, R308, R310, R454). -/
def Obligations.SwitchesAndStandstill : Prop :=
  (∀ (i : Nat) (b : Bool) (s : State), i < 3 → (swGet s i).raw ≠ b → s.supply.fcLock = false →
    exec (.switchInputChange i b) s = .next (swPut i { swGet s i with raw := b, at_ := s.pt.ns, pos := s.fb.p } s)) ∧
  (∀ (i : Nat) (s u : State), i < 3 → (swGet s i).raw ≠ (swGet s i).deb → s.supply.fcLock = false →
    (swGet s i).at_ + parN s P.profSwDebounce * 100000 ≤ s.pt.ns →
    u = swPut i { swGet s i with
      deb := (swGet s i).raw, edge := (swGet s i).pos
      stamps := stampIn (parN s P.profSwChatterWin * 1000000) s.pt.ns (swGet s i).stamps } s →
    exec (.switchDebounced i) s = .next (if swActive u i && !swActive s i then limitSwitch i u
      else if u.pe.homeTag.isSome && swActive s i != swActive u i then homeSwitch i u else u)) ∧
  (∀ (i : Nat) (s u : State), i < 3 → (swGet s i).chatter = false → swEnabled s i = true → parN s P.profSwChatterN <
      ((swGet s i).stamps.filter (fun t => s.pt.ns < t + parN s P.profSwChatterWin * 1000000)).length →
    u = detect .fc 0x4023 1 [(i : Int),
        (((swGet s i).stamps.filter (fun t => s.pt.ns < t + parN s P.profSwChatterWin * 1000000)).length : Int)]
      (swPut i { swGet s i with chatter := true } s) →
    exec (.switchChatter i) s = .next (if swActive u i && !swActive s i then limitSwitch i u else u)) ∧
  (∀ (i : Nat) (s : State), i < 3 → (swGet s i).chatter = true → swDeb s i = false → s.pe.homeTag = none →
    (∀ t ∈ (swGet s i).stamps, t + parN s P.profSwChatterWin * 1000000 ≤ s.pt.ns) →
    exec (.switchChatterEnd i) s = .next (swPut i { swGet s i with chatter := false, stamps := [] } s)) ∧
  (∀ s : State, s.pe.homeTag.isSome = true → s.pe.homeAt + parN s P.profHomeTimeout * 1000000000 ≤ s.pt.ns → 1 ≤ s.pe.homePhase → s.pe.homePhase ≤ 5 →
    exec .homingTimeout s = .next (homeFail 3 s)) ∧
  (∀ (t : Nat) (s : State), s.pe.winSince = some t → t + parN s P.profWinTime * 1000000 ≤ s.pt.ns → s.pe.reached = false →
    exec .targetReached s = .next (record .fc 0x4001 0
      (wide s.pe.target ++ [sat32 (divr (machinePos s - s.pe.target) 65536)])
      { s with pe := { s.pe with reached := true } })) ∧
  (∀ (t : Nat) (s : State), s.op.state = .stopping → s.saf.stop = none → s.supply.fcLock = false →
    s.pe.standSince = some t → t + parN s P.profStandTime * 1000000 ≤ s.pt.ns →
    par s P.safetyBrkEnable = 1 → s.saf.brkRel = true →
    exec .standstill s = .next { s with saf := { s.saf with
      brkRel := false, brkHs := false, brkLs := false, brkTest := none, brkAt := some s.pt.ns } }) ∧
  (∀ (z : Nat) (s : State), s.op.state = .stopping → s.saf.stop = none → s.supply.fcLock = false →
    s.pe.standSince = some z → z + parN s P.profStandTime * 1000000 ≤ s.pt.ns →
    (par s P.safetyBrkEnable = 0 ∨ brakeHeld s = true) →
    ∃ t, exec .standstill s = .next t ∧ t.op.state = .ready ∧ t.op.prev = .stopping ∧ t.mod.running = false ∧
      t.pe.source = 0 ∧ t.saf.stoTest = some false) ∧
  (∀ (z : Nat) (s : State), s.op.state = .run → s.pe.ended = true → s.pe.v.m = 0 →
    s.pe.standSince = some z → z + parN s P.profStandTime * 1000000 ≤ s.pt.ns →
    s.pe.parked = false → s.pe.source ≠ 6 → s.obs.phase = .idle → parN s P.profStandMode = 0 →
    ∃ t, exec .standstillAction s = .next t ∧ t.pe.parked = true ∧ t.mod = s.mod ∧ t.op.state = .run)

/-- Compare sets, edges and profiles at a gate driver die (R32, R326, R327, R328, R360, R363, R372, R377). -/
def Obligations.GateEdges : Prop :=
  (∀ (p : GdPos) (n : Nat) (s : State), s.mod.running = true → n = s.mod.half → ptNow s ≤ s.sense.stamp + 300 →
    dieUp s p = true → dieFree (s.gd.get p) = true → linkUp (s.jx.gd.get p) = true →
    exec (.compareSetReceived p n) s = .next { s with gd := s.gd.set p { s.gd.get p with
      cmp := some ⟨n, s.mod.legs.get p.phase, sentBand s p (s.gd.get p).bSelOn, sentBand s p (s.gd.get p).bSelOff⟩ } }) ∧
  (∀ (p : GdPos) (n : Nat) (s : State), linkUp (s.jx.gd.get p) = false → exec (.compareSetReceived p n) s = .next s) ∧
  (∀ (p : GdPos) (s : State), s.mod.running = true → dieUp s p = true → dieFree (s.gd.get p) = true →
    (s.gd.get p).cmp = none → (s.gd.get p).done = true →
    exec (.legEdgeDecision p) s = .next (record .fc 0x4811 0 [(p.id : Int), (s.mod.half : Int)] { s with
      gd := s.gd.set p { s.gd.get p with missRun := (s.gd.get p).missRun + 1 }
      mod := { s.mod with missed := satInc 255 s.mod.missed } })) ∧
  (∀ (p : GdPos) (c : CmpSet) (s : State), s.mod.running = true → dieUp s p = true → dieFree (s.gd.get p) = true →
    (s.gd.get p).cmp = some c → c.half = s.mod.half → (s.gd.get p).done = true →
    exec (.legEdgeDecision p) s = .next { s with gd := s.gd.set p { s.gd.get p with missRun := 0 } }) ∧
  (∀ (p : GdPos) (s : State), 2 ≤ (s.gd.get p).missRun →
    exec (.compareSetsMissedTwice p) s = .next (detect .fc 0x4812 3 []
      { s with gd := s.gd.set p { s.gd.get p with missRun := 0 } })) ∧
  (∀ (p : Phase) (v w : Nat) (s : State), s.mod.running = true → (v ≠ sentValue s p ∨ w ≠ sentValue s p) →
    exec (.echoReceived p (some v) (some w)) s =
      .next (detect .fc 0x4813 3 [(p.hi.id : Int), (p.lo.id : Int), (v : Int), (w : Int)] s)) ∧
  (∀ (p : Phase) (v w : Option Nat) (s : State), (v = none ∨ v = some (sentValue s p)) → (w = none ∨ w = some (sentValue s p)) →
    exec (.echoReceived p v w) s = .next s) ∧
  (∀ (p : GdPos) (e : GdEdge) (r : List GdEdge) (s : State), dieUp s p = true → (s.gd.get p).edges = e :: r → e.on = true → e.at_ ≤ 8 * s.pt.ns →
    mayTurnOn p (s.gd.get p) = true → (s.gd.get p).gate = .offHold →
    exec (.gateEdge p) s = .next { s with gd := s.gd.set p { s.gd.get p with
      edges := r, gate := .profile true e.band, clampOn := false, bandOn := e.band, onAt := s.pt.ns
      drive := segments (par s (P.gdProfOn e.band (p.id - 1))), drvAt := s.pt.ns } }) ∧
  (∀ (p : GdPos) (e : GdEdge) (r : List GdEdge) (s : State), dieUp s p = true → (s.gd.get p).edges = e :: r → e.on = true → e.at_ ≤ 8 * s.pt.ns →
    mayTurnOn p (s.gd.get p) = false →
    exec (.gateEdge p) s = .next { s with gd := s.gd.set p { s.gd.get p with edges := r } }) ∧
  (∀ (p : GdPos) (b : Nat) (s : State), dieUp s p = true → (s.gd.get p).gate = .profile true b →
    (s.gd.get p).drvAt + driveNs (s.gd.get p).drive ≤ s.pt.ns →
    exec (.profileEnd p) s = .next { s with gd := s.gd.set p { s.gd.get p with gate := .onHold, holdAt := s.pt.ns } }) ∧
  (∀ (p : GdPos) (s : State), (s.gd.get p).gate = .soft → (s.gd.get p).powered = true → (s.gd.get p).edges = [] →
    (s.gd.get p).drvAt + driveNs (s.gd.get p).drive ≤ s.pt.ns →
    exec (.softTurnOffEnd p) s = .next { s with gd := s.gd.set p { s.gd.get p with
      gate := .offHold, clampOn := clampParam s p, holdAt := s.pt.ns } })

/-- Trips, Heel orders and reports of the gate driver dies (R33, R35, R349, R361, R367, R370, R371, R373, R374, R378, R379). -/
def Obligations.GateTrips : Prop :=
  (∀ (p : GdPos) (mv ns : Nat) (s : State), dieUp s p = true → (s.gd.get p).gate = .onHold → (s.gd.get p).trip = false →
    (s.gd.get p).onAt + parN s (P.gdDesatBlank (p.id - 1)) ≤ s.pt.ns → parN s (P.gdDidtQual (p.id - 1)) ≤ ns →
    vRun s (p.id - 1) < (mv : Int) →
    ∃ u : State, (u.gd.get p).trip = true ∧ (u.gd.get p).cause = 1 ∧ (u.gd.get p).gate = .soft ∧ (u.gd.get p).edges = [] ∧
      (u.gd.get p).tEdge = min 65535 (s.pt.ns - (s.gd.get p).onAt) ∧ u.op = s.op ∧ u.evt = s.evt ∧
      exec (.didtTrip p mv ns) s = .next (record (.gd p) 0x4C01 4 [(p.id : Int), ((s.gd.get p).bandOn : Int),
        ((u.gd.get p).tEdge : Int), (dieCode (s.gd.get p) : Int)] u)) ∧
  (∀ (p : GdPos) (mv ns : Nat) (s : State), dieUp s p = true → (s.gd.get p).gate = .onHold → (s.gd.get p).trip = false →
    s.pt.ns < (s.gd.get p).onAt + parN s (P.gdDesatBlank (p.id - 1)) → parN s (P.gdDidtQual (p.id - 1)) ≤ ns →
    vRaise s (p.id - 1) < (mv : Int) →
    ∃ u : State, (u.gd.get p).trip = true ∧ (u.gd.get p).cause = 2 ∧ (u.gd.get p).gate = .soft ∧ u.op = s.op ∧
      exec (.didtTrip p mv ns) s = .next (record (.gd p) 0x4C02 4 [(p.id : Int), ((s.gd.get p).bandOn : Int),
        ((u.gd.get p).tEdge : Int), (dieCode (s.gd.get p) : Int)] u)) ∧
  (∀ (p : GdPos) (mv ns : Nat) (s : State), dieUp s p = true → (s.gd.get p).gate = .onHold → (s.gd.get p).trip = false →
    (s.gd.get p).onAt + parN s (P.gdDesatBlank (p.id - 1)) + parN s (P.gdDesatFilt (p.id - 1)) ≤ s.pt.ns →
    parN s (P.gdDesatVth (p.id - 1)) < mv → parN s (P.gdDesatFilt (p.id - 1)) ≤ ns →
    ∃ u : State, (u.gd.get p).trip = true ∧ (u.gd.get p).cause = 3 ∧ (u.gd.get p).gate = .soft ∧ u.op = s.op ∧
      exec (.desatTrip p mv ns) s = .next (record (.gd p) 0x4C03 4 [(p.id : Int), ((s.gd.get p).bandOn : Int),
        ((min 65535 (s.pt.ns - (s.gd.get p).onAt) : Nat) : Int), (dieCode (s.gd.get p) : Int)] u)) ∧
  (∀ (p : GdPos) (n : Nat) (mv : Int) (ns : Nat) (s : State), dieUp s p = true → (s.gd.get p).gate = .onHold →
    (s.gd.get p).trip = false → pairUsed s p n = true → 200 ≤ ns → (s.gd.get p).holdAt + 1200 ≤ s.pt.ns →
    mv < (s.supply.vp.get p : Int) - par s (P.gdGchkMargin (p.id - 1)) →
    ∃ u : State, (u.gd.get p).trip = true ∧ (u.gd.get p).cause = 4 ∧ (u.gd.get p).gate = .soft ∧ (u.gd.get p).gchk = true ∧
      exec (.gateVoltageFault p n mv ns) s = .next (record (.gd p) 0x4C06 4 [(n : Int), 1] u)) ∧
  (∀ (p : GdPos) (o : HeelOrder) (s : State), dieUp s p = true → linkUp (s.jx.gd.get p) = true →
    exec (.heelReceived (.gd p) o) s = .next { s with
      gd := s.gd.set p (dieOrder s o p (s.gd.get p))
      heel := { s.heel with out := s.heel.out.set p ((s.heel.out.get p).erase o) } }) ∧
  (∀ (p : GdPos) (o : HeelOrder) (s : State), linkUp (s.jx.gd.get p) = false → exec (.heelReceived (.gd p) o) s = .next s) ∧
  (∀ (o : HeelOrder) (s : State), s.supply.hbLock = false → linkUp s.jx.hb = true →
    exec (.heelReceived .hb o) s = .next (brake { s with heel := { s.heel with
      hb := takeOrder s.heel.hb o, outHb := s.heel.outHb.erase o } })) ∧
  (∀ (p : GdPos) (s : State), s.supply.fcLock = false → linkUp (s.jx.gd.get p) = true → s.heel.reports.get p.partner = none →
    s.heel.legs.get p.phase = false → holdsAsc s = false →
    exec (.heelReport p .sc []) s = .next (faultLeg p.phase (reportCode s p .sc) { s with heel := { s.heel with
      reports := s.heel.reports.set p (some s.pt.ns), shoot := false } })) ∧
  (∀ (p q : GdPos) (s : State), s.supply.fcLock = false → linkUp (s.jx.gd.get p) = true → linkUp (s.jx.gd.get q) = true →
    p.phase ≠ q.phase → s.heel.legs.get p.phase = false → s.heel.legs.get q.phase = false → s.heel.fc = none →
    ∃ t, exec (.heelReport p .sc [(q, .sc)]) s = .next t ∧ t.heel.legs.get p.phase = true ∧
      t.heel.legs.get q.phase = true ∧ t.heel.fc = some .piSoft) ∧
  (∀ (p : GdPos) (l : List Nat) (s : State), s.heel.releasing = some l → l.contains p.id = true →
    dieDown s (.gd p) = false → (s.jx.gd.get p).lanes.any laneUp = true → l.filter (· != p.id) ≠ [] →
    exec (.heldOrderRelease (.gd p)) s = .next { s with
      gd := s.gd.set p { dieRelease s p (s.gd.get p) with hiZ := !linkUp (s.jx.gd.get p) }
      heel := { s.heel with releasing := some (l.filter (· != p.id)) }
      jx := { s.jx with barriers := answerBarrier (l.filter (· != p.id)) s.jx.barriers } }) ∧
  (∀ (p : GdPos) (s : State),
    exec (.gdLogicPowerLost p) s = .next { s with
      gd := s.gd.set p { GdDie.reset with powered := false, gate := .clampHold, hiZ := true } }) ∧
  (∀ (x : Int) (t0 : Nat) (s : State), s.mod.legLoss = true → s.loop.rampT = some (x, t0) →
    t0 + parN s P.modLegRamp * 1000000 ≤ s.pt.ns → s.op.state = .run →
    exec .legLossRampEnd s = .next (detect .fc 0x4842 3 [] { s with op := { s.op with runClass := 0 } }))

/-- ENABLE, the trigger, charge pulses, refresh, delay lines, and the diagnostic (R54, R106, R207, R335, R341, R342, R384, R386, R390, R427). -/
def Obligations.EnableAndPulses : Prop :=
  (∀ (i : Nat) (s : State), canStart s i 0x21 = true → s.op.state = .ready → s.op.stoActive = false →
    enableBusy (start i s) = false → enableFault (start i s) = none → enableRange (start i s) = none →
    bootstrap (start i s) = false →
    ∃ t, exec (.enable i) s = .next t ∧ t.op.state = .run ∧ t.op.prev = .ready ∧ t.obs.enableTag = some i ∧
      t.mod.charging = false ∧ t.mbx.rr = s.mbx.rr ++ [i]) ∧
  (∀ (i : Nat) (s : State), canStart s i 0x21 = true → s.op.state = .ready → s.op.stoActive = false →
    enableBusy (start i s) = false → enableFault (start i s) = none → enableRange (start i s) = none →
    bootstrap (start i s) = true → highTrained (start i s) = false →
    ∃ t, exec (.enable i) s = .next t ∧ t.op = s.op ∧ t.mod = { s.mod with
        charging := true, pattern := 6, chargeAt := s.pt.ns, pulseAt := s.pt.ns } ∧
      t.obs = { s.obs with enableTag := some i }) ∧
  (∀ (i : Nat) (s : State), s.mod.charging = true → s.op.state = .ready → s.supply.fcLock = false → s.obs.enableTag = some i →
    (∀ p : Phase, (s.gd.get p.hi).cmpFail = 0 ∧ (s.gd.get p.hi).trained = true) →
    exec .bootstrapChargePulse s = .next (enterRun i s)) ∧
  (∀ (i : Nat) (s : State), s.mod.charging = true → s.op.state = .ready → s.supply.fcLock = false → s.obs.enableTag = some i →
    (∀ p : Phase, (s.gd.get p.hi).cmpFail = 0) → highTrained s = false → s.mod.pulseAt ≤ s.pt.ns →
    exec .bootstrapChargePulse s = .next { s with
      gd := s.gd.mapPos (fun p g => chargeDie s p g)
      mod := { s.mod with pulseAt := s.mod.pulseAt + parN s P.modBsChargePeriod * 1000 } }) ∧
  (∀ (x : Sample) (s : State), s.supply.fcLock = false →
    ∃ t, exec (.samplingTrigger x) s = .next t ∧ t.sense.seq = (s.sense.seq + 1) % 2 ^ 32 ∧ t.sense.stamp = ptNow s ∧
      t.sense.codeA = (List.range 12).map (fun c => codeOfUv (nth x.uvA c 0)) ∧
      t.mod.up = !s.mod.up ∧ t.mod.half = s.mod.half + 1 ∧ t.pt = s.pt) ∧
  (∀ (p : GdPos) (n : Nat) (s : State), dieDown s (.gd p) = false → (100 * n < 97 * 5000 ∨ 103 * 5000 < 100 * n) →
    bitOf s.mod.calFail p.id = false →
    exec (.delayLineCalibration (.gd p) n) s = .next (detect .fc 0x4821 3 [(p.id : Int), (n : Int)]
      { s with mod := { s.mod with calFail := s.mod.calFail ||| 2 ^ p.id } })) ∧
  (∀ (p : GdPos) (n : Nat) (s : State), dieDown s (.gd p) = false → 97 * 5000 ≤ 100 * n → 100 * n ≤ 103 * 5000 →
    exec (.delayLineCalibration (.gd p) n) s = .next { s with mod := { s.mod with
      calFail := if bitOf s.mod.calFail p.id then s.mod.calFail - 2 ^ p.id else s.mod.calFail } }) ∧
  (∀ (n : Nat) (s : State), dieDown s .fc = false → 97 * 4000 ≤ 100 * n → 100 * n ≤ 103 * 4000 →
    exec (.delayLineCalibration .fc n) s = .next { s with mod := { s.mod with
      calFail := if bitOf s.mod.calFail Die.fc.id then s.mod.calFail - 2 ^ Die.fc.id else s.mod.calFail } }) ∧
  (∀ (p : Phase) (s : State), bootstrap s = true → s.mod.up = true → controlled s = true →
    parN s P.modBsRefreshN ≤ s.mod.bsRun.get p → s.heel.legs.get p = false → s.heel.fc = none → s.mod.bsDue.get p = true →
    ∃ t, exec (.bootstrapRefresh p) s = .next t ∧ t.mod.bsRun = s.mod.bsRun.set p 0 ∧ t.mod.refresh = 2 ∧
      t.evt = s.evt ∧ t.op = s.op) ∧
  (∀ (i : Nat) (s : State), canStart s i 0x32 = true → s.op.state = .standby → s.diag = none →
    ∃ t, exec (.gdDiag i) s = .next t ∧ t.diag = some ⟨i, false, s.pt.ns⟩ ∧ t.op.state = .standby ∧ t.mbx.rr = s.mbx.rr ++ [i]) ∧
  (∀ (i k : Nat) (s : State), s.diag = some ⟨i, false, k⟩ → k ≤ s.pt.ns → (∀ p : GdPos, (s.gd.get p).diagMode = 0 ∧
      (s.gd.get p).cmpFail = 0 ∧ (s.gd.get p).pairs = [15, 15, 15, 15]) →
    ∃ t, exec (.diagnosticComplete []) s = .next t ∧ t.diag = none ∧ t.gd = s.gd ∧
      t = answer i ⟨0, 0, []⟩ (record .fc 0x4C21 0 [0] { s with diag := none })) ∧
  (∀ (r : HkRound) (s : State), s.supply.fcLock = false → s.thm.round ≠ some (ptNow s / 10000000) →
    ∃ t, exec (.housekeepingRound r) s = .next t ∧ t.sm.hkLast = s.pt.ns ∧ t.sense.hk = (List.range 24).map (hkMean r) ∧
      t.thm.round = some (ptNow s / 10000000))

/-- Temperatures: module sensors, limits, broken and shutdown sensors (R381, R382, R633, R636, R639). -/
def Obligations.ModuleAndDieTemperatures : Prop :=
  (∀ (p : GdPos) (c : Nat) (s : State), dieUp s p = true → c < 4096 → (s.gd.get p).ntcSamples < 9 →
    exec (.ntcConversion p c) s = .next { s with gd := s.gd.set p { s.gd.get p with
      ntcSamples := (s.gd.get p).ntcSamples + 1, ntcSum := (s.gd.get p).ntcSum + c } }) ∧
  (∀ (p : GdPos) (s : State), 2 ≤ (sensor s (p.id + 6)).warnRun → (sensor s (p.id + 6)).warned = false →
    s.supply.fcLock = false →
    ∃ u : State, (u.gd.get p).ntcWarn = true ∧ u.op = s.op ∧ u.evt = s.evt ∧
      exec (.moduleTempWarning p) s = .next (detect .fc 0x4C11 1 [degC s (sensor s (p.id + 6))] u)) ∧
  (∀ (p : GdPos) (s : State), 2 ≤ (sensor s (p.id + 6)).stopRun → (sensor s (p.id + 6)).stopped = false →
    s.supply.fcLock = false →
    exec (.moduleOvertemperature p) s = .next (detect .fc 0x4C12 2 [degC s (sensor s (p.id + 6))]
      (setSensor (p.id + 6) (fun x => { x with stopped := true }) s))) ∧
  (∀ (n : Nat) (s : State), n < 8 → (sensor s n).broken = false → isBroken s (sensor s n) = true →
    s.supply.fcLock = false →
    exec (.sensorBroken n) s = .next (detect .fc 0x5E01 1 [(n : Int), (sensor s n).raw, estParam (sensor s n)]
      (degrade (setSensor n (fun x => { x with broken := true }) s)))) ∧
  (∀ (n : Nat) (s : State), n < 8 → 2 ≤ (sensor s n).warnRun → (sensor s n).warned = false → s.supply.fcLock = false →
    exec (.temperatureWarning n) s = .next (detect .fc 0x5E11 1 [(n : Int), degC s (sensor s n)]
      (setSensor n (fun x => { x with warned := true }) s))) ∧
  (∀ (n : Nat) (s : State), (n < 8 ∨ n = 14 ∨ n = 15 ∨ n = 16) → 2 ≤ (sensor s n).clearRun → s.supply.fcLock = false →
    exec (.temperatureWarningClear n) s = .next (setSensor n (fun x => { x with warned := false }) s)) ∧
  (∀ (n : Nat) (s : State), n < 8 → 2 ≤ (sensor s n).stopRun → (sensor s n).stopped = false → s.supply.fcLock = false →
    exec (.temperatureStopLevel n) s = .next (detect .fc 0x5E12 2 [(n : Int), degC s (sensor s n)]
      (setSensor n (fun x => { x with stopped := true }) s))) ∧
  (∀ (d : Die) (s : State), nth s.thm.shdRun d.id 0 = 2 → s.supply.fcLock = false →
    exec (.shutdownSensorDisagree d) s = .next (detect .fc 0x5E03 1 [(d.id : Int), nth s.thm.shdDiff d.id 0]
      (degrade { s with thm := { s.thm with
        shdRun := upd s.thm.shdRun d.id (fun _ => 3), shdSuspect := true } })))

/-- Votes, resynchronisation and self-test of the Safety Monitor (R402, R404, R405, R406, R407, R408, R410, R411, R412, R413, R415). -/
def Obligations.WeltVotes : Prop :=
  (∀ (n : Option Nat) (k : Nat) (s : State), s.sm.noMajority = false → s.supply.fcLock = false →
    (∀ i, i < 3 → (copyOf s i).isolated = false ∧ (copyOf s i).halted = false) →
    exec (.outputSlotVote n n n k) s = .next s ∧ (hashDue s = true → exec (.hashSlot n n n) s = .next { s with sm := { s.sm with
      hashMs := s.pt.ns / 1000000, busySeq := some s.sense.seq } })) ∧
  (∀ (n m : Option Nat) (k : Nat) (s : State), s.sm.noMajority = false → s.supply.fcLock = false →
    (∀ i, i < 3 → (copyOf s i).isolated = false ∧ (copyOf s i).halted = false ∧ (copyOf s i).stamps = []) → n ≠ m →
    ∃ u : State, u.sm = { s.sm with
        minority := 2, c2 := { s.sm.c2 with halted := true, copying := true, stamps := [], since := s.pt.ns }
        resyncs := satInc 255 s.sm.resyncs } ∧ u.op = s.op ∧
      exec (.outputSlotVote n n m k) s = .next (markResync (record .fc 0x5001 0 [2, (k : Int)] u))) ∧
  (∀ (n m : Option Nat) (s : State), s.sm.noMajority = false → s.supply.fcLock = false → hashDue s = true →
    (∀ i, i < 3 → (copyOf s i).isolated = false ∧ (copyOf s i).halted = false ∧ (copyOf s i).stamps = []) → n ≠ m →
    ∃ u : State, u.sm = { s.sm with
        minority := 2, c2 := { s.sm.c2 with halted := true, copying := true, stamps := [], since := s.pt.ns }
        hashMs := s.pt.ns / 1000000, busySeq := some s.sense.seq
        latent := satInc 255 s.sm.latent } ∧ u.op = s.op ∧
      exec (.hashSlot n n m) s = .next (markResync (record .fc 0x5002 0 [2] u))) ∧
  (∀ (a b c : Option Nat) (k : Nat) (s : State), s.sm.noMajority = false → s.supply.fcLock = false →
    (∀ i, i < 3 → (copyOf s i).isolated = false ∧ (copyOf s i).halted = false) → a ≠ b → a ≠ c → b ≠ c →
    exec (.outputSlotVote a b c k) s = .next (noMajority 0x5005 [0] s) ∧
    (hashDue s = true → exec (.hashSlot a b c) s = .next (noMajority 0x5005 [1] { s with sm := { s.sm with
      hashMs := s.pt.ns / 1000000, busySeq := some s.sense.seq } }))) ∧
  (∀ (k : Nat) (s : State), k < 3 → (copyOf s k).halted = true → (copyOf s k).copying = true →
    (copyOf s k).since + 109226 ≤ s.pt.ns → s.sm.noMajority = false →
    exec (.resyncCopyDone k) s = .next (setCopy3 k { copyOf s k with copying := false } s)) ∧
  (∀ (x y z : Nat) (s u : State), (copyOf s 0).halted = true → (copyOf s 0).copying = false → (copyOf s 0).due = none →
    (copyOf s 0).isolated = false → s.sm.noMajority = false → idleWindow 2000 s = true →
    u = { s with sm := { s.sm with
      hashMs := s.pt.ns / 1000000, rdvSeq := some s.sense.seq, busySeq := some s.sense.seq } } →
    exec (.resyncRendezvous 0 [x, y, z]) s = .next (
      if y ≠ z then noMajority 0x5005 [1] u
      else if x = y then markResync (setCopy3 0 { copyOf s 0 with
        halted := false, stamps := (copyOf s 0).stamps ++ [s.pt.ns] } u)
      else setCopy3 0 { copyOf s 0 with due := some 1 } u)) ∧
  (∀ (k h : Nat) (s : State), k < 3 → (copyOf s k).halted = true → (copyOf s k).copying = false → (copyOf s k).due = none →
    (copyOf s k).isolated = false → s.sm.noMajority = false → idleWindow 2000 s = true →
    ∃ t, exec (.resyncRendezvous k [h, h, h]) s = .next t ∧ (copyOf t k).halted = false ∧
      (copyOf t k).stamps = (copyOf s k).stamps ++ [s.pt.ns] ∧ t.op = s.op ∧ t.evt = s.evt) ∧
  (∀ (k n : Nat) (s : State), k < 3 → (copyOf s k).due = some n → s.sm.noMajority = false →
    exec (.laneFault k) s = .next (noTolerance 0 0x5004 [(k : Int), (n : Int)] (markResync (setCopy3 k { copyOf s k with
      due := none, halted := false, copying := false, isolated := true } s)))) ∧
  (∀ s : State, s.sm.noMajority = false → s.supply.fcLock = false → testDue s = true →
    exec (.weltSelfTest weltPatterns weltPatterns true true) s = .next { s with sm := { s.sm with
      testMs := s.pt.ns / 1000000, busySeq := some s.sense.seq } }) ∧
  (∀ (a b : List WeltVerdict) (s : State), s.sm.noMajority = false → s.supply.fcLock = false → s.sm.tree = 0 →
    (treeFails a = 0 → treeFails b = 0 → exec (.checkerDisagreement a b) s = .next (noMajority 0x5012 [] s)) ∧
    (treeFails a ≠ 0 → treeFails b ≠ 0 → exec (.checkerDisagreement a b) s = .next (noMajority 0x5012 []
      { s with sm := { s.sm with testFail := satInc 255 s.sm.testFail } }))) ∧
  (∀ (g : Nat) (s : State), s.sm.graceSince = some g → g + parN s P.smDegGrace * 1000000000 ≤ s.pt.ns → s.sm.degStop = false →
    exec .degradedGraceExpiry s = .next (detect .fc 0x5013 2 []
      { s with sm := { s.sm with graceSince := none, degStop := true } }))

/-- The torque comparison and the engines without a copy (R419, R420, R422, R426, R427). -/
def Obligations.TorqueSupervision : Prop :=
  (∀ s : State, parN s P.smTqN ≤ s.sm.outRun →
    exec .unintendedTorque s = .next (detect .fc 0x5101 3 [s.sm.tEst, s.sm.td, s.sm.tf, (s.sm.tqMode : Int)]
      { s with sm := { s.sm with outRun := 0 } })) ∧
  (∀ s : State, parN s P.smTqN ≤ s.sm.iRun →
    exec .currentBoundExceeded s = .next (detect .fc 0x5101 3 [s.sm.iAbs, s.sm.td, s.sm.tf, (s.sm.tqMode : Int)]
      { s with sm := { s.sm with iRun := 0 } })) ∧
  (∀ s : State, parN s P.smTqDefTime * 1000000000 ≤ s.sm.defPs →
    exec .torqueDeficit s = .next (detect .fc 0x5102 2 [s.sm.tEst, s.sm.tf] { s with sm := { s.sm with defPs := 0 } })) ∧
  (∀ s : State, 2 ≤ s.sm.boundRun →
    exec .setpointOutOfBound s = .next (detect .fc 0x5201 2 [(s.sm.bound : Int)]
      { s with sm := { s.sm with boundRun := 0 } })) ∧
  (∀ (l : List Nat) (s : State), s.supply.fcLock = false → s.sm.noMajority = false → s.sm.hkLast + 25000000 ≤ s.pt.ns →
    l = s.sm.hkStamps.filter (fun x => s.pt.ns < x + 60000000000) ++ [s.pt.ns] →
    exec .hkWatchdogExpiry s = .next
      (let u := detect .fc 0x5202 1 [] { s with sm := { s.sm with hkStamps := l, hkLast := s.pt.ns } }
       if 3 ≤ l.length then detect .fc 0x5203 2 [] u else u))

/-- Corrections, poisoned words, scrubbing, spare rows and memory tests (R606, R607, R608, R613, R615, R616, R617, R618, R621, R646, R649, R652). -/
def Obligations.MemoryIntegrity : Prop :=
  (∀ (d : Die) (m a y c : Nat) (s : State), ctlOf d m = some c → dieDown s d = false → a < ctlSize c →
    exec (.eccCorrection d m a y) s = .next (
      if (memCtl s c).wb.contains (a / 8 * 8, s.pt.ns) then s else countOne c (a / 8 * 8) y s)) ∧
  (∀ (m a : Nat) (b : Bool) (s : State), m < 12 → dieDown s .fc = false → a < ctlSize (2 + m) →
    exec (.eccUncorrectable .fc m a .fcSafety b) s = .next (detect .fc 0x5C07 3 [1, (m : Int), ((a / 8 * 8 : Nat) : Int)]
      (record .fc 0x5C04 0 [1, (m : Int), ((a / 8 * 8 : Nat) : Int), 7]
        (poison (2 + m) (a / 8 * 8) 7 (countBad (2 + m) s))))) ∧
  (∀ (m a : Nat) (r : Option MemRegion) (s : State), m < 12 → dieDown s .fc = false → a < ctlSize (2 + m) →
    exec (.mergeBufferFlush .fc m a 255 r) s = .next (unpoison (2 + m) (a / 8 * 8) (cancelBack (2 + m) (a / 8 * 8)
      (setCtl (2 + m) { memCtl s (2 + m) with
        merge := (memCtl s (2 + m)).merge.filter (fun e => e.addr != a / 8 * 8) } s)))) ∧
  (∀ (m a : Nat) (r : MemRegion) (s : State), m < 12 → dieDown s .fc = false → a < ctlSize (2 + m) →
    (memCtl s (2 + m)).merge = [] →
    exec (.mergeBufferFlush .fc m a 1 (some r)) s = .next (poison (2 + m) (a / 8 * 8) (regionCode r)
      (record .fc 0x5C04 0 [1, (m : Int), ((a / 8 * 8 : Nat) : Int), (regionCode r : Int)]
        (countBad (2 + m) (cancelBack (2 + m) (a / 8 * 8) (setCtl (2 + m) { memCtl s (2 + m) with merge := [] } s)))))) ∧
  (∀ (m a : Nat) (s : State), m < 12 → dieDown s .fc = false → passDue s (2 + m) (a / 8 * 8) = true →
    a / 8 + 1 = ctlWords (2 + m) → 2 + m < s.mem.ctl.length → (memCtl s (2 + m)).merge = [] →
    ∃ t, exec (.scrubRead .fc m a .good) s = .next t ∧ (memCtl t (2 + m)).pass = (memCtl s (2 + m)).pass + 1 ∧
      (memCtl t (2 + m)).corr = (memCtl s (2 + m)).corr ∧ t.evt = s.evt) ∧
  (∀ (m : Nat) (s : State), m < 12 → dieDown s .fc = false → (memCtl s (2 + m)).on = true → par s P.memScrubEnable = 1 →
    (memCtl s (2 + m)).passAt + (memCtl s (2 + m)).period * 1250000000 ≤ s.pt.ns →
    exec (.scrubPassLate .fc m) s = .next (detect .fc 0x5C09 1 [1, (m : Int), 0, ((memCtl s (2 + m)).pass : Int)]
      (setCtl (2 + m) { startPass s.pt.ns (parN s P.memScrubPeriod) (memCtl s (2 + m)) with
        late := true, pass := (memCtl s (2 + m)).pass + 1 } s))) ∧
  (∀ (m a : Nat) (s : State), m < 12 → dieDown s .fc = false →
    (memCtl s (2 + m)).migrate.any (fun x => x / 64 == a / 64) = true →
    spareUsed (memCtl s (2 + m)) (a / 65536) < 4 → engineIdle s (2 + m) = true →
    exec (.rowMigration .fc m a) s = .next (migrateRow (2 + m) (a / 8 * 8)
      (writeEntries (2 + m) (fun e => e.addr / 64 == a / 64) s))) ∧
  (∀ (p : GdPos) (l : Nat) (s : State), dieDown s (.gd p) = false → passRuns s (12 + p.id) = true →
    (memCtl s (12 + p.id)).latched = false →
    exec (.gdLatchCheck p [l] true) s = .next (detect (.gd p) 0x5C0B 1 (memParams (12 + p.id) 0 [(l : Int)])
      (setCtl (12 + p.id) { memCtl s (12 + p.id) with latched := true } s))) ∧
  (∀ (p : GdPos) (b : Bool) (s : State), dieDown s (.gd p) = false → passRuns s (12 + p.id) = true →
    (memCtl s (12 + p.id)).latched = false →
    exec (.gdLatchCheck p [] b) s = .next (setCtl (12 + p.id) { memCtl s (12 + p.id) with latched := true } s)) ∧
  (∀ (i c : Nat) (s : State), canStart s i 0x78 = true → i < s.mbx.tags.length →
    ctlNamed (payload (start i s) i) = some c → beNat (((payload (start i s) i).drop 6).take 4) = 0 →
    ∃ t, exec (.scrubRange i) s = .next t ∧ t.mem = s.mem ∧ (tag t i).st = .done) ∧
  (∀ (i c n l : Nat) (s : State), canStart s i 0x78 = true → ctlNamed (payload (start i s) i) = some c →
    n = beNat (((payload (start i s) i).drop 2).take 4) → l = beNat (((payload (start i s) i).drop 6).take 4) →
    l ≠ 0 → n + l ≤ ctlSize c →
    ∃ t, exec (.scrubRange i) s = .next t ∧
      t.mem = { s.mem with scrubs := s.mem.scrubs ++ [⟨i, c, n / 8 * 8, (n + l + 7) / 8 * 8⟩] } ∧ t.op = s.op) ∧
  (∀ (i c : Nat) (s : State), canStart s i 0x79 = true → ctlNamed (payload (start i s) i) = some c →
    s.op.state = .standby → s.bist.job = none → dieDown s (ctlDie c) = false →
    ∃ t, exec (.memTest i) s = .next t ∧ t.op = s.op ∧ t.bist = { s.bist with
      job := some ⟨some i, c, 0, 0, none, false, false, none, none⟩, memFail := false, records := [] }) ∧
  (∀ s : State, parN s P.bistMemPeriod ≠ 0 →
    s.bist.memAt + parN s P.bistMemPeriod * 1000000000 ≤ s.pt.ns → s.bist.job = none → s.supply.fcLock = false →
    exec .periodicMemoryTest s = .next { s with bist := { s.bist with
      job := some ⟨none, 3 + s.bist.due % 11, 0, 0, none, false, false, none, none⟩, memAt := s.pt.ns, memFail := false, records := []
      due := (s.bist.due + 1) % 11 } }) ∧
  (∀ (i c : Nat) (l : Option Nat) (s : State),
    s.bist.job = some ⟨some i, c, ctlBlocks c - 1, 0, none, false, false, none, l⟩ → 0 < ctlBlocks c →
    dieDown s (ctlDie c) = false → blockWindow s ⟨some i, c, ctlBlocks c - 1, 0, none, false, false, none, l⟩ = true →
    exec (.memoryTestBlock [] none) s = .next (answer i ⟨0, 0, [0, 255, 0, 0, 0, 0, 0, 0]⟩
      (record .fc 0x5F11 0 [((ctlDie c).id : Int), (ctlMem c : Int)] { s with bist := { s.bist with job := none } })))

/-- The CAN commands and what ends them (R555, R568, R569, R571, R572, R576, R578, R579). -/
def Obligations.CanCommands : Prop :=
  (∀ (i : Nat) (c : Ch) (s : State), canStart s i 0x83 = true → (nth (payload (start i s) i) 0 0).toNat = c.idx →
    (s.can.get c).mode = .off → s.clk.hclkRc = false → timingFault (start i s) (c.idx + 1) = none →
    parN s (P.canChMode (c.idx + 1)) = 0 →
    ∃ t, exec (.canBusOn i) s = .next t ∧ (t.can.get c).mode = .joining ∧ (t.can.get c).prev = .off ∧
      (t.can.get c).onTag = some i ∧ t.mbx.rr = s.mbx.rr ++ [i]) ∧
  (∀ (c : Ch) (s : State), (s.can.get c).mode = .joining → s.supply.hbLock = false → (s.can.get c).onTag = none →
    exec (.canRecessiveIdle c) s = .next (record .hb 0x5802 0 [(c.idx : Int), divRound 80000000 (nomBit s (c.idx + 1))]
      { s with can := s.can.set c { s.can.get c with mode := .on } })) ∧
  (∀ (c : Ch) (s : State), (s.can.get c).mode = .recovering → s.supply.hbLock = false →
    exec (.canRecessiveIdle c) s = .next { s with can := s.can.set c { s.can.get c with
      idle := satInc 128 (s.can.get c).idle } }) ∧
  (∀ (c : Ch) (s : State), (s.can.get c).mode = .recovering → (s.can.get c).idle = 128 → s.supply.hbLock = false →
    ∃ t, exec (.canRecoveryDone c) s = .next t ∧ (t.can.get c).mode = .on ∧ (t.can.get c).tec = 0 ∧ (t.can.get c).rec_ = 0) ∧
  (∀ (c : Ch) (i : Nat) (s : State), parN s (P.canOnTimeout (c.idx + 1)) ≠ 0 → (s.can.get c).mode = .joining →
    (s.can.get c).joinAt + parN s (P.canOnTimeout (c.idx + 1)) * 1000000 ≤ s.pt.ns →
    s.supply.hbLock = false → (s.can.get c).onTag = some i →
    exec (.canOnTimeout c) s = .next (answer i ⟨0x20, 0x5803, []⟩ (record .hb 0x5803 0 [(c.idx : Int), 0]
      { s with can := s.can.set c { s.can.get c with mode := (s.can.get c).prev, onTag := none } }))) ∧
  (∀ (i : Nat) (c : Ch) (l : List Nat) (s : State), canStart s i 0x84 = true →
    (nth (payload (start i s) i) 0 0).toNat = c.idx → l = ratesOf ((payload (start i s) i).drop 4) →
    (∀ r ∈ l, (candTiming (parN s (P.canNomSp (c.idx + 1))) r).isSome = true) → (s.can.get c).mode = .off →
    ∃ t, exec (.canRateDetect i) s = .next t ∧ (t.can.get c).mode = .detect ∧ (t.can.get c).prev = .off ∧
      (t.can.get c).det = some ⟨i, l, 0, 0, 0, s.pt.ns⟩) ∧
  (∀ (c : Ch) (d : CanDet) (s : State), (s.can.get c).det = some d → s.supply.hbLock = false →
    d.since + parN s P.canDetWindow * 1000000 ≤ s.pt.ns → d.rates.length ≤ d.idx + 1 → parN s P.canDetPasses ≤ d.pass + 1 →
    exec (.canDetectWindowEnd c) s = .next (answer d.tag ⟨0x20, 0x5804, []⟩ (detect .hb 0x5804 1 [(c.idx : Int)]
      { s with can := s.can.set c { s.can.get c with mode := .listen, det := none } }))) ∧
  (∀ (i n : Nat) (c : Ch) (l : List (Nat × Nat)) (s : State), canStart s i 0x82 = true → i < s.mbx.tags.length →
    (nth (payload (start i s) i) 0 0).toNat = c.idx → nth (payload (start i s) i) 1 0 = 0 →
    n = beNat (((payload (start i s) i).drop 2).take 2) → l = filterEntries ((payload (start i s) i).drop 4) →
    n ≤ (s.can.get c).filt.length → n + l.length ≤ 512 → (∀ e ∈ l, bitOf e.1 29 = false ∧ bitOf e.2 29 = false) →
    ∃ t, exec (.canFilterLoad i) s = .next t ∧ (tag t i).st = .done ∧
      (t.can.get c).filt = (s.can.get c).filt.take n ++ l ++ (s.can.get c).filt.drop (n + l.length)) ∧
  (∀ (i : Nat) (c : Ch) (x : TxOp) (s : State), canStart s i 0x80 = true → x = txOp (payload (start i s) i) →
    x.chan = c.idx → x.inRange (s.can.get c).stageLen = true → (s.can.get c).mode = .on → x.buf = false →
    (s.can.get c).tx = List.replicate 8 none →
    ∃ t, exec (.canTx i) s = .next t ∧ (t.can.get c).tx = upd (s.can.get c).tx 2 (fun _ => some
      ⟨⟨x.ident, x.kind, x.brs, false, false, x.xl, x.data, 0⟩, some i, x.oneShot, false, none, false, none, (tag s i).at_⟩) ∧
      t.mbx.rr = s.mbx.rr ++ [i]) ∧
  (∀ (i n : Nat) (c : Ch) (s : State), canStart s i 0x85 = true → (nth (payload (start i s) i) 0 0).toNat = c.idx →
    nth (payload (start i s) i) 1 0 = 0 → n = beNat (((payload (start i s) i).drop 2).take 2) →
    n + ((payload (start i s) i).drop 4).length ≤ 2048 → bufPending (s.can.get c) = false →
    ∃ t, exec (.canBufWrite i) s = .next t ∧
      (t.can.get c).stageLen = max (s.can.get c).stageLen (n + ((payload (start i s) i).drop 4).length)) ∧
  (∀ (i : Nat) (c : Ch) (s : State), canStart s i 0x81 = true → (nth (payload (start i s) i) 0 0).toNat = c.idx →
    (nth (payload (start i s) i) 1 0).toNat ≤ 63 →
    ∃ t, exec (.canRxRead i) s = .next t ∧ (t.can.get c).ovCount = 0 ∧ (t.can.get c).overflow = (s.can.get c).overflow ∧
      (t.can.get c).fifo =
        (readFrames (nth (payload (start i s) i) 1 0).toNat 1004 (s.can.get c).fifo).2.2)

/-- Frames, counters and network time (R476, R573, R575, R577, R580, R582, R583, R584, R586, R590, R591, R594). -/
def Obligations.CanTraffic : Prop :=
  (∀ (c : Ch) (f : CanFrame) (s : State), (s.can.get c).mode = .listen → s.supply.hbLock = false →
    (s.can.get c).fifo.length < 64 → isSafe s f = false →
    exec (.canFrameReceived c f) s = .next { s with can := s.can.set c { s.can.get c with
      fifo := (s.can.get c).fifo ++ [⟨f, false, false, isRef s f, 0⟩] } }) ∧
  (∀ (c : Ch) (e : CanRx) (s : State), cpDown s = false → s.pairs.cp.restarting = false → s.supply.hbLock = false →
    (s.can.get c).fifo = [e] → e.filtered = false → (s.can.get c).safe = [] → accepted s c e.frame = true →
    exec (.canFrameFiltering c) s = .next { s with can := s.can.set c { s.can.get c with
      fifo := [{ e with filtered := true }] } }) ∧
  (∀ (c : Ch) (k : Nat) (s : State), (s.can.get c).mode = .on → s.supply.hbLock = false → (s.can.get c).errStamp = none →
    (s.can.get c).rec_ < 127 → (s.can.get c).tec < 128 →
    ∃ t, exec (.canErrorFlag c k false) s = .next t ∧ (t.can.get c).rec_ = (s.can.get c).rec_ + 1 ∧
      (t.can.get c).lastErr = k % 8 ∧ (t.can.get c).errFrames = satInc 65535 (s.can.get c).errFrames ∧
      (t.can.get c).errStamp = some s.pt.ns ∧ (t.can.get c).mode = .on) ∧
  (∀ (c : Ch) (b i stamp delay : Nat) (x : CanTx) (s : State), txAt (s.can.get c) b = some x → (s.can.get c).mode = .on →
    s.supply.hbLock = false → arbitrates (s.can.get c) b = true → tdcOffset s c x.frame = none → (s.can.get c).noListener = false → b ≠ 0 → x.next = none →
    x.tag = some i → x.cancel = none →
    ∃ u, exec (.canAttemptEnd c b (.sent stamp delay)) s = .next (answer i ⟨0, 0, beBytes 8 stamp⟩ u) ∧
      txAt (u.can.get c) b = none ∧ (u.can.get c).tec = (s.can.get c).tec - 1 ∧ (u.can.get c).noack = 0 ∧ u.op = s.op) ∧
  (∀ (c : Ch) (b i : Nat) (x : CanTx) (s : State), txAt (s.can.get c) b = some x → (s.can.get c).mode = .on →
    s.supply.hbLock = false → arbitrates (s.can.get c) b = true → x.oneShot = true → x.tag = some i → x.cancel = none →
    exec (.canAttemptEnd c b .lostArbitration) s = .next (answer i ⟨0x20, 0x5823, []⟩
      (record .hb 0x5823 0 [(c.idx : Int), (x.frame.word : Int), 0]
        { s with can := s.can.set c { s.can.get c with
            tx := upd (s.can.get c).tx b (fun _ => none), fresh := [] } }))) ∧
  (∀ (c : Ch) (b : Nat) (o : CanOutcome) (s : State), arbitrates (s.can.get c) b = false →
    exec (.canAttemptEnd c b o) s = .next s) ∧
  (∀ (c : Ch) (b : Nat) (x : CanTx) (s : State), txAt (s.can.get c) b = some x → (s.can.get c).mode = .on →
    s.supply.hbLock = false → arbitrates (s.can.get c) b = true → 247 < (s.can.get c).tec →
    ∃ t, exec (.canAttemptEnd c b .error) s = .next t ∧ (t.can.get c).mode = .busOff ∧
      (t.can.get c).tx = List.replicate 8 none) ∧
  (∀ (c : Ch) (b i : Nat) (x : CanTx) (s : State), txAt (s.can.get c) b = some x → x.tag = some i → x.cancel = none →
    parN s (P.canTxDeadline (c.idx + 1)) ≠ 0 → x.since + parN s (P.canTxDeadline (c.idx + 1)) * 1000000 ≤ s.pt.ns →
    s.supply.hbLock = false →
    exec (.canTxDeadline c b false) s = .next (answer i ⟨0x1B, 0, []⟩
      (record .hb 0x5824 0 [(c.idx : Int), (x.frame.word : Int)]
        { s with can := s.can.set c { s.can.get c with tx := upd (s.can.get c).tx b (fun _ => none) } }))) ∧
  (∀ (run : Ch → Bool) (f : CanFrame) (s u : State), s.boot.done = true → s.supply.hbLock = false →
    (s.saf.msgTxAt = none ∨ heldFor s.saf.msgTxAt (parN s P.safetyCmsgTxPeriod * 1000000) s = true) →
    u = { s with saf := { s.saf with txSeq := (s.saf.txSeq + 1) % 65536, msgTxAt := some s.pt.ns } } →
    f = ⟨parN s P.canSafeTxIdent, 1, true, false, false, List.replicate 8 0, statusBytes u, 0⟩ →
    (∀ c : Ch, (s.can.get c).tx.length = 8) →
    ∃ t, exec (.safeStatusTransmit (run .a) (run .b)) s = .next t ∧ t.saf = u.saf ∧ t.op = s.op ∧ t.evt = s.evt ∧
      (∀ c : Ch, (s.can.get c).mode ≠ .on → t.can.get c = s.can.get c) ∧
      (∀ c : Ch, (s.can.get c).mode = .on → txAt (s.can.get c) 1 = none → txAt (t.can.get c) 1 = some (plainTx f)) ∧
      (∀ (c : Ch) (y : CanTx), (s.can.get c).mode = .on → txAt (s.can.get c) 1 = some y → run c = true →
        txAt (t.can.get c) 1 = some { y with next := some f }) ∧
      (∀ (c : Ch) (y : CanTx), (s.can.get c).mode = .on → txAt (s.can.get c) 1 = some y → run c = false →
        txAt (t.can.get c) 1 = some { y with frame := f, next := none })) ∧
  (∀ s : State, s.nt.master = true → s.nt.due ≠ some (ttMultiple s) → par s P.canTtRole = 2 → (s.can.get (timeCh s)).mode = .on → s.supply.hbLock = false →
    ∃ t, exec .referenceMessageDue s = .next t ∧ t.nt = { s.nt with
        cycle := (s.nt.cycle + 1) % 64, due := some (ttMultiple s) } ∧
      (txAt (t.can.get (timeCh s)) 0).isSome = decide (0 < (s.can.get (timeCh s)).tx.length)) ∧
  (∀ s : State, par s P.canTtRole = 2 → s.nt.master = false → s.supply.hbLock = false →
    s.nt.rxAt + (2 * parN s P.canTtCycle + parN s P.canTtRefId % 8 * 100) * 1000 ≤ s.pt.ns →
    exec .timeMasterTimeout s = .next (record .hb 0x5845 0 [2, ((parN s P.canTtRefId % 8 : Nat) : Int)]
      { s with nt := { s.nt with master := true, mark := none, due := some (ttMultiple s) } })) ∧
  (∀ s : State, s.nt.sync = true → s.supply.hbLock = false →
    s.nt.rxAt + parN s P.canTtLostN * parN s P.canTtCycle * 1000 ≤ s.pt.ns →
    exec .networkTimeLost s = .next (detect .hb 0x5842 1 []
      { s with nt := { s.nt with sync := false, aligned := false } })) ∧
  (∀ (f : CanFrame) (s : State), isRef s f = true → parN s P.canTtRole ≠ 0 → s.supply.hbLock = false →
    (s.can.get (timeCh s)).mode = .on → s.nt.master = false → s.nt.mark = none →
    exec (.referenceMessageReceived f) s = .next { s with nt := { s.nt with
      cycle := (nth f.data 0 0).toNat % 64, rxAt := s.pt.ns, mark := some f.pt } })

/-- Lock-out, thermal shutdown and nRESET (R46, R63, R65, R71, R72, R74, R379, R463, R637, R638). -/
def Obligations.LockoutAndReset : Prop :=
  (∀ (mv : Int) (s : State), mv < 2800 → s.supply.hbLock = false → nth s.thm.shd 0 none = none →
    ∃ t, exec (.lockoutEnter .hb 0 mv false) s = .next t ∧ t.supply.hbLock = true ∧
      t.supply.hbRet = some ⟨0x1301, 0, [0, 0, mv], 0⟩ ∧ t.mbx = State.reset.mbx ∧ t.saf.kCmd = ⟨false, false, false⟩ ∧
      t.port = State.reset.port ∧ t.last.image = s.last.image) ∧
  (∀ (mv : Int) (s : State), mv < 4400 → s.supply.fcLock = false → nth s.thm.shd 1 none = none →
    ∃ t, exec (.lockoutEnter .fc 3 mv false) s = .next t ∧ t.supply.fcLock = true ∧ t.op.state = .boot ∧
      t.supply.fcRet = s.supply.fcRet ++ [⟨0x1301, 0, [1, 3, mv], 4⟩] ∧ (∀ p : GdPos, (t.gd.get p).trained = false) ∧
      t.pe = State.reset.pe ∧ t.heel.hb = s.heel.hb ∧ t.heel.fc = none) ∧
  (∀ (p : GdPos) (mv : Int) (b : Bool) (s : State), (mv < 13000 ∨ 23500 < mv) → s.supply.gdLock.get p = false → nth s.thm.shd p.id none = none →
    ∃ t, exec (.lockoutEnter (.gd p) 4 mv b) s = .next t ∧ t.supply.gdLock.get p = true ∧ (t.gd.get p).hiZ = true ∧
      (t.gd.get p).on = false) ∧
  (∀ (mv : Int) (l : List Nat) (k : List (Bool × Bool)) (b : Bool) (s : State), 4550 < mv → s.supply.fcLock = true → nth s.thm.shd 1 none = none →
    s.rst.due = none → s.boot.waitFc = false → s.supply.hbLock = false → s.rst.nresetLow = false →
    ∃ t, exec (.lockoutLeave .fc l k b [mv]) s = .next t ∧ t.supply.fcLock = false ∧ t.rst.due = some .fieldSide ∧
      t.supply.fcRet = [] ∧ t.op.state = s.op.state) ∧
  (∀ (x : Int) (s : State), s.supply.hbLock = false → s.rst.nresetLow = false → 165 < x →
    ∃ t, exec (.thermalShutdownEnter .hb x) s = .next t ∧ t.supply.hbLock = true ∧
      t.thm.shd = upd s.thm.shd 0 (fun _ => some s.pt.ns) ∧ t.op.state = s.op.state) ∧
  (∀ (x : Int) (ns k : Nat) (l : List Nat) (c : List (Bool × Bool)) (s : State), x < 140 → 10000000 ≤ ns →
    nth s.thm.shd 1 none = some k → k + 2000000000 ≤ s.pt.ns →
    s.supply.fcLock = true →
    ∃ t, exec (.thermalShutdownLeave .fc l c x ns) s = .next t ∧ t.supply.fcLock = false ∧
      t.thm.shd = upd s.thm.shd 1 (fun _ => none)) ∧
  (∀ s : State, s.rst.nresetLow = false → s.supply.hbLock = false →
    ∃ t, exec .nresetAssert s = .next t ∧ t.rst.nresetLow = true ∧ t.rst.due = none ∧ t.op.state = .boot ∧
      t.mbx = State.reset.mbx ∧ t.pe = State.reset.pe ∧ t.heel.fc = none ∧
      (∀ p : GdPos, (t.gd.get p).held = none ∧ (t.gd.get p).trained = (s.gd.get p).trained)) ∧
  (∀ s : State, s.rst.nresetLow = true →
    exec .nresetRelease s = .next { s with
      rst := { s.rst with nresetLow := false, due := (if s.supply.hbLock then none
        else some (if s.pt.hb.disciplined then .package else .full)) }
      boot := { s.boot with since := s.pt.ns } })

/-- The boot that is due, its time limits, and the end of a shutdown (R70, R71, R72, R83, R84, R90, R95, R96, R97, R100). -/
def Obligations.BootAndShutdownEnd : Prop :=
  (∀ (i : BootIn) (k : BootKind) (s : State), s.supply.hbLock = false → s.rst.nresetLow = false → s.rst.due = some k →
    k ≠ .fieldSide →
    exec (.boot i) s = .next (bootFrom01 i k ({ s with rst := { s.rst with due := none } } : State)).2) ∧
  (∀ (i : BootIn) (k : BootKind) (s : State), s.supply.hbLock = false → s.rst.nresetLow = false → s.rst.due = some k →
    k ≠ .fieldSide → i.cut = some 1 →
    ∃ t, exec (.boot i) s = .next t ∧ t.boot.number = s.boot.number + 1 ∧ t.boot.step = 1 ∧ t.boot.running = some k ∧
      t.rst.due = none ∧ t.op.state = s.op.state ∧
      t.boot.insole.head? = some ⟨s.boot.number + 1, [⟨ptNow s, if i.half then 0 else 1, if i.half then 0 else 1, 0⟩]⟩) ∧
  (∀ (i : BootIn) (k : BootKind) (s : State), s.boot.running = some k → s.boot.waitGd = true → s.supply.hbLock = false →
    s.boot.waitAt + (bootVal s P.sysBootGdWait).toNat * 1000000 ≤ s.pt.ns → s.supply.fcLock = false →
    exec (.gdWaitTimeout i) s = .next (bootRest i k true true (true, s)).2) ∧
  (∀ s : State, s.boot.onTrial = true → s.op.state = .boot → s.boot.waitFc = false → s.boot.waitGd = false →
    s.rst.due = none → s.supply.hbLock = false → s.boot.since + 2000000000 ≤ s.pt.ns →
    ∃ t, exec .trialBootTimeout s = .next t ∧ t.rst.due = some .package ∧ t.op.state = .boot ∧ t.mbx = State.reset.mbx ∧
      t.boot.trialFails = s.boot.trialFails) ∧
  (∀ (i : Nat) (s : State), s.obs.enableTag = some i → s.mod.charging = true → s.op.state = .ready → highTrained s = false →
    s.mod.chargeAt + 50000000 ≤ s.pt.ns →
    exec .highSideTrainTimeout s = .next (answer i ⟨0x20, 0x1342, []⟩ (record .fc 0x1342 1 [] { s with
      mod := { s.mod with charging := false, pattern := 0 }, obs := { s.obs with enableTag := none } }))) ∧
  (∀ (n k : Nat) (a b : List Nat) (s : State), s.op.state = .shutdown → s.boot.shutdownDone = false → s.boot.drain = true →
    s.supply.hbLock = false → s.rst.nresetLow = false → draining s = false →
    (fuseList s ≠ [] → ∃ t, exec (.shutdownDrainEnd n a b (some (0x23, 0))) s = .next t ∧ t.boot.shutdownDone = false ∧
      t.boot.step = 0x23 ∧ t.boot.burn = fuseList s ∧ t.boot.drain = false ∧ t.boot.raise = s.boot.raise) ∧
    (parN s P.sysShutdownBist ≠ 0 → ∃ t, exec (.shutdownDrainEnd n a b (some (0x24, k))) s = .next t ∧
      t.boot.shutdownDone = false ∧ t.boot.step = 0x24 ∧ t.boot.burn = [])) ∧
  (∀ (n : Nat) (a b : List Nat) (s : State), s.op.state = .shutdown → s.boot.shutdownDone = false → s.boot.drain = true →
    s.supply.hbLock = false → s.rst.nresetLow = false → draining s = false →
    ∃ t, exec (.shutdownDrainEnd n a b none) s = .next t ∧ t.boot.shutdownDone = true ∧ t.boot.step = 0x25 ∧
      t.boot.drain = false ∧ t.boot.raise = none ∧ t.mem.mramWeak = [] ∧ t.op.state = .shutdown)

/-- Admission, steps, replies and cancellation of commands (R507, R508, R513, R515, R519, R520, R523). -/
def Obligations.CommandFlow : Prop :=
  (∀ (i : Nat) (r : List Nat) (s : State), cpDown s = false → s.pairs.cp.restarting = false → s.mbx.bells = i :: r →
    admissionFail { s with mbx := { s.mbx with bells := r } } i = none → i < s.mbx.tags.length →
    (header s i).ordered = false → nth s.mbx.empty i true = false →
    ∃ t, exec .commandAdmission s = .next t ∧ t.mbx.bells = r ∧ (tag t i).st = .running ∧ (tag t i).admitted = true ∧
      (tag t i).opcode = (header s i).opcode ∧ (tag t i).len = (header s i).len ∧ (tag t i).started = (tag s i).started ∧
      t.mbx.tail = s.mbx.tail ∧ t.op = s.op ∧ t.par = s.par) ∧
  (∀ (i : Nat) (r : List Nat) (s : State), cpDown s = false → s.pairs.cp.restarting = false → s.mbx.bells = i :: r →
    nth s.mbx.empty i true = true → i < s.mbx.tags.length →
    ∃ t, exec .commandAdmission s = .next t ∧ t.mbx.bells = r ∧ (tag t i).st = .done ∧
      t.mbx.errCrc = satInc 255 s.mbx.errCrc ∧ t.mbx.completed = satInc (2 ^ 32 - 1) s.mbx.completed ∧ t.par = s.par) ∧
  (∀ (i : Nat) (s : State), canStart s i 0x00 = true → i < s.mbx.tags.length →
    ∃ t, exec (.nop i) s = .next t ∧ (tag t i).st = .done ∧ (tag t i).final = some s.mbx.tail ∧
      t.mbx.completed = satInc (2 ^ 32 - 1) s.mbx.completed ∧ t.par = s.par ∧ t.op = s.op ∧ t.evt = s.evt) ∧
  (∀ (i k : Nat) (b : Bool) (s : State), canStart s i 0x01 = true → i < s.mbx.tags.length → cancelTarget (start i s) i = k →
    k ≠ i → (tag (start i s) k).st = .free →
    exec (.cancel i b) s = .next (finish i ⟨0x12, 0, []⟩ (start i s))) ∧
  (∀ (i k : Nat) (b : Bool) (s : State), canStart s i 0x01 = true → i < s.mbx.tags.length → cancelTarget (start i s) i = k →
    k ≠ i → k < s.mbx.tags.length → (tag s k).st = .running → (tag s k).started = false →
    ∃ t, exec (.cancel i b) s = .next t ∧ (tag t k).st = .done ∧ (tag t i).st = .done ∧
      t = finish i ⟨0, 0, []⟩ (finish k ⟨0x1A, 0, []⟩ (start i s))) ∧
  (∀ (i : Nat) (x : Result) (s : State), cpDown s = false → s.pairs.cp.restarting = false → (tag s i).st = .running →
    (tag s i).reply = some x → longOps.contains (tag s i).opcode = false → (tag s i).opcode ≠ 0x01 →
    (∀ k, k < 128 → cancels s i k = false) →
    exec (.fieldSideReply i) s = .next (finish i x s)) ∧
  (∀ (i : Nat) (r : List Nat) (s : State), cpDown s = false → s.pairs.cp.restarting = false → s.mbx.bells = [] →
    shortWaiting s = false → s.mbx.rr = i :: r → (tag s i).opcode = 0x44 → (tag s i).interim = false →
    ∃ t, exec (.commandStep i) s = .next t ∧ t.mbx.rr = r.filter (· != i) ++ [i] ∧ t.pe = s.pe ∧ t.evt = s.evt ∧
      (i < s.mbx.tags.length → (tag t i).steps = (tag s i).steps + 1)) ∧
  (∀ (c : Nat) (s : State), s.mbx.coalSince = some c → c + parN s P.portIrqCoalUs * 1000 ≤ s.pt.ns → parN s P.portIrqCoalUs ≠ 0 →
    exec .irqCoalescingTimeout s = .next { s with mbx := { s.mbx with irq := s.mbx.irq ||| 1, coalSince := none } })

/-- The parameter commands (R242, R479, R542, R544, R545, R547, R552, R553, R554). -/
def Obligations.ParameterCommands : Prop :=
  (∀ (i : Nat) (l : List Byte) (s : State), canStart s i 0x10 = true → needsField 0x10 (payload s i) = false →
    readAll (start i s) 1 (rdEntries (payload (start i s) i)) = .inr l →
    exec (.paramRead i) s = .next (finish i ⟨0, 0, l⟩ (start i s))) ∧
  (∀ (i n st : Nat) (s : State), canStart s i 0x11 = true → needsField 0x11 (payload s i) = false →
    firstFail (start i s) (wrEntries (payload (start i s) i)) 1 (wrEntries (payload (start i s) i)) = some (n, st) →
    (nth (wrEntries (payload (start i s) i)) (n - 1) ⟨0, 0, 0, 0⟩).key ≠ P.safetyLastConfirm.1 →
    exec (.paramWrite i) s = .next (finish i ⟨st, n, []⟩ (start i s))) ∧
  (∀ (i : Nat) (s : State), canStart s i 0x11 = true → needsField 0x11 (payload s i) = false →
    firstFail (start i s) (wrEntries (payload (start i s) i)) 1 (wrEntries (payload (start i s) i)) = none →
    exec (.paramWrite i) s = .next (finish i ⟨0, 0, []⟩ ((wrEntries (payload (start i s) i)).foldl applyWr (start i s)))) ∧
  (∀ (i : Nat) (s : State), canStart s i 0x12 = true →
    exec (.paramDesc i) s = .next (finish i ⟨0, 0, descResp (start i s) (beNat ((payload (start i s) i).take 2))
      (nth (payload (start i s) i) 2 0).toNat (nth (payload (start i s) i) 3 0).toNat⟩ (start i s))) ∧
  (∀ (i : Nat) (l : List Byte) (s : State), canStart s i 0x13 = true → needsField 0x13 (payload s i) = false →
    blockRead (start i s) (nth (payload (start i s) i) 0 0).toNat (beNat (((payload (start i s) i).drop 2).take 2))
      (beNat (((payload (start i s) i).drop 4).take 2)) (beNat (((payload (start i s) i).drop 6).take 2)) = .inr l →
    exec (.blockRead i) s = .next (finish i ⟨0, 0, l⟩ (start i s))) ∧
  (∀ (i : Nat) (l : List Wr) (s : State), canStart s i 0x14 = true → needsField 0x14 (payload s i) = false →
    blockEntries i (start i s) = .inr l → firstFail (start i s) l 1 l = none →
    exec (.blockWrite i) s = .next (finish i ⟨0, 0, []⟩ (l.foldl applyWr (start i s)))) ∧
  (∀ (i : Nat) (s : State), canStart s i 0x11 = true →
    (wrEntries (payload s i)).any (fun w => w.key == P.safetyLastConfirm.1) = true →
    exec (.lastConfirmWrite i) s = exec (.paramWrite i) s) ∧
  (∀ (i : Nat) (s : State), canStart s i 0x11 = true →
    (wrEntries (payload s i)).any (fun w => w.key == P.loopTabCommit.1) = true →
    exec (.tableCommitWrite i) s = exec (.paramWrite i) s ∧ ∃ t, exec (.tableCommitWrite i) s = .next t) ∧
  (∀ (i : Nat) (w : Wr) (s : State), canStart s i 0x11 = true → i < s.mbx.tags.length →
    wrEntries (payload s i) = [w] → w.key = P.safetyLastConfirm.1 → judge (start i s) [w] w = none →
    ∃ t, exec (.lastConfirmWrite i) s = .next t ∧ t.last.sealed = true ∧ t.last.code = s.last.pending ∧
      t.op.commissioning = false) ∧
  (∀ (i : Nat) (w : Wr) (s : State), canStart s i 0x11 = true → i < s.mbx.tags.length →
    wrEntries (payload s i) = [w] → w.key = P.loopTabCommit.1 → judge (start i s) [w] w = none →
    ∃ t, exec (.tableCommitWrite i) s = .next t ∧ t.loop.commit = s.loop.changed ∧ t.loop.active = s.loop.active) ∧
  (∀ (i : Nat) (s : State), canStart s i 0x18 = true → s.par.storing = none →
    ∃ t, exec (.store i) s = .next t ∧ t.par = { s.par with storing := some (i, s.par.work.filter (fun e => storable s e.1)) } ∧
      t.mbx.rr = s.mbx.rr ++ [i]) ∧
  (∀ (i : Nat) (s : State), canStart s i 0x19 = true → i < s.mbx.tags.length →
    (nth (payload (start i s) i) 0 0).toNat = 0 → s.op.state = .standby → s.loop.commit = [] →
    ∃ t, exec (.restoreDefaults i) s = .next t ∧ t.par.work = s.par.work.filter (fun e => !restorable 0 e.1) ∧
      (tag t i).reply = some ⟨0, 0, []⟩)

/-- The Last and the staging of firmware (R82, R477, R478, R480, R552, R556, R557). -/
def Obligations.LastAndFirmware : Prop :=
  (∀ (i : Nat) (s : State), canStart s i 0x50 = true → s.op.state = .standby → s.last.computing = none →
    ∃ t, exec (.lastCompute i) s = .next t ∧ t.last = { s.last with computing := some i, pending := 0 } ∧
      t.mbx.rr = s.mbx.rr ++ [i]) ∧
  (∀ (i o n : Nat) (s : State), canStart s i 0x51 = true → o = beNat ((payload (start i s) i).take 4) →
    n = beNat (((payload (start i s) i).drop 4).take 2) → n ≤ 1008 → o + n ≤ (lastImage (start i s)).length →
    exec (.lastImageRead i) s = .next (finish i ⟨0, 0, ((lastImage (start i s)).drop o).take n⟩ (start i s))) ∧
  (∀ (i : Nat) (s : State), canStart s i 0x52 = true → i < s.mbx.tags.length → s.op.state = .standby →
    vdcBelow60 s = true → s.last.computing = none → s.last.sealed = true →
    beNat (payload (start i s) i) = s.last.code →
    ∃ t, exec (.unseal i) s = .next t ∧ t.last = { s.last with sealed := false, code := 0 } ∧ t.op.commissioning = true ∧
      (tag t i).reply = some ⟨0, 0, []⟩) ∧
  (∀ (i n : Nat) (s : State), canStart s i 0x60 = true → s.boot.stageVerify = none → n = beNat (payload (start i s) i) →
    512 ≤ n → n ≤ 3145728 → n % 4 = 0 →
    ∃ t, exec (.fwStageBegin i) s = .next t ∧ t.boot.stage = some (n, 0) ∧ t.boot.trial = none ∧ t.id.staged = 0 ∧
      slotOf t (!s.boot.active) = none ∧ slotOf t s.boot.active = slotOf s s.boot.active) ∧
  (∀ (i n g : Nat) (s : State), canStart s i 0x61 = true → s.boot.stageVerify = none → s.boot.stage = some (n, g) →
    beNat ((payload (start i s) i).take 4) = g → (((payload (start i s) i).length - 4) % 4 = 0 ∨ g + ((payload (start i s) i).length - 4) = n) →
    g + ((payload (start i s) i).length - 4) ≤ n →
    exec (.fwStageData i) s = .next (finish i ⟨0, 0, []⟩ { start i s with boot := { s.boot with
      stage := some (n, g + ((payload (start i s) i).length - 4)) } })) ∧
  (∀ (i n : Nat) (h : ImageHdr) (s : State), canStart s i 0x62 = true → s.boot.stageVerify = none → s.boot.stage = some (n, n) →
    ∃ t, exec (.fwStageEnd i h) s = .next t ∧ t.boot = { s.boot with stageVerify := some h } ∧ t.mbx.rr = s.mbx.rr ++ [i]) ∧
  (∀ (i : Nat) (s : State), canStart s i 0x63 = true → i < s.mbx.tags.length → s.op.state = .standby → s.id.staged ≠ 0 →
    ∃ t, exec (.fwActivate i) s = .next t ∧ t.boot = { s.boot with trial := some (!s.boot.active), trialFails := 0 } ∧
      (tag t i).st = .done)

/-- The logs: records arrive, wait, are written, are read and are cleared (R658, R660, R661, R663, R664, R665, R666, R667, R669). -/
def Obligations.EventLog : Prop :=
  (∀ (i log n : Nat) (s : State), canStart s i 0x70 = true → log = (nth (payload (start i s) i) 0 0).toNat →
    n = (nth (payload (start i s) i) 1 0).toNat → log ≤ 1 → n ≤ 31 →
    exec (.eventRead i) s = .next (finish i
      ⟨0, 0, beBytes 2 (curOf s (log == 1) + (((logOf s (log == 1)).drop (curOf s (log == 1))).take n).length) ++
        beBytes 2 (logOf s (log == 1)).length ++ beBytes 4 (overOf s (log == 1)) ++
        (((logOf s (log == 1)).drop (curOf s (log == 1))).take n).flatMap recBytes⟩
      (setCur (log == 1) (curOf s (log == 1) + (((logOf s (log == 1)).drop (curOf s (log == 1))).take n).length)
        (start i s)))) ∧
  (∀ (i : Nat) (s : State), canStart s i 0x70 = true →
    (1 < (nth (payload (start i s) i) 0 0).toNat ∨ 31 < (nth (payload (start i s) i) 1 0).toNat) →
    exec (.eventRead i) s = .next (finish i ⟨0x13, 0, []⟩ (start i s))) ∧
  (∀ (i : Nat) (s : State), canStart s i 0x71 = true → i < s.mbx.tags.length →
    (nth (payload (start i s) i) 0 0).toNat = 0 → dieDown s .hb = false →
    ∃ t r, exec (.eventClear i) s = .next t ∧ t.evt.vlog.head? = some r ∧ r.code = 0x6002 ∧ r.cls = 0 ∧ r.seq = s.evt.seq ∧
      r.params = [0, satParam (s.evt.vlog.length : Nat), satParam (s.evt.vOver : Nat)] ∧ t.evt.vCur = 0 ∧ t.evt.vOver = 0 ∧
      t.evt.plog = s.evt.plog ∧ (tag t i).st = .done ∧ t.par = s.par) ∧
  (∀ (i : Nat) (s : State), canStart s i 0x71 = true → (nth (payload (start i s) i) 0 0).toNat = 1 →
    (s.last.sealed = true → exec (.eventClear i) s = .next (finish i ⟨0x15, 0, []⟩ (start i s))) ∧
    (s.last.sealed = false → s.op.state ≠ .standby → exec (.eventClear i) s = .next (finish i ⟨0x16, 0, []⟩ (start i s))) ∧
    (s.last.sealed = false → s.op.state = .standby → s.evt.vlog.length < 4095 →
      ∃ t r, exec (.eventClear i) s = .next t ∧ t.evt.plog = [r] ∧ r.code = 0x6002 ∧ r.seq = s.evt.seq ∧ t.evt.pCur = 0 ∧
        t.evt.pOver = 0 ∧ t.evt.vlog = s.evt.vlog ++ [r] ∧ t.evt.vCur = s.evt.vCur)) ∧
  (∀ (r : EventRec) (q : List EventRec) (s : State), fieldUp s = true → s.supply.hbLock = false → s.evt.fcq = r :: q →
    s.evt.vlog.length < 4095 → s.evt.pq.length < 64 →
    ∃ t, exec .recordArrival s = .next t ∧ t.evt.fcq = q ∧ t.evt.seq = (s.evt.seq + 1) % 2 ^ 32 ∧
      t.evt.vlog = s.evt.vlog ++ [{ r with seq := s.evt.seq, persist := persists s r.code r.cls }] ∧
      t.evt.pq = (if persists s r.code r.cls then s.evt.pq ++ [{ r with seq := s.evt.seq, persist := true }] else s.evt.pq) ∧
      t.evt.plog = s.evt.plog ∧ t.op.state = s.op.state ∧ t.par = s.par ∧ t.mbx.tags = s.mbx.tags) ∧
  (∀ s : State, s.evt.fcDropped ≠ 0 → s.evt.fcq.length < 256 → dieDown s .fc = false →
    ∃ t r, exec .fcRecordQueueRoom s = .next t ∧ t.evt.fcq = s.evt.fcq ++ [r] ∧ r.code = 0x6005 ∧ r.cls = 1 ∧
      r.params = [satParam (s.evt.fcDropped : Nat)] ∧ t.evt.fcDropped = 0 ∧ t.evt.fcLostBit = true ∧
      t.evt.vlog = s.evt.vlog ∧ t.op.maxClass = max s.op.maxClass 2) ∧
  (∀ (r : EventRec) (q : List EventRec) (s : State), s.evt.pq = r :: q → s.evt.pTail = none → s.evt.plog.length < 16383 →
    exec (.persistentLogWrite false) s = .next { s with evt := { s.evt with pq := q, plog := s.evt.plog ++ [r] } } ∧
    exec (.persistentLogWrite true) s = .next { s with evt := { s.evt with pq := q, pTail := some r } }) ∧
  (∀ (r : EventRec) (b : Bool) (s : State), s.evt.pq = [] → s.evt.pTail = some r → s.evt.plog.length < 16384 →
    exec (.persistentLogWrite b) s = .next { s with evt := { s.evt with plog := s.evt.plog ++ [r], pTail := none } }) ∧
  (∀ (r : EventRec) (q : List EventRec) (s : State), s.evt.pq = r :: q → s.evt.pTail = none → s.evt.plog.length = 16383 →
    ∃ t x, exec (.persistentLogWrite false) s = .next t ∧ t.evt.plog = s.evt.plog ++ [x] ∧ x.code = 0x6003 ∧ x.seq = s.evt.seq ∧
      x.params = [satParam (r.code : Nat)]) ∧
  (∀ (r : EventRec) (q : List EventRec) (s : State), s.evt.pq = r :: q → s.evt.pTail = none → 16383 < s.evt.plog.length →
    exec (.persistentLogWrite false) s = .next { s with evt := { s.evt with pq := q, pOver := satInc (2 ^ 32 - 1) s.evt.pOver } })

/-- The instructions of the test access port and the debug unlock (R683, R684, R685, R702). -/
def Obligations.TapDebug : Prop :=
  (∀ s : State, s.supply.hbLock = false →
    exec .tapBypass s = .next { s with tap := { s.tap with ir := 0x1F, extest := false } } ∧
    exec .tapIdcode s = .next { s with tap := { s.tap with ir := 0x01, extest := false, dr := 0x20812B4F } } ∧
    exec .tapReset s = .next { s with tap := { s.tap with ir := 0x01, extest := false, dr := 0x20812B4F } }) ∧
  idcode = 0x20812B4F ∧
  (∀ s : State, s.supply.hbLock = false → s.tap.unlocked = true →
    exec .tapSamplePreload s = .next { s with tap := { s.tap with ir := 0x02, extest := false } } ∧
    (s.boot.recovery = true → exec .tapExtest s = .next { s with tap := { s.tap with ir := 0x03, extest := true } }) ∧
    (s.boot.recovery = false → exec .tapExtest s = .next { s with tap := { s.tap with
      ir := 0x1F, extest := false, refused := true } }) ∧
    exec .dbgAccess s = .next { s with tap := { s.tap with ir := 0x12, extest := false } }) ∧
  (∀ (c : Instr) (s : State), s.supply.hbLock = false → s.tap.unlocked = false →
    c = .tapSamplePreload ∨ c = .tapExtest ∨ c = .dbgAccess →
    exec c s = .next { s with tap := { s.tap with ir := 0x1F, extest := false, refused := true } }) ∧
  (∀ s : State, s.supply.hbLock = false →
    exec .dbgChal s = .next { s with
      free := s.free + 1
      tap := { s.tap with
        ir := 0x10, extest := false, dr := Config.freeNat s.free % 2 ^ 256, challenge := some (Config.freeNat s.free % 2 ^ 256), chalUsed := false } }) ∧
  (∀ (v : Bool) (s : State), s.supply.hbLock = false →
    (v = true ∧ s.tap.challenge.isSome = true ∧ s.tap.chalUsed = false ∧
      (s.boot.recovery = true ∨ s.op.state = .boot ∨ s.op.state = .standby ∨ s.op.state = .shutdown) →
      exec (.dbgResp v) s = .next { s with tap := { s.tap with
        ir := 0x11, extest := false, chalUsed := true, unlocked := true } }) ∧
    (v = false ∨ s.tap.challenge.isSome = false ∨ s.tap.chalUsed = true ∨
      (s.boot.recovery = false ∧ s.op.state ≠ .boot ∧ s.op.state ≠ .standby ∧ s.op.state ≠ .shutdown) →
      exec (.dbgResp v) s = .next { s with tap := { s.tap with
        ir := 0x11, extest := false, chalUsed := true, refused := true } })) ∧
  (∀ (c : Instr) (v : Bool) (s : State), s.supply.hbLock = true →
    c = .tapBypass ∨ c = .tapIdcode ∨ c = .tapSamplePreload ∨ c = .tapExtest ∨ c = .dbgChal ∨ c = .dbgResp v ∨
      c = .dbgAccess ∨ c = .tapReset →
    exec c s = .next s)

/-- What the frames of the host port do (R490, R493, R496, R497, R499, R501, R506, R511, R512, R514, R525, R526). -/
def Obligations.HostPortFrames : Prop :=
  (∀ (c : Nat) (l : List Word), response c l = ⟨some (if c = 0 then 0xA5 else 0xC3), c, if c = 0 then l else [],
    crc16 (beBytes 1 (if c = 0 then 0xA5 else 0xC3) ++ beBytes 1 c ++ ((if c = 0 then l else []).map wordBytes).flatten)⟩) ∧
  (∀ (f : Frame) (addr count : Nat) (s : State), portUp s = true → headOk f = false →
    ∃ t, exec (.regRead f addr count) s = .next t ∧ t.port.resp = ⟨none, 0, [], 0⟩ ∧ t.port.badRun = s.port.badRun + 1 ∧
      t.port.hdrErr = satInc 255 s.port.hdrErr ∧ t.port.lastCode = 1 ∧ t.mbx.mem = s.mbx.mem ∧ t.gdSelect = s.gdSelect) ∧
  (∀ (f : Frame) (addr : Nat) (d : List Word) (s : State), portUp s = true → headOk f = true → kindOk f = true →
    dataOk f d = false → d ≠ [] →
    ∃ t, exec (.regWrite f addr d) s = .next t ∧ t.port.resp = response 2 [] ∧
      t.port.hdrErr = satInc 255 s.port.hdrErr ∧ t.mbx.mem = s.mbx.mem ∧ t.mbx.tags = s.mbx.tags ∧ t.par = s.par ∧
      t.gdSelect = s.gdSelect ∧ t.op.state = s.op.state) ∧
  (∀ (f : Frame) (addr : Nat) (s : State), portUp s = true → headOk f = true → kindOk f = true → f.busErr = false →
    windowOk addr 1 = true → (rangeOf addr).1 = .hb → (readHb s addr).isSome = true →
    ∃ t u, exec (.regRead f addr 1) s = .next t ∧ { u with port := s.port } = s ∧
      t.port.resp = response 0 [BitVec.ofNat 32 ((readHb u addr).getD 0)]) ∧
  (∀ (f : Frame) (addr : Nat) (w : Word) (s : State), portUp s = true → headOk f = true → kindOk f = true →
    dataOk f [w] = true → windowOk addr 1 = true → (rangeOf addr).1 = .hb → (readHb s addr).isSome = true →
    addr ≠ 0x24 → inRom s = false →
    ∃ u, { u with port := s.port } = s ∧
      exec (.regWrite f addr [w]) s = .next (respond (writeHb addr w.toNat u).1 [] (writeHb addr w.toNat u).2)) ∧
  (∀ (f : Frame) (addr : Nat) (w : Word) (s : State), portUp s = true → headOk f = true → kindOk f = true →
    dataOk f [w] = true → windowOk addr 1 = true → (rangeOf addr).1 = .hb → (readHb s addr).isSome = true →
    romWritable addr = false → inRom s = true →
    ∃ t, exec (.regWrite f addr [w]) s = .next t ∧ { t with port := s.port } = s ∧ t.port.resp = response 13 []) ∧
  (∀ (f : Frame) (db : Bool) (i k : Nat) (d : List Word) (s : State), portUp s = true → headOk f = true → kindOk f = true →
    (d = [] ∨ dataOk f d = true) → i < 128 → k + d.length ≤ 256 → k < 256 → (tag s i).st = .free → s.mbx.tags.length = 128 →
    memWf s.mbx.mem = true →
    ∃ t, exec (.eyeletWrite f db (256 * i + k) d) s = .next t ∧
      memRead t.mbx.mem (1024 * i + 4 * k) (4 * d.length) = d.flatMap wordBytes ∧
      (∀ a, a < 1024 * i + 4 * k ∨ 1024 * i + 4 * k + 4 * d.length ≤ a → memGet t.mbx.mem a = memGet s.mbx.mem a) ∧
      (db = false → t.port.resp = response 0 [] ∧ t.mbx.tags = s.mbx.tags ∧ t.mbx.bells = s.mbx.bells) ∧
      (db = true → cpDown s = false → s.pairs.cp.restarting = false →
        t.port.resp = response 0 [] ∧ t.mbx.bells = s.mbx.bells ++ [i] ∧ (tag t i).st = .queued) ∧
      t.par = s.par ∧ t.op = s.op ∧ t.evt = s.evt) ∧
  (∀ (f : Frame) (db : Bool) (i k : Nat) (d : List Word) (s : State), portUp s = true → headOk f = true → kindOk f = true →
    (d = [] ∨ dataOk f d = true) → i < 128 → k + d.length ≤ 256 → k < 256 → (tag s i).st ≠ .free → memWf s.mbx.mem = true →
    ∃ t, exec (.eyeletWrite f db (256 * i + k) d) s = .next t ∧ t.port.resp = response 9 [] ∧
      (∀ a, a < 131072 → memGet t.mbx.mem a = memGet s.mbx.mem a) ∧ t.mbx.tags = s.mbx.tags ∧ t.mbx.empty = s.mbx.empty ∧
      t.mbx.errBusy = satInc 255 s.mbx.errBusy) ∧
  (∀ (f : Frame) (i k n : Nat) (s : State), portUp s = true → headOk f = true → kindOk f = true → f.busErr = false →
    i < 128 → k < 256 → k + n ≤ 256 → poisonedIn s (1024 * i + 4 * k) (4 * n) = false →
    ∃ t, exec (.eyeletRead f (256 * i + k) n) s = .next t ∧ { t with port := s.port } = s ∧
      t.port.resp = response 0 (toWords (memRead s.mbx.mem (1024 * i + 4 * k) (4 * n)))) ∧
  (∀ (f : Frame) (i : Nat) (s : State), portUp s = true → headOk f = true → kindOk f = true → f.busErr = false →
    i < 512 → poisonedIn s (131072 + 16 * i) 16 = false →
    ∃ t, exec (.cqRead f i 4) s = .next t ∧ { t with port := s.port } = s ∧
      t.port.resp = response 0 (toWords (memRead s.mbx.mem (131072 + 16 * i) 16))) ∧
  (∀ (f : Frame) (w : Word) (s : State), portUp s = true → headOk f = true → kindOk f = true → dataOk f [w] = true →
    (bitOf w.toNat 0 = true ∧ bitsOf w.toNat 16 8 ≠ 0 →
      ∃ t, exec (.hello f 0 [w]) s = .next t ∧
        t.port.next = some (widest w.toNat, min (bitsOf w.toNat 16 8) (parN s P.portMaxMhz)) ∧
        t.port.resp = response 0 [BitVec.ofNat 32 (modeWord (min (bitsOf w.toNat 16 8) (parN s P.portMaxMhz)) (widest w.toNat))] ∧
        t.mbx.tags = s.mbx.tags ∧ t.op.state = s.op.state) ∧
    (bitOf w.toNat 0 = false ∨ bitsOf w.toNat 16 8 = 0 →
      ∃ t, exec (.hello f 0 [w]) s = .next t ∧ t.port.next = none ∧ t.port.resp = response 11 [])) ∧
  (∀ s : State, portUp s = true → 8 ≤ s.port.badRun →
    ∃ t, exec .portFallback s = .next t ∧ t.port.next = some (0, 25) ∧ t.port.badRun = 0 ∧
      t.port.sticky = s.port.sticky ||| 16 ∧ t.mbx.tags = s.mbx.tags) ∧
  (∀ (c : Instr) (f : Frame) (i k n : Nat) (s : State), portUp s = true → headOk f = true → kindOk f = true →
    c = .frameStall f 3 (256 * i + k) n 50001 ∨ c = .frameTruncated f 3 (256 * i + k) n →
    i < 128 → k < 256 → 6 ≤ n → (tag s i).st = .free → i < s.mbx.empty.length → memWf s.mbx.mem = true →
    ∃ t, exec c s = .next t ∧ nth t.mbx.empty i false = true ∧ (∀ a, a < 131072 → memGet t.mbx.mem a = memGet s.mbx.mem a) ∧
      t.mbx.tags = s.mbx.tags ∧ t.port.resp = ⟨none, 0, [], 0⟩ ∧ t.port.stalls = satInc 255 s.port.stalls) ∧
  (∀ (a : Access) (s : State), s.port.access = some a → s.port.dropAccess = false → a.write = false →
    fieldDown s (rangeOf a.addr).1 a.gd = false →
    ∃ t u, exec (.fieldAccessReply true false) s = .next t ∧ { u with port := s.port } = s ∧ t.port.access = none ∧
      t.port.resp = response 0 ((readWords a.gd (addrsFrom a.addr a.count) u).1)) ∧
  (∀ (a : Access) (s : State), s.port.access = some a → s.port.dropAccess = false →
    a.since + parN s P.portReadWait ≤ s.pt.ns →
    ∃ t, exec .waitTimeout s = .next t ∧ t.port.access = some a ∧ t.port.dropAccess = true ∧
      t.port.resp = response 6 [] ∧ t.mbx.tags = s.mbx.tags ∧ t.op.state = s.op.state)

/-- What particular registers of the window do when read or written (R49, R76, R77, R495, R505, R511, R518, R519, R667). -/
def Obligations.RegisterEffects : Prop :=
  (∀ (f : Frame) (w : Word) (s : State), portUp s = true → headOk f = true → kindOk f = true → dataOk f [w] = true →
    ((tag s (w.toNat % 128)).st = .free → s.mbx.tags.length = 128 → cpDown s = false →
      s.pairs.cp.restarting = false →
      ∃ t, exec (.doorbell f w) s = .next t ∧ t.port.resp = response 0 [] ∧ t.mbx.bells = s.mbx.bells ++ [w.toNat % 128] ∧
        (tag t (w.toNat % 128)).st = .queued ∧ t.mbx.mem = s.mbx.mem ∧ t.op = s.op ∧ t.evt = s.evt) ∧
    ((tag s (w.toNat % 128)).st ≠ .free →
      ∃ t, exec (.doorbell f w) s = .next t ∧ t.port.resp = response 9 [] ∧ t.mbx.tags = s.mbx.tags ∧ t.mbx.bells = s.mbx.bells) ∧
    (s.pairs.cp.restarting = false → s.cp.heldHead = [] →
      (w.toNat % 1024 + 1024 - s.mbx.head) % 1024 ≤ (s.mbx.tail + 1024 - s.mbx.head) % 1024 →
      ∃ u, { u with port := s.port } = s ∧ exec (.cqHeadWrite f w) s = .next (respond 0 [] (moveHead (w.toNat % 1024) u))) ∧
    (s.cp.heldHead = [] →
      (s.mbx.tail + 1024 - s.mbx.head) % 1024 < (w.toNat % 1024 + 1024 - s.mbx.head) % 1024 →
      ∃ t, exec (.cqHeadWrite f w) s = .next t ∧ t.port.resp = response 10 [] ∧ t.mbx.head = s.mbx.head ∧ t.mbx.tags = s.mbx.tags ∧
        t.port.sticky = s.port.sticky ||| 8) ∧
    (∃ t, exec (.irqStatusClear f w) s = .next t ∧ t.mbx.irq = w1c s.mbx.irq (w.toNat % 128) ∧ t.mbx.irqEn = s.mbx.irqEn ∧
        t.port.resp = response 0 [] ∧ t.mbx.tags = s.mbx.tags ∧ t.evt = s.evt ∧ t.op = s.op) ∧
    (inRom s = false →
      ∃ t, exec (.evtCursorWrite f w) s = .next t ∧ curOf t s.evt.logSel = min (w.toNat % 65536) (logOf s s.evt.logSel).length ∧
        curOf t (!s.evt.logSel) = curOf s (!s.evt.logSel) ∧ t.port.resp = response 0 [] ∧
        t.evt.vlog = s.evt.vlog ∧ t.evt.plog = s.evt.plog)) ∧
  (∀ (f : Frame) (s : State), portUp s = true → headOk f = true → kindOk f = true → f.busErr = false →
    (f.clocked = true →
      ∃ t, exec (.rcRegisterRead f 0x005C) s = .next t ∧ t.port.resp = response 0 [BitVec.ofNat 32 (errCntWord s)] ∧
        t.mbx = { s.mbx with errCrc := 0, errOp := 0, errBusy := 0, violLost := 0 } ∧ t.evt = s.evt) ∧
    (f.clocked = true →
      ∃ t, exec (.rcRegisterRead f 0x0044) s = .next t ∧ t.port.hdrErr = 0 ∧ t.port.stalls = 0 ∧
        t.port.sticky = s.port.sticky ∧ t.mbx = s.mbx) ∧
    (f.clocked = false →
      ∃ t, exec (.rcRegisterRead f 0x005C) s = .next t ∧ { t with port := s.port } = s) ∧
    (∃ t, exec (.ptLoRead f) s = .next t ∧ t.port.resp = response 0 [BitVec.ofNat 32 (hbPt s % 2 ^ 32)] ∧
      t.pt = { s.pt with hbHi := hbPt s / 2 ^ 32 % 2 ^ 32 } ∧ t.op = s.op ∧ t.mbx = s.mbx) ∧
    (f.clocked = true →
      ∃ t, exec (.evtDataRead f) s = .next t ∧
        t.port.resp = response 0 ((List.range 8).map (fun k => BitVec.ofNat 32 (evtDataWord s k))) ∧
        curOf t s.evt.logSel = (if curOf s s.evt.logSel < (logOf s s.evt.logSel).length then curOf s s.evt.logSel + 1
          else curOf s s.evt.logSel)) ∧
    (s.port.access = none → fieldDown s .fc (selGd s) = false →
      ∃ t, exec (.setposLoRead f) s = .next t ∧ t.port.access = some ⟨false, 0x0604, 1, [], selGd s, s.pt.ns⟩ ∧ t.pe = s.pe)) ∧
  (∀ (p : GdPos) (k : Nat) (s : State), serve ⟨false, 0x0604, 1, [], p, k⟩ s =
    ([BitVec.ofNat 32 (tc 64 s.pe.setPos % 2 ^ 32)], { s with pe := { s.pe with setposHi := tc 64 s.pe.setPos / 2 ^ 32 } })) ∧
  (∀ (f : Frame) (s : State), portUp s = true → headOk f = true → kindOk f = true →
    (s.op.state = .standby → ∃ u, { u with port := s.port } = s ∧
      (dataOk f [resetWord 0x5C false 0] = true →
        exec (.resetCtrlPackageReset f 0x5C false) s = .next (addCause 3 (packageReset .plain u))) ∧
      (dataOk f [resetWord 0x5C false 1] = true →
        exec (.resetCtrlBistReset f 0x5C false) s = .next (addCause 3 (packageReset .bist u))) ∧
      (dataOk f [resetWord 0x5C false 2] = true →
        exec (.resetCtrlRecoveryReset f 0x5C false) s = .next (addCause 3 (packageReset .recovery u)))) ∧
    (∀ k n c, k < 256 → k ≠ 0x5C → dataOk f [resetWord k false n] = true →
      (n = 0 ∧ c = .resetCtrlPackageReset f k false ∨ n = 1 ∧ c = .resetCtrlBistReset f k false ∨
        n = 2 ∧ c = .resetCtrlRecoveryReset f k false) →
      ∃ t, exec c s = .next t ∧ { t with port := s.port } = s ∧ t.port.resp = response 0 []) ∧
    (∀ n c, s.op.state = .run → dataOk f [resetWord 0x5C false n] = true →
      (n = 0 ∧ c = .resetCtrlPackageReset f 0x5C false ∨ n = 1 ∧ c = .resetCtrlBistReset f 0x5C false ∨
        n = 2 ∧ c = .resetCtrlRecoveryReset f 0x5C false) →
      ∃ t, exec c s = .next t ∧ t.rst = { s.rst with rejected := true } ∧ t.op.state = .run ∧ t.mbx.tags = s.mbx.tags ∧
        t.port.resp = response 0 []))

/-- A write of the cursor is limited to the fill count, and records are added at the end (R668). -/
def Obligations.CursorRule : Prop :=
  (∀ (f : Frame) (w : Word) (s : State), portUp s = true → headOk f = true → kindOk f = true → dataOk f [w] = true →
    inRom s = false →
    ∃ t, exec (.evtCursorWrite f w) s = .next t ∧
      curOf t s.evt.logSel = min (w.toNat % 65536) (logOf s s.evt.logSel).length ∧
      curOf t (!s.evt.logSel) = curOf s (!s.evt.logSel) ∧ t.evt.vlog = s.evt.vlog ∧ t.evt.plog = s.evt.plog) ∧
  (∀ (d : Die) (code cls : Nat) (ps : List Int) (s : State), ∃ v, (record d code cls ps s).evt.vlog = s.evt.vlog ++ v ∧
    (record d code cls ps s).evt.plog = s.evt.plog ∧ (record d code cls ps s).evt.vCur = s.evt.vCur ∧
    (record d code cls ps s).evt.pCur = s.evt.pCur) ∧
  (∀ (c : Instr) (s : State), c = .recordArrival ∨ (∃ b, c = .persistentLogWrite b) →
    ∃ t v p, exec c s = .next t ∧ t.evt.vlog = s.evt.vlog ++ v ∧ t.evt.plog = s.evt.plog ++ p ∧
      t.evt.vCur = s.evt.vCur ∧ t.evt.pCur = s.evt.pCur)

/-- The selector of the gate driver die (R20). -/
def Obligations.DieSelector : Prop :=
  State.reset.gdSelect = 2 ∧
  (∀ s : State, readHb s 0x0014 = some s.gdSelect) ∧
  (∀ (f : Frame) (w : Word) (s : State), portUp s = true → headOk f = true → kindOk f = true → dataOk f [w] = true →
    inRom s = false →
    ∃ t, exec (.gdSelectWrite f w) s = .next t ∧
      t.gdSelect = (if w.toNat % 8 < 2 then s.gdSelect else w.toNat % 8) ∧ t.port.resp = response 0 [] ∧
      { t with port := s.port, gdSelect := s.gdSelect } = s) ∧
  (∀ (s t : State), s.gdSelect < 8 → 2 ≤ s.gdSelect → step s = .next t → t.gdSelect < 8 ∧ 2 ≤ t.gdSelect) ∧
  (∀ p : GdPos, GdPos.ofId? p.id = some p) ∧
  (∀ (f : Frame) (p : GdPos) (addr : Nat) (s : State), portUp s = true → headOk f = true → kindOk f = true →
    windowOk addr 1 = true → (rangeOf addr).1 = .gd → (readGd s p addr).isSome = true → s.gdSelect = p.id →
    fieldDown s .gd p = false → s.port.access = none →
    ∃ t, exec (.regRead f addr 1) s = .next t ∧ t.port.access = some ⟨false, addr, 1, [], p, s.pt.ns⟩ ∧ t.gd = s.gd) ∧
  (∀ (p : GdPos) (addr k : Nat) (s : State), s.port.access = some ⟨false, addr, 1, [], p, k⟩ → s.port.dropAccess = false →
    (rangeOf addr).1 = .gd → fieldDown s .gd p = false →
    ∃ t, exec (.fieldAccessReply true false) s = .next t ∧
      t.port.resp = response 0 [BitVec.ofNat 32 ((readGd s p addr).getD 0)] ∧ t.gd = s.gd)

/-- What frames that only read, fail or negotiate leave unchanged (R496, R501, R506, R514, R525, R526, R527). -/
def Obligations.PortFrame : Prop :=
  ∀ (c : Instr) (f : Frame) (addr n kind : Nat) (d : List Word) (s : State),
    c = .eyeletRead f addr n ∨ c = .cqRead f addr n ∨ c = .hello f addr d ∨ (∃ ns, c = .frameStall f kind addr n ns) ∨
      c = .frameTruncated f kind addr n ∨ c = .portFallback ∨ c = .waitTimeout →
    ∃ t, exec c s = .next t ∧ t.mbx.tags = s.mbx.tags ∧ t.mbx.bells = s.mbx.bells ∧ t.mbx.head = s.mbx.head ∧
      t.mbx.rr = s.mbx.rr ∧
      { t with port := s.port, evt := s.evt, mbx := s.mbx, op := { t.op with maxClass := s.op.maxClass } } = s

/-- No CAN command and no bus event but a safe message acts on the drive (R561, R568, R574, R577, R581, R584, R588, R593, R597). -/
def Obligations.CanLeavesTheDrive : Prop :=
  ∀ (c : Instr) (s t : State), exec c s = .next t →
    (match c with
      | .canTx _ | .canRxRead _ | .canFilterLoad _ | .canBusOn _ | .canRateDetect _ | .canBufWrite _
      | .safeStatusTransmit _ _ | .canFrameReceived _ _ | .canFrameFiltering _ | .canAttemptEnd _ _ _
      | .canTxDeadline _ _ _ | .canErrorFlag _ _ _ | .canRecessiveIdle _ | .canRecoveryDone _ | .canOnTimeout _
      | .canDetectWindowEnd _ | .referenceMessageDue | .referenceMessageReceived _ | .timeMasterTimeout
      | .networkTimeLost => True
      | _ => False) →
    t.op.state = s.op.state ∧ t.op.degraded = s.op.degraded ∧ t.heel = s.heel ∧ t.gd = s.gd ∧ t.pe = s.pe ∧
    t.loop = s.loop ∧ t.obs = s.obs ∧ t.fb = s.fb ∧ t.sense = s.sense ∧ t.sm = s.sm ∧
    ((∀ f, c ≠ .referenceMessageReceived f) → t.mod = s.mod ∧ t.jx = s.jx) ∧
    t.saf.kCmd = s.saf.kCmd ∧ t.saf.brkRel = s.saf.brkRel ∧ t.saf.stoFilt = s.saf.stoFilt ∧ t.saf.held = s.saf.held ∧
    t.supply = s.supply ∧ t.rst = s.rst ∧ t.boot = s.boot ∧ t.last = s.last ∧ t.tap = s.tap ∧ t.gdSelect = s.gdSelect

/-- RUN, PRECHARGE, DISCHARGE and SHUTDOWN are entered by their own commands alone (R54, R55, R71, R94, R342, R464, R466, R703). -/
def Obligations.StateOnlyByItsCommand : Prop :=
  ∀ (c : Instr) (s t : State), exec c s = .next t → t.op.state ≠ s.op.state →
    (t.op.state = .run → s.op.state = .ready ∧ ((∃ i, c = .enable i) ∨ c = .bootstrapChargePulse)) ∧
    (t.op.state = .precharge → s.op.state = .standby ∧ ((∃ i, c = .precharge i) ∨
      ∃ m d, c = .diagnosticComplete m ∧ s.diag = some d ∧ d.pre = true)) ∧
    (t.op.state = .shutdown → s.op.state = .standby ∧ ∃ i, c = .shutdown i) ∧
    (t.op.state = .discharge → (s.op.state = .standby ∨ s.op.state = .ready ∨ s.op.state = .safeHold) ∧
      ((∃ i, c = .discharge i) ∨ s.op.state = .safeHold ∧ ∃ k b, c = .contactorFeedbackChange k b))
end

