-- ==== Sys2Proof/Laws/Keep.lean ====
section
/-! SUPPORT. What every operation keeps: the queue, the canonical form of the mailbox memory, the journal of the Command
Processor and the bounds of the logs. One lemma per operation, cited by the lemmas of the meanings. -/

namespace Sys2Proof.Laws
open Sys2Proof Sys2Proof.Machine

/-- What the lemmas of this file follow through an operation: the queue, a lower bound of the fused SEC_VER, whether debug
is locked, a lower bound of the severity of FC's held order, and which of the invariants below are asked. -/
structure Kept where
  queue : List Instr
  fused : Nat
  locked : Bool
  rank : Nat
  mail : Bool
  logs : Bool
  sec : Bool
  num : Bool

/-- The same without the bound of the held order: resets and the release drop it. -/
def Kept.z (k : Kept) : Kept := { k with rank := 0 }

/-- The same without the lock of debug. -/
def Kept.u (k : Kept) : Kept := { k with locked := false }

/-- Severity of what FC holds; 0 for nothing. -/
def rankOf (o : Option HeelOrder) : Nat := match o with | some o => sev o | none => 0

/-- What the lemmas of this file carry through an operation. -/
structure SoundC (q : Kept) (p : List Instr) (mem : List Host.Cell) (tags ckpt : List TagInfo)
    (j : List (Nat × TagInfo)) (seq reserve : Nat) (vlog pq fcq plog : List EventRec) (fused : Nat) (raise : Option Nat)
    (serial : Nat) (unlocked : Bool) (held : Option HeelOrder) : Prop where
  queue : p = q.queue
  wf : q.mail = true → memWf mem = true
  log : q.mail = true → replay ckpt j = tags
  count : q.mail = true → ckpt.length = 128
  next : q.logs = true → seq ≤ reserve
  vol : q.logs = true → vlog.length ≤ 4096
  waiting : q.logs = true → pq.length ≤ 64
  field : q.logs = true → fcq.length ≤ 256
  per : q.logs = true → plog.length ≤ 16384
  fuse : q.sec = true → q.fused ≤ fused
  toRaise : q.sec = true → ∀ x, raise = some x → fused ≤ x
  number : q.num = true → serial = Config.serial
  lock : q.locked = true → unlocked = false
  rank : q.rank ≤ rankOf held

def Sound (q : Kept) (s : State) : Prop :=
  SoundC q s.pending s.mbx.mem s.mbx.tags s.cp.ckpt s.cp.journal s.evt.seq s.evt.reserve s.evt.vlog s.evt.pq s.evt.fcq
    s.evt.plog s.boot.fused s.boot.raise s.id.serial s.tap.unlocked s.heel.fc

variable {q : Kept}

theorem sound_mk {pending' : List Instr} {free' : Nat} {gdSelect' : Nat} {pt' : PtState} {op' : OpBlock} {id' : IdBlock} {rst' : RstBlock} {boot' : BootBlock} {supply' : SupplyBlock} {pairs' : PairsBlock} {clk' : ClkBlock} {jx' : JxBlock} {snap' : SnapBlock} {heel' : HeelBlock} {port' : PortBlock} {par' : ParBlock} {last' : LastBlock} {saf' : SafBlock} {sense' : SenseBlock} {fb' : FbBlock} {obs' : ObsBlock} {loop' : LoopBlock} {pe' : PeBlock} {mod' : ModBlock} {gd' : Six GdDie} {diag' : Option DiagRun} {sm' : SmBlock} {can' : Two CanCh} {nt' : NtBlock} {mem' : MemBlock} {thm' : ThmBlock} {bist' : BistBlock} {tap' : TapBlock} {mbx : MbxBlock} {cp : CpBlock} {evt : RecBlock} :
    Sound q ⟨pending', free', gdSelect', pt', op', id', rst', boot', supply', pairs', cp, clk', jx', snap', heel', port', mbx, par', last', evt, saf', sense', fb', obs', loop', pe', mod', gd', diag', sm', can', nt', mem', thm', bist', tap'⟩ =
      SoundC q pending' mbx.mem mbx.tags cp.ckpt cp.journal evt.seq evt.reserve evt.vlog evt.pq evt.fcq evt.plog
        boot'.fused boot'.raise id'.serial tap'.unlocked heel'.fc := rfl

theorem soundC_of {s : State} (h : Sound q s) :
    SoundC q s.pending s.mbx.mem s.mbx.tags s.cp.ckpt s.cp.journal s.evt.seq s.evt.reserve s.evt.vlog s.evt.pq s.evt.fcq
      s.evt.plog s.boot.fused s.boot.raise s.id.serial s.tap.unlocked s.heel.fc := h

theorem soundC_next {p mem tags ckpt j fused raise serial unlocked held} {b : RecBlock}
    (h : SoundC q p mem tags ckpt j b.seq b.reserve b.vlog b.pq b.fcq b.plog fused raise serial unlocked held) :
    SoundC q p mem tags ckpt j (nextSeq b).seq (nextSeq b).reserve (nextSeq b).vlog (nextSeq b).pq (nextSeq b).fcq
      (nextSeq b).plog fused raise serial unlocked held :=
  { h with next := fun m => by have := h.next m; simp only [nextSeq]; omega }

/-- A more severe order replaces the held one, never a less severe one (R35). -/
theorem rank_takeOrder (h : Option HeelOrder) (o : HeelOrder) : rankOf h ≤ rankOf (takeOrder h o) := by
  cases h with
  | none => exact Nat.zero_le _
  | some x =>
    simp only [takeOrder]
    split
    · rename_i hlt
      exact le_of_lt hlt
    · exact le_refl _

theorem soundC_takeOrder {p mem tags ckpt j seq reserve vlog pq fcq plog fused raise serial unlocked held o}
    (h : SoundC q p mem tags ckpt j seq reserve vlog pq fcq plog fused raise serial unlocked held) :
    SoundC q p mem tags ckpt j seq reserve vlog pq fcq plog fused raise serial unlocked (takeOrder held o) :=
  { h with rank := le_trans h.rank (rank_takeOrder held o) }

theorem sound_foldl {α : Type} {f : State → α → State} {l : List α} {s : State}
    (hf : ∀ s a, Sound q s → Sound q (f s a)) (h : Sound q s) : Sound q (l.foldl f s) := by
  induction l generalizing s with
  | nil => exact h
  | cons a l ih => exact ih (hf s a h)

def SoundO (q : Kept) (o : Host.Outcome State Fault Refusal) : Prop := ∀ t, o = .next t → Sound q t

def SoundS (q : Kept) (x : State ⊕ (Result × State)) : Prop :=
  (∀ t, x = .inl t → Sound q t) ∧ ∀ r, x = .inr r → Sound q r.2

theorem soundO_ok {s : State} (h : Sound q s) : SoundO q (ok s) := by
  intro t e
  cases e
  exact h

theorem soundS_inl {s : State} (h : Sound q s) : SoundS q (.inl s) :=
  ⟨(fun _ e => by cases e; exact h), (fun _ e => by cases e)⟩

theorem soundS_of_inl {x : State ⊕ (Result × State)} {t : State} (e : x = .inl t) (h : SoundS q x) : Sound q t := h.1 t e

theorem soundS_of_inr {x : State ⊕ (Result × State)} {r : Result × State} (e : x = .inr r) (h : SoundS q x) : Sound q r.2 :=
  h.2 r e

theorem sound_of_pair {α : Type} {x : α × State} {a : α} {t : State} (e : x = (a, t)) (h : Sound q x.2) : Sound q t := by
  rw [e] at h
  exact h

theorem soundS_inr {r : Result × State} (h : Sound q r.2) : SoundS q (.inr r) :=
  ⟨(fun _ e => by cases e), (fun _ e => by cases e; exact h)⟩

/-! ## The mailbox memory -/

theorem memWfFrom_mono {m : List Host.Cell} {a b : Nat} (h : memWfFrom b m = true) (hab : a ≤ b) : memWfFrom a m = true := by
  cases m with
  | nil => rfl
  | cons c r =>
    simp only [memWfFrom, Bool.and_eq_true, decide_eq_true_eq] at h ⊢
    exact ⟨⟨le_trans hab h.1.1, h.1.2⟩, h.2⟩

/-- A write of one byte keeps the canonical form. -/
theorem memPut_wfFrom {m : List Host.Cell} {lo a : Nat} {v : Byte} (h : memWfFrom lo m = true) (ha : lo ≤ a) :
    memWfFrom lo (memPut m a v) = true := by
  induction m generalizing lo with
  | nil =>
    unfold memPut
    split
    · rfl
    · simp_all [memWfFrom]
  | cons c r ih =>
    simp only [memWfFrom, Bool.and_eq_true, decide_eq_true_eq] at h
    unfold memPut
    split
    · rename_i hc
      simp only [memWfFrom, Bool.and_eq_true, decide_eq_true_eq]
      exact ⟨h.1, ih h.2 hc⟩
    · split
      · rename_i hc hce
        have e : c.1 = a := by simpa using hce
        split
        · exact memWfFrom_mono h.2 (by omega)
        · simp_all [memWfFrom]
      · rename_i hc hce
        have e : c.1 ≠ a := by simpa using hce
        split
        · simp only [memWfFrom, Bool.and_eq_true, decide_eq_true_eq]
          exact ⟨h.1, h.2⟩
        · simp only [memWfFrom, Bool.and_eq_true, decide_eq_true_eq]
          refine ⟨⟨ha, by simp_all⟩, ⟨by omega, h.1.2⟩, h.2⟩

theorem memPut_wf {m : List Host.Cell} {a : Nat} {v : Byte} (h : memWf m = true) : memWf (memPut m a v) = true :=
  memPut_wfFrom h (Nat.zero_le a)

/-- Every write to the mailbox memory keeps its canonical form. -/
theorem memWrite_wf {m : List Host.Cell} {a : Nat} {l : List Byte} (h : memWf m = true) : memWf (memWrite m a l) = true := by
  induction l generalizing m a with
  | nil => exact h
  | cons b r ih => exact ih (memPut_wf h)

theorem memGet_put_same (m : List Host.Cell) (lo a : Nat) (v : Byte) (h : memWfFrom lo m = true) :
    memGet (memPut m a v) a = v := by
  induction m generalizing lo with
  | nil => unfold memPut; split <;> simp_all [memGet]
  | cons c r ih =>
    simp only [memWfFrom, Bool.and_eq_true, decide_eq_true_eq] at h
    unfold memPut
    split
    · rename_i hc
      rw [memGet, if_neg (by simp; omega)]
      exact ih _ h.2
    · split
      · rename_i hc hce
        have e : c.1 = a := by simpa using hce
        split
        · rename_i hv
          have hv : v = 0 := by simpa using hv
          rw [hv]
          exact memGet_zero r _ a h.2 (by omega)
        · simp [memGet]
      · rename_i hc hce
        have e : c.1 ≠ a := by simpa using hce
        split
        · rename_i hv
          have hv : v = 0 := by simpa using hv
          rw [hv, memGet, if_neg (by simp; omega)]
          exact memGet_zero r _ a h.2 (by omega)
        · simp [memGet]
where
  memGet_zero (m : List Host.Cell) (lo a : Nat) (h : memWfFrom lo m = true) (ha : a < lo) : memGet m a = 0 := by
    induction m generalizing lo with
    | nil => rfl
    | cons c r ih =>
      simp only [memWfFrom, Bool.and_eq_true, decide_eq_true_eq] at h
      rw [memGet, if_neg (by simp; omega)]
      exact ih _ h.2 (by omega)

theorem memGet_put_other (m : List Host.Cell) (a b : Nat) (v : Byte) (hab : b ≠ a) : memGet (memPut m a v) b = memGet m b := by
  induction m with
  | nil =>
    unfold memPut
    split
    · rfl
    · simp [memGet, Ne.symm hab]
  | cons c r ih =>
    unfold memPut
    split
    · simp only [memGet, ih]
    · split
      · rename_i hce
        have e : c.1 = a := by simpa using hce
        split
        · simp [memGet, e, Ne.symm hab]
        · simp [memGet, e, Ne.symm hab]
      · split
        · rfl
        · simp [memGet, Ne.symm hab]

/-! ## The journal of the Command Processor -/

theorem replay_append (c : List TagInfo) (j k : List (Nat × TagInfo)) : replay c (j ++ k) = replay (replay c j) k := by
  simp [replay, List.foldl_append]

theorem replay_length (c : List TagInfo) (j : List (Nat × TagInfo)) : (replay c j).length = c.length := by
  induction j generalizing c with
  | nil => rfl
  | cons e j ih =>
    have := ih (upd c e.1 (fun _ => e.2))
    simpa [replay, upd] using this

theorem upd_eq {α : Type} (l : List α) (i : Nat) (f : α → α) (d : α) : upd l i (fun _ => f (nth l i d)) = upd l i f := by
  unfold upd nth
  apply List.ext_getElem
  · simp
  · intro n h1 h2
    simp only [List.getElem_modify]
    split
    · rename_i e
      subst e
      simp at h2
      simp [List.getD, h2]
    · rfl

/-- The journal entry of a tag change replays to the change. -/
theorem replay_setTag {c t : List TagInfo} {j : List (Nat × TagInfo)} (h : replay c j = t) (i : Nat) (f : TagInfo → TagInfo) :
    replay c (j ++ [(i, f (nth t i TagInfo.reset))]) = upd t i f := by
  rw [replay_append, h]
  exact upd_eq t i f TagInfo.reset

theorem upd_at {α : Type} (l m : List α) (x : α) (f : α → α) : upd (l ++ x :: m) l.length f = l ++ f x :: m := by
  induction l with
  | nil => rfl
  | cons a l ih => simpa [upd] using ih

/-- Entries for every tag that changed replay to the change. -/
theorem replay_diff {a b : List TagInfo} (hab : b.length = a.length) (d : TagInfo) :
    replay a (((List.range b.length).map (fun i => (i, nth b i d))).filter (fun e => e.2 != nth a e.1 d)) = b := by
  have key : ∀ n, n ≤ b.length →
      replay a (((List.range n).map (fun i => (i, nth b i d))).filter (fun e => e.2 != nth a e.1 d)) = b.take n ++ a.drop n := by
    intro n
    induction n with
    | zero => intro _; simp [replay]
    | succ n ih =>
      intro hn
      have hb : n < b.length := by omega
      have ha : n < a.length := by omega
      rw [List.range_succ, List.map_append, List.filter_append, replay_append, ih (by omega)]
      have nb : nth b n d = b[n] := by simp [nth, List.getD, hb]
      have na : nth a n d = a[n] := by simp [nth, List.getD, ha]
      have e1 : b.take (n + 1) = b.take n ++ [b[n]] := by simp
      have e2 : a.drop n = a[n] :: a.drop (n + 1) := by simp
      have len : (b.take n).length = n := by simp; omega
      by_cases he : b[n] = a[n]
      · have : (List.filter (fun e : Nat × TagInfo => e.2 != nth a e.1 d) (List.map (fun i => (i, nth b i d)) [n])) = [] := by
          simp [nb, na, he]
        rw [this, e2, e1, he, List.append_assoc]
        rfl
      · have : (List.filter (fun e : Nat × TagInfo => e.2 != nth a e.1 d) (List.map (fun i => (i, nth b i d)) [n])) = [(n, b[n])] := by
          simp [nb, na, he]
        rw [this]
        simp only [replay, List.foldl_cons, List.foldl_nil]
        have h := upd_at (b.take n) (a.drop (n + 1)) a[n] (fun _ => b[n])
        rw [len] at h
        rw [e2, h, e1, List.append_assoc]
        rfl
  have := key b.length (le_refl _)
  rw [this]
  simp [hab]

theorem sound_foldlP {α β : Type} {f : β × State → α → β × State} {l : List α} {x : β × State}
    (hf : ∀ x a, Sound q x.2 → Sound q (f x a).2) (h : Sound q x.2) : Sound q (l.foldl f x).2 := by
  induction l generalizing x with
  | nil => exact h
  | cons a l ih => exact ih (hf x a h)

end Sys2Proof.Laws
end

