-- ==== Sys2Proof/Laws/KeepOps.lean ====
section
/-! SUPPORT. What the operations of Ops.lean keep (Keep.lean). -/

set_option linter.unreachableTactic false
set_option linter.unusedTactic false
set_option linter.unusedSimpArgs false

namespace Sys2Proof.Laws
open Sys2Proof Sys2Proof.Machine

variable {q : Kept}

theorem sound_setPar {a1} {a2} {a3} (h3 : Sound q a3) : Sound q (setPar a1 a2 a3) := by
  unfold setPar
  try dsimp only
  repeat' first
    | with_reducible assumption
    | with_reducible apply soundC_of
    | simp only [sound_mk]
    | split
    | dsimp only
    | intro _

theorem sound_takeFree {a1} (h1 : Sound q a1) : Sound q (takeFree a1).2 := by
  unfold takeFree
  try dsimp only
  repeat' first
    | with_reducible assumption
    | with_reducible apply soundC_of
    | simp only [sound_mk]
    | split
    | dsimp only
    | intro _

theorem sound_setTag {a1} {a2} {a3} (h3 : Sound q a3) : Sound q (setTag a1 a2 a3) := by
  unfold setTag
  exact { h3 with log := fun m => replay_setTag (h3.log m) a1 a2 }

theorem sound_answer {a1} {a2} {a3} (h3 : Sound q a3) : Sound q (answer a1 a2 a3) := by
  unfold answer
  try dsimp only
  repeat' first
    | with_reducible assumption
    | with_reducible apply soundC_of
    | with_reducible apply sound_setTag
    | simp only [sound_mk]
    | split
    | dsimp only
    | intro _

theorem sound_answerOk {a1} {a2} (h2 : Sound q a2) : Sound q (answerOk a1 a2) := by
  unfold answerOk
  try dsimp only
  repeat' first
    | with_reducible assumption
    | with_reducible apply soundC_of
    | with_reducible apply sound_answer
    | simp only [sound_mk]
    | split
    | dsimp only
    | intro _

theorem sound_endOpcodes {a1} {a2} {a3} {a4} (h4 : Sound q a4) : Sound q (endOpcodes a1 a2 a3 a4) := by
  unfold endOpcodes
  try dsimp only
  repeat' first
    | with_reducible assumption
    | with_reducible apply soundC_of
    | with_reducible apply sound_answer
    | with_reducible apply sound_foldl
    | simp only [sound_mk]
    | split
    | dsimp only
    | intro _

theorem sound_noteClass {a1} {a2} (h2 : Sound q a2) : Sound q (noteClass a1 a2) := by
  unfold noteClass
  try dsimp only
  repeat' first
    | with_reducible assumption
    | with_reducible apply soundC_of
    | simp only [sound_mk]
    | split
    | dsimp only
    | intro _

theorem sound_enqueueP {a1} {a2} (h2 : Sound q a2) : Sound q (enqueueP a1 a2) := by
  have h := h2
  obtain ⟨hq, hw, ht, hc, hs, hv, hp, hf, hl, g1, g2, g3, g4, g5⟩ := h
  unfold enqueueP
  try unfold nextSeq
  dsimp only
  repeat' first
    | with_reducible assumption
    | with_reducible apply soundC_of
    | with_reducible apply sound_noteClass
    | simp only [sound_mk]
    | split
  all_goals
    constructor <;>
      first
      | with_reducible assumption
      | (intro m
         specialize hs m; specialize hv m; specialize hp m; specialize hf m; specialize hl m
         first | omega | (simp only [List.length_append, List.length_singleton, beq_iff_eq] at *; omega))

theorem sound_putV {a1} {a2} (h2 : Sound q a2) : Sound q (putV a1 a2) := by
  have h := h2
  obtain ⟨hq, hw, ht, hc, hs, hv, hp, hf, hl, g1, g2, g3, g4, g5⟩ := h
  unfold putV
  try unfold nextSeq
  dsimp only
  repeat' first
    | with_reducible assumption
    | with_reducible apply soundC_of
    | with_reducible apply sound_enqueueP
    | with_reducible apply sound_noteClass
    | simp only [sound_mk]
    | split
  all_goals
    constructor <;>
      first
      | with_reducible assumption
      | (intro m
         specialize hs m; specialize hv m; specialize hp m; specialize hf m; specialize hl m
         first | omega | (simp only [List.length_append, List.length_singleton, beq_iff_eq] at *; omega))

theorem sound_arrive {a1} {a2} (h2 : Sound q a2) : Sound q (arrive a1 a2) := by
  unfold arrive
  try dsimp only
  repeat' first
    | with_reducible assumption
    | with_reducible apply soundC_of
    | with_reducible apply sound_putV
    | with_reducible apply sound_enqueueP
    | simp only [sound_mk]
    | with_reducible apply soundC_next
    | split
    | dsimp only
    | intro _

theorem sound_fcPush {a1} {a2} (h2 : Sound q a2) : Sound q (fcPush a1 a2) := by
  have h := h2
  obtain ⟨hq, hw, ht, hc, hs, hv, hp, hf, hl, g1, g2, g3, g4, g5⟩ := h
  unfold fcPush
  try unfold nextSeq
  dsimp only
  repeat' first
    | with_reducible assumption
    | with_reducible apply soundC_of
    | simp only [sound_mk]
    | split
  all_goals
    constructor <;>
      first
      | with_reducible assumption
      | (intro m
         specialize hs m; specialize hv m; specialize hp m; specialize hf m; specialize hl m
         first | omega | (simp only [List.length_append, List.length_singleton, beq_iff_eq] at *; omega))

theorem sound_record {a1} {a2} {a3} {a4} {a5} (h5 : Sound q a5) : Sound q (record a1 a2 a3 a4 a5) := by
  unfold record
  try dsimp only
  repeat' first
    | with_reducible assumption
    | with_reducible apply soundC_of
    | with_reducible apply sound_noteClass
    | with_reducible apply sound_arrive
    | with_reducible apply sound_fcPush
    | simp only [sound_mk]
    | split
    | dsimp only
    | intro _

theorem sound_cmdK {a1} {a2} {a3} {a4} (h4 : Sound q a4) : Sound q (cmdK a1 a2 a3 a4) := by
  unfold cmdK
  try dsimp only
  repeat' first
    | with_reducible assumption
    | with_reducible apply soundC_of
    | simp only [sound_mk]
    | split
    | dsimp only
    | intro _

theorem sound_contactors {a1} (h1 : Sound q a1) : Sound q (contactors a1) := by
  unfold contactors
  try dsimp only
  repeat' first
    | with_reducible assumption
    | with_reducible apply soundC_of
    | with_reducible apply sound_cmdK
    | simp only [sound_mk]
    | split
    | dsimp only
    | intro _

theorem sound_brake {a1} (h1 : Sound q a1) : Sound q (brake a1) := by
  unfold brake
  try dsimp only
  repeat' first
    | with_reducible assumption
    | with_reducible apply soundC_of
    | simp only [sound_mk]
    | split
    | dsimp only
    | intro _

theorem sound_startStoTest {a1} {a2} (h2 : Sound q a2) : Sound q (startStoTest a1 a2) := by
  unfold startStoTest
  try dsimp only
  repeat' first
    | with_reducible assumption
    | with_reducible apply soundC_of
    | simp only [sound_mk]
    | split
    | dsimp only
    | intro _

theorem sound_changeState {a1} {a2} {a3} (h3 : Sound q a3) : Sound q (changeState a1 a2 a3) := by
  unfold changeState
  try dsimp only
  repeat' first
    | with_reducible assumption
    | with_reducible apply soundC_of
    | with_reducible apply sound_record
    | with_reducible apply sound_brake
    | with_reducible apply sound_contactors
    | with_reducible apply sound_startStoTest
    | simp only [sound_mk]
    | split
    | dsimp only
    | intro _

theorem sound_closeBarrier {a1} {a2} (h2 : Sound q a2) : Sound q (closeBarrier a1 a2) := by
  unfold closeBarrier
  try dsimp only
  repeat' first
    | with_reducible assumption
    | with_reducible apply soundC_of
    | simp only [sound_mk]
    | split
    | dsimp only
    | intro _

theorem sound_abortDiag {a1} {a2} (h2 : Sound q a2) : Sound q (abortDiag a1 a2) := by
  unfold abortDiag
  try dsimp only
  repeat' first
    | with_reducible assumption
    | with_reducible apply soundC_of
    | with_reducible apply sound_answer
    | with_reducible apply sound_record
    | simp only [sound_mk]
    | split
    | dsimp only
    | intro _

theorem sound_endMotion {a1} {a2} {a3} (h3 : Sound q a3) : Sound q (endMotion a1 a2 a3) := by
  unfold endMotion
  try dsimp only
  repeat' first
    | with_reducible assumption
    | with_reducible apply soundC_of
    | with_reducible apply sound_endOpcodes
    | with_reducible apply sound_answer
    | with_reducible apply sound_setPar
    | with_reducible apply sound_foldl
    | simp only [sound_mk]
    | split
    | dsimp only
    | intro _

theorem sound_startPhase {a1} {a2} (h2 : Sound q a2) : Sound q (startPhase a1 a2) := by
  unfold startPhase
  try dsimp only
  repeat' first
    | with_reducible assumption
    | with_reducible apply soundC_of
    | simp only [sound_mk]
    | split
    | dsimp only
    | intro _

theorem sound_dropStart {a1} {a2} (h2 : Sound q a2) : Sound q (dropStart a1 a2) := by
  unfold dropStart
  try dsimp only
  repeat' first
    | with_reducible assumption
    | with_reducible apply soundC_of
    | simp only [sound_mk]
    | split
    | dsimp only
    | intro _

theorem sound_endControl {a1} (h1 : Sound q a1) : Sound q (endControl a1) := by
  unfold endControl
  try dsimp only
  repeat' first
    | with_reducible assumption
    | with_reducible apply soundC_of
    | with_reducible apply sound_dropStart
    | simp only [sound_mk]
    | split
    | dsimp only
    | intro _

theorem sound_leaveByFault {a1} {a2} (h2 : Sound q a2) : Sound q (leaveByFault a1 a2) := by
  unfold leaveByFault
  try dsimp only
  repeat' first
    | with_reducible assumption
    | with_reducible apply soundC_of
    | with_reducible apply sound_endOpcodes
    | with_reducible apply sound_dropStart
    | with_reducible apply sound_endControl
    | with_reducible apply sound_endMotion
    | simp only [sound_mk]
    | split
    | dsimp only
    | intro _

theorem sound_toSafeHold {a1} {a2} (h2 : Sound q a2) : Sound q (toSafeHold a1 a2) := by
  unfold toSafeHold
  try dsimp only
  repeat' first
    | with_reducible assumption
    | with_reducible apply soundC_of
    | with_reducible apply sound_changeState
    | with_reducible apply sound_leaveByFault
    | simp only [sound_mk]
    | split
    | dsimp only
    | intro _

theorem sound_broadcast {a1} {a2} (h2 : Sound q a2) : Sound q (broadcast a1 a2) := by
  unfold broadcast
  try dsimp only
  repeat' first
    | with_reducible assumption
    | with_reducible apply soundC_of
    | simp only [sound_mk]
    | split
    | dsimp only
    | intro _

theorem sound_raiseRun {a1} {a2} (h2 : Sound q a2) : Sound q (raiseRun a1 a2) := by
  unfold raiseRun
  try dsimp only
  repeat' first
    | with_reducible assumption
    | with_reducible apply soundC_of
    | simp only [sound_mk]
    | split
    | dsimp only
    | intro _

theorem sound_issuePackage {a1} {a2} {a3} (h3 : Sound q a3) : Sound q (issuePackage a1 a2 a3) := by
  unfold issuePackage
  try dsimp only
  repeat' first
    | with_reducible assumption
    | with_reducible apply soundC_of
    | with_reducible apply soundC_takeOrder
    | with_reducible apply sound_broadcast
    | with_reducible apply sound_abortDiag
    | with_reducible apply sound_brake
    | with_reducible apply sound_toSafeHold
    | simp only [sound_mk]
    | split
    | dsimp only
    | intro _

theorem sound_faultLeg {a1} {a2} {a3} (h3 : Sound q a3) : Sound q (faultLeg a1 a2 a3) := by
  unfold faultLeg
  try dsimp only
  repeat' first
    | with_reducible assumption
    | with_reducible apply soundC_of
    | with_reducible apply sound_abortDiag
    | with_reducible apply sound_issuePackage
    | with_reducible apply sound_record
    | with_reducible apply sound_raiseRun
    | with_reducible apply sound_broadcast
    | with_reducible apply sound_toSafeHold
    | simp only [sound_mk]
    | split
    | dsimp only
    | intro _

theorem sound_startSs1 {a1} (h1 : Sound q a1) : Sound q (startSs1 a1) := by
  unfold startSs1
  try dsimp only
  repeat' first
    | with_reducible assumption
    | with_reducible apply soundC_of
    | simp only [sound_mk]
    | split
    | dsimp only
    | intro _

theorem sound_f2React {a1} {a2} (h2 : Sound q a2) : Sound q (f2React a1 a2) := by
  unfold f2React
  try dsimp only
  repeat' first
    | with_reducible assumption
    | with_reducible apply soundC_of
    | with_reducible apply sound_abortDiag
    | with_reducible apply sound_changeState
    | with_reducible apply sound_leaveByFault
    | with_reducible apply sound_toSafeHold
    | with_reducible apply sound_raiseRun
    | with_reducible apply sound_endMotion
    | with_reducible apply sound_endOpcodes
    | with_reducible apply sound_dropStart
    | with_reducible apply sound_startSs1
    | simp only [sound_mk]
    | split
    | dsimp only
    | intro _

theorem sound_f3React {a1} {a2} (h2 : Sound q a2) : Sound q (f3React a1 a2) := by
  unfold f3React
  try dsimp only
  repeat' first
    | with_reducible assumption
    | with_reducible apply soundC_of
    | with_reducible apply sound_issuePackage
    | with_reducible apply sound_raiseRun
    | simp only [sound_mk]
    | split
    | dsimp only
    | intro _

theorem sound_f4React {a1} {a2} {a3} (h3 : Sound q a3) : Sound q (f4React a1 a2 a3) := by
  unfold f4React
  try dsimp only
  repeat' first
    | with_reducible assumption
    | with_reducible apply soundC_of
    | with_reducible apply sound_issuePackage
    | with_reducible apply sound_raiseRun
    | simp only [sound_mk]
    | split
    | dsimp only
    | intro _

theorem sound_detect {a1} {a2} {a3} {a4} {a5} (h5 : Sound q a5) : Sound q (detect a1 a2 a3 a4 a5) := by
  unfold detect
  try dsimp only
  repeat' first
    | with_reducible assumption
    | with_reducible apply soundC_of
    | with_reducible apply sound_record
    | with_reducible apply sound_f2React
    | with_reducible apply sound_f3React
    | simp only [sound_mk]
    | split
    | dsimp only
    | intro _

theorem sound_degrade {a1} (h1 : Sound q a1) : Sound q (degrade a1) := by
  unfold degrade
  try dsimp only
  repeat' first
    | with_reducible assumption
    | with_reducible apply soundC_of
    | simp only [sound_mk]
    | split
    | dsimp only
    | intro _

theorem sound_onJournal {a1} {a2} (h2 : Sound q a2) : Sound q (onJournal a1 a2) := by
  unfold onJournal
  try dsimp only
  repeat' first
    | with_reducible assumption
    | with_reducible apply soundC_of
    | simp only [sound_mk]
    | split
    | dsimp only
    | intro _

theorem sound_journalPt {a1} {a2} (h2 : Sound q a2) : Sound q (journalPt a1 a2) := by
  unfold journalPt
  try dsimp only
  repeat' first
    | with_reducible assumption
    | with_reducible apply soundC_of
    | with_reducible apply sound_onJournal
    | simp only [sound_mk]
    | split
    | dsimp only
    | intro _

theorem sound_journalWord {a1} {a2} {a3} {a4} (h4 : Sound q a4) : Sound q (journalWord a1 a2 a3 a4) := by
  unfold journalWord
  try dsimp only
  repeat' first
    | with_reducible assumption
    | with_reducible apply soundC_of
    | with_reducible apply sound_onJournal
    | simp only [sound_mk]
    | split
    | dsimp only
    | intro _

theorem sound_journalSet {a1} {a2} {a3} {a4} (h4 : Sound q a4) : Sound q (journalSet a1 a2 a3 a4) := by
  unfold journalSet
  try dsimp only
  repeat' first
    | with_reducible assumption
    | with_reducible apply soundC_of
    | with_reducible apply sound_journalWord
    | with_reducible apply sound_journalPt
    | simp only [sound_mk]
    | split
    | dsimp only
    | intro _

theorem sound_journalLane {a1} {a2} {a3} {a4} (h4 : Sound q a4) : Sound q (journalLane a1 a2 a3 a4) := by
  unfold journalLane
  try dsimp only
  repeat' first
    | with_reducible assumption
    | with_reducible apply soundC_of
    | with_reducible apply sound_onJournal
    | simp only [sound_mk]
    | split
    | dsimp only
    | intro _

end Sys2Proof.Laws
end

