-- ==== Sys2Proof/Laws/KeepMailbox.lean ====
section
/-! SUPPORT. What the operations of Mailbox.lean keep (Keep.lean). -/

set_option linter.unreachableTactic false
set_option linter.unusedTactic false
set_option linter.unusedSimpArgs false

namespace Sys2Proof.Laws
open Sys2Proof Sys2Proof.Machine

variable {q : Kept}

theorem sound_writeMem {a1} {a2} {a3} (h3 : Sound q a3) : Sound q (writeMem a1 a2 a3) := by
  unfold writeMem
  exact { h3 with wf := fun m => memWrite_wf (h3.wf m) }

theorem sound_postEntry {a1} {a2} (h2 : Sound q a2) : Sound q (postEntry a1 a2) := by
  unfold postEntry
  try dsimp only
  repeat' first
    | with_reducible assumption
    | with_reducible apply soundC_of
    | with_reducible apply sound_writeMem
    | simp only [sound_mk]
    | split
    | dsimp only
    | intro _

theorem sound_countCq {a1} {a2} (h2 : Sound q a2) : Sound q (countCq a1 a2) := by
  unfold countCq
  try dsimp only
  repeat' first
    | with_reducible assumption
    | with_reducible apply soundC_of
    | simp only [sound_mk]
    | split
    | dsimp only
    | intro _

theorem sound_finish {a1} {a2} {a3} (h3 : Sound q a3) : Sound q (finish a1 a2 a3) := by
  unfold finish
  try dsimp only
  repeat' first
    | with_reducible assumption
    | with_reducible apply soundC_of
    | with_reducible apply sound_writeMem
    | with_reducible apply sound_postEntry
    | with_reducible apply sound_setTag
    | with_reducible apply sound_countCq
    | simp only [sound_mk]
    | split
    | dsimp only
    | intro _

theorem sound_finishSt {a1} {a2} {a3} (h3 : Sound q a3) : Sound q (finishSt a1 a2 a3) := by
  unfold finishSt
  try dsimp only
  repeat' first
    | with_reducible assumption
    | with_reducible apply soundC_of
    | with_reducible apply sound_finish
    | simp only [sound_mk]
    | split
    | dsimp only
    | intro _

theorem sound_postInterim {a1} {a2} (h2 : Sound q a2) : Sound q (postInterim a1 a2) := by
  unfold postInterim
  try dsimp only
  repeat' first
    | with_reducible assumption
    | with_reducible apply soundC_of
    | with_reducible apply sound_postEntry
    | with_reducible apply sound_countCq
    | with_reducible apply sound_setTag
    | simp only [sound_mk]
    | split
    | dsimp only
    | intro _

theorem sound_recordPort {a1} {a2} {a3} {a4} (h4 : Sound q a4) : Sound q (recordPort a1 a2 a3 a4) := by
  unfold recordPort
  try dsimp only
  repeat' first
    | with_reducible assumption
    | with_reducible apply soundC_of
    | with_reducible apply sound_noteClass
    | with_reducible apply sound_record
    | simp only [sound_mk]
    | split
    | dsimp only
    | intro _

theorem sound_violation {a1} {a2} {a3} (h3 : Sound q a3) : Sound q (violation a1 a2 a3) := by
  unfold violation
  try dsimp only
  repeat' first
    | with_reducible assumption
    | with_reducible apply soundC_of
    | with_reducible apply sound_postEntry
    | with_reducible apply sound_recordPort
    | simp only [sound_mk]
    | split
    | dsimp only
    | intro _

theorem sound_ringBell {a1} {a2} (h2 : Sound q a2) : Sound q (ringBell a1 a2) := by
  unfold ringBell
  try dsimp only
  repeat' first
    | with_reducible assumption
    | with_reducible apply soundC_of
    | with_reducible apply sound_setTag
    | simp only [sound_mk]
    | split
    | dsimp only
    | intro _

theorem sound_tagBusy {a1} {a2} (h2 : Sound q a2) : Sound q (tagBusy a1 a2) := by
  unfold tagBusy
  try dsimp only
  repeat' first
    | with_reducible assumption
    | with_reducible apply soundC_of
    | with_reducible apply sound_violation
    | with_reducible apply sound_recordPort
    | simp only [sound_mk]
    | split
    | dsimp only
    | intro _

theorem sound_refuse {a1} {a2} {a3} {a4} (h4 : Sound q a4) : Sound q (refuse a1 a2 a3 a4) := by
  unfold refuse
  try dsimp only
  repeat' first
    | with_reducible assumption
    | with_reducible apply soundC_of
    | with_reducible apply sound_recordPort
    | with_reducible apply sound_finish
    | simp only [sound_mk]
    | split
    | dsimp only
    | intro _

theorem sound_start {a1} {a2} (h2 : Sound q a2) : Sound q (start a1 a2) := by
  unfold start
  try dsimp only
  repeat' first
    | with_reducible assumption
    | with_reducible apply soundC_of
    | with_reducible apply sound_setTag
    | simp only [sound_mk]
    | split
    | dsimp only
    | intro _

theorem sound_oneStep {a1} {a2} {a3} {a4} (h3 : ∀ x0, Sound q x0 → Sound q (a3 x0).2) (h4 : Sound q a4) : Sound q (oneStep a1 a2 a3 a4) := by
  unfold oneStep
  try dsimp only
  repeat' first
    | with_reducible assumption
    | with_reducible apply soundC_of
    | with_reducible apply sound_start
    | with_reducible apply sound_finish
    | with_reducible apply h3
    | simp only [sound_mk]
    | split
    | dsimp only
    | intro _

theorem sound_fieldStep {a1} {a2} {a3} {a4} (h3 : ∀ x0, Sound q x0 → Sound q (a3 x0).2) (h4 : Sound q a4) : Sound q (fieldStep a1 a2 a3 a4) := by
  unfold fieldStep
  try dsimp only
  repeat' first
    | with_reducible assumption
    | with_reducible apply soundC_of
    | with_reducible apply sound_start
    | with_reducible apply sound_setTag
    | with_reducible apply h3
    | simp only [sound_mk]
    | split
    | dsimp only
    | intro _

theorem sound_longStep {a1} {a2} {a3} {a4} (h3 : ∀ x0, Sound q x0 → SoundS q (a3 x0)) (h4 : Sound q a4) : Sound q (longStep a1 a2 a3 a4) := by
  unfold longStep
  try dsimp only
  repeat' first
    | with_reducible assumption
    | with_reducible apply soundC_of
    | with_reducible apply soundS_inl
    | with_reducible apply soundS_inr
    | with_reducible apply sound_start
    | with_reducible apply sound_finish
    | with_reducible apply h3
    | simp only [sound_mk]
    | split
    | dsimp only
    | intro _
    | refine soundS_of_inl ‹_ = Sum.inl _› ?_
    | refine soundS_of_inr ‹_ = Sum.inr _› ?_

theorem sound_no {a1} {a2} (h2 : Sound q a2) : Sound q (no a1 a2).2 := by
  unfold no
  try dsimp only
  repeat' first
    | with_reducible assumption
    | with_reducible apply soundC_of
    | simp only [sound_mk]
    | split
    | dsimp only
    | intro _

theorem sound_noD {a1} {a2} {a3} (h3 : Sound q a3) : Sound q (noD a1 a2 a3).2 := by
  unfold noD
  try dsimp only
  repeat' first
    | with_reducible assumption
    | with_reducible apply soundC_of
    | simp only [sound_mk]
    | split
    | dsimp only
    | intro _

theorem sound_yes {a1} (h1 : Sound q a1) : Sound q (yes a1).2 := by
  unfold yes
  try dsimp only
  repeat' first
    | with_reducible assumption
    | with_reducible apply soundC_of
    | simp only [sound_mk]
    | split
    | dsimp only
    | intro _

theorem sound_takeOne {a1} {a2} (h2 : Sound q a2) : Sound q (takeOne a1 a2) := by
  unfold takeOne
  try dsimp only
  repeat' first
    | with_reducible assumption
    | with_reducible apply soundC_of
    | with_reducible apply sound_finish
    | with_reducible apply sound_postInterim
    | simp only [sound_mk]
    | split
    | dsimp only
    | intro _

theorem sound_takeReply {a1} {a2} (h2 : Sound q a2) : Sound q (takeReply a1 a2) := by
  unfold takeReply
  try dsimp only
  repeat' first
    | with_reducible assumption
    | with_reducible apply soundC_of
    | with_reducible apply sound_takeOne
    | with_reducible apply sound_foldl
    | simp only [sound_mk]
    | split
    | dsimp only
    | intro _

end Sys2Proof.Laws
end

