-- ==== Sys2Proof/Laws/KeepParams.lean ====
section
/-! SUPPORT. What the operations of Params.lean keep (Keep.lean). -/

set_option linter.unreachableTactic false
set_option linter.unusedTactic false
set_option linter.unusedSimpArgs false

namespace Sys2Proof.Laws
open Sys2Proof Sys2Proof.Machine

variable {q : Kept}

theorem sound_saveDevice {a1} (h1 : Sound q a1) : Sound q (saveDevice a1) := by
  unfold saveDevice
  try dsimp only
  repeat' first
    | with_reducible assumption
    | with_reducible apply soundC_of
    | simp only [sound_mk]
    | split
    | dsimp only
    | intro _

theorem sound_setCarrier {a1} (h1 : Sound q a1) : Sound q (setCarrier a1) := by
  unfold setCarrier
  try dsimp only
  repeat' first
    | with_reducible assumption
    | with_reducible apply soundC_of
    | with_reducible apply sound_closeBarrier
    | simp only [sound_mk]
    | split
    | dsimp only
    | intro _

theorem sound_sealLast {a1} (h1 : Sound q a1) : Sound q (sealLast a1) := by
  unfold sealLast
  try dsimp only
  repeat' first
    | with_reducible assumption
    | with_reducible apply soundC_of
    | with_reducible apply sound_record
    | simp only [sound_mk]
    | split
    | dsimp only
    | intro _

theorem sound_touchLast {a1} {a2} (h2 : Sound q a2) : Sound q (touchLast a1 a2) := by
  unfold touchLast
  try dsimp only
  repeat' first
    | with_reducible assumption
    | with_reducible apply soundC_of
    | simp only [sound_mk]
    | split
    | dsimp only
    | intro _

theorem sound_commitTables {a1} (h1 : Sound q a1) : Sound q (commitTables a1) := by
  unfold commitTables
  try dsimp only
  repeat' first
    | with_reducible assumption
    | with_reducible apply soundC_of
    | simp only [sound_mk]
    | split
    | dsimp only
    | intro _

theorem sound_cutFilters {a1} {a2} (h2 : Sound q a2) : Sound q (cutFilters a1 a2) := by
  unfold cutFilters
  try dsimp only
  repeat' first
    | with_reducible assumption
    | with_reducible apply soundC_of
    | simp only [sound_mk]
    | split
    | dsimp only
    | intro _

theorem sound_noteTable {a1} {a2} (h2 : Sound q a2) : Sound q (noteTable a1 a2) := by
  unfold noteTable
  try dsimp only
  repeat' first
    | with_reducible assumption
    | with_reducible apply soundC_of
    | simp only [sound_mk]
    | split
    | dsimp only
    | intro _

theorem sound_noteShift {a1} {a2} (h2 : Sound q a2) : Sound q (noteShift a1 a2) := by
  unfold noteShift
  try dsimp only
  repeat' first
    | with_reducible assumption
    | with_reducible apply soundC_of
    | simp only [sound_mk]
    | split
    | dsimp only
    | intro _

theorem sound_noteTriple {a1} {a2} (h2 : Sound q a2) : Sound q (noteTriple a1 a2) := by
  unfold noteTriple
  try dsimp only
  repeat' first
    | with_reducible assumption
    | with_reducible apply soundC_of
    | simp only [sound_mk]
    | split
    | dsimp only
    | intro _

theorem sound_noteScrub {a1} {a2} {a3} (h3 : Sound q a3) : Sound q (noteScrub a1 a2 a3) := by
  unfold noteScrub
  try dsimp only
  repeat' first
    | with_reducible assumption
    | with_reducible apply soundC_of
    | simp only [sound_mk]
    | split
    | dsimp only
    | intro _

theorem sound_noteCarrier {a1} {a2} {a3} (h3 : Sound q a3) : Sound q (noteCarrier a1 a2 a3) := by
  unfold noteCarrier
  try dsimp only
  repeat' first
    | with_reducible assumption
    | with_reducible apply soundC_of
    | with_reducible apply sound_setCarrier
    | simp only [sound_mk]
    | split
    | dsimp only
    | intro _

theorem sound_applyWr {a1} {a2} (h1 : Sound q a1) : Sound q (applyWr a1 a2) := by
  unfold applyWr
  try dsimp only
  repeat' first
    | with_reducible assumption
    | with_reducible apply soundC_of
    | with_reducible apply sound_touchLast
    | with_reducible apply sound_sealLast
    | with_reducible apply sound_commitTables
    | with_reducible apply sound_cutFilters
    | with_reducible apply sound_noteTriple
    | with_reducible apply sound_noteShift
    | with_reducible apply sound_noteScrub
    | with_reducible apply sound_noteCarrier
    | with_reducible apply sound_noteTable
    | with_reducible apply sound_setPar
    | with_reducible apply sound_saveDevice
    | simp only [sound_mk]
    | split
    | dsimp only
    | intro _

theorem sound_writeAll {a1} {a2} (h2 : Sound q a2) : Sound q (writeAll a1 a2).2 := by
  unfold writeAll
  try dsimp only
  repeat' first
    | with_reducible assumption
    | with_reducible apply soundC_of
    | with_reducible apply sound_record
    | with_reducible apply sound_applyWr
    | with_reducible apply sound_yes
    | with_reducible apply sound_foldl
    | simp only [sound_mk]
    | split
    | dsimp only
    | intro _
    | refine sound_of_pair ‹_ = (_, _)› ?_

theorem sound_bothBanks {a1} (h1 : Sound q a1) : Sound q (bothBanks a1) := by
  unfold bothBanks
  try dsimp only
  repeat' first
    | with_reducible assumption
    | with_reducible apply soundC_of
    | simp only [sound_mk]
    | split
    | dsimp only
    | intro _

theorem sound_restoreDefaults {a1} {a2} (h2 : Sound q a2) : Sound q (restoreDefaults a1 a2) := by
  unfold restoreDefaults
  try dsimp only
  repeat' first
    | with_reducible assumption
    | with_reducible apply soundC_of
    | with_reducible apply sound_bothBanks
    | with_reducible apply sound_setCarrier
    | with_reducible apply sound_record
    | simp only [sound_mk]
    | split
    | dsimp only
    | intro _

end Sys2Proof.Laws
end

