-- ==== Sys2Proof/Laws/KeepCommands.lean ====
section
/-! SUPPORT. What the operations of Commands.lean keep (Keep.lean). -/

set_option linter.unreachableTactic false
set_option linter.unusedTactic false
set_option linter.unusedSimpArgs false

namespace Sys2Proof.Laws
open Sys2Proof Sys2Proof.Machine

variable {q : Kept}

theorem sound_readHeader {a1} {a2} (h2 : Sound q a2) : Sound q (readHeader a1 a2) := by
  unfold readHeader
  try dsimp only
  repeat' first
    | with_reducible assumption
    | with_reducible apply soundC_of
    | with_reducible apply sound_setTag
    | simp only [sound_mk]
    | split
    | dsimp only
    | intro _

theorem sound_admitCmd {a1} {a2} (h2 : Sound q a2) : Sound q (admitCmd a1 a2) := by
  unfold admitCmd
  try dsimp only
  repeat' first
    | with_reducible assumption
    | with_reducible apply soundC_of
    | with_reducible apply sound_setTag
    | simp only [sound_mk]
    | split
    | dsimp only
    | intro _

theorem sound_execCommandAdmission {a1} (h1 : Sound q a1) : SoundO q (execCommandAdmission a1) := by
  unfold execCommandAdmission
  try dsimp only
  repeat' first
    | with_reducible assumption
    | with_reducible apply soundC_of
    | with_reducible apply soundO_ok
    | with_reducible apply sound_refuse
    | with_reducible apply sound_readHeader
    | with_reducible apply sound_admitCmd
    | simp only [sound_mk]
    | split
    | dsimp only
    | intro _

theorem sound_execFieldSideReply {a1} {a2} (h2 : Sound q a2) : SoundO q (execFieldSideReply a1 a2) := by
  unfold execFieldSideReply
  try dsimp only
  repeat' first
    | with_reducible assumption
    | with_reducible apply soundC_of
    | with_reducible apply soundO_ok
    | with_reducible apply sound_takeReply
    | simp only [sound_mk]
    | split
    | dsimp only
    | intro _

theorem sound_execIrqCoalescingTimeout {a1} (h1 : Sound q a1) : SoundO q (execIrqCoalescingTimeout a1) := by
  unfold execIrqCoalescingTimeout
  try dsimp only
  repeat' first
    | with_reducible assumption
    | with_reducible apply soundC_of
    | with_reducible apply soundO_ok
    | simp only [sound_mk]
    | split
    | dsimp only
    | intro _

theorem sound_inStates {a1} {a2} {a3} (h2 : ∀ x0, Sound q x0 → Sound q (a2 x0).2) (h3 : Sound q a3) : Sound q (inStates a1 a2 a3).2 := by
  unfold inStates
  try dsimp only
  repeat' first
    | with_reducible assumption
    | with_reducible apply soundC_of
    | with_reducible apply sound_no
    | with_reducible apply h2
    | simp only [sound_mk]
    | split
    | dsimp only
    | intro _
    | refine sound_of_pair ‹_ = (_, _)› ?_

theorem sound_execNop {a1} {a2} (h2 : Sound q a2) : SoundO q (execNop a1 a2) := by
  unfold execNop
  try dsimp only
  repeat' first
    | with_reducible assumption
    | with_reducible apply soundC_of
    | with_reducible apply soundO_ok
    | with_reducible apply sound_oneStep
    | with_reducible apply sound_yes
    | simp only [sound_mk]
    | split
    | dsimp only
    | intro _
    | refine sound_of_pair ‹_ = (_, _)› ?_

theorem sound_paramRead {a1} {a2} (h2 : Sound q a2) : Sound q (paramRead a1 a2).2 := by
  unfold paramRead
  try dsimp only
  repeat' first
    | with_reducible assumption
    | with_reducible apply soundC_of
    | with_reducible apply sound_noD
    | simp only [sound_mk]
    | split
    | dsimp only
    | intro _
    | refine sound_of_pair ‹_ = (_, _)› ?_

theorem sound_stepWhere {a1} {a2} {a3} {a4} (h3 : ∀ x0, Sound q x0 → Sound q (a3 x0).2) (h4 : Sound q a4) : Sound q (stepWhere a1 a2 a3 a4) := by
  unfold stepWhere
  try dsimp only
  repeat' first
    | with_reducible assumption
    | with_reducible apply soundC_of
    | with_reducible apply sound_fieldStep
    | with_reducible apply sound_oneStep
    | with_reducible apply h3
    | simp only [sound_mk]
    | split
    | dsimp only
    | intro _

theorem sound_execParamRead {a1} {a2} (h2 : Sound q a2) : SoundO q (execParamRead a1 a2) := by
  unfold execParamRead
  try dsimp only
  repeat' first
    | with_reducible assumption
    | with_reducible apply soundC_of
    | with_reducible apply soundO_ok
    | with_reducible apply sound_stepWhere
    | with_reducible apply sound_paramRead
    | simp only [sound_mk]
    | split
    | dsimp only
    | intro _
    | refine sound_of_pair ‹_ = (_, _)› ?_

theorem sound_paramWrite {a1} {a2} (h2 : Sound q a2) : Sound q (paramWrite a1 a2).2 := by
  unfold paramWrite
  try dsimp only
  repeat' first
    | with_reducible assumption
    | with_reducible apply soundC_of
    | with_reducible apply sound_writeAll
    | simp only [sound_mk]
    | split
    | dsimp only
    | intro _
    | refine sound_of_pair ‹_ = (_, _)› ?_

theorem sound_execParamWrite {a1} {a2} (h2 : Sound q a2) : SoundO q (execParamWrite a1 a2) := by
  unfold execParamWrite
  try dsimp only
  repeat' first
    | with_reducible assumption
    | with_reducible apply soundC_of
    | with_reducible apply soundO_ok
    | with_reducible apply sound_stepWhere
    | with_reducible apply sound_paramWrite
    | simp only [sound_mk]
    | split
    | dsimp only
    | intro _
    | refine sound_of_pair ‹_ = (_, _)› ?_

theorem sound_blockWrite {a1} {a2} (h2 : Sound q a2) : Sound q (blockWrite a1 a2).2 := by
  unfold blockWrite
  try dsimp only
  repeat' first
    | with_reducible assumption
    | with_reducible apply soundC_of
    | with_reducible apply sound_no
    | with_reducible apply sound_writeAll
    | simp only [sound_mk]
    | split
    | dsimp only
    | intro _
    | refine sound_of_pair ‹_ = (_, _)› ?_

theorem sound_execBlockWrite {a1} {a2} (h2 : Sound q a2) : SoundO q (execBlockWrite a1 a2) := by
  unfold execBlockWrite
  try dsimp only
  repeat' first
    | with_reducible assumption
    | with_reducible apply soundC_of
    | with_reducible apply soundO_ok
    | with_reducible apply sound_stepWhere
    | with_reducible apply sound_blockWrite
    | simp only [sound_mk]
    | split
    | dsimp only
    | intro _
    | refine sound_of_pair ‹_ = (_, _)› ?_

theorem sound_writeCmd {a1} {a2} (h2 : Sound q a2) : Sound q (writeCmd a1 a2) := by
  unfold writeCmd
  try dsimp only
  repeat' first
    | with_reducible assumption
    | with_reducible apply soundC_of
    | with_reducible apply sound_stepWhere
    | with_reducible apply sound_blockWrite
    | with_reducible apply sound_paramWrite
    | simp only [sound_mk]
    | split
    | dsimp only
    | intro _
    | refine sound_of_pair ‹_ = (_, _)› ?_

theorem sound_execLastConfirmWrite {a1} {a2} (h2 : Sound q a2) : SoundO q (execLastConfirmWrite a1 a2) := by
  unfold execLastConfirmWrite
  try dsimp only
  repeat' first
    | with_reducible assumption
    | with_reducible apply soundC_of
    | with_reducible apply soundO_ok
    | with_reducible apply sound_writeCmd
    | simp only [sound_mk]
    | split
    | dsimp only
    | intro _

theorem sound_execTableCommitWrite {a1} {a2} (h2 : Sound q a2) : SoundO q (execTableCommitWrite a1 a2) := by
  unfold execTableCommitWrite
  try dsimp only
  repeat' first
    | with_reducible assumption
    | with_reducible apply soundC_of
    | with_reducible apply soundO_ok
    | with_reducible apply sound_writeCmd
    | simp only [sound_mk]
    | split
    | dsimp only
    | intro _

theorem sound_execParamDesc {a1} {a2} (h2 : Sound q a2) : SoundO q (execParamDesc a1 a2) := by
  unfold execParamDesc
  try dsimp only
  repeat' first
    | with_reducible assumption
    | with_reducible apply soundC_of
    | with_reducible apply soundO_ok
    | with_reducible apply sound_oneStep
    | simp only [sound_mk]
    | split
    | dsimp only
    | intro _

theorem sound_execBlockRead {a1} {a2} (h2 : Sound q a2) : SoundO q (execBlockRead a1 a2) := by
  unfold execBlockRead
  try dsimp only
  repeat' first
    | with_reducible assumption
    | with_reducible apply soundC_of
    | with_reducible apply soundO_ok
    | with_reducible apply sound_stepWhere
    | with_reducible apply sound_no
    | simp only [sound_mk]
    | split
    | dsimp only
    | intro _
    | refine sound_of_pair ‹_ = (_, _)› ?_

theorem sound_execStore {a1} {a2} (h2 : Sound q a2) : SoundO q (execStore a1 a2) := by
  unfold execStore
  try dsimp only
  repeat' first
    | with_reducible assumption
    | with_reducible apply soundC_of
    | with_reducible apply soundO_ok
    | with_reducible apply soundS_inl
    | with_reducible apply soundS_inr
    | with_reducible apply sound_longStep
    | with_reducible apply sound_no
    | simp only [sound_mk]
    | split
    | dsimp only
    | intro _
    | refine sound_of_pair ‹_ = (_, _)› ?_

theorem sound_storeHeader {a1} {a2} (h2 : Sound q a2) : Sound q (storeHeader a1 a2) := by
  unfold storeHeader
  try dsimp only
  repeat' first
    | with_reducible assumption
    | with_reducible apply soundC_of
    | with_reducible apply sound_finishSt
    | with_reducible apply sound_record
    | with_reducible apply sound_foldl
    | simp only [sound_mk]
    | split
    | dsimp only
    | intro _

theorem sound_execRestoreDefaults {a1} {a2} (h2 : Sound q a2) : SoundO q (execRestoreDefaults a1 a2) := by
  unfold execRestoreDefaults
  try dsimp only
  repeat' first
    | with_reducible assumption
    | with_reducible apply soundC_of
    | with_reducible apply soundO_ok
    | with_reducible apply sound_fieldStep
    | with_reducible apply sound_no
    | with_reducible apply sound_yes
    | with_reducible apply sound_restoreDefaults
    | simp only [sound_mk]
    | split
    | dsimp only
    | intro _
    | refine sound_of_pair ‹_ = (_, _)› ?_

theorem sound_execLastCompute {a1} {a2} (h2 : Sound q a2) : SoundO q (execLastCompute a1 a2) := by
  unfold execLastCompute
  try dsimp only
  repeat' first
    | with_reducible assumption
    | with_reducible apply soundC_of
    | with_reducible apply soundO_ok
    | with_reducible apply soundS_inl
    | with_reducible apply soundS_inr
    | with_reducible apply sound_longStep
    | with_reducible apply sound_no
    | simp only [sound_mk]
    | split
    | dsimp only
    | intro _
    | refine sound_of_pair ‹_ = (_, _)› ?_

theorem sound_lastComputeDone {a1} {a2} (h2 : Sound q a2) : Sound q (lastComputeDone a1 a2) := by
  unfold lastComputeDone
  try dsimp only
  repeat' first
    | with_reducible assumption
    | with_reducible apply soundC_of
    | with_reducible apply sound_finish
    | simp only [sound_mk]
    | split
    | dsimp only
    | intro _

theorem sound_execLastImageRead {a1} {a2} (h2 : Sound q a2) : SoundO q (execLastImageRead a1 a2) := by
  unfold execLastImageRead
  try dsimp only
  repeat' first
    | with_reducible assumption
    | with_reducible apply soundC_of
    | with_reducible apply soundO_ok
    | with_reducible apply sound_oneStep
    | with_reducible apply sound_no
    | simp only [sound_mk]
    | split
    | dsimp only
    | intro _
    | refine sound_of_pair ‹_ = (_, _)› ?_

theorem sound_execUnseal {a1} {a2} (h2 : Sound q a2) : SoundO q (execUnseal a1 a2) := by
  unfold execUnseal
  try dsimp only
  repeat' first
    | with_reducible assumption
    | with_reducible apply soundC_of
    | with_reducible apply soundO_ok
    | with_reducible apply sound_fieldStep
    | with_reducible apply sound_no
    | with_reducible apply sound_yes
    | with_reducible apply sound_record
    | simp only [sound_mk]
    | split
    | dsimp only
    | intro _
    | refine sound_of_pair ‹_ = (_, _)› ?_

theorem sound_setSlot {a1} {a2} {a3} (h3 : Sound q a3) : Sound q (setSlot a1 a2 a3) := by
  unfold setSlot
  try dsimp only
  repeat' first
    | with_reducible assumption
    | with_reducible apply soundC_of
    | simp only [sound_mk]
    | split
    | dsimp only
    | intro _

theorem sound_execFwStageBegin {a1} {a2} (h2 : Sound q a2) : SoundO q (execFwStageBegin a1 a2) := by
  unfold execFwStageBegin
  try dsimp only
  repeat' first
    | with_reducible assumption
    | with_reducible apply soundC_of
    | with_reducible apply soundO_ok
    | with_reducible apply soundS_inl
    | with_reducible apply soundS_inr
    | with_reducible apply sound_longStep
    | with_reducible apply sound_no
    | with_reducible apply sound_setSlot
    | simp only [sound_mk]
    | split
    | dsimp only
    | intro _
    | refine sound_of_pair ‹_ = (_, _)› ?_

theorem sound_execFwStageData {a1} {a2} (h2 : Sound q a2) : SoundO q (execFwStageData a1 a2) := by
  unfold execFwStageData
  try dsimp only
  repeat' first
    | with_reducible assumption
    | with_reducible apply soundC_of
    | with_reducible apply soundO_ok
    | with_reducible apply sound_oneStep
    | with_reducible apply sound_no
    | with_reducible apply sound_yes
    | simp only [sound_mk]
    | split
    | dsimp only
    | intro _
    | refine sound_of_pair ‹_ = (_, _)› ?_

theorem sound_execFwStageEnd {a1} {a2} {a3} (h3 : Sound q a3) : SoundO q (execFwStageEnd a1 a2 a3) := by
  unfold execFwStageEnd
  try dsimp only
  repeat' first
    | with_reducible assumption
    | with_reducible apply soundC_of
    | with_reducible apply soundO_ok
    | with_reducible apply soundS_inl
    | with_reducible apply soundS_inr
    | with_reducible apply sound_longStep
    | with_reducible apply sound_no
    | simp only [sound_mk]
    | split
    | dsimp only
    | intro _
    | refine sound_of_pair ‹_ = (_, _)› ?_

theorem sound_stageVerified {a1} {a2} (h2 : Sound q a2) : Sound q (stageVerified a1 a2) := by
  unfold stageVerified
  try dsimp only
  repeat' first
    | with_reducible assumption
    | with_reducible apply soundC_of
    | with_reducible apply sound_setSlot
    | with_reducible apply sound_finish
    | with_reducible apply sound_record
    | simp only [sound_mk]
    | split
    | dsimp only
    | intro _

theorem sound_execFwActivate {a1} {a2} (h2 : Sound q a2) : SoundO q (execFwActivate a1 a2) := by
  unfold execFwActivate
  try dsimp only
  repeat' first
    | with_reducible assumption
    | with_reducible apply soundC_of
    | with_reducible apply soundO_ok
    | with_reducible apply sound_oneStep
    | with_reducible apply sound_no
    | with_reducible apply sound_yes
    | with_reducible apply sound_record
    | simp only [sound_mk]
    | split
    | dsimp only
    | intro _
    | refine sound_of_pair ‹_ = (_, _)› ?_

theorem sound_setCur {a1} {a2} {a3} (h3 : Sound q a3) : Sound q (setCur a1 a2 a3) := by
  unfold setCur
  try dsimp only
  repeat' first
    | with_reducible assumption
    | with_reducible apply soundC_of
    | simp only [sound_mk]
    | split
    | dsimp only
    | intro _

theorem sound_execEventRead {a1} {a2} (h2 : Sound q a2) : SoundO q (execEventRead a1 a2) := by
  unfold execEventRead
  try dsimp only
  repeat' first
    | with_reducible assumption
    | with_reducible apply soundC_of
    | with_reducible apply soundO_ok
    | with_reducible apply sound_oneStep
    | with_reducible apply sound_no
    | with_reducible apply sound_setCur
    | simp only [sound_mk]
    | split
    | dsimp only
    | intro _
    | refine sound_of_pair ‹_ = (_, _)› ?_

theorem sound_clearLog {a1} {a2} (h2 : Sound q a2) : Sound q (clearLog a1 a2) := by
  have h := h2
  obtain ⟨hq, hw, ht, hc, hs, hv, hp, hf, hl, g1, g2, g3, g4, g5⟩ := h
  unfold clearLog nextSeq
  dsimp only
  repeat' first
    | with_reducible assumption
    | with_reducible apply soundC_of
    | with_reducible apply sound_putV
    | with_reducible apply sound_noteClass
    | with_reducible apply sound_record
    | simp only [sound_mk]
    | split
  all_goals constructor <;> first | with_reducible assumption | (simp; done) | (intro m; have := hs m; omega)

theorem sound_execEventClear {a1} {a2} (h2 : Sound q a2) : SoundO q (execEventClear a1 a2) := by
  unfold execEventClear
  try dsimp only
  repeat' first
    | with_reducible assumption
    | with_reducible apply soundC_of
    | with_reducible apply soundO_ok
    | with_reducible apply sound_oneStep
    | with_reducible apply sound_yes
    | with_reducible apply sound_clearLog
    | with_reducible apply sound_no
    | simp only [sound_mk]
    | split
    | dsimp only
    | intro _
    | refine sound_of_pair ‹_ = (_, _)› ?_

theorem sound_execRecordArrival {a1} (h1 : Sound q a1) : SoundO q (execRecordArrival a1) := by
  have h := h1
  obtain ⟨hq, hw, ht, hc, hs, hv, hp, hf, hl, g1, g2, g3, g4, g5⟩ := h
  unfold execRecordArrival
  dsimp only
  repeat' first
    | with_reducible assumption
    | with_reducible apply soundC_of
    | with_reducible apply soundO_ok
    | with_reducible apply sound_arrive
    | with_reducible apply sound_noteClass
    | simp only [sound_mk]
    | split
  all_goals exact { h1 with field := fun m => by have := hf m; simp_all; omega }

theorem sound_execFcRecordQueueRoom {a1} (h1 : Sound q a1) : SoundO q (execFcRecordQueueRoom a1) := by
  unfold execFcRecordQueueRoom
  try dsimp only
  repeat' first
    | with_reducible assumption
    | with_reducible apply soundC_of
    | with_reducible apply soundO_ok
    | with_reducible apply sound_record
    | simp only [sound_mk]
    | split
    | dsimp only
    | intro _

theorem sound_putP {a1} {a2} (h2 : Sound q a2) : Sound q (putP a1 a2) := by
  have h := h2
  obtain ⟨hq, hw, ht, hc, hs, hv, hp, hf, hl, g1, g2, g3, g4, g5⟩ := h
  unfold putP
  try unfold nextSeq
  dsimp only
  repeat' first
    | with_reducible assumption
    | with_reducible apply soundC_of
    | with_reducible apply sound_putV
    | with_reducible apply sound_noteClass
    | simp only [sound_mk]
    | split
  all_goals
    constructor <;>
      first
      | with_reducible assumption
      | (intro m
         specialize hs m; specialize hv m; specialize hp m; specialize hf m; specialize hl m
         first | omega | (simp only [List.length_append, List.length_singleton, beq_iff_eq] at *; omega))

theorem sound_countTail {a1} (h1 : Sound q a1) : Sound q (countTail a1) := by
  unfold countTail
  split
  · split
    · rename_i hlt
      exact { h1 with per := fun _ => by simp only [List.length_append, List.length_singleton]; omega }
    · exact h1
  · exact h1

theorem sound_execPersistentLogWrite {a1} {a2} (h2 : Sound q a2) : SoundO q (execPersistentLogWrite a1 a2) := by
  unfold execPersistentLogWrite
  apply soundO_ok
  have hc := sound_countTail h2
  dsimp only
  split
  · exact hc
  · rename_i e r t hpq
    have hw : Sound q { countTail a2 with evt := { (countTail a2).evt with pq := t } } :=
      { hc with waiting := fun m => by have := hc.waiting m; rw [hpq, List.length_cons] at this; dsimp only; omega }
    split
    · exact hw
    · exact sound_putP hw

end Sys2Proof.Laws
end

