-- ==== Sys2Proof/Laws/KeepLockstep.lean ====
section
/-! SUPPORT. What the operations of Lockstep.lean keep (Keep.lean). -/

set_option linter.unreachableTactic false
set_option linter.unusedTactic false
set_option linter.unusedSimpArgs false

namespace Sys2Proof.Laws
open Sys2Proof Sys2Proof.Machine

variable {q : Kept}

theorem sound_setLe {a1} {a2} {a3} (h3 : Sound q a3) : Sound q (setLe a1 a2 a3) := by
  unfold setLe
  try dsimp only
  repeat' first
    | with_reducible assumption
    | with_reducible apply soundC_of
    | simp only [sound_mk]
    | split
    | dsimp only
    | intro _

theorem sound_leRestart {a1} {a2} {a3} (h3 : Sound q a3) : Sound q (leRestart a1 a2 a3) := by
  unfold leRestart
  try dsimp only
  repeat' first
    | with_reducible assumption
    | with_reducible apply soundC_of
    | with_reducible apply sound_setLe
    | simp only [sound_mk]
    | split
    | dsimp only
    | intro _

theorem sound_execLeLockstepMismatch {a1} {a2} {a3} (h3 : Sound q a3) : SoundO q (execLeLockstepMismatch a1 a2 a3) := by
  unfold execLeLockstepMismatch
  try dsimp only
  repeat' first
    | with_reducible assumption
    | with_reducible apply soundC_of
    | with_reducible apply soundO_ok
    | with_reducible apply sound_record
    | with_reducible apply sound_leRestart
    | with_reducible apply sound_setLe
    | simp only [sound_mk]
    | split
    | dsimp only
    | intro _

theorem sound_execLePairPersistent {a1} {a2} (h2 : Sound q a2) : SoundO q (execLePairPersistent a1 a2) := by
  unfold execLePairPersistent
  try dsimp only
  repeat' first
    | with_reducible assumption
    | with_reducible apply soundC_of
    | with_reducible apply soundO_ok
    | with_reducible apply sound_detect
    | with_reducible apply sound_degrade
    | with_reducible apply sound_setLe
    | simp only [sound_mk]
    | split
    | dsimp only
    | intro _

theorem sound_execCpLockstepMismatch {a1} (h1 : Sound q a1) : SoundO q (execCpLockstepMismatch a1) := by
  have h := h1
  obtain ⟨hq, hw, ht, hc, hs, hv, hp, hf, hl, g1, g2, g3, g4, g5⟩ := h
  unfold execCpLockstepMismatch
  apply soundO_ok
  split
  · exact h1
  · exact sound_record { h1 with log := fun _ => rfl }

theorem sound_moveHead {a1} {a2} (h2 : Sound q a2) : Sound q (moveHead a1 a2) := by
  have h := h2
  obtain ⟨hq, hw, ht, hc, hs, hv, hp, hf, hl, g1, g2, g3, g4, g5⟩ := h
  refine { h2 with log := fun m => ?_ }
  unfold moveHead
  dsimp only
  rw [replay_append, ht m]
  exact replay_diff (by simp) _

theorem sound_execCpRestartDone {a1} (h1 : Sound q a1) : SoundO q (execCpRestartDone a1) := by
  unfold execCpRestartDone
  try dsimp only
  repeat' first
    | with_reducible assumption
    | with_reducible apply soundC_of
    | with_reducible apply soundO_ok
    | with_reducible apply sound_moveHead
    | with_reducible apply sound_foldl
    | simp only [sound_mk]
    | split
    | dsimp only
    | intro _

theorem sound_execCpPairPersistent {a1} (h1 : Sound q a1) : SoundO q (execCpPairPersistent a1) := by
  unfold execCpPairPersistent
  try dsimp only
  repeat' first
    | with_reducible assumption
    | with_reducible apply soundC_of
    | with_reducible apply soundO_ok
    | with_reducible apply sound_detect
    | with_reducible apply sound_degrade
    | simp only [sound_mk]
    | split
    | dsimp only
    | intro _

theorem sound_dropTx {a1} {a2} {a3} {a4} {a5} (h4 : Sound q a4) : Sound q (dropTx a1 a2 a3 a4 a5) := by
  unfold dropTx
  try dsimp only
  repeat' first
    | with_reducible assumption
    | with_reducible apply soundC_of
    | with_reducible apply sound_answer
    | simp only [sound_mk]
    | split
    | dsimp only
    | intro _

theorem sound_stopChannel {a1} {a2} (h2 : Sound q a2) : Sound q (stopChannel a1 a2) := by
  unfold stopChannel
  try dsimp only
  repeat' first
    | with_reducible assumption
    | with_reducible apply soundC_of
    | with_reducible apply sound_dropTx
    | with_reducible apply sound_answer
    | with_reducible apply sound_foldl
    | simp only [sound_mk]
    | split
    | dsimp only
    | intro _

theorem sound_execCrystalClockFault {a1} (h1 : Sound q a1) : SoundO q (execCrystalClockFault a1) := by
  unfold execCrystalClockFault
  try dsimp only
  repeat' first
    | with_reducible assumption
    | with_reducible apply soundC_of
    | with_reducible apply soundO_ok
    | with_reducible apply sound_detect
    | with_reducible apply sound_stopChannel
    | simp only [sound_mk]
    | split
    | dsimp only
    | intro _

theorem sound_execReferenceClockLost {a1} (h1 : Sound q a1) : SoundO q (execReferenceClockLost a1) := by
  unfold execReferenceClockLost
  try dsimp only
  repeat' first
    | with_reducible assumption
    | with_reducible apply soundC_of
    | with_reducible apply soundO_ok
    | with_reducible apply sound_detect
    | simp only [sound_mk]
    | split
    | dsimp only
    | intro _

theorem sound_execPllClockFault {a1} {a2} (h2 : Sound q a2) : SoundO q (execPllClockFault a1 a2) := by
  unfold execPllClockFault
  try dsimp only
  repeat' first
    | with_reducible assumption
    | with_reducible apply soundC_of
    | with_reducible apply soundO_ok
    | with_reducible apply sound_detect
    | simp only [sound_mk]
    | split
    | dsimp only
    | intro _

end Sys2Proof.Laws
end

