-- ==== Sys2Proof/Laws/KeepJexlink.lean ====
section
/-! SUPPORT. What the operations of Jexlink.lean keep (Keep.lean). -/

set_option linter.unreachableTactic false
set_option linter.unusedTactic false
set_option linter.unusedSimpArgs false

namespace Sys2Proof.Laws
open Sys2Proof Sys2Proof.Machine

variable {q : Kept}

theorem sound_setLink {a1} {a2} {a3} (h3 : Sound q a3) : Sound q (setLink a1 a2 a3) := by
  unfold setLink
  try dsimp only
  repeat' first
    | with_reducible assumption
    | with_reducible apply soundC_of
    | simp only [sound_mk]
    | split
    | dsimp only
    | intro _

theorem sound_preTimeout {a1} (h1 : Sound q a1) : Sound q (preTimeout a1) := by
  unfold preTimeout
  try dsimp only
  repeat' first
    | with_reducible assumption
    | with_reducible apply soundC_of
    | with_reducible apply sound_detect
    | simp only [sound_mk]
    | split
    | dsimp only
    | intro _

theorem sound_linkReaction {a1} {a2} (h2 : Sound q a2) : Sound q (linkReaction a1 a2) := by
  unfold linkReaction
  try dsimp only
  repeat' first
    | with_reducible assumption
    | with_reducible apply soundC_of
    | with_reducible apply sound_detect
    | with_reducible apply sound_preTimeout
    | with_reducible apply sound_faultLeg
    | with_reducible apply sound_record
    | simp only [sound_mk]
    | split
    | dsimp only
    | intro _

theorem sound_linkIsLost {a1} {a2} (h2 : Sound q a2) : Sound q (linkIsLost a1 a2) := by
  unfold linkIsLost
  try dsimp only
  repeat' first
    | with_reducible assumption
    | with_reducible apply soundC_of
    | with_reducible apply sound_linkReaction
    | with_reducible apply sound_setLink
    | simp only [sound_mk]
    | split
    | dsimp only
    | intro _

theorem sound_execLinkLost {a1} {a2} (h2 : Sound q a2) : SoundO q (execLinkLost a1 a2) := by
  unfold execLinkLost
  try dsimp only
  repeat' first
    | with_reducible assumption
    | with_reducible apply soundC_of
    | with_reducible apply soundO_ok
    | with_reducible apply sound_linkIsLost
    | simp only [sound_mk]
    | split
    | dsimp only
    | intro _

theorem sound_failOutstanding {a1} (h1 : Sound q a1) : Sound q (failOutstanding a1) := by
  unfold failOutstanding
  try dsimp only
  repeat' first
    | with_reducible assumption
    | with_reducible apply soundC_of
    | with_reducible apply sound_answer
    | with_reducible apply sound_foldl
    | simp only [sound_mk]
    | split
    | dsimp only
    | intro _

theorem sound_execHbLinkLoss {a1} (h1 : Sound q a1) : SoundO q (execHbLinkLoss a1) := by
  unfold execHbLinkLoss
  try dsimp only
  repeat' first
    | with_reducible assumption
    | with_reducible apply soundC_of
    | with_reducible apply soundO_ok
    | with_reducible apply sound_failOutstanding
    | with_reducible apply sound_brake
    | simp only [sound_mk]
    | split
    | dsimp only
    | intro _

theorem sound_countErrors {a1} {a2} {a3} {a4} (h4 : Sound q a4) : Sound q (countErrors a1 a2 a3 a4) := by
  unfold countErrors
  try dsimp only
  repeat' first
    | with_reducible assumption
    | with_reducible apply soundC_of
    | simp only [sound_mk]
    | split
    | dsimp only
    | intro _

theorem sound_execLaneErrorLimit {a1} {a2} {a3} {a4} (h4 : Sound q a4) : SoundO q (execLaneErrorLimit a1 a2 a3 a4) := by
  unfold execLaneErrorLimit
  try dsimp only
  repeat' first
    | with_reducible assumption
    | with_reducible apply soundC_of
    | with_reducible apply soundO_ok
    | with_reducible apply sound_countErrors
    | with_reducible apply sound_record
    | with_reducible apply sound_setLink
    | simp only [sound_mk]
    | split
    | dsimp only
    | intro _

theorem sound_execLaneTrainingDone {a1} {a2} {a3} {a4} (h4 : Sound q a4) : SoundO q (execLaneTrainingDone a1 a2 a3 a4) := by
  unfold execLaneTrainingDone
  try dsimp only
  repeat' first
    | with_reducible assumption
    | with_reducible apply soundC_of
    | with_reducible apply soundO_ok
    | with_reducible apply sound_setLink
    | with_reducible apply sound_record
    | with_reducible apply sound_degrade
    | with_reducible apply sound_linkReaction
    | simp only [sound_mk]
    | split
    | dsimp only
    | intro _

theorem sound_setCopy {a1} {a2} {a3} (h3 : Sound q a3) : Sound q (setCopy a1 a2 a3) := by
  unfold setCopy
  try dsimp only
  repeat' first
    | with_reducible assumption
    | with_reducible apply soundC_of
    | simp only [sound_mk]
    | split
    | dsimp only
    | intro _

theorem sound_execPtDisciplineExchange {a1} {a2} {a3} (h3 : Sound q a3) : SoundO q (execPtDisciplineExchange a1 a2 a3) := by
  unfold execPtDisciplineExchange
  try dsimp only
  repeat' first
    | with_reducible assumption
    | with_reducible apply soundC_of
    | with_reducible apply soundO_ok
    | with_reducible apply sound_takeFree
    | with_reducible apply sound_setCopy
    | with_reducible apply sound_detect
    | simp only [sound_mk]
    | split
    | dsimp only
    | intro _
    | refine sound_of_pair ‹_ = (_, _)› ?_

theorem sound_execPtOffsetWarning {a1} {a2} (h2 : Sound q a2) : SoundO q (execPtOffsetWarning a1 a2) := by
  unfold execPtOffsetWarning
  try dsimp only
  repeat' first
    | with_reducible assumption
    | with_reducible apply soundC_of
    | with_reducible apply soundO_ok
    | with_reducible apply sound_detect
    | with_reducible apply sound_setCopy
    | simp only [sound_mk]
    | split
    | dsimp only
    | intro _

theorem sound_checkPeer {a1} {a2} (h1 : Sound q a1) : Sound q (checkPeer a1 a2) := by
  unfold checkPeer
  try dsimp only
  repeat' first
    | with_reducible assumption
    | with_reducible apply soundC_of
    | with_reducible apply sound_linkIsLost
    | simp only [sound_mk]
    | split
    | dsimp only
    | intro _

theorem sound_execBarrierFailed {a1} (h1 : Sound q a1) : SoundO q (execBarrierFailed a1) := by
  unfold execBarrierFailed
  try dsimp only
  repeat' first
    | with_reducible assumption
    | with_reducible apply soundC_of
    | with_reducible apply soundO_ok
    | with_reducible apply sound_checkPeer
    | with_reducible apply sound_record
    | with_reducible apply sound_foldl
    | simp only [sound_mk]
    | split
    | dsimp only
    | intro _

theorem sound_execSnapshot {a1} {a2} (h2 : Sound q a2) : SoundO q (execSnapshot a1 a2) := by
  unfold execSnapshot
  try dsimp only
  repeat' first
    | with_reducible assumption
    | with_reducible apply soundC_of
    | with_reducible apply soundO_ok
    | with_reducible apply soundS_inl
    | with_reducible apply soundS_inr
    | with_reducible apply sound_longStep
    | with_reducible apply sound_no
    | with_reducible apply sound_record
    | simp only [sound_mk]
    | split
    | dsimp only
    | intro _
    | refine sound_of_pair ‹_ = (_, _)› ?_

theorem sound_execVfPowerFailWarning {a1} (h1 : Sound q a1) : SoundO q (execVfPowerFailWarning a1) := by
  unfold execVfPowerFailWarning
  try dsimp only
  repeat' first
    | with_reducible assumption
    | with_reducible apply soundC_of
    | with_reducible apply soundO_ok
    | with_reducible apply sound_f4React
    | with_reducible apply sound_record
    | simp only [sound_mk]
    | split
    | dsimp only
    | intro _

end Sys2Proof.Laws
end

