-- ==== Sys2Proof/Laws/KeepSafetyFn.lean ====
section
/-! SUPPORT. What the operations of SafetyFn.lean keep (Keep.lean). -/

set_option linter.unreachableTactic false
set_option linter.unusedTactic false
set_option linter.unusedSimpArgs false

namespace Sys2Proof.Laws
open Sys2Proof Sys2Proof.Machine

variable {q : Kept}

theorem sound_startAwl {a1} (h1 : Sound q a1) : Sound q (startAwl a1) := by
  unfold startAwl
  try dsimp only
  repeat' first
    | with_reducible assumption
    | with_reducible apply soundC_of
    | with_reducible apply sound_startPhase
    | simp only [sound_mk]
    | split
    | dsimp only
    | intro _

theorem sound_endWinding {a1} (h1 : Sound q a1) : Sound q (endWinding a1) := by
  unfold endWinding
  try dsimp only
  repeat' first
    | with_reducible assumption
    | with_reducible apply soundC_of
    | with_reducible apply sound_detect
    | simp only [sound_mk]
    | split
    | dsimp only
    | intro _

theorem sound_issuePi {a1} (h1 : Sound q a1) : Sound q (issuePi a1) := by
  unfold issuePi
  try dsimp only
  repeat' first
    | with_reducible assumption
    | with_reducible apply soundC_of
    | with_reducible apply soundC_takeOrder
    | with_reducible apply sound_broadcast
    | simp only [sound_mk]
    | split
    | dsimp only
    | intro _

theorem sound_stoPi {a1} (h1 : Sound q a1) : Sound q (stoPi a1) := by
  unfold stoPi
  try dsimp only
  repeat' first
    | with_reducible assumption
    | with_reducible apply soundC_of
    | with_reducible apply sound_issuePackage
    | with_reducible apply sound_endWinding
    | with_reducible apply sound_issuePi
    | simp only [sound_mk]
    | split
    | dsimp only
    | intro _

theorem sound_execStoInputChange {a1} {a2} {a3} (h3 : Sound q a3) : SoundO q (execStoInputChange a1 a2 a3) := by
  unfold execStoInputChange
  try dsimp only
  repeat' first
    | with_reducible assumption
    | with_reducible apply soundC_of
    | with_reducible apply soundO_ok
    | simp only [sound_mk]
    | split
    | dsimp only
    | intro _

theorem sound_execStoFilterChange {a1} {a2} (h2 : Sound q a2) : SoundO q (execStoFilterChange a1 a2) := by
  unfold execStoFilterChange
  try dsimp only
  repeat' first
    | with_reducible assumption
    | with_reducible apply soundC_of
    | with_reducible apply soundO_ok
    | with_reducible apply sound_record
    | with_reducible apply sound_brake
    | with_reducible apply sound_stoPi
    | simp only [sound_mk]
    | split
    | dsimp only
    | intro _

theorem sound_execStoStatusPeriodic {a1} (h1 : Sound q a1) : SoundO q (execStoStatusPeriodic a1) := by
  unfold execStoStatusPeriodic
  try dsimp only
  repeat' first
    | with_reducible assumption
    | with_reducible apply soundC_of
    | with_reducible apply soundO_ok
    | simp only [sound_mk]
    | split
    | dsimp only
    | intro _

theorem sound_execStoStatusReceived {a1} (h1 : Sound q a1) : SoundO q (execStoStatusReceived a1) := by
  unfold execStoStatusReceived
  try dsimp only
  repeat' first
    | with_reducible assumption
    | with_reducible apply soundC_of
    | with_reducible apply soundO_ok
    | with_reducible apply sound_brake
    | with_reducible apply sound_stoPi
    | simp only [sound_mk]
    | split
    | dsimp only
    | intro _

theorem sound_execStoDiscrepancy {a1} (h1 : Sound q a1) : SoundO q (execStoDiscrepancy a1) := by
  unfold execStoDiscrepancy
  try dsimp only
  repeat' first
    | with_reducible assumption
    | with_reducible apply soundC_of
    | with_reducible apply soundO_ok
    | with_reducible apply sound_detect
    | simp only [sound_mk]
    | split
    | dsimp only
    | intro _

theorem sound_execStoPathTestEnd {a1} {a2} {a3} (h3 : Sound q a3) : SoundO q (execStoPathTestEnd a1 a2 a3) := by
  unfold execStoPathTestEnd
  try dsimp only
  repeat' first
    | with_reducible assumption
    | with_reducible apply soundC_of
    | with_reducible apply soundO_ok
    | with_reducible apply sound_detect
    | simp only [sound_mk]
    | split
    | dsimp only
    | intro _

theorem sound_execSdsPiReplacement {a1} (h1 : Sound q a1) : SoundO q (execSdsPiReplacement a1) := by
  unfold execSdsPiReplacement
  try dsimp only
  repeat' first
    | with_reducible assumption
    | with_reducible apply soundC_of
    | with_reducible apply soundO_ok
    | with_reducible apply sound_issuePi
    | simp only [sound_mk]
    | split
    | dsimp only
    | intro _

theorem sound_execSs1EnvelopeExceeded {a1} (h1 : Sound q a1) : SoundO q (execSs1EnvelopeExceeded a1) := by
  unfold execSs1EnvelopeExceeded
  try dsimp only
  repeat' first
    | with_reducible assumption
    | with_reducible apply soundC_of
    | with_reducible apply soundO_ok
    | with_reducible apply sound_detect
    | simp only [sound_mk]
    | split
    | dsimp only
    | intro _

theorem sound_applyBrake {a1} (h1 : Sound q a1) : Sound q (applyBrake a1) := by
  unfold applyBrake
  try dsimp only
  repeat' first
    | with_reducible assumption
    | with_reducible apply soundC_of
    | simp only [sound_mk]
    | split
    | dsimp only
    | intro _

theorem sound_execSs1Standstill {a1} (h1 : Sound q a1) : SoundO q (execSs1Standstill a1) := by
  unfold execSs1Standstill
  try dsimp only
  repeat' first
    | with_reducible assumption
    | with_reducible apply soundC_of
    | with_reducible apply soundO_ok
    | with_reducible apply sound_applyBrake
    | with_reducible apply sound_record
    | with_reducible apply sound_issuePackage
    | simp only [sound_mk]
    | split
    | dsimp only
    | intro _

theorem sound_execSs1Timeout {a1} (h1 : Sound q a1) : SoundO q (execSs1Timeout a1) := by
  unfold execSs1Timeout
  try dsimp only
  repeat' first
    | with_reducible assumption
    | with_reducible apply soundC_of
    | with_reducible apply soundO_ok
    | with_reducible apply sound_detect
    | simp only [sound_mk]
    | split
    | dsimp only
    | intro _

theorem sound_execSmsExceeded {a1} (h1 : Sound q a1) : SoundO q (execSmsExceeded a1) := by
  unfold execSmsExceeded
  try dsimp only
  repeat' first
    | with_reducible assumption
    | with_reducible apply soundC_of
    | with_reducible apply soundO_ok
    | with_reducible apply sound_detect
    | simp only [sound_mk]
    | split
    | dsimp only
    | intro _

theorem sound_execSlsExceeded {a1} (h1 : Sound q a1) : SoundO q (execSlsExceeded a1) := by
  unfold execSlsExceeded
  try dsimp only
  repeat' first
    | with_reducible assumption
    | with_reducible apply soundC_of
    | with_reducible apply soundO_ok
    | with_reducible apply sound_detect
    | simp only [sound_mk]
    | split
    | dsimp only
    | intro _

theorem sound_execBrakeReleaseDelay {a1} (h1 : Sound q a1) : SoundO q (execBrakeReleaseDelay a1) := by
  unfold execBrakeReleaseDelay
  try dsimp only
  repeat' first
    | with_reducible assumption
    | with_reducible apply soundC_of
    | with_reducible apply soundO_ok
    | simp only [sound_mk]
    | split
    | dsimp only
    | intro _

theorem sound_execBrakeDemand {a1} (h1 : Sound q a1) : SoundO q (execBrakeDemand a1) := by
  unfold execBrakeDemand
  try dsimp only
  repeat' first
    | with_reducible assumption
    | with_reducible apply soundC_of
    | with_reducible apply soundO_ok
    | with_reducible apply sound_brake
    | simp only [sound_mk]
    | split
    | dsimp only
    | intro _

theorem sound_execBrakeTestPulse {a1} {a2} (h2 : Sound q a2) : SoundO q (execBrakeTestPulse a1 a2) := by
  unfold execBrakeTestPulse
  try dsimp only
  repeat' first
    | with_reducible assumption
    | with_reducible apply soundC_of
    | with_reducible apply soundO_ok
    | simp only [sound_mk]
    | split
    | dsimp only
    | intro _

theorem sound_execBrakeTestPulseEnd {a1} {a2} (h2 : Sound q a2) : SoundO q (execBrakeTestPulseEnd a1 a2) := by
  unfold execBrakeTestPulseEnd
  try dsimp only
  repeat' first
    | with_reducible assumption
    | with_reducible apply soundC_of
    | with_reducible apply soundO_ok
    | with_reducible apply sound_detect
    | simp only [sound_mk]
    | split
    | dsimp only
    | intro _

theorem sound_execBrakeFeedbackMismatch {a1} {a2} {a3} (h3 : Sound q a3) : SoundO q (execBrakeFeedbackMismatch a1 a2 a3) := by
  unfold execBrakeFeedbackMismatch
  try dsimp only
  repeat' first
    | with_reducible assumption
    | with_reducible apply soundC_of
    | with_reducible apply soundO_ok
    | with_reducible apply sound_detect
    | simp only [sound_mk]
    | split
    | dsimp only
    | intro _

theorem sound_startWinding {a1} (h1 : Sound q a1) : Sound q (startWinding a1) := by
  unfold startWinding
  try dsimp only
  repeat' first
    | with_reducible assumption
    | with_reducible apply soundC_of
    | with_reducible apply sound_startAwl
    | with_reducible apply sound_endWinding
    | simp only [sound_mk]
    | split
    | dsimp only
    | intro _

theorem sound_leaveReady {a1} (h1 : Sound q a1) : Sound q (leaveReady a1) := by
  unfold leaveReady
  try dsimp only
  repeat' first
    | with_reducible assumption
    | with_reducible apply soundC_of
    | with_reducible apply sound_endOpcodes
    | simp only [sound_mk]
    | split
    | dsimp only
    | intro _

theorem sound_beginDischarge {a1} {a2} {a3} (h3 : Sound q a3) : Sound q (beginDischarge a1 a2 a3) := by
  unfold beginDischarge
  try dsimp only
  repeat' first
    | with_reducible assumption
    | with_reducible apply soundC_of
    | with_reducible apply sound_changeState
    | with_reducible apply sound_leaveReady
    | with_reducible apply sound_startWinding
    | with_reducible apply sound_record
    | simp only [sound_mk]
    | split
    | dsimp only
    | intro _

theorem sound_autoDischarge {a1} (h1 : Sound q a1) : Sound q (autoDischarge a1) := by
  unfold autoDischarge
  try dsimp only
  repeat' first
    | with_reducible assumption
    | with_reducible apply soundC_of
    | with_reducible apply sound_beginDischarge
    | simp only [sound_mk]
    | split
    | dsimp only
    | intro _

theorem sound_posOpened {a1} {a2} {a3} (h3 : Sound q a3) : Sound q (posOpened a1 a2 a3) := by
  unfold posOpened
  try dsimp only
  repeat' first
    | with_reducible assumption
    | with_reducible apply soundC_of
    | simp only [sound_mk]
    | split
    | dsimp only
    | intro _

theorem sound_preStep {a1} (h1 : Sound q a1) : Sound q (preStep a1) := by
  unfold preStep
  try dsimp only
  repeat' first
    | with_reducible assumption
    | with_reducible apply soundC_of
    | with_reducible apply sound_cmdK
    | with_reducible apply sound_answerOk
    | with_reducible apply sound_changeState
    | simp only [sound_mk]
    | split
    | dsimp only
    | intro _

theorem sound_execContactorFeedbackChange {a1} {a2} {a3} (h3 : Sound q a3) : SoundO q (execContactorFeedbackChange a1 a2 a3) := by
  unfold execContactorFeedbackChange
  try dsimp only
  repeat' first
    | with_reducible assumption
    | with_reducible apply soundC_of
    | with_reducible apply soundO_ok
    | with_reducible apply sound_autoDischarge
    | with_reducible apply sound_startWinding
    | with_reducible apply sound_preStep
    | with_reducible apply sound_posOpened
    | simp only [sound_mk]
    | split
    | dsimp only
    | intro _

theorem sound_weldFound {a1} {a2} (h2 : Sound q a2) : Sound q (weldFound a1 a2) := by
  unfold weldFound
  try dsimp only
  repeat' first
    | with_reducible assumption
    | with_reducible apply soundC_of
    | with_reducible apply sound_detect
    | simp only [sound_mk]
    | split
    | dsimp only
    | intro _

theorem sound_contactorCheckStep {a1} {a2} {a3} {a4} (h4 : Sound q a4) : Sound q (contactorCheckStep a1 a2 a3 a4) := by
  unfold contactorCheckStep
  try dsimp only
  repeat' first
    | with_reducible assumption
    | with_reducible apply soundC_of
    | with_reducible apply sound_answer
    | with_reducible apply sound_detect
    | with_reducible apply sound_answerOk
    | with_reducible apply sound_weldFound
    | simp only [sound_mk]
    | split
    | dsimp only
    | intro _

theorem sound_execContactorCheckDue {a1} {a2} (h2 : Sound q a2) : SoundO q (execContactorCheckDue a1 a2) := by
  unfold execContactorCheckDue
  try dsimp only
  repeat' first
    | with_reducible assumption
    | with_reducible apply soundC_of
    | with_reducible apply soundO_ok
    | with_reducible apply sound_contactorCheckStep
    | with_reducible apply sound_detect
    | with_reducible apply sound_weldFound
    | simp only [sound_mk]
    | split
    | dsimp only
    | intro _

theorem sound_execFcLossHoldExpiry {a1} (h1 : Sound q a1) : SoundO q (execFcLossHoldExpiry a1) := by
  unfold execFcLossHoldExpiry
  try dsimp only
  repeat' first
    | with_reducible assumption
    | with_reducible apply soundC_of
    | with_reducible apply soundO_ok
    | with_reducible apply sound_cmdK
    | simp only [sound_mk]
    | split
    | dsimp only
    | intro _

theorem sound_startPrecharge {a1} {a2} (h2 : Sound q a2) : Sound q (startPrecharge a1 a2) := by
  unfold startPrecharge
  try dsimp only
  repeat' first
    | with_reducible assumption
    | with_reducible apply soundC_of
    | with_reducible apply sound_changeState
    | with_reducible apply sound_cmdK
    | simp only [sound_mk]
    | split
    | dsimp only
    | intro _

theorem sound_startDiag {a1} {a2} {a3} (h3 : Sound q a3) : Sound q (startDiag a1 a2 a3) := by
  unfold startDiag
  try dsimp only
  repeat' first
    | with_reducible assumption
    | with_reducible apply soundC_of
    | with_reducible apply sound_record
    | simp only [sound_mk]
    | split
    | dsimp only
    | intro _

theorem sound_execPrecharge {a1} {a2} (h2 : Sound q a2) : SoundO q (execPrecharge a1 a2) := by
  unfold execPrecharge
  try dsimp only
  repeat' first
    | with_reducible assumption
    | with_reducible apply soundC_of
    | with_reducible apply soundO_ok
    | with_reducible apply soundS_inl
    | with_reducible apply soundS_inr
    | with_reducible apply sound_longStep
    | with_reducible apply sound_no
    | with_reducible apply sound_noD
    | with_reducible apply sound_startDiag
    | with_reducible apply sound_startPrecharge
    | simp only [sound_mk]
    | split
    | dsimp only
    | intro _
    | refine sound_of_pair ‹_ = (_, _)› ?_

theorem sound_execPrechargeWeldCheckEnd {a1} (h1 : Sound q a1) : SoundO q (execPrechargeWeldCheckEnd a1) := by
  unfold execPrechargeWeldCheckEnd
  try dsimp only
  repeat' first
    | with_reducible assumption
    | with_reducible apply soundC_of
    | with_reducible apply soundO_ok
    | with_reducible apply sound_cmdK
    | with_reducible apply sound_detect
    | simp only [sound_mk]
    | split
    | dsimp only
    | intro _

theorem sound_execPrechargeTargetReached {a1} (h1 : Sound q a1) : SoundO q (execPrechargeTargetReached a1) := by
  unfold execPrechargeTargetReached
  try dsimp only
  repeat' first
    | with_reducible assumption
    | with_reducible apply soundC_of
    | with_reducible apply soundO_ok
    | with_reducible apply sound_cmdK
    | simp only [sound_mk]
    | split
    | dsimp only
    | intro _

theorem sound_execPrechargeTimeout {a1} (h1 : Sound q a1) : SoundO q (execPrechargeTimeout a1) := by
  unfold execPrechargeTimeout
  try dsimp only
  repeat' first
    | with_reducible assumption
    | with_reducible apply soundC_of
    | with_reducible apply soundO_ok
    | with_reducible apply sound_preTimeout
    | simp only [sound_mk]
    | split
    | dsimp only
    | intro _

theorem sound_execDischarge {a1} {a2} (h2 : Sound q a2) : SoundO q (execDischarge a1 a2) := by
  unfold execDischarge
  try dsimp only
  repeat' first
    | with_reducible assumption
    | with_reducible apply soundC_of
    | with_reducible apply soundO_ok
    | with_reducible apply soundS_inl
    | with_reducible apply soundS_inr
    | with_reducible apply sound_longStep
    | with_reducible apply sound_no
    | with_reducible apply sound_beginDischarge
    | simp only [sound_mk]
    | split
    | dsimp only
    | intro _
    | refine sound_of_pair ‹_ = (_, _)› ?_

theorem sound_execDischargeResistorFailed {a1} (h1 : Sound q a1) : SoundO q (execDischargeResistorFailed a1) := by
  unfold execDischargeResistorFailed
  try dsimp only
  repeat' first
    | with_reducible assumption
    | with_reducible apply soundC_of
    | with_reducible apply soundO_ok
    | with_reducible apply sound_record
    | with_reducible apply sound_startWinding
    | with_reducible apply sound_detect
    | simp only [sound_mk]
    | split
    | dsimp only
    | intro _

theorem sound_execDischargeWindingFailed {a1} (h1 : Sound q a1) : SoundO q (execDischargeWindingFailed a1) := by
  unfold execDischargeWindingFailed
  try dsimp only
  repeat' first
    | with_reducible assumption
    | with_reducible apply soundC_of
    | with_reducible apply soundO_ok
    | with_reducible apply sound_detect
    | simp only [sound_mk]
    | split
    | dsimp only
    | intro _

theorem sound_execDischargeComplete {a1} (h1 : Sound q a1) : SoundO q (execDischargeComplete a1) := by
  unfold execDischargeComplete
  try dsimp only
  repeat' first
    | with_reducible assumption
    | with_reducible apply soundC_of
    | with_reducible apply soundO_ok
    | with_reducible apply sound_record
    | with_reducible apply sound_endControl
    | with_reducible apply sound_changeState
    | with_reducible apply sound_answerOk
    | simp only [sound_mk]
    | split
    | dsimp only
    | intro _

theorem sound_acceptMsg {a1} {a2} (h2 : Sound q a2) : Sound q (acceptMsg a1 a2) := by
  unfold acceptMsg
  try dsimp only
  repeat' first
    | with_reducible assumption
    | with_reducible apply soundC_of
    | with_reducible apply sound_detect
    | simp only [sound_mk]
    | split
    | dsimp only
    | intro _

theorem sound_single {a1} {a2} (h2 : Sound q a2) : Sound q (single a1 a2) := by
  unfold single
  try dsimp only
  repeat' first
    | with_reducible assumption
    | with_reducible apply soundC_of
    | with_reducible apply sound_record
    | with_reducible apply sound_degrade
    | with_reducible apply sound_acceptMsg
    | simp only [sound_mk]
    | split
    | dsimp only
    | intro _

theorem sound_pairCopy {a1} {a2} {a3} (h3 : Sound q a3) : Sound q (pairCopy a1 a2 a3) := by
  unfold pairCopy
  try dsimp only
  repeat' first
    | with_reducible assumption
    | with_reducible apply soundC_of
    | with_reducible apply sound_acceptMsg
    | with_reducible apply sound_record
    | with_reducible apply sound_single
    | simp only [sound_mk]
    | split
    | dsimp only
    | intro _

theorem sound_execSafeMessageReceived {a1} {a2} {a3} (h3 : Sound q a3) : SoundO q (execSafeMessageReceived a1 a2 a3) := by
  unfold execSafeMessageReceived
  try dsimp only
  repeat' first
    | with_reducible assumption
    | with_reducible apply soundC_of
    | with_reducible apply soundO_ok
    | with_reducible apply sound_record
    | with_reducible apply sound_pairCopy
    | simp only [sound_mk]
    | split
    | dsimp only
    | intro _

theorem sound_execSafeMessageDeadline {a1} (h1 : Sound q a1) : SoundO q (execSafeMessageDeadline a1) := by
  unfold execSafeMessageDeadline
  try dsimp only
  repeat' first
    | with_reducible assumption
    | with_reducible apply soundC_of
    | with_reducible apply soundO_ok
    | with_reducible apply sound_detect
    | simp only [sound_mk]
    | split
    | dsimp only
    | intro _

theorem sound_releaseOrders {a1} (h1 : Sound q.z a1) : Sound q.z (releaseOrders a1) := by
  exact { h1 with rank := Nat.zero_le _ }

theorem sound_execFaultAck {a1} {a2} (h2 : Sound q.z a2) : SoundO q.z (execFaultAck a1 a2) := by
  unfold execFaultAck
  try dsimp only
  repeat' first
    | with_reducible assumption
    | with_reducible apply soundC_of
    | with_reducible apply soundO_ok
    | with_reducible apply sound_fieldStep
    | with_reducible apply sound_no
    | with_reducible apply sound_releaseOrders
    | with_reducible apply sound_yes
    | with_reducible apply sound_changeState
    | simp only [sound_mk]
    | split
    | dsimp only
    | intro _
    | refine sound_of_pair ‹_ = (_, _)› ?_

theorem sound_execShutdown {a1} {a2} (h2 : Sound q a2) : SoundO q (execShutdown a1 a2) := by
  unfold execShutdown
  try dsimp only
  repeat' first
    | with_reducible assumption
    | with_reducible apply soundC_of
    | with_reducible apply soundO_ok
    | with_reducible apply sound_fieldStep
    | with_reducible apply sound_no
    | with_reducible apply sound_yes
    | with_reducible apply sound_journalSet
    | with_reducible apply sound_changeState
    | simp only [sound_mk]
    | split
    | dsimp only
    | intro _
    | refine sound_of_pair ‹_ = (_, _)› ?_

theorem sound_execContactorCheck {a1} {a2} (h2 : Sound q a2) : SoundO q (execContactorCheck a1 a2) := by
  unfold execContactorCheck
  try dsimp only
  repeat' first
    | with_reducible assumption
    | with_reducible apply soundC_of
    | with_reducible apply soundO_ok
    | with_reducible apply soundS_inl
    | with_reducible apply soundS_inr
    | with_reducible apply sound_longStep
    | with_reducible apply sound_no
    | simp only [sound_mk]
    | split
    | dsimp only
    | intro _
    | refine sound_of_pair ‹_ = (_, _)› ?_

end Sys2Proof.Laws
end

