-- ==== Sys2Proof/Laws/KeepSensing.lean ====
section
/-! SUPPORT. What the operations of Sensing.lean keep (Keep.lean). -/

set_option linter.unreachableTactic false
set_option linter.unusedTactic false
set_option linter.unusedSimpArgs false

namespace Sys2Proof.Laws
open Sys2Proof Sys2Proof.Machine

variable {q : Kept}

theorem sound_markLosses {a1} {a2} {a3} (h3 : Sound q a3) : Sound q (markLosses a1 a2 a3) := by
  unfold markLosses
  try dsimp only
  repeat' first
    | with_reducible assumption
    | with_reducible apply soundC_of
    | with_reducible apply sound_degrade
    | simp only [sound_mk]
    | split
    | dsimp only
    | intro _

theorem sound_setLosses {a1} {a2} {a3} (h3 : Sound q a3) : Sound q (setLosses a1 a2 a3) := by
  unfold setLosses
  try dsimp only
  repeat' first
    | with_reducible assumption
    | with_reducible apply soundC_of
    | with_reducible apply sound_markLosses
    | with_reducible apply sound_detect
    | simp only [sound_mk]
    | split
    | dsimp only
    | intro _

theorem sound_lose {a1} {a2} {a3} (h3 : Sound q a3) : Sound q (lose a1 a2 a3) := by
  unfold lose
  try dsimp only
  repeat' first
    | with_reducible assumption
    | with_reducible apply soundC_of
    | with_reducible apply sound_setLosses
    | simp only [sound_mk]
    | split
    | dsimp only
    | intro _

theorem sound_selectSources {a1} (h1 : Sound q a1) : Sound q (selectSources a1) := by
  unfold selectSources
  try dsimp only
  repeat' first
    | with_reducible assumption
    | with_reducible apply soundC_of
    | simp only [sound_mk]
    | split
    | dsimp only
    | intro _

theorem sound_feedClk {a1} {a2} {a3} {a4} (h4 : Sound q a4) : Sound q (feedClk a1 a2 a3 a4) := by
  unfold feedClk
  try dsimp only
  repeat' first
    | with_reducible assumption
    | with_reducible apply soundC_of
    | simp only [sound_mk]
    | split
    | dsimp only
    | intro _

theorem sound_feedClks {a1} {a2} {a3} {a4} (h4 : Sound q a4) : Sound q (feedClks a1 a2 a3 a4) := by
  induction a3 generalizing a4 with
  | nil => exact h4
  | cons k r ih => exact ih (sound_feedClk h4)

theorem sound_convert {a1} {a2} {a3} (h3 : Sound q a3) : Sound q (convert a1 a2 a3) := by
  unfold convert
  try dsimp only
  repeat' first
    | with_reducible assumption
    | with_reducible apply soundC_of
    | simp only [sound_mk]
    | split
    | dsimp only
    | intro _

theorem sound_addTerminal {a1} {a2} (h2 : Sound q a2) : Sound q (addTerminal a1 a2) := by
  unfold addTerminal
  try dsimp only
  repeat' first
    | with_reducible assumption
    | with_reducible apply soundC_of
    | simp only [sound_mk]
    | split
    | dsimp only
    | intro _

theorem sound_execPathAConversion {a1} {a2} {a3} (h3 : Sound q a3) : SoundO q (execPathAConversion a1 a2 a3) := by
  unfold execPathAConversion
  try dsimp only
  repeat' first
    | with_reducible assumption
    | with_reducible apply soundC_of
    | with_reducible apply soundO_ok
    | with_reducible apply sound_addTerminal
    | with_reducible apply sound_convert
    | simp only [sound_mk]
    | split
    | dsimp only
    | intro _

theorem sound_execOvercurrentTrip {a1} {a2} (h2 : Sound q a2) : SoundO q (execOvercurrentTrip a1 a2) := by
  unfold execOvercurrentTrip
  try dsimp only
  repeat' first
    | with_reducible assumption
    | with_reducible apply soundC_of
    | with_reducible apply soundO_ok
    | with_reducible apply sound_f4React
    | with_reducible apply sound_record
    | simp only [sound_mk]
    | split
    | dsimp only
    | intro _

theorem sound_execOvervoltageTrip {a1} {a2} (h2 : Sound q a2) : SoundO q (execOvervoltageTrip a1 a2) := by
  unfold execOvervoltageTrip
  try dsimp only
  repeat' first
    | with_reducible assumption
    | with_reducible apply soundC_of
    | with_reducible apply soundO_ok
    | with_reducible apply sound_f4React
    | with_reducible apply sound_record
    | simp only [sound_mk]
    | split
    | dsimp only
    | intro _

theorem sound_compareSets {a1} {a2} {a3} (h3 : Sound q a3) : Sound q (compareSets a1 a2 a3) := by
  unfold compareSets
  try dsimp only
  repeat' first
    | with_reducible assumption
    | with_reducible apply soundC_of
    | simp only [sound_mk]
    | split
    | dsimp only
    | intro _

theorem sound_sumCheck {a1} {a2} {a3} (h3 : Sound q a3) : Sound q (sumCheck a1 a2 a3) := by
  unfold sumCheck
  try dsimp only
  repeat' first
    | with_reducible assumption
    | with_reducible apply soundC_of
    | simp only [sound_mk]
    | split
    | dsimp only
    | intro _

theorem sound_vdcUnattributable {a1} (h1 : Sound q a1) : Sound q (vdcUnattributable a1) := by
  unfold vdcUnattributable
  try dsimp only
  repeat' first
    | with_reducible assumption
    | with_reducible apply soundC_of
    | with_reducible apply sound_detect
    | simp only [sound_mk]
    | split
    | dsimp only
    | intro _

theorem sound_arbitrate {a1} (h1 : Sound q a1) : Sound q (arbitrate a1) := by
  unfold arbitrate
  try dsimp only
  repeat' first
    | with_reducible assumption
    | with_reducible apply soundC_of
    | with_reducible apply sound_vdcUnattributable
    | with_reducible apply sound_lose
    | with_reducible apply sound_detect
    | simp only [sound_mk]
    | split
    | dsimp only
    | intro _

theorem sound_vdcCheck {a1} {a2} {a3} (h3 : Sound q a3) : Sound q (vdcCheck a1 a2 a3) := by
  unfold vdcCheck
  try dsimp only
  repeat' first
    | with_reducible assumption
    | with_reducible apply soundC_of
    | with_reducible apply sound_arbitrate
    | simp only [sound_mk]
    | split
    | dsimp only
    | intro _

theorem sound_terminalCheck {a1} {a2} {a3} {a4} (h4 : Sound q a4) : Sound q (terminalCheck a1 a2 a3 a4) := by
  unfold terminalCheck
  try dsimp only
  repeat' first
    | with_reducible assumption
    | with_reducible apply soundC_of
    | simp only [sound_mk]
    | split
    | dsimp only
    | intro _

theorem sound_inputCheck {a1} {a2} (h2 : Sound q a2) : Sound q (inputCheck a1 a2) := by
  unfold inputCheck
  try dsimp only
  repeat' first
    | with_reducible assumption
    | with_reducible apply soundC_of
    | simp only [sound_mk]
    | split
    | dsimp only
    | intro _

theorem sound_stuckHistory {a1} {a2} {a3} (h3 : Sound q a3) : Sound q (stuckHistory a1 a2 a3) := by
  unfold stuckHistory
  try dsimp only
  repeat' first
    | with_reducible assumption
    | with_reducible apply soundC_of
    | simp only [sound_mk]
    | split
    | dsimp only
    | intro _

theorem sound_linkCheck {a1} (h1 : Sound q a1) : Sound q (linkCheck a1) := by
  unfold linkCheck
  try dsimp only
  repeat' first
    | with_reducible assumption
    | with_reducible apply soundC_of
    | simp only [sound_mk]
    | split
    | dsimp only
    | intro _

theorem sound_senseUpdate {a1} {a2} {a3} {a4} {a5} {a6} {a7} (h7 : Sound q a7) : Sound q (senseUpdate a1 a2 a3 a4 a5 a6 a7) := by
  unfold senseUpdate
  try dsimp only
  repeat' first
    | with_reducible assumption
    | with_reducible apply soundC_of
    | with_reducible apply sound_feedClks
    | with_reducible apply sound_selectSources
    | with_reducible apply sound_convert
    | with_reducible apply sound_compareSets
    | with_reducible apply sound_sumCheck
    | with_reducible apply sound_vdcCheck
    | with_reducible apply sound_terminalCheck
    | with_reducible apply sound_inputCheck
    | with_reducible apply sound_stuckHistory
    | with_reducible apply sound_linkCheck
    | with_reducible apply sound_foldl
    | simp only [sound_mk]
    | split
    | dsimp only
    | intro _

theorem sound_windowCheck {a1} {a2} {a3} {a4} (h4 : Sound q a4) : Sound q (windowCheck a1 a2 a3 a4) := by
  unfold windowCheck
  try dsimp only
  repeat' first
    | with_reducible assumption
    | with_reducible apply soundC_of
    | simp only [sound_mk]
    | split
    | dsimp only
    | intro _

theorem sound_judgeWindow {a1} {a2} (h1 : Sound q a1) : Sound q (judgeWindow a1 a2) := by
  unfold judgeWindow
  try dsimp only
  repeat' first
    | with_reducible assumption
    | with_reducible apply soundC_of
    | with_reducible apply sound_windowCheck
    | simp only [sound_mk]
    | split
    | dsimp only
    | intro _

theorem sound_execPathComparisonWindow {a1} (h1 : Sound q a1) : SoundO q (execPathComparisonWindow a1) := by
  unfold execPathComparisonWindow
  try dsimp only
  repeat' first
    | with_reducible assumption
    | with_reducible apply soundC_of
    | with_reducible apply soundO_ok
    | with_reducible apply sound_judgeWindow
    | with_reducible apply sound_foldl
    | simp only [sound_mk]
    | split
    | dsimp only
    | intro _

theorem sound_execComparisonFailed {a1} {a2} (h2 : Sound q a2) : SoundO q (execComparisonFailed a1 a2) := by
  unfold execComparisonFailed
  try dsimp only
  repeat' first
    | with_reducible assumption
    | with_reducible apply soundC_of
    | with_reducible apply soundO_ok
    | simp only [sound_mk]
    | split
    | dsimp only
    | intro _

theorem sound_execCrossCheckVerdict {a1} {a2} (h2 : Sound q a2) : SoundO q (execCrossCheckVerdict a1 a2) := by
  unfold execCrossCheckVerdict
  try dsimp only
  repeat' first
    | with_reducible assumption
    | with_reducible apply soundC_of
    | with_reducible apply soundO_ok
    | with_reducible apply sound_detect
    | with_reducible apply sound_lose
    | simp only [sound_mk]
    | split
    | dsimp only
    | intro _

theorem sound_execSumCheckFailed {a1} {a2} (h2 : Sound q a2) : SoundO q (execSumCheckFailed a1 a2) := by
  unfold execSumCheckFailed
  try dsimp only
  repeat' first
    | with_reducible assumption
    | with_reducible apply soundC_of
    | with_reducible apply soundO_ok
    | with_reducible apply sound_detect
    | simp only [sound_mk]
    | split
    | dsimp only
    | intro _

theorem sound_execVdcDisagreement {a1} (h1 : Sound q a1) : SoundO q (execVdcDisagreement a1) := by
  unfold execVdcDisagreement
  try dsimp only
  repeat' first
    | with_reducible assumption
    | with_reducible apply soundC_of
    | with_reducible apply soundO_ok
    | simp only [sound_mk]
    | split
    | dsimp only
    | intro _

theorem sound_execVdcArbitrationTimeout {a1} (h1 : Sound q a1) : SoundO q (execVdcArbitrationTimeout a1) := by
  unfold execVdcArbitrationTimeout
  try dsimp only
  repeat' first
    | with_reducible assumption
    | with_reducible apply soundC_of
    | with_reducible apply soundO_ok
    | with_reducible apply sound_vdcUnattributable
    | simp only [sound_mk]
    | split
    | dsimp only
    | intro _

theorem sound_execTerminalImplausible {a1} {a2} (h2 : Sound q a2) : SoundO q (execTerminalImplausible a1 a2) := by
  unfold execTerminalImplausible
  try dsimp only
  repeat' first
    | with_reducible assumption
    | with_reducible apply soundC_of
    | with_reducible apply soundO_ok
    | with_reducible apply sound_lose
    | with_reducible apply sound_detect
    | simp only [sound_mk]
    | split
    | dsimp only
    | intro _

theorem sound_execOpenInput {a1} {a2} (h2 : Sound q a2) : SoundO q (execOpenInput a1 a2) := by
  unfold execOpenInput
  try dsimp only
  repeat' first
    | with_reducible assumption
    | with_reducible apply soundC_of
    | with_reducible apply soundO_ok
    | with_reducible apply sound_lose
    | with_reducible apply sound_detect
    | simp only [sound_mk]
    | split
    | dsimp only
    | intro _

theorem sound_execStuckChannel {a1} {a2} (h2 : Sound q a2) : SoundO q (execStuckChannel a1 a2) := by
  unfold execStuckChannel
  try dsimp only
  repeat' first
    | with_reducible assumption
    | with_reducible apply soundC_of
    | with_reducible apply soundO_ok
    | with_reducible apply sound_lose
    | with_reducible apply sound_detect
    | simp only [sound_mk]
    | split
    | dsimp only
    | intro _

theorem sound_execPathBOverload {a1} {a2} (h2 : Sound q a2) : SoundO q (execPathBOverload a1 a2) := by
  unfold execPathBOverload
  try dsimp only
  repeat' first
    | with_reducible assumption
    | with_reducible apply soundC_of
    | with_reducible apply soundO_ok
    | with_reducible apply sound_lose
    | with_reducible apply sound_detect
    | simp only [sound_mk]
    | split
    | dsimp only
    | intro _

theorem sound_execOvervoltageWarning {a1} (h1 : Sound q a1) : SoundO q (execOvervoltageWarning a1) := by
  unfold execOvervoltageWarning
  try dsimp only
  repeat' first
    | with_reducible assumption
    | with_reducible apply soundC_of
    | with_reducible apply soundO_ok
    | with_reducible apply sound_detect
    | simp only [sound_mk]
    | split
    | dsimp only
    | intro _

theorem sound_execOvervoltageWarningClear {a1} (h1 : Sound q a1) : SoundO q (execOvervoltageWarningClear a1) := by
  unfold execOvervoltageWarningClear
  try dsimp only
  repeat' first
    | with_reducible assumption
    | with_reducible apply soundC_of
    | with_reducible apply soundO_ok
    | simp only [sound_mk]
    | split
    | dsimp only
    | intro _

theorem sound_execUndervoltage {a1} (h1 : Sound q a1) : SoundO q (execUndervoltage a1) := by
  unfold execUndervoltage
  try dsimp only
  repeat' first
    | with_reducible assumption
    | with_reducible apply soundC_of
    | with_reducible apply soundO_ok
    | with_reducible apply sound_detect
    | simp only [sound_mk]
    | split
    | dsimp only
    | intro _

theorem sound_execReferenceOutOfTolerance {a1} {a2} (h2 : Sound q a2) : SoundO q (execReferenceOutOfTolerance a1 a2) := by
  unfold execReferenceOutOfTolerance
  try dsimp only
  repeat' first
    | with_reducible assumption
    | with_reducible apply soundC_of
    | with_reducible apply soundO_ok
    | with_reducible apply sound_detect
    | with_reducible apply sound_lose
    | simp only [sound_mk]
    | split
    | dsimp only
    | intro _

theorem sound_execBandgapDisagreement {a1} (h1 : Sound q a1) : SoundO q (execBandgapDisagreement a1) := by
  unfold execBandgapDisagreement
  try dsimp only
  repeat' first
    | with_reducible assumption
    | with_reducible apply soundC_of
    | with_reducible apply soundO_ok
    | with_reducible apply sound_detect
    | simp only [sound_mk]
    | split
    | dsimp only
    | intro _

theorem sound_execTransducerSupplyFault {a1} {a2} (h2 : Sound q a2) : SoundO q (execTransducerSupplyFault a1 a2) := by
  unfold execTransducerSupplyFault
  try dsimp only
  repeat' first
    | with_reducible assumption
    | with_reducible apply soundC_of
    | with_reducible apply soundO_ok
    | with_reducible apply sound_lose
    | with_reducible apply sound_detect
    | simp only [sound_mk]
    | split
    | dsimp only
    | intro _

theorem sound_execHkAdcSuspect {a1} {a2} (h2 : Sound q a2) : SoundO q (execHkAdcSuspect a1 a2) := by
  unfold execHkAdcSuspect
  try dsimp only
  repeat' first
    | with_reducible assumption
    | with_reducible apply soundC_of
    | with_reducible apply soundO_ok
    | with_reducible apply sound_detect
    | simp only [sound_mk]
    | split
    | dsimp only
    | intro _

theorem sound_execSenseCal {a1} {a2} (h2 : Sound q a2) : SoundO q (execSenseCal a1 a2) := by
  unfold execSenseCal
  try dsimp only
  repeat' first
    | with_reducible assumption
    | with_reducible apply soundC_of
    | with_reducible apply soundO_ok
    | with_reducible apply soundS_inl
    | with_reducible apply soundS_inr
    | with_reducible apply sound_longStep
    | with_reducible apply sound_no
    | simp only [sound_mk]
    | split
    | dsimp only
    | intro _
    | refine sound_of_pair ‹_ = (_, _)› ?_

theorem sound_calRecord {a1} {a2} {a3} {a4} (h3 : Sound q a3) : Sound q (calRecord a1 a2 a3 a4) := by
  unfold calRecord
  try dsimp only
  repeat' first
    | with_reducible assumption
    | with_reducible apply soundC_of
    | with_reducible apply sound_detect
    | simp only [sound_mk]
    | split
    | dsimp only
    | intro _

theorem sound_calStore {a1} {a2} {a3} {a4} (h3 : Sound q a3) : Sound q (calStore a1 a2 a3 a4) := by
  unfold calStore
  try dsimp only
  repeat' first
    | with_reducible assumption
    | with_reducible apply soundC_of
    | with_reducible apply sound_setPar
    | simp only [sound_mk]
    | split
    | dsimp only
    | intro _

theorem sound_calEvaluate {a1} {a2} (h2 : Sound q a2) : Sound q (calEvaluate a1 a2) := by
  unfold calEvaluate
  try dsimp only
  repeat' first
    | with_reducible assumption
    | with_reducible apply soundC_of
    | with_reducible apply sound_calRecord
    | with_reducible apply sound_setLosses
    | with_reducible apply sound_calStore
    | with_reducible apply sound_record
    | with_reducible apply sound_saveDevice
    | with_reducible apply sound_foldl
    | simp only [sound_mk]
    | split
    | dsimp only
    | intro _

theorem sound_execCalibrationComplete {a1} {a2} (h2 : Sound q a2) : SoundO q (execCalibrationComplete a1 a2) := by
  unfold execCalibrationComplete
  try dsimp only
  repeat' first
    | with_reducible assumption
    | with_reducible apply soundC_of
    | with_reducible apply soundO_ok
    | with_reducible apply sound_calEvaluate
    | with_reducible apply sound_answerOk
    | with_reducible apply sound_answer
    | simp only [sound_mk]
    | split
    | dsimp only
    | intro _

end Sys2Proof.Laws
end

