-- ==== Sys2Proof/Laws/KeepFeedback.lean ====
section
/-! SUPPORT. What the operations of Feedback.lean keep (Keep.lean). -/

set_option linter.unreachableTactic false
set_option linter.unusedTactic false
set_option linter.unusedSimpArgs false

namespace Sys2Proof.Laws
open Sys2Proof Sys2Proof.Machine

variable {q : Kept}

theorem sound_roleLost {a1} {a2} (h2 : Sound q a2) : Sound q (roleLost a1 a2) := by
  unfold roleLost
  try dsimp only
  repeat' first
    | with_reducible assumption
    | with_reducible apply soundC_of
    | with_reducible apply sound_detect
    | with_reducible apply sound_degrade
    | simp only [sound_mk]
    | split
    | dsimp only
    | intro _

theorem sound_loseSrc {a1} {a2} (h2 : Sound q a2) : Sound q (loseSrc a1 a2) := by
  unfold loseSrc
  try dsimp only
  repeat' first
    | with_reducible assumption
    | with_reducible apply soundC_of
    | with_reducible apply sound_roleLost
    | simp only [sound_mk]
    | split
    | dsimp only
    | intro _

theorem sound_moveCount {a1} {a2} (h2 : Sound q a2) : Sound q (moveCount a1 a2) := by
  unfold moveCount
  try dsimp only
  repeat' first
    | with_reducible assumption
    | with_reducible apply soundC_of
    | simp only [sound_mk]
    | split
    | dsimp only
    | intro _

theorem sound_watchIndex {a1} (h1 : Sound q a1) : Sound q (watchIndex a1) := by
  unfold watchIndex
  try dsimp only
  repeat' first
    | with_reducible assumption
    | with_reducible apply soundC_of
    | simp only [sound_mk]
    | split
    | dsimp only
    | intro _

theorem sound_illegalOf {a1} {a2} (h2 : Sound q a2) : Sound q (illegalOf a1 a2) := by
  unfold illegalOf
  try dsimp only
  repeat' first
    | with_reducible assumption
    | with_reducible apply soundC_of
    | with_reducible apply sound_record
    | simp only [sound_mk]
    | split
    | dsimp only
    | intro _

theorem sound_execQuadratureTransition {a1} {a2} {a3} {a4} {a5} (h5 : Sound q a5) : SoundO q (execQuadratureTransition a1 a2 a3 a4 a5) := by
  unfold execQuadratureTransition
  try dsimp only
  repeat' first
    | with_reducible assumption
    | with_reducible apply soundC_of
    | with_reducible apply soundO_ok
    | with_reducible apply sound_illegalOf
    | with_reducible apply sound_watchIndex
    | with_reducible apply sound_moveCount
    | simp only [sound_mk]
    | split
    | dsimp only
    | intro _

theorem sound_execIllegalLimitExceeded {a1} {a2} (h2 : Sound q a2) : SoundO q (execIllegalLimitExceeded a1 a2) := by
  unfold execIllegalLimitExceeded
  try dsimp only
  repeat' first
    | with_reducible assumption
    | with_reducible apply soundC_of
    | with_reducible apply soundO_ok
    | with_reducible apply sound_loseSrc
    | with_reducible apply sound_detect
    | simp only [sound_mk]
    | split
    | dsimp only
    | intro _

theorem sound_idxGood {a1} {a2} (h2 : Sound q a2) : Sound q (idxGood a1 a2) := by
  unfold idxGood
  try dsimp only
  repeat' first
    | with_reducible assumption
    | with_reducible apply soundC_of
    | simp only [sound_mk]
    | split
    | dsimp only
    | intro _

theorem sound_execIndexLatch {a1} {a2} (h2 : Sound q a2) : SoundO q (execIndexLatch a1 a2) := by
  unfold execIndexLatch
  try dsimp only
  repeat' first
    | with_reducible assumption
    | with_reducible apply soundC_of
    | with_reducible apply soundO_ok
    | with_reducible apply sound_idxGood
    | with_reducible apply sound_record
    | simp only [sound_mk]
    | split
    | dsimp only
    | intro _

theorem sound_execIndexFaultCheck {a1} (h1 : Sound q a1) : SoundO q (execIndexFaultCheck a1) := by
  unfold execIndexFaultCheck
  try dsimp only
  repeat' first
    | with_reducible assumption
    | with_reducible apply soundC_of
    | with_reducible apply soundO_ok
    | with_reducible apply sound_detect
    | with_reducible apply sound_loseSrc
    | simp only [sound_mk]
    | split
    | dsimp only
    | intro _

theorem sound_execHallStateChange {a1} {a2} {a3} (h3 : Sound q a3) : SoundO q (execHallStateChange a1 a2 a3) := by
  unfold execHallStateChange
  try dsimp only
  repeat' first
    | with_reducible assumption
    | with_reducible apply soundC_of
    | with_reducible apply soundO_ok
    | with_reducible apply sound_illegalOf
    | simp only [sound_mk]
    | split
    | dsimp only
    | intro _

theorem sound_execHallStateInvalid {a1} {a2} (h2 : Sound q a2) : SoundO q (execHallStateInvalid a1 a2) := by
  unfold execHallStateInvalid
  try dsimp only
  repeat' first
    | with_reducible assumption
    | with_reducible apply soundC_of
    | with_reducible apply soundO_ok
    | with_reducible apply sound_loseSrc
    | with_reducible apply sound_detect
    | simp only [sound_mk]
    | split
    | dsimp only
    | intro _

theorem sound_execResolverAmplitudeFault {a1} (h1 : Sound q a1) : SoundO q (execResolverAmplitudeFault a1) := by
  unfold execResolverAmplitudeFault
  try dsimp only
  repeat' first
    | with_reducible assumption
    | with_reducible apply soundC_of
    | with_reducible apply soundO_ok
    | with_reducible apply sound_loseSrc
    | with_reducible apply sound_detect
    | simp only [sound_mk]
    | split
    | dsimp only
    | intro _

theorem sound_execResolverTrackingLost {a1} (h1 : Sound q a1) : SoundO q (execResolverTrackingLost a1) := by
  unfold execResolverTrackingLost
  try dsimp only
  repeat' first
    | with_reducible assumption
    | with_reducible apply soundC_of
    | with_reducible apply soundO_ok
    | with_reducible apply sound_loseSrc
    | with_reducible apply sound_detect
    | simp only [sound_mk]
    | split
    | dsimp only
    | intro _

theorem sound_execResolverExcitationFault {a1} (h1 : Sound q a1) : SoundO q (execResolverExcitationFault a1) := by
  unfold execResolverExcitationFault
  try dsimp only
  repeat' first
    | with_reducible assumption
    | with_reducible apply soundC_of
    | with_reducible apply soundO_ok
    | with_reducible apply sound_loseSrc
    | with_reducible apply sound_detect
    | simp only [sound_mk]
    | split
    | dsimp only
    | intro _

theorem sound_ssiStale {a1} {a2} (h2 : Sound q a2) : Sound q (ssiStale a1 a2) := by
  unfold ssiStale
  try dsimp only
  repeat' first
    | with_reducible assumption
    | with_reducible apply soundC_of
    | with_reducible apply sound_record
    | simp only [sound_mk]
    | split
    | dsimp only
    | intro _

theorem sound_crossCompare {a1} {a2} {a3} (h3 : Sound q a3) : Sound q (crossCompare a1 a2 a3) := by
  unfold crossCompare
  try dsimp only
  repeat' first
    | with_reducible assumption
    | with_reducible apply soundC_of
    | simp only [sound_mk]
    | split
    | dsimp only
    | intro _

theorem sound_ssiReceived {a1} {a2} (h2 : Sound q a2) : Sound q (ssiReceived a1 a2) := by
  unfold ssiReceived
  try dsimp only
  repeat' first
    | with_reducible assumption
    | with_reducible apply soundC_of
    | with_reducible apply sound_ssiStale
    | with_reducible apply sound_crossCompare
    | simp only [sound_mk]
    | split
    | dsimp only
    | intro _

theorem sound_execSsiFrameDecoded {a1} {a2} (h2 : Sound q a2) : SoundO q (execSsiFrameDecoded a1 a2) := by
  unfold execSsiFrameDecoded
  try dsimp only
  repeat' first
    | with_reducible assumption
    | with_reducible apply soundC_of
    | with_reducible apply soundO_ok
    | with_reducible apply sound_ssiStale
    | with_reducible apply sound_ssiReceived
    | simp only [sound_mk]
    | split
    | dsimp only
    | intro _

theorem sound_execSsiFrameAbort {a1} {a2} (h2 : Sound q a2) : SoundO q (execSsiFrameAbort a1 a2) := by
  unfold execSsiFrameAbort
  try dsimp only
  repeat' first
    | with_reducible assumption
    | with_reducible apply soundC_of
    | with_reducible apply soundO_ok
    | with_reducible apply sound_record
    | simp only [sound_mk]
    | split
    | dsimp only
    | intro _

theorem sound_execSsiStaleLimit {a1} (h1 : Sound q a1) : SoundO q (execSsiStaleLimit a1) := by
  unfold execSsiStaleLimit
  try dsimp only
  repeat' first
    | with_reducible assumption
    | with_reducible apply soundC_of
    | with_reducible apply soundO_ok
    | with_reducible apply sound_loseSrc
    | with_reducible apply sound_detect
    | simp only [sound_mk]
    | split
    | dsimp only
    | intro _

theorem sound_ssiSchedule {a1} {a2} (h2 : Sound q a2) : Sound q (ssiSchedule a1 a2) := by
  unfold ssiSchedule
  try dsimp only
  repeat' first
    | with_reducible assumption
    | with_reducible apply soundC_of
    | with_reducible apply sound_ssiStale
    | simp only [sound_mk]
    | split
    | dsimp only
    | intro _

theorem sound_wireFault {a1} {a2} (h2 : Sound q a2) : Sound q (wireFault a1 a2) := by
  unfold wireFault
  try dsimp only
  repeat' first
    | with_reducible assumption
    | with_reducible apply soundC_of
    | with_reducible apply sound_detect
    | with_reducible apply sound_loseSrc
    | simp only [sound_mk]
    | split
    | dsimp only
    | intro _

theorem sound_execWireFault {a1} {a2} {a3} (h3 : Sound q a3) : SoundO q (execWireFault a1 a2 a3) := by
  unfold execWireFault
  try dsimp only
  repeat' first
    | with_reducible assumption
    | with_reducible apply soundC_of
    | with_reducible apply soundO_ok
    | with_reducible apply sound_wireFault
    | simp only [sound_mk]
    | split
    | dsimp only
    | intro _

theorem sound_execEncoderSupplyFault {a1} (h1 : Sound q a1) : SoundO q (execEncoderSupplyFault a1) := by
  unfold execEncoderSupplyFault
  try dsimp only
  repeat' first
    | with_reducible assumption
    | with_reducible apply soundC_of
    | with_reducible apply soundO_ok
    | with_reducible apply sound_detect
    | with_reducible apply sound_loseSrc
    | simp only [sound_mk]
    | split
    | dsimp only
    | intro _

theorem sound_execSourceDisagreement {a1} (h1 : Sound q a1) : SoundO q (execSourceDisagreement a1) := by
  unfold execSourceDisagreement
  try dsimp only
  repeat' first
    | with_reducible assumption
    | with_reducible apply soundC_of
    | with_reducible apply soundO_ok
    | with_reducible apply sound_loseSrc
    | with_reducible apply sound_detect
    | simp only [sound_mk]
    | split
    | dsimp only
    | intro _

theorem sound_execFrozenSource {a1} {a2} (h2 : Sound q a2) : SoundO q (execFrozenSource a1 a2) := by
  unfold execFrozenSource
  try dsimp only
  repeat' first
    | with_reducible assumption
    | with_reducible apply soundC_of
    | with_reducible apply soundO_ok
    | with_reducible apply sound_loseSrc
    | with_reducible apply sound_detect
    | simp only [sound_mk]
    | split
    | dsimp only
    | intro _

theorem sound_speedOf {a1} {a2} {a3} {a4} (h4 : Sound q a4) : Sound q (speedOf a1 a2 a3 a4) := by
  unfold speedOf
  try dsimp only
  repeat' first
    | with_reducible assumption
    | with_reducible apply soundC_of
    | simp only [sound_mk]
    | split
    | dsimp only
    | intro _

theorem sound_frozenCheck {a1} {a2} (h2 : Sound q a2) : Sound q (frozenCheck a1 a2) := by
  unfold frozenCheck
  try dsimp only
  repeat' first
    | with_reducible assumption
    | with_reducible apply soundC_of
    | simp only [sound_mk]
    | split
    | dsimp only
    | intro _

theorem sound_applyCorr {a1} (h1 : Sound q a1) : Sound q (applyCorr a1) := by
  unfold applyCorr
  try dsimp only
  repeat' first
    | with_reducible assumption
    | with_reducible apply soundC_of
    | simp only [sound_mk]
    | split
    | dsimp only
    | intro _

theorem sound_positionUpdate {a1} (h1 : Sound q a1) : Sound q (positionUpdate a1) := by
  unfold positionUpdate
  try dsimp only
  repeat' first
    | with_reducible assumption
    | with_reducible apply soundC_of
    | simp only [sound_mk]
    | split
    | dsimp only
    | intro _

theorem sound_resolverUpdate {a1} {a2} (h2 : Sound q a2) : Sound q (resolverUpdate a1 a2) := by
  unfold resolverUpdate
  try dsimp only
  repeat' first
    | with_reducible assumption
    | with_reducible apply soundC_of
    | simp only [sound_mk]
    | split
    | dsimp only
    | intro _

theorem sound_resCompare {a1} (h1 : Sound q a1) : Sound q (resCompare a1) := by
  unfold resCompare
  try dsimp only
  repeat' first
    | with_reducible assumption
    | with_reducible apply soundC_of
    | with_reducible apply sound_crossCompare
    | simp only [sound_mk]
    | split
    | dsimp only
    | intro _

theorem sound_fbUpdate {a1} {a2} (h2 : Sound q a2) : Sound q (fbUpdate a1 a2) := by
  unfold fbUpdate
  try dsimp only
  repeat' first
    | with_reducible assumption
    | with_reducible apply soundC_of
    | with_reducible apply sound_applyCorr
    | with_reducible apply sound_speedOf
    | with_reducible apply sound_resolverUpdate
    | with_reducible apply sound_frozenCheck
    | with_reducible apply sound_ssiSchedule
    | with_reducible apply sound_resCompare
    | with_reducible apply sound_positionUpdate
    | with_reducible apply sound_foldl
    | simp only [sound_mk]
    | split
    | dsimp only
    | intro _

theorem sound_fbClear {a1} {a2} (h2 : Sound q a2) : Sound q (fbClear a1 a2) := by
  unfold fbClear
  try dsimp only
  repeat' first
    | with_reducible assumption
    | with_reducible apply soundC_of
    | simp only [sound_mk]
    | split
    | dsimp only
    | intro _

theorem sound_fbWires {a1} {a2} (h2 : Sound q a2) : Sound q (fbWires a1 a2) := by
  unfold fbWires
  try dsimp only
  repeat' first
    | with_reducible assumption
    | with_reducible apply soundC_of
    | with_reducible apply sound_wireFault
    | with_reducible apply sound_foldl
    | simp only [sound_mk]
    | split
    | dsimp only
    | intro _

theorem sound_fbHall {a1} {a2} (h2 : Sound q a2) : Sound q (fbHall a1 a2) := by
  unfold fbHall
  try dsimp only
  repeat' first
    | with_reducible assumption
    | with_reducible apply soundC_of
    | with_reducible apply sound_loseSrc
    | with_reducible apply sound_detect
    | simp only [sound_mk]
    | split
    | dsimp only
    | intro _

theorem sound_ssiTake {a1} {a2} {a3} {a4} (h4 : Sound q a4) : Sound q (ssiTake a1 a2 a3 a4) := by
  unfold ssiTake
  try dsimp only
  repeat' first
    | with_reducible assumption
    | with_reducible apply soundC_of
    | simp only [sound_mk]
    | split
    | dsimp only
    | intro _

theorem sound_fbSsi {a1} {a2} {a3} (h3 : Sound q a3) : Sound q (fbSsi a1 a2 a3) := by
  unfold fbSsi
  try dsimp only
  repeat' first
    | with_reducible assumption
    | with_reducible apply soundC_of
    | with_reducible apply sound_record
    | with_reducible apply sound_saveDevice
    | with_reducible apply sound_setPar
    | with_reducible apply sound_ssiTake
    | with_reducible apply sound_loseSrc
    | with_reducible apply sound_detect
    | simp only [sound_mk]
    | split
    | dsimp only
    | intro _

theorem sound_fbBegin {a1} {a2} (h2 : Sound q a2) : Sound q (fbBegin a1 a2) := by
  unfold fbBegin
  try dsimp only
  repeat' first
    | with_reducible assumption
    | with_reducible apply soundC_of
    | simp only [sound_mk]
    | split
    | dsimp only
    | intro _

theorem sound_fbHomed {a1} {a2} (h2 : Sound q a2) : Sound q (fbHomed a1 a2) := by
  unfold fbHomed
  try dsimp only
  repeat' first
    | with_reducible assumption
    | with_reducible apply soundC_of
    | simp only [sound_mk]
    | split
    | dsimp only
    | intro _

theorem sound_fbStartEnd {a1} {a2} {a3} (h3 : Sound q a3) : Sound q (fbStartEnd a1 a2 a3) := by
  unfold fbStartEnd
  try dsimp only
  repeat' first
    | with_reducible assumption
    | with_reducible apply soundC_of
    | with_reducible apply sound_fbSsi
    | with_reducible apply sound_fbHall
    | with_reducible apply sound_fbWires
    | with_reducible apply sound_fbClear
    | with_reducible apply sound_fbHomed
    | with_reducible apply sound_fbBegin
    | simp only [sound_mk]
    | split
    | dsimp only
    | intro _

theorem sound_execFbRestart {a1} {a2} {a3} (h3 : Sound q a3) : SoundO q (execFbRestart a1 a2 a3) := by
  unfold execFbRestart
  try dsimp only
  repeat' first
    | with_reducible assumption
    | with_reducible apply soundC_of
    | with_reducible apply soundO_ok
    | with_reducible apply soundS_inl
    | with_reducible apply soundS_inr
    | with_reducible apply sound_longStep
    | with_reducible apply sound_no
    | simp only [sound_mk]
    | split
    | dsimp only
    | intro _
    | refine sound_of_pair ‹_ = (_, _)› ?_

theorem sound_fbRestartDone {a1} {a2} (h2 : Sound q a2) : Sound q (fbRestartDone a1 a2) := by
  unfold fbRestartDone
  try dsimp only
  repeat' first
    | with_reducible assumption
    | with_reducible apply soundC_of
    | with_reducible apply sound_fbStartEnd
    | with_reducible apply sound_finish
    | with_reducible apply sound_finishSt
    | simp only [sound_mk]
    | split
    | dsimp only
    | intro _

end Sys2Proof.Laws
end

