-- ==== Sys2Proof/Laws/KeepLoops.lean ====
section
/-! SUPPORT. What the operations of Loops.lean keep (Keep.lean). -/

set_option linter.unreachableTactic false
set_option linter.unusedTactic false
set_option linter.unusedSimpArgs false

namespace Sys2Proof.Laws
open Sys2Proof Sys2Proof.Machine

variable {q : Kept}

theorem sound_putFlag {a1} {a2} {a3} (h3 : Sound q a3) : Sound q (putFlag a1 a2 a3) := by
  unfold putFlag
  try dsimp only
  repeat' first
    | with_reducible assumption
    | with_reducible apply soundC_of
    | simp only [sound_mk]
    | split
    | dsimp only
    | intro _

theorem sound_torqueStar {a1} (h1 : Sound q a1) : Sound q (torqueStar a1) := by
  unfold torqueStar
  try dsimp only
  repeat' first
    | with_reducible assumption
    | with_reducible apply soundC_of
    | with_reducible apply sound_record
    | with_reducible apply sound_putFlag
    | simp only [sound_mk]
    | split
    | dsimp only
    | intro _

theorem sound_references {a1} (h1 : Sound q a1) : Sound q (references a1) := by
  unfold references
  try dsimp only
  repeat' first
    | with_reducible assumption
    | with_reducible apply soundC_of
    | with_reducible apply sound_putFlag
    | with_reducible apply sound_torqueStar
    | simp only [sound_mk]
    | split
    | dsimp only
    | intro _

theorem sound_currentLoop {a1} (h1 : Sound q a1) : Sound q (currentLoop a1) := by
  unfold currentLoop
  try dsimp only
  repeat' first
    | with_reducible assumption
    | with_reducible apply soundC_of
    | with_reducible apply sound_putFlag
    | simp only [sound_mk]
    | split
    | dsimp only
    | intro _

theorem sound_speedLoop {a1} (h1 : Sound q a1) : Sound q (speedLoop a1) := by
  unfold speedLoop
  try dsimp only
  repeat' first
    | with_reducible assumption
    | with_reducible apply soundC_of
    | simp only [sound_mk]
    | split
    | dsimp only
    | intro _

theorem sound_fieldWeakening {a1} (h1 : Sound q a1) : Sound q (fieldWeakening a1) := by
  unfold fieldWeakening
  try dsimp only
  repeat' first
    | with_reducible assumption
    | with_reducible apply soundC_of
    | with_reducible apply sound_putFlag
    | simp only [sound_mk]
    | split
    | dsimp only
    | intro _

theorem sound_positionLoop {a1} (h1 : Sound q a1) : Sound q (positionLoop a1) := by
  unfold positionLoop
  try dsimp only
  repeat' first
    | with_reducible assumption
    | with_reducible apply soundC_of
    | simp only [sound_mk]
    | split
    | dsimp only
    | intro _

theorem sound_damping {a1} (h1 : Sound q a1) : Sound q (damping a1) := by
  unfold damping
  try dsimp only
  repeat' first
    | with_reducible assumption
    | with_reducible apply soundC_of
    | with_reducible apply sound_putFlag
    | simp only [sound_mk]
    | split
    | dsimp only
    | intro _

theorem sound_measureIdq {a1} (h1 : Sound q a1) : Sound q (measureIdq a1) := by
  unfold measureIdq
  try dsimp only
  repeat' first
    | with_reducible assumption
    | with_reducible apply soundC_of
    | simp only [sound_mk]
    | split
    | dsimp only
    | intro _

theorem sound_loopsIdle {a1} (h1 : Sound q a1) : Sound q (loopsIdle a1) := by
  unfold loopsIdle
  try dsimp only
  repeat' first
    | with_reducible assumption
    | with_reducible apply soundC_of
    | with_reducible apply sound_measureIdq
    | simp only [sound_mk]
    | split
    | dsimp only
    | intro _

theorem sound_loopsHeld {a1} (h1 : Sound q a1) : Sound q (loopsHeld a1) := by
  unfold loopsHeld
  try dsimp only
  repeat' first
    | with_reducible assumption
    | with_reducible apply soundC_of
    | with_reducible apply sound_measureIdq
    | simp only [sound_mk]
    | split
    | dsimp only
    | intro _

theorem sound_enterControl {a1} {a2} {a3} (h3 : Sound q a3) : Sound q (enterControl a1 a2 a3) := by
  unfold enterControl
  try dsimp only
  repeat' first
    | with_reducible assumption
    | with_reducible apply soundC_of
    | simp only [sound_mk]
    | split
    | dsimp only
    | intro _

theorem sound_restore01 {a1} {a2} (h2 : Sound q a2) : Sound q (restore01 a1 a2) := by
  unfold restore01
  try dsimp only
  repeat' first
    | with_reducible assumption
    | with_reducible apply soundC_of
    | simp only [sound_mk]
    | split
    | dsimp only
    | intro _

theorem sound_restore23 {a1} {a2} (h2 : Sound q a2) : Sound q (restore23 a1 a2) := by
  unfold restore23
  try dsimp only
  repeat' first
    | with_reducible assumption
    | with_reducible apply soundC_of
    | simp only [sound_mk]
    | split
    | dsimp only
    | intro _

theorem sound_restore45 {a1} {a2} (h2 : Sound q a2) : Sound q (restore45 a1 a2) := by
  unfold restore45
  try dsimp only
  repeat' first
    | with_reducible assumption
    | with_reducible apply soundC_of
    | simp only [sound_mk]
    | split
    | dsimp only
    | intro _

theorem sound_pairRun {a1} {a2} {a3} {a4} (h2 : ∀ x0, Sound q x0 → Sound q (a2 x0)) (h3 : ∀ x0 x1, Sound q x1 → Sound q (a3 x0 x1)) (h4 : Sound q a4) : Sound q (pairRun a1 a2 a3 a4) := by
  unfold pairRun
  try dsimp only
  repeat' first
    | with_reducible assumption
    | with_reducible apply soundC_of
    | with_reducible apply h2
    | with_reducible apply h3
    | simp only [sound_mk]
    | split
    | dsimp only
    | intro _

theorem sound_loopUpdate {a1} (h1 : Sound q a1) : Sound q (loopUpdate a1) := by
  unfold loopUpdate
  try dsimp only
  repeat' first
    | with_reducible assumption
    | with_reducible apply soundC_of
    | with_reducible apply sound_pairRun
    | with_reducible apply sound_currentLoop
    | with_reducible apply sound_references
    | with_reducible apply sound_restore01
    | with_reducible apply sound_fieldWeakening
    | with_reducible apply sound_speedLoop
    | with_reducible apply sound_restore23
    | with_reducible apply sound_damping
    | with_reducible apply sound_positionLoop
    | with_reducible apply sound_restore45
    | simp only [sound_mk]
    | split
    | dsimp only
    | intro _

theorem sound_execTableCommitCopy {a1} {a2} (h2 : Sound q a2) : SoundO q (execTableCommitCopy a1 a2) := by
  unfold execTableCommitCopy
  try dsimp only
  repeat' first
    | with_reducible assumption
    | with_reducible apply soundC_of
    | with_reducible apply soundO_ok
    | with_reducible apply sound_detect
    | with_reducible apply sound_record
    | with_reducible apply sound_foldl
    | simp only [sound_mk]
    | split
    | dsimp only
    | intro _

theorem sound_execCurrentDeviation {a1} (h1 : Sound q a1) : SoundO q (execCurrentDeviation a1) := by
  unfold execCurrentDeviation
  try dsimp only
  repeat' first
    | with_reducible assumption
    | with_reducible apply soundC_of
    | with_reducible apply soundO_ok
    | with_reducible apply sound_detect
    | simp only [sound_mk]
    | split
    | dsimp only
    | intro _

theorem sound_execVoltageLimitHeld {a1} (h1 : Sound q a1) : SoundO q (execVoltageLimitHeld a1) := by
  unfold execVoltageLimitHeld
  try dsimp only
  repeat' first
    | with_reducible assumption
    | with_reducible apply soundC_of
    | with_reducible apply soundO_ok
    | with_reducible apply sound_detect
    | simp only [sound_mk]
    | split
    | dsimp only
    | intro _

theorem sound_execDisturbedPredictionLimit {a1} (h1 : Sound q a1) : SoundO q (execDisturbedPredictionLimit a1) := by
  unfold execDisturbedPredictionLimit
  try dsimp only
  repeat' first
    | with_reducible assumption
    | with_reducible apply soundC_of
    | with_reducible apply soundO_ok
    | with_reducible apply sound_record
    | simp only [sound_mk]
    | split
    | dsimp only
    | intro _

theorem sound_execSpeedDeviation {a1} (h1 : Sound q a1) : SoundO q (execSpeedDeviation a1) := by
  unfold execSpeedDeviation
  try dsimp only
  repeat' first
    | with_reducible assumption
    | with_reducible apply soundC_of
    | with_reducible apply soundO_ok
    | with_reducible apply sound_detect
    | simp only [sound_mk]
    | split
    | dsimp only
    | intro _

theorem sound_execOverspeed {a1} (h1 : Sound q a1) : SoundO q (execOverspeed a1) := by
  unfold execOverspeed
  try dsimp only
  repeat' first
    | with_reducible assumption
    | with_reducible apply soundC_of
    | with_reducible apply soundO_ok
    | with_reducible apply sound_detect
    | simp only [sound_mk]
    | split
    | dsimp only
    | intro _

theorem sound_execFollowingError {a1} (h1 : Sound q a1) : SoundO q (execFollowingError a1) := by
  unfold execFollowingError
  try dsimp only
  repeat' first
    | with_reducible assumption
    | with_reducible apply soundC_of
    | with_reducible apply soundO_ok
    | with_reducible apply sound_detect
    | simp only [sound_mk]
    | split
    | dsimp only
    | intro _

theorem sound_execDampingClamped {a1} (h1 : Sound q a1) : SoundO q (execDampingClamped a1) := by
  unfold execDampingClamped
  try dsimp only
  repeat' first
    | with_reducible assumption
    | with_reducible apply soundC_of
    | with_reducible apply soundO_ok
    | with_reducible apply sound_detect
    | simp only [sound_mk]
    | split
    | dsimp only
    | intro _

end Sys2Proof.Laws
end

