-- ==== Sys2Proof/Laws/KeepModulator.lean ====
section
/-! SUPPORT. What the operations of Modulator.lean keep (Keep.lean). -/

set_option linter.unreachableTactic false
set_option linter.unusedTactic false
set_option linter.unusedSimpArgs false

namespace Sys2Proof.Laws
open Sys2Proof Sys2Proof.Machine

variable {q : Kept}

theorem sound_carrierTurn {a1} (h1 : Sound q a1) : Sound q (carrierTurn a1).1 := by
  unfold carrierTurn
  try dsimp only
  repeat' first
    | with_reducible assumption
    | with_reducible apply soundC_of
    | simp only [sound_mk]
    | split
    | dsimp only
    | intro _

theorem sound_chooseMethod {a1} {a2} {a3} {a4} {a5} (h5 : Sound q a5) : Sound q (chooseMethod a1 a2 a3 a4 a5) := by
  unfold chooseMethod
  try dsimp only
  repeat' first
    | with_reducible assumption
    | with_reducible apply soundC_of
    | with_reducible apply sound_record
    | simp only [sound_mk]
    | split
    | dsimp only
    | intro _

theorem sound_putLegs {a1} {a2} (h2 : Sound q a2) : Sound q (putLegs a1 a2) := by
  unfold putLegs
  try dsimp only
  repeat' first
    | with_reducible assumption
    | with_reducible apply soundC_of
    | simp only [sound_mk]
    | split
    | dsimp only
    | intro _

theorem sound_sendCmp {a1} {a2} (h2 : Sound q a2) : Sound q (sendCmp a1 a2) := by
  unfold sendCmp
  try dsimp only
  repeat' first
    | with_reducible assumption
    | with_reducible apply soundC_of
    | simp only [sound_mk]
    | split
    | dsimp only
    | intro _

theorem sound_twoLegs {a1} {a2} {a3} (h3 : Sound q a3) : Sound q (twoLegs a1 a2 a3) := by
  unfold twoLegs
  try dsimp only
  repeat' first
    | with_reducible assumption
    | with_reducible apply soundC_of
    | with_reducible apply sound_putLegs
    | simp only [sound_mk]
    | split
    | dsimp only
    | intro _

theorem sound_sineSet {a1} (h1 : Sound q a1) : Sound q (sineSet a1) := by
  unfold sineSet
  try dsimp only
  repeat' first
    | with_reducible assumption
    | with_reducible apply soundC_of
    | with_reducible apply sound_chooseMethod
    | with_reducible apply sound_twoLegs
    | with_reducible apply sound_sendCmp
    | simp only [sound_mk]
    | split
    | dsimp only
    | intro _

theorem sound_blockSet {a1} (h1 : Sound q a1) : Sound q (blockSet a1) := by
  unfold blockSet
  try dsimp only
  repeat' first
    | with_reducible assumption
    | with_reducible apply soundC_of
    | with_reducible apply sound_putLegs
    | simp only [sound_mk]
    | split
    | dsimp only
    | intro _

theorem sound_sixSet {a1} (h1 : Sound q a1) : Sound q (sixSet a1) := by
  unfold sixSet
  try dsimp only
  repeat' first
    | with_reducible assumption
    | with_reducible apply soundC_of
    | with_reducible apply sound_putLegs
    | simp only [sound_mk]
    | split
    | dsimp only
    | intro _

theorem sound_maskFaulted {a1} (h1 : Sound q a1) : Sound q (maskFaulted a1) := by
  unfold maskFaulted
  try dsimp only
  repeat' first
    | with_reducible assumption
    | with_reducible apply soundC_of
    | with_reducible apply sound_putLegs
    | simp only [sound_mk]
    | split
    | dsimp only
    | intro _

theorem sound_refreshCount {a1} (h1 : Sound q a1) : Sound q (refreshCount a1) := by
  unfold refreshCount
  try dsimp only
  repeat' first
    | with_reducible assumption
    | with_reducible apply soundC_of
    | with_reducible apply sound_foldl
    | simp only [sound_mk]
    | split
    | dsimp only
    | intro _

theorem sound_refreshEnd {a1} (h1 : Sound q a1) : Sound q (refreshEnd a1) := by
  unfold refreshEnd
  try dsimp only
  repeat' first
    | with_reducible assumption
    | with_reducible apply soundC_of
    | simp only [sound_mk]
    | split
    | dsimp only
    | intro _

theorem sound_modUpdate {a1} (h1 : Sound q a1) : Sound q (modUpdate a1) := by
  unfold modUpdate
  try dsimp only
  repeat' first
    | with_reducible assumption
    | with_reducible apply soundC_of
    | with_reducible apply sound_refreshCount
    | with_reducible apply sound_maskFaulted
    | with_reducible apply sound_refreshEnd
    | with_reducible apply sound_putLegs
    | with_reducible apply sound_blockSet
    | with_reducible apply sound_sixSet
    | with_reducible apply sound_sineSet
    | simp only [sound_mk]
    | split
    | dsimp only
    | intro _

theorem sound_execCompareSetsMissedTwice {a1} {a2} (h2 : Sound q a2) : SoundO q (execCompareSetsMissedTwice a1 a2) := by
  unfold execCompareSetsMissedTwice
  try dsimp only
  repeat' first
    | with_reducible assumption
    | with_reducible apply soundC_of
    | with_reducible apply soundO_ok
    | with_reducible apply sound_detect
    | simp only [sound_mk]
    | split
    | dsimp only
    | intro _

theorem sound_execEchoReceived {a1} {a2} {a3} {a4} (h4 : Sound q a4) : SoundO q (execEchoReceived a1 a2 a3 a4) := by
  unfold execEchoReceived
  try dsimp only
  repeat' first
    | with_reducible assumption
    | with_reducible apply soundC_of
    | with_reducible apply soundO_ok
    | with_reducible apply sound_detect
    | simp only [sound_mk]
    | split
    | dsimp only
    | intro _

theorem sound_execDelayLineCalibration {a1} {a2} {a3} (h3 : Sound q a3) : SoundO q (execDelayLineCalibration a1 a2 a3) := by
  unfold execDelayLineCalibration
  try dsimp only
  repeat' first
    | with_reducible assumption
    | with_reducible apply soundC_of
    | with_reducible apply soundO_ok
    | with_reducible apply sound_detect
    | simp only [sound_mk]
    | split
    | dsimp only
    | intro _

theorem sound_execBootstrapRefresh {a1} {a2} (h2 : Sound q a2) : SoundO q (execBootstrapRefresh a1 a2) := by
  unfold execBootstrapRefresh
  try dsimp only
  repeat' first
    | with_reducible assumption
    | with_reducible apply soundC_of
    | with_reducible apply soundO_ok
    | with_reducible apply sound_record
    | simp only [sound_mk]
    | split
    | dsimp only
    | intro _

theorem sound_endLegLoss {a1} (h1 : Sound q a1) : Sound q (endLegLoss a1) := by
  unfold endLegLoss
  try dsimp only
  repeat' first
    | with_reducible assumption
    | with_reducible apply soundC_of
    | with_reducible apply sound_detect
    | simp only [sound_mk]
    | split
    | dsimp only
    | intro _

theorem sound_execLegLossRampEnd {a1} (h1 : Sound q a1) : SoundO q (execLegLossRampEnd a1) := by
  unfold execLegLossRampEnd
  try dsimp only
  repeat' first
    | with_reducible assumption
    | with_reducible apply soundC_of
    | with_reducible apply soundO_ok
    | with_reducible apply sound_endLegLoss
    | simp only [sound_mk]
    | split
    | dsimp only
    | intro _

theorem sound_legLossCheck {a1} (h1 : Sound q a1) : Sound q (legLossCheck a1) := by
  unfold legLossCheck
  try dsimp only
  repeat' first
    | with_reducible assumption
    | with_reducible apply soundC_of
    | with_reducible apply sound_endLegLoss
    | simp only [sound_mk]
    | split
    | dsimp only
    | intro _

end Sys2Proof.Laws
end

