-- ==== Sys2Proof/Laws/KeepGateDrive.lean ====
section
/-! SUPPORT. What the operations of GateDrive.lean keep (Keep.lean). -/

set_option linter.unreachableTactic false
set_option linter.unusedTactic false
set_option linter.unusedSimpArgs false

namespace Sys2Proof.Laws
open Sys2Proof Sys2Proof.Machine

variable {q : Kept}

theorem sound_putDie {a1} {a2} {a3} (h3 : Sound q a3) : Sound q (putDie a1 a2 a3) := by
  unfold putDie
  try dsimp only
  repeat' first
    | with_reducible assumption
    | with_reducible apply soundC_of
    | simp only [sound_mk]
    | split
    | dsimp only
    | intro _

theorem sound_selectBands {a1} (h1 : Sound q a1) : Sound q (selectBands a1) := by
  unfold selectBands
  try dsimp only
  repeat' first
    | with_reducible assumption
    | with_reducible apply soundC_of
    | simp only [sound_mk]
    | split
    | dsimp only
    | intro _

theorem sound_execCompareSetReceived {a1} {a2} {a3} (h3 : Sound q a3) : SoundO q (execCompareSetReceived a1 a2 a3) := by
  unfold execCompareSetReceived
  try dsimp only
  repeat' first
    | with_reducible assumption
    | with_reducible apply soundC_of
    | with_reducible apply soundO_ok
    | with_reducible apply sound_putDie
    | simp only [sound_mk]
    | split
    | dsimp only
    | intro _

theorem sound_execLegEdgeDecision {a1} {a2} (h2 : Sound q a2) : SoundO q (execLegEdgeDecision a1 a2) := by
  unfold execLegEdgeDecision
  try dsimp only
  repeat' first
    | with_reducible assumption
    | with_reducible apply soundC_of
    | with_reducible apply soundO_ok
    | with_reducible apply sound_putDie
    | with_reducible apply sound_record
    | simp only [sound_mk]
    | split
    | dsimp only
    | intro _

theorem sound_execGateEdge {a1} {a2} (h2 : Sound q a2) : SoundO q (execGateEdge a1 a2) := by
  unfold execGateEdge
  try dsimp only
  repeat' first
    | with_reducible assumption
    | with_reducible apply soundC_of
    | with_reducible apply soundO_ok
    | with_reducible apply sound_putDie
    | simp only [sound_mk]
    | split
    | dsimp only
    | intro _

theorem sound_execProfileEnd {a1} {a2} (h2 : Sound q a2) : SoundO q (execProfileEnd a1 a2) := by
  unfold execProfileEnd
  try dsimp only
  repeat' first
    | with_reducible assumption
    | with_reducible apply soundC_of
    | with_reducible apply soundO_ok
    | with_reducible apply sound_putDie
    | simp only [sound_mk]
    | split
    | dsimp only
    | intro _

theorem sound_execSoftTurnOffEnd {a1} {a2} (h2 : Sound q a2) : SoundO q (execSoftTurnOffEnd a1 a2) := by
  unfold execSoftTurnOffEnd
  try dsimp only
  repeat' first
    | with_reducible assumption
    | with_reducible apply soundC_of
    | with_reducible apply soundO_ok
    | with_reducible apply sound_putDie
    | simp only [sound_mk]
    | split
    | dsimp only
    | intro _

theorem sound_dieTrip {a1} {a2} {a3} {a4} {a5} (h5 : Sound q a5) : Sound q (dieTrip a1 a2 a3 a4 a5) := by
  unfold dieTrip
  try dsimp only
  repeat' first
    | with_reducible assumption
    | with_reducible apply soundC_of
    | with_reducible apply sound_putDie
    | with_reducible apply sound_record
    | simp only [sound_mk]
    | split
    | dsimp only
    | intro _

theorem sound_execDidtTrip {a1} {a2} {a3} {a4} (h4 : Sound q a4) : SoundO q (execDidtTrip a1 a2 a3 a4) := by
  unfold execDidtTrip
  try dsimp only
  repeat' first
    | with_reducible assumption
    | with_reducible apply soundC_of
    | with_reducible apply soundO_ok
    | with_reducible apply sound_dieTrip
    | simp only [sound_mk]
    | split
    | dsimp only
    | intro _

theorem sound_execDesatTrip {a1} {a2} {a3} {a4} (h4 : Sound q a4) : SoundO q (execDesatTrip a1 a2 a3 a4) := by
  unfold execDesatTrip
  try dsimp only
  repeat' first
    | with_reducible assumption
    | with_reducible apply soundC_of
    | with_reducible apply soundO_ok
    | with_reducible apply sound_dieTrip
    | simp only [sound_mk]
    | split
    | dsimp only
    | intro _

theorem sound_execGateVoltageFault {a1} {a2} {a3} {a4} {a5} (h5 : Sound q a5) : SoundO q (execGateVoltageFault a1 a2 a3 a4 a5) := by
  unfold execGateVoltageFault
  try dsimp only
  repeat' first
    | with_reducible assumption
    | with_reducible apply soundC_of
    | with_reducible apply soundO_ok
    | with_reducible apply sound_dieTrip
    | simp only [sound_mk]
    | split
    | dsimp only
    | intro _

theorem sound_execHeelReceived {a1} {a2} {a3} (h3 : Sound q a3) : SoundO q (execHeelReceived a1 a2 a3) := by
  unfold execHeelReceived
  try dsimp only
  repeat' first
    | with_reducible assumption
    | with_reducible apply soundC_of
    | with_reducible apply soundC_takeOrder
    | with_reducible apply soundO_ok
    | with_reducible apply sound_brake
    | with_reducible apply sound_putDie
    | simp only [sound_mk]
    | split
    | dsimp only
    | intro _

theorem sound_execHeldOrderRelease {a1} {a2} (h2 : Sound q a2) : SoundO q (execHeldOrderRelease a1 a2) := by
  unfold execHeldOrderRelease
  try dsimp only
  repeat' first
    | with_reducible assumption
    | with_reducible apply soundC_of
    | with_reducible apply soundO_ok
    | with_reducible apply sound_brake
    | with_reducible apply sound_putDie
    | simp only [sound_mk]
    | split
    | dsimp only
    | intro _

theorem sound_execGdLinkLost {a1} {a2} (h2 : Sound q a2) : SoundO q (execGdLinkLost a1 a2) := by
  unfold execGdLinkLost
  try dsimp only
  repeat' first
    | with_reducible assumption
    | with_reducible apply soundC_of
    | with_reducible apply soundO_ok
    | with_reducible apply sound_putDie
    | simp only [sound_mk]
    | split
    | dsimp only
    | intro _

theorem sound_execGdLogicPowerLost {a1} {a2} (h2 : Sound q a2) : SoundO q (execGdLogicPowerLost a1 a2) := by
  unfold execGdLogicPowerLost
  try dsimp only
  repeat' first
    | with_reducible assumption
    | with_reducible apply soundC_of
    | with_reducible apply soundO_ok
    | with_reducible apply sound_putDie
    | simp only [sound_mk]
    | split
    | dsimp only
    | intro _

theorem sound_reportLeg {a1} {a2} {a3} (h3 : Sound q a3) : Sound q (reportLeg a1 a2 a3) := by
  unfold reportLeg
  split
  · exact sound_broadcast { sound_abortDiag (a1 := a2) h3 with rank := h3.rank }
  · exact sound_faultLeg h3

theorem sound_reportLegs {a1} {a2} {a3} (h2 : Sound q a2) : Sound q (reportLegs a1 a2 a3) := by
  induction a3 generalizing a2 with
  | nil => exact sound_abortDiag h2
  | cons p r ih =>
    cases r with
    | nil => exact sound_reportLeg h2
    | cons x y => exact ih (a2 := { a2 with heel := { a2.heel with legs := a2.heel.legs.set p true } }) h2

theorem sound_noteReport {a1} {a2} {a3} (h3 : Sound q a3) : Sound q (noteReport a1 a2 a3) := by
  unfold noteReport
  try dsimp only
  repeat' first
    | with_reducible assumption
    | with_reducible apply soundC_of
    | with_reducible apply sound_record
    | simp only [sound_mk]
    | split
    | dsimp only
    | intro _

theorem sound_execHeelReport {a1} {a2} {a3} {a4} (h4 : Sound q a4) : SoundO q (execHeelReport a1 a2 a3 a4) := by
  unfold execHeelReport
  try dsimp only
  repeat' first
    | with_reducible assumption
    | with_reducible apply soundC_of
    | with_reducible apply soundO_ok
    | with_reducible apply sound_reportLegs
    | with_reducible apply sound_noteReport
    | with_reducible apply sound_foldl
    | simp only [sound_mk]
    | split
    | dsimp only
    | intro _

theorem sound_execNtcConversion {a1} {a2} {a3} (h3 : Sound q a3) : SoundO q (execNtcConversion a1 a2 a3) := by
  unfold execNtcConversion
  try dsimp only
  repeat' first
    | with_reducible assumption
    | with_reducible apply soundC_of
    | with_reducible apply soundO_ok
    | with_reducible apply sound_putDie
    | simp only [sound_mk]
    | split
    | dsimp only
    | intro _

theorem sound_execGdDiag {a1} {a2} (h2 : Sound q a2) : SoundO q (execGdDiag a1 a2) := by
  unfold execGdDiag
  try dsimp only
  repeat' first
    | with_reducible assumption
    | with_reducible apply soundC_of
    | with_reducible apply soundO_ok
    | with_reducible apply soundS_inl
    | with_reducible apply soundS_inr
    | with_reducible apply sound_longStep
    | with_reducible apply sound_no
    | with_reducible apply sound_startDiag
    | simp only [sound_mk]
    | split
    | dsimp only
    | intro _
    | refine sound_of_pair ‹_ = (_, _)› ?_

theorem sound_diagRecords {a1} {a2} {a3} (h3 : Sound q a3) : Sound q (diagRecords a1 a2 a3) := by
  unfold diagRecords
  try dsimp only
  repeat' first
    | with_reducible assumption
    | with_reducible apply soundC_of
    | with_reducible apply sound_record
    | with_reducible apply sound_foldl
    | simp only [sound_mk]
    | split
    | dsimp only
    | intro _

theorem sound_execDiagnosticComplete {a1} {a2} (h2 : Sound q a2) : SoundO q (execDiagnosticComplete a1 a2) := by
  unfold execDiagnosticComplete
  try dsimp only
  repeat' first
    | with_reducible assumption
    | with_reducible apply soundC_of
    | with_reducible apply soundO_ok
    | with_reducible apply sound_diagRecords
    | with_reducible apply sound_answer
    | with_reducible apply sound_record
    | with_reducible apply sound_answerOk
    | with_reducible apply sound_startPrecharge
    | with_reducible apply sound_foldl
    | simp only [sound_mk]
    | split
    | dsimp only
    | intro _

end Sys2Proof.Laws
end

