-- ==== Sys2Proof/Laws/KeepMotion.lean ====
section
/-! SUPPORT. What the operations of Motion.lean keep (Keep.lean). -/

set_option linter.unreachableTactic false
set_option linter.unusedTactic false
set_option linter.unusedSimpArgs false

namespace Sys2Proof.Laws
open Sys2Proof Sys2Proof.Machine

variable {q : Kept}

theorem sound_setPlan {a1} {a2} {a3} {a4} {a5} (h5 : Sound q a5) : Sound q (setPlan a1 a2 a3 a4 a5) := by
  unfold setPlan
  try dsimp only
  repeat' first
    | with_reducible assumption
    | with_reducible apply soundC_of
    | simp only [sound_mk]
    | split
    | dsimp only
    | intro _

theorem sound_planFromMeasured {a1} (h1 : Sound q a1) : Sound q (planFromMeasured a1) := by
  unfold planFromMeasured
  try dsimp only
  repeat' first
    | with_reducible assumption
    | with_reducible apply soundC_of
    | simp only [sound_mk]
    | split
    | dsimp only
    | intro _

theorem sound_planStop {a1} {a2} {a3} {a4} (h4 : Sound q a4) : Sound q (planStop a1 a2 a3 a4) := by
  unfold planStop
  try dsimp only
  repeat' first
    | with_reducible assumption
    | with_reducible apply soundC_of
    | with_reducible apply sound_setPlan
    | simp only [sound_mk]
    | split
    | dsimp only
    | intro _

theorem sound_setShift {a1} {a2} (h2 : Sound q a2) : Sound q (setShift a1 a2) := by
  unfold setShift
  try dsimp only
  repeat' first
    | with_reducible assumption
    | with_reducible apply soundC_of
    | with_reducible apply sound_setPar
    | simp only [sound_mk]
    | split
    | dsimp only
    | intro _

theorem sound_homeEnd {a1} {a2} {a3} (h3 : Sound q a3) : Sound q (homeEnd a1 a2 a3) := by
  unfold homeEnd
  try dsimp only
  repeat' first
    | with_reducible assumption
    | with_reducible apply soundC_of
    | with_reducible apply sound_setShift
    | with_reducible apply sound_answer
    | simp only [sound_mk]
    | split
    | dsimp only
    | intro _

theorem sound_segEnd {a1} {a2} {a3} (h3 : Sound q a3) : Sound q (segEnd a1 a2 a3) := by
  unfold segEnd
  try dsimp only
  repeat' first
    | with_reducible assumption
    | with_reducible apply soundC_of
    | with_reducible apply sound_answer
    | simp only [sound_mk]
    | split
    | dsimp only
    | intro _

theorem sound_endSource {a1} {a2} {a3} (h3 : Sound q a3) : Sound q (endSource a1 a2 a3) := by
  unfold endSource
  try dsimp only
  repeat' first
    | with_reducible assumption
    | with_reducible apply soundC_of
    | with_reducible apply sound_segEnd
    | with_reducible apply sound_homeEnd
    | simp only [sound_mk]
    | split
    | dsimp only
    | intro _

theorem sound_limitStopAt {a1} {a2} {a3} (h3 : Sound q a3) : Sound q (limitStopAt a1 a2 a3) := by
  unfold limitStopAt
  try dsimp only
  repeat' first
    | with_reducible assumption
    | with_reducible apply soundC_of
    | with_reducible apply sound_endSource
    | with_reducible apply sound_planStop
    | with_reducible apply sound_detect
    | with_reducible apply sound_setPlan
    | simp only [sound_mk]
    | split
    | dsimp only
    | intro _

theorem sound_limitJudge {a1} (h1 : Sound q a1) : Sound q (limitJudge a1) := by
  unfold limitJudge
  try dsimp only
  repeat' first
    | with_reducible assumption
    | with_reducible apply soundC_of
    | with_reducible apply sound_limitStopAt
    | simp only [sound_mk]
    | split
    | dsimp only
    | intro _

theorem sound_limitCheck {a1} (h1 : Sound q a1) : Sound q (limitCheck a1) := by
  unfold limitCheck
  try dsimp only
  repeat' first
    | with_reducible assumption
    | with_reducible apply soundC_of
    | with_reducible apply sound_limitJudge
    | simp only [sound_mk]
    | split
    | dsimp only
    | intro _

theorem sound_limitsArrive {a1} (h1 : Sound q a1) : Sound q (limitsArrive a1) := by
  unfold limitsArrive
  try dsimp only
  repeat' first
    | with_reducible assumption
    | with_reducible apply soundC_of
    | with_reducible apply sound_limitStopAt
    | simp only [sound_mk]
    | split
    | dsimp only
    | intro _

theorem sound_overrunCheck {a1} (h1 : Sound q a1) : Sound q (overrunCheck a1) := by
  unfold overrunCheck
  try dsimp only
  repeat' first
    | with_reducible assumption
    | with_reducible apply soundC_of
    | with_reducible apply sound_detect
    | simp only [sound_mk]
    | split
    | dsimp only
    | intro _

theorem sound_swPut {a1} {a2} {a3} (h3 : Sound q a3) : Sound q (swPut a1 a2 a3) := by
  unfold swPut
  try dsimp only
  repeat' first
    | with_reducible assumption
    | with_reducible apply soundC_of
    | simp only [sound_mk]
    | split
    | dsimp only
    | intro _

theorem sound_switchStop {a1} (h1 : Sound q a1) : Sound q (switchStop a1) := by
  unfold switchStop
  try dsimp only
  repeat' first
    | with_reducible assumption
    | with_reducible apply soundC_of
    | with_reducible apply sound_limitStopAt
    | with_reducible apply sound_planStop
    | simp only [sound_mk]
    | split
    | dsimp only
    | intro _

theorem sound_homeVel {a1} {a2} (h2 : Sound q a2) : Sound q (homeVel a1 a2) := by
  unfold homeVel
  try dsimp only
  repeat' first
    | with_reducible assumption
    | with_reducible apply soundC_of
    | with_reducible apply sound_setPlan
    | simp only [sound_mk]
    | split
    | dsimp only
    | intro _

theorem sound_homeFail {a1} {a2} (h2 : Sound q a2) : Sound q (homeFail a1 a2) := by
  unfold homeFail
  try dsimp only
  repeat' first
    | with_reducible assumption
    | with_reducible apply soundC_of
    | with_reducible apply sound_detect
    | with_reducible apply sound_homeEnd
    | with_reducible apply sound_planStop
    | simp only [sound_mk]
    | split
    | dsimp only
    | intro _

theorem sound_homeEvent {a1} {a2} (h2 : Sound q a2) : Sound q (homeEvent a1 a2) := by
  unfold homeEvent
  try dsimp only
  repeat' first
    | with_reducible assumption
    | with_reducible apply soundC_of
    | with_reducible apply sound_setShift
    | with_reducible apply sound_planStop
    | simp only [sound_mk]
    | split
    | dsimp only
    | intro _

theorem sound_homeDone {a1} (h1 : Sound q a1) : Sound q (homeDone a1) := by
  unfold homeDone
  try dsimp only
  repeat' first
    | with_reducible assumption
    | with_reducible apply soundC_of
    | with_reducible apply sound_answerOk
    | with_reducible apply sound_record
    | simp only [sound_mk]
    | split
    | dsimp only
    | intro _

theorem sound_homeAfterSwitch {a1} {a2} (h2 : Sound q a2) : Sound q (homeAfterSwitch a1 a2) := by
  unfold homeAfterSwitch
  try dsimp only
  repeat' first
    | with_reducible assumption
    | with_reducible apply soundC_of
    | with_reducible apply sound_homeEvent
    | simp only [sound_mk]
    | split
    | dsimp only
    | intro _

theorem sound_homeSwitch {a1} {a2} (h2 : Sound q a2) : Sound q (homeSwitch a1 a2) := by
  unfold homeSwitch
  try dsimp only
  repeat' first
    | with_reducible assumption
    | with_reducible apply soundC_of
    | with_reducible apply sound_detect
    | with_reducible apply sound_switchStop
    | with_reducible apply sound_homeEnd
    | with_reducible apply sound_homeVel
    | with_reducible apply sound_homeFail
    | with_reducible apply sound_homeAfterSwitch
    | simp only [sound_mk]
    | split
    | dsimp only
    | intro _

theorem sound_homeUpdate {a1} (h1 : Sound q a1) : Sound q (homeUpdate a1) := by
  unfold homeUpdate
  try dsimp only
  repeat' first
    | with_reducible assumption
    | with_reducible apply soundC_of
    | with_reducible apply sound_homeEvent
    | with_reducible apply sound_homeVel
    | with_reducible apply sound_homeAfterSwitch
    | with_reducible apply sound_homeFail
    | with_reducible apply sound_homeDone
    | simp only [sound_mk]
    | split
    | dsimp only
    | intro _

theorem sound_homeBegin {a1} {a2} (h2 : Sound q a2) : Sound q (homeBegin a1 a2) := by
  unfold homeBegin
  try dsimp only
  repeat' first
    | with_reducible assumption
    | with_reducible apply soundC_of
    | with_reducible apply sound_homeDone
    | with_reducible apply sound_setShift
    | with_reducible apply sound_planStop
    | with_reducible apply sound_homeVel
    | simp only [sound_mk]
    | split
    | dsimp only
    | intro _

theorem sound_execHomingTimeout {a1} (h1 : Sound q a1) : SoundO q (execHomingTimeout a1) := by
  unfold execHomingTimeout
  try dsimp only
  repeat' first
    | with_reducible assumption
    | with_reducible apply soundC_of
    | with_reducible apply soundO_ok
    | with_reducible apply sound_homeFail
    | simp only [sound_mk]
    | split
    | dsimp only
    | intro _

theorem sound_execSwitchInputChange {a1} {a2} {a3} (h3 : Sound q a3) : SoundO q (execSwitchInputChange a1 a2 a3) := by
  unfold execSwitchInputChange
  try dsimp only
  repeat' first
    | with_reducible assumption
    | with_reducible apply soundC_of
    | with_reducible apply soundO_ok
    | with_reducible apply sound_swPut
    | simp only [sound_mk]
    | split
    | dsimp only
    | intro _

theorem sound_limitSwitch {a1} {a2} (h2 : Sound q a2) : Sound q (limitSwitch a1 a2) := by
  unfold limitSwitch
  try dsimp only
  repeat' first
    | with_reducible assumption
    | with_reducible apply soundC_of
    | with_reducible apply sound_homeSwitch
    | with_reducible apply sound_detect
    | with_reducible apply sound_switchStop
    | with_reducible apply sound_endSource
    | simp only [sound_mk]
    | split
    | dsimp only
    | intro _

theorem sound_execSwitchDebounced {a1} {a2} (h2 : Sound q a2) : SoundO q (execSwitchDebounced a1 a2) := by
  unfold execSwitchDebounced
  try dsimp only
  repeat' first
    | with_reducible assumption
    | with_reducible apply soundC_of
    | with_reducible apply soundO_ok
    | with_reducible apply sound_swPut
    | with_reducible apply sound_limitSwitch
    | with_reducible apply sound_homeSwitch
    | simp only [sound_mk]
    | split
    | dsimp only
    | intro _

theorem sound_execSwitchChatter {a1} {a2} (h2 : Sound q a2) : SoundO q (execSwitchChatter a1 a2) := by
  unfold execSwitchChatter
  try dsimp only
  repeat' first
    | with_reducible assumption
    | with_reducible apply soundC_of
    | with_reducible apply soundO_ok
    | with_reducible apply sound_detect
    | with_reducible apply sound_swPut
    | with_reducible apply sound_limitSwitch
    | simp only [sound_mk]
    | split
    | dsimp only
    | intro _

theorem sound_execSwitchChatterEnd {a1} {a2} (h2 : Sound q a2) : SoundO q (execSwitchChatterEnd a1 a2) := by
  unfold execSwitchChatterEnd
  try dsimp only
  repeat' first
    | with_reducible assumption
    | with_reducible apply soundC_of
    | with_reducible apply soundO_ok
    | with_reducible apply sound_swPut
    | with_reducible apply sound_homeSwitch
    | simp only [sound_mk]
    | split
    | dsimp only
    | intro _

theorem sound_motionCmd {a1} {a2} {a3} {a4} {a5} (h5 : Sound q a5) : Sound q (motionCmd a1 a2 a3 a4 a5) := by
  unfold motionCmd
  try dsimp only
  repeat' first
    | with_reducible assumption
    | with_reducible apply soundC_of
    | with_reducible apply sound_start
    | with_reducible apply sound_finishSt
    | simp only [sound_mk]
    | split
    | dsimp only
    | intro _

theorem sound_execMoveAbs {a1} {a2} (h2 : Sound q a2) : SoundO q (execMoveAbs a1 a2) := by
  unfold execMoveAbs
  try dsimp only
  repeat' first
    | with_reducible assumption
    | with_reducible apply soundC_of
    | with_reducible apply soundO_ok
    | with_reducible apply sound_motionCmd
    | simp only [sound_mk]
    | split
    | dsimp only
    | intro _

theorem sound_execMoveRel {a1} {a2} (h2 : Sound q a2) : SoundO q (execMoveRel a1 a2) := by
  unfold execMoveRel
  try dsimp only
  repeat' first
    | with_reducible assumption
    | with_reducible apply soundC_of
    | with_reducible apply soundO_ok
    | with_reducible apply sound_motionCmd
    | simp only [sound_mk]
    | split
    | dsimp only
    | intro _

theorem sound_execVelTarget {a1} {a2} (h2 : Sound q a2) : SoundO q (execVelTarget a1 a2) := by
  unfold execVelTarget
  try dsimp only
  repeat' first
    | with_reducible assumption
    | with_reducible apply soundC_of
    | with_reducible apply soundO_ok
    | with_reducible apply sound_motionCmd
    | simp only [sound_mk]
    | split
    | dsimp only
    | intro _

theorem sound_execTorqueTarget {a1} {a2} (h2 : Sound q a2) : SoundO q (execTorqueTarget a1 a2) := by
  unfold execTorqueTarget
  try dsimp only
  repeat' first
    | with_reducible assumption
    | with_reducible apply soundC_of
    | with_reducible apply soundO_ok
    | with_reducible apply sound_motionCmd
    | simp only [sound_mk]
    | split
    | dsimp only
    | intro _

theorem sound_motionLong {a1} {a2} {a3} {a4} {a5} (h5 : Sound q a5) : Sound q (motionLong a1 a2 a3 a4 a5) := by
  unfold motionLong
  try dsimp only
  repeat' first
    | with_reducible assumption
    | with_reducible apply soundC_of
    | with_reducible apply sound_motionCmd
    | simp only [sound_mk]
    | split
    | dsimp only
    | intro _

theorem sound_execHome {a1} {a2} (h2 : Sound q a2) : SoundO q (execHome a1 a2) := by
  unfold execHome
  try dsimp only
  repeat' first
    | with_reducible assumption
    | with_reducible apply soundC_of
    | with_reducible apply soundO_ok
    | with_reducible apply soundS_inl
    | with_reducible apply soundS_inr
    | with_reducible apply sound_motionLong
    | simp only [sound_mk]
    | split
    | dsimp only
    | intro _

theorem sound_execSegExec {a1} {a2} (h2 : Sound q a2) : SoundO q (execSegExec a1 a2) := by
  unfold execSegExec
  try dsimp only
  repeat' first
    | with_reducible assumption
    | with_reducible apply soundC_of
    | with_reducible apply soundO_ok
    | with_reducible apply soundS_inl
    | with_reducible apply soundS_inr
    | with_reducible apply sound_motionLong
    | simp only [sound_mk]
    | split
    | dsimp only
    | intro _

theorem sound_segLoad {a1} {a2} (h2 : Sound q a2) : Sound q (segLoad a1 a2).2 := by
  unfold segLoad
  try dsimp only
  repeat' first
    | with_reducible assumption
    | with_reducible apply soundC_of
    | with_reducible apply sound_no
    | with_reducible apply sound_yes
    | with_reducible apply sound_record
    | with_reducible apply sound_noD
    | simp only [sound_mk]
    | split
    | dsimp only
    | intro _
    | refine sound_of_pair ‹_ = (_, _)› ?_

theorem sound_execSegLoad {a1} {a2} (h2 : Sound q a2) : SoundO q (execSegLoad a1 a2) := by
  unfold execSegLoad
  try dsimp only
  repeat' first
    | with_reducible assumption
    | with_reducible apply soundC_of
    | with_reducible apply soundO_ok
    | with_reducible apply sound_fieldStep
    | with_reducible apply sound_segLoad
    | simp only [sound_mk]
    | split
    | dsimp only
    | intro _
    | refine sound_of_pair ‹_ = (_, _)› ?_

theorem sound_segAdvance {a1} {a2} {a3} (h3 : Sound q a3) : Sound q (segAdvance a1 a2 a3) := by
  induction a1 generalizing a2 a3 with
  | zero => exact h3
  | succ n ih =>
    unfold segAdvance
    dsimp only
    repeat' first
      | with_reducible assumption
      | with_reducible apply soundC_of
      | with_reducible apply ih
      | with_reducible apply sound_answerOk
      | with_reducible apply sound_record
      | simp only [sound_mk]
      | split

theorem sound_startMeasure {a1} (h1 : Sound q a1) : Sound q (startMeasure a1) := by
  unfold startMeasure
  try dsimp only
  repeat' first
    | with_reducible assumption
    | with_reducible apply soundC_of
    | with_reducible apply sound_startPhase
    | simp only [sound_mk]
    | split
    | dsimp only
    | intro _

theorem sound_unpark {a1} (h1 : Sound q a1) : Sound q (unpark a1) := by
  unfold unpark
  try dsimp only
  repeat' first
    | with_reducible assumption
    | with_reducible apply soundC_of
    | with_reducible apply sound_planFromMeasured
    | with_reducible apply sound_enterControl
    | with_reducible apply sound_startPhase
    | with_reducible apply sound_startMeasure
    | simp only [sound_mk]
    | split
    | dsimp only
    | intro _

theorem sound_replaceSource {a1} {a2} (h2 : Sound q a2) : Sound q (replaceSource a1 a2) := by
  unfold replaceSource
  try dsimp only
  repeat' first
    | with_reducible assumption
    | with_reducible apply soundC_of
    | with_reducible apply sound_unpark
    | with_reducible apply sound_segEnd
    | simp only [sound_mk]
    | split
    | dsimp only
    | intro _

theorem sound_planTarget {a1} {a2} {a3} (h3 : Sound q a3) : Sound q (planTarget a1 a2 a3) := by
  unfold planTarget
  try dsimp only
  repeat' first
    | with_reducible assumption
    | with_reducible apply soundC_of
    | with_reducible apply sound_record
    | with_reducible apply sound_setPlan
    | simp only [sound_mk]
    | split
    | dsimp only
    | intro _

theorem sound_planVel {a1} {a2} (h2 : Sound q a2) : Sound q (planVel a1 a2) := by
  unfold planVel
  try dsimp only
  repeat' first
    | with_reducible assumption
    | with_reducible apply soundC_of
    | with_reducible apply sound_setPlan
    | simp only [sound_mk]
    | split
    | dsimp only
    | intro _

theorem sound_replan {a1} (h1 : Sound q a1) : Sound q (replan a1) := by
  unfold replan
  try dsimp only
  repeat' first
    | with_reducible assumption
    | with_reducible apply soundC_of
    | with_reducible apply sound_planVel
    | with_reducible apply sound_planStop
    | with_reducible apply sound_setPlan
    | simp only [sound_mk]
    | split
    | dsimp only
    | intro _

theorem sound_takeTarget {a1} {a2} {a3} (h3 : Sound q a3) : Sound q (takeTarget a1 a2 a3) := by
  unfold takeTarget
  try dsimp only
  repeat' first
    | with_reducible assumption
    | with_reducible apply soundC_of
    | with_reducible apply sound_answer
    | with_reducible apply sound_answerOk
    | with_reducible apply sound_limitCheck
    | with_reducible apply sound_planTarget
    | with_reducible apply sound_replaceSource
    | simp only [sound_mk]
    | split
    | dsimp only
    | intro _

theorem sound_stopPlan {a1} (h1 : Sound q a1) : Sound q (stopPlan a1) := by
  unfold stopPlan
  try dsimp only
  repeat' first
    | with_reducible assumption
    | with_reducible apply soundC_of
    | with_reducible apply sound_limitJudge
    | with_reducible apply sound_planStop
    | simp only [sound_mk]
    | split
    | dsimp only
    | intro _

theorem sound_takeMotion {a1} {a2} (h2 : Sound q a2) : Sound q (takeMotion a1 a2) := by
  unfold takeMotion
  try dsimp only
  repeat' first
    | with_reducible assumption
    | with_reducible apply soundC_of
    | with_reducible apply sound_answer
    | with_reducible apply sound_takeTarget
    | with_reducible apply sound_answerOk
    | with_reducible apply sound_limitCheck
    | with_reducible apply sound_planVel
    | with_reducible apply sound_replaceSource
    | with_reducible apply sound_homeBegin
    | with_reducible apply sound_setPlan
    | with_reducible apply sound_stopPlan
    | simp only [sound_mk]
    | split
    | dsimp only
    | intro _

theorem sound_execPePlan {a1} (h1 : Sound q a1) : SoundO q (execPePlan a1) := by
  unfold execPePlan
  try dsimp only
  repeat' first
    | with_reducible assumption
    | with_reducible apply soundC_of
    | with_reducible apply soundO_ok
    | with_reducible apply sound_takeMotion
    | simp only [sound_mk]
    | split
    | dsimp only
    | intro _

theorem sound_planAdvance {a1} {a2} {a3} (h3 : Sound q a3) : Sound q (planAdvance a1 a2 a3) := by
  induction a1 generalizing a2 a3 with
  | zero => exact h3
  | succ n ih =>
    unfold planAdvance
    dsimp only
    repeat' first
      | with_reducible assumption
      | with_reducible apply soundC_of
      | with_reducible apply ih
      | simp only [sound_mk]
      | split

theorem sound_setPoint {a1} (h1 : Sound q a1) : Sound q (setPoint a1) := by
  unfold setPoint
  try dsimp only
  repeat' first
    | with_reducible assumption
    | with_reducible apply soundC_of
    | simp only [sound_mk]
    | split
    | dsimp only
    | intro _

theorem sound_windows {a1} (h1 : Sound q a1) : Sound q (windows a1) := by
  unfold windows
  try dsimp only
  repeat' first
    | with_reducible assumption
    | with_reducible apply soundC_of
    | simp only [sound_mk]
    | split
    | dsimp only
    | intro _

theorem sound_peUpdate {a1} (h1 : Sound q a1) : Sound q (peUpdate a1) := by
  unfold peUpdate
  try dsimp only
  repeat' first
    | with_reducible assumption
    | with_reducible apply soundC_of
    | with_reducible apply sound_limitsArrive
    | with_reducible apply sound_setPoint
    | with_reducible apply sound_replan
    | with_reducible apply sound_limitCheck
    | with_reducible apply sound_homeUpdate
    | with_reducible apply sound_segAdvance
    | with_reducible apply sound_planAdvance
    | with_reducible apply sound_windows
    | simp only [sound_mk]
    | split
    | dsimp only
    | intro _

theorem sound_execTargetReached {a1} (h1 : Sound q a1) : SoundO q (execTargetReached a1) := by
  unfold execTargetReached
  try dsimp only
  repeat' first
    | with_reducible assumption
    | with_reducible apply soundC_of
    | with_reducible apply soundO_ok
    | with_reducible apply sound_record
    | simp only [sound_mk]
    | split
    | dsimp only
    | intro _

theorem sound_stopNow {a1} (h1 : Sound q a1) : Sound q (stopNow a1) := by
  unfold stopNow
  try dsimp only
  repeat' first
    | with_reducible assumption
    | with_reducible apply soundC_of
    | with_reducible apply sound_endSource
    | with_reducible apply sound_answer
    | with_reducible apply sound_endOpcodes
    | with_reducible apply sound_changeState
    | with_reducible apply sound_setPoint
    | with_reducible apply sound_planFromMeasured
    | with_reducible apply sound_stopPlan
    | with_reducible apply sound_dropStart
    | with_reducible apply sound_startSs1
    | with_reducible apply sound_foldl
    | simp only [sound_mk]
    | split
    | dsimp only
    | intro _

theorem sound_execStop {a1} {a2} (h2 : Sound q a2) : SoundO q (execStop a1 a2) := by
  unfold execStop
  try dsimp only
  repeat' first
    | with_reducible assumption
    | with_reducible apply soundC_of
    | with_reducible apply soundO_ok
    | with_reducible apply sound_fieldStep
    | with_reducible apply sound_inStates
    | with_reducible apply sound_yes
    | with_reducible apply sound_stopNow
    | simp only [sound_mk]
    | split
    | dsimp only
    | intro _
    | refine sound_of_pair ‹_ = (_, _)› ?_

theorem sound_execStandstill {a1} (h1 : Sound q a1) : SoundO q (execStandstill a1) := by
  unfold execStandstill
  try dsimp only
  repeat' first
    | with_reducible assumption
    | with_reducible apply soundC_of
    | with_reducible apply soundO_ok
    | with_reducible apply sound_applyBrake
    | with_reducible apply sound_endControl
    | with_reducible apply sound_changeState
    | simp only [sound_mk]
    | split
    | dsimp only
    | intro _

theorem sound_execStandstillAction {a1} (h1 : Sound q a1) : SoundO q (execStandstillAction a1) := by
  unfold execStandstillAction
  try dsimp only
  repeat' first
    | with_reducible assumption
    | with_reducible apply soundC_of
    | with_reducible apply soundO_ok
    | with_reducible apply sound_record
    | with_reducible apply sound_brake
    | simp only [sound_mk]
    | split
    | dsimp only
    | intro _

theorem sound_execLoopModeChange {a1} (h1 : Sound q a1) : SoundO q (execLoopModeChange a1) := by
  unfold execLoopModeChange
  try dsimp only
  repeat' first
    | with_reducible assumption
    | with_reducible apply soundC_of
    | with_reducible apply soundO_ok
    | with_reducible apply sound_record
    | with_reducible apply sound_planTarget
    | simp only [sound_mk]
    | split
    | dsimp only
    | intro _

end Sys2Proof.Laws
end

