-- ==== Sys2Proof/Laws/KeepObserver.lean ====
section
/-! SUPPORT. What the operations of Observer.lean keep (Keep.lean). -/

set_option linter.unreachableTactic false
set_option linter.unusedTactic false
set_option linter.unusedSimpArgs false

namespace Sys2Proof.Laws
open Sys2Proof Sys2Proof.Machine

variable {q : Kept}

theorem sound_followSector {a1} {a2} (h2 : Sound q a2) : Sound q (followSector a1 a2) := by
  unfold followSector
  try dsimp only
  repeat' first
    | with_reducible assumption
    | with_reducible apply soundC_of
    | simp only [sound_mk]
    | split
    | dsimp only
    | intro _

theorem sound_selectAngle {a1} (h1 : Sound q a1) : Sound q (selectAngle a1) := by
  unfold selectAngle
  try dsimp only
  repeat' first
    | with_reducible assumption
    | with_reducible apply soundC_of
    | with_reducible apply sound_followSector
    | simp only [sound_mk]
    | split
    | dsimp only
    | intro _

theorem sound_oe1Step {a1} {a2} (h2 : Sound q a2) : Sound q (oe1Step a1 a2) := by
  unfold oe1Step
  try dsimp only
  repeat' first
    | with_reducible assumption
    | with_reducible apply soundC_of
    | with_reducible apply sound_foldl
    | simp only [sound_mk]
    | split
    | dsimp only
    | intro _

theorem sound_oe0Step {a1} (h1 : Sound q a1) : Sound q (oe0Step a1) := by
  unfold oe0Step
  try dsimp only
  repeat' first
    | with_reducible assumption
    | with_reducible apply soundC_of
    | simp only [sound_mk]
    | split
    | dsimp only
    | intro _

theorem sound_oe0Idle {a1} (h1 : Sound q a1) : Sound q (oe0Idle a1) := by
  unfold oe0Idle
  try dsimp only
  repeat' first
    | with_reducible assumption
    | with_reducible apply soundC_of
    | simp only [sound_mk]
    | split
    | dsimp only
    | intro _

theorem sound_execOe0Valid {a1} (h1 : Sound q a1) : SoundO q (execOe0Valid a1) := by
  unfold execOe0Valid
  try dsimp only
  repeat' first
    | with_reducible assumption
    | with_reducible apply soundC_of
    | with_reducible apply soundO_ok
    | simp only [sound_mk]
    | split
    | dsimp only
    | intro _

theorem sound_execOe1Valid {a1} (h1 : Sound q a1) : SoundO q (execOe1Valid a1) := by
  unfold execOe1Valid
  try dsimp only
  repeat' first
    | with_reducible assumption
    | with_reducible apply soundC_of
    | with_reducible apply soundO_ok
    | simp only [sound_mk]
    | split
    | dsimp only
    | intro _

theorem sound_holdPattern {a1} {a2} (h2 : Sound q a2) : Sound q (holdPattern a1 a2) := by
  unfold holdPattern
  try dsimp only
  repeat' first
    | with_reducible assumption
    | with_reducible apply soundC_of
    | with_reducible apply sound_startMeasure
    | with_reducible apply sound_startPhase
    | simp only [sound_mk]
    | split
    | dsimp only
    | intro _

theorem sound_lossOfRotor {a1} (h1 : Sound q a1) : Sound q (lossOfRotor a1) := by
  unfold lossOfRotor
  try dsimp only
  repeat' first
    | with_reducible assumption
    | with_reducible apply soundC_of
    | with_reducible apply sound_holdPattern
    | with_reducible apply sound_record
    | with_reducible apply sound_issuePackage
    | with_reducible apply sound_endWinding
    | simp only [sound_mk]
    | split
    | dsimp only
    | intro _

theorem sound_execReacquisitionTimeout {a1} (h1 : Sound q a1) : SoundO q (execReacquisitionTimeout a1) := by
  unfold execReacquisitionTimeout
  try dsimp only
  repeat' first
    | with_reducible assumption
    | with_reducible apply soundC_of
    | with_reducible apply soundO_ok
    | with_reducible apply sound_issuePackage
    | with_reducible apply sound_record
    | simp only [sound_mk]
    | split
    | dsimp only
    | intro _

theorem sound_residualTest {a1} {a2} (h2 : Sound q a2) : Sound q (residualTest a1 a2) := by
  unfold residualTest
  try dsimp only
  repeat' first
    | with_reducible assumption
    | with_reducible apply soundC_of
    | with_reducible apply sound_foldl
    | simp only [sound_mk]
    | split
    | dsimp only
    | intro _

theorem sound_voteOut0 {a1} (h1 : Sound q a1) : Sound q (voteOut0 a1) := by
  unfold voteOut0
  try dsimp only
  repeat' first
    | with_reducible assumption
    | with_reducible apply soundC_of
    | with_reducible apply sound_detect
    | with_reducible apply sound_degrade
    | simp only [sound_mk]
    | split
    | dsimp only
    | intro _

theorem sound_voteOut1 {a1} (h1 : Sound q a1) : Sound q (voteOut1 a1) := by
  unfold voteOut1
  try dsimp only
  repeat' first
    | with_reducible assumption
    | with_reducible apply soundC_of
    | with_reducible apply sound_detect
    | with_reducible apply sound_degrade
    | simp only [sound_mk]
    | split
    | dsimp only
    | intro _

theorem sound_lossOfSync {a1} (h1 : Sound q a1) : Sound q (lossOfSync a1) := by
  unfold lossOfSync
  try dsimp only
  repeat' first
    | with_reducible assumption
    | with_reducible apply soundC_of
    | with_reducible apply sound_issuePackage
    | with_reducible apply sound_record
    | simp only [sound_mk]
    | split
    | dsimp only
    | intro _

theorem sound_execResidualDisagreement {a1} (h1 : Sound q a1) : SoundO q (execResidualDisagreement a1) := by
  unfold execResidualDisagreement
  try dsimp only
  repeat' first
    | with_reducible assumption
    | with_reducible apply soundC_of
    | with_reducible apply soundO_ok
    | with_reducible apply sound_lossOfSync
    | with_reducible apply sound_loseSrc
    | with_reducible apply sound_detect
    | with_reducible apply sound_voteOut0
    | with_reducible apply sound_voteOut1
    | with_reducible apply sound_record
    | with_reducible apply sound_lossOfRotor
    | simp only [sound_mk]
    | split
    | dsimp only
    | intro _

theorem sound_execObserverRejoin {a1} {a2} (h2 : Sound q a2) : SoundO q (execObserverRejoin a1 a2) := by
  unfold execObserverRejoin
  try dsimp only
  repeat' first
    | with_reducible assumption
    | with_reducible apply soundC_of
    | with_reducible apply soundO_ok
    | with_reducible apply sound_record
    | simp only [sound_mk]
    | split
    | dsimp only
    | intro _

theorem sound_oe0Check {a1} (h1 : Sound q a1) : Sound q (oe0Check a1) := by
  unfold oe0Check
  try dsimp only
  repeat' first
    | with_reducible assumption
    | with_reducible apply soundC_of
    | with_reducible apply sound_lossOfRotor
    | with_reducible apply sound_detect
    | simp only [sound_mk]
    | split
    | dsimp only
    | intro _

theorem sound_fallbackCheck {a1} (h1 : Sound q a1) : Sound q (fallbackCheck a1) := by
  unfold fallbackCheck
  try dsimp only
  repeat' first
    | with_reducible assumption
    | with_reducible apply soundC_of
    | with_reducible apply sound_detect
    | simp only [sound_mk]
    | split
    | dsimp only
    | intro _

theorem sound_observersEnd {a1} (h1 : Sound q a1) : Sound q (observersEnd a1) := by
  unfold observersEnd
  try dsimp only
  repeat' first
    | with_reducible assumption
    | with_reducible apply soundC_of
    | with_reducible apply sound_fallbackCheck
    | with_reducible apply sound_oe0Check
    | simp only [sound_mk]
    | split
    | dsimp only
    | intro _

theorem sound_runDown {a1} (h1 : Sound q a1) : Sound q (runDown a1) := by
  unfold runDown
  try dsimp only
  repeat' first
    | with_reducible assumption
    | with_reducible apply soundC_of
    | simp only [sound_mk]
    | split
    | dsimp only
    | intro _

theorem sound_blockSample {a1} (h1 : Sound q a1) : Sound q (blockSample a1) := by
  unfold blockSample
  try dsimp only
  repeat' first
    | with_reducible assumption
    | with_reducible apply soundC_of
    | simp only [sound_mk]
    | split
    | dsimp only
    | intro _

theorem sound_measAdd {a1} {a2} {a3} (h3 : Sound q a3) : Sound q (measAdd a1 a2 a3) := by
  unfold measAdd
  try dsimp only
  repeat' first
    | with_reducible assumption
    | with_reducible apply soundC_of
    | simp only [sound_mk]
    | split
    | dsimp only
    | intro _

theorem sound_startUpdate {a1} (h1 : Sound q a1) : Sound q (startUpdate a1) := by
  unfold startUpdate
  try dsimp only
  repeat' first
    | with_reducible assumption
    | with_reducible apply soundC_of
    | with_reducible apply sound_measAdd
    | with_reducible apply sound_foldl
    | simp only [sound_mk]
    | split
    | dsimp only
    | intro _

theorem sound_obsUpdate {a1} (h1 : Sound q a1) : Sound q (obsUpdate a1) := by
  unfold obsUpdate
  try dsimp only
  repeat' first
    | with_reducible assumption
    | with_reducible apply soundC_of
    | with_reducible apply sound_selectAngle
    | with_reducible apply sound_oe1Step
    | with_reducible apply sound_residualTest
    | with_reducible apply sound_oe0Step
    | with_reducible apply sound_oe0Idle
    | with_reducible apply sound_runDown
    | with_reducible apply sound_blockSample
    | with_reducible apply sound_startUpdate
    | simp only [sound_mk]
    | split
    | dsimp only
    | intro _

theorem sound_enabled {a1} (h1 : Sound q a1) : Sound q (enabled a1) := by
  unfold enabled
  try dsimp only
  repeat' first
    | with_reducible assumption
    | with_reducible apply soundC_of
    | with_reducible apply sound_answerOk
    | simp only [sound_mk]
    | split
    | dsimp only
    | intro _

theorem sound_reacquired {a1} (h1 : Sound q a1) : Sound q (reacquired a1) := by
  unfold reacquired
  try dsimp only
  repeat' first
    | with_reducible assumption
    | with_reducible apply soundC_of
    | with_reducible apply sound_record
    | simp only [sound_mk]
    | split
    | dsimp only
    | intro _

theorem sound_setOffset {a1} {a2} (h2 : Sound q a2) : Sound q (setOffset a1 a2) := by
  unfold setOffset
  try dsimp only
  repeat' first
    | with_reducible assumption
    | with_reducible apply soundC_of
    | simp only [sound_mk]
    | split
    | dsimp only
    | intro _

theorem sound_planAtRest {a1} (h1 : Sound q a1) : Sound q (planAtRest a1) := by
  unfold planAtRest
  try dsimp only
  repeat' first
    | with_reducible assumption
    | with_reducible apply soundC_of
    | with_reducible apply sound_planTarget
    | with_reducible apply sound_planVel
    | simp only [sound_mk]
    | split
    | dsimp only
    | intro _

theorem sound_beginAtRest {a1} {a2} (h2 : Sound q a2) : Sound q (beginAtRest a1 a2) := by
  unfold beginAtRest
  try dsimp only
  repeat' first
    | with_reducible assumption
    | with_reducible apply soundC_of
    | with_reducible apply sound_reacquired
    | with_reducible apply sound_planAtRest
    | with_reducible apply sound_enterControl
    | with_reducible apply sound_enabled
    | with_reducible apply sound_startPhase
    | with_reducible apply sound_detect
    | simp only [sound_mk]
    | split
    | dsimp only
    | intro _

theorem sound_standstill {a1} (h1 : Sound q a1) : Sound q (standstill a1) := by
  unfold standstill
  try dsimp only
  repeat' first
    | with_reducible assumption
    | with_reducible apply soundC_of
    | with_reducible apply sound_beginAtRest
    | with_reducible apply sound_startAwl
    | simp only [sound_mk]
    | split
    | dsimp only
    | intro _

theorem sound_catchPlan {a1} {a2} (h2 : Sound q a2) : Sound q (catchPlan a1 a2) := by
  unfold catchPlan
  try dsimp only
  repeat' first
    | with_reducible assumption
    | with_reducible apply soundC_of
    | with_reducible apply sound_limitJudge
    | with_reducible apply sound_planTarget
    | with_reducible apply sound_planVel
    | with_reducible apply sound_planStop
    | with_reducible apply sound_setPlan
    | with_reducible apply sound_segEnd
    | simp only [sound_mk]
    | split
    | dsimp only
    | intro _

theorem sound_seedOe0 {a1} {a2} {a3} (h3 : Sound q a3) : Sound q (seedOe0 a1 a2 a3) := by
  unfold seedOe0
  try dsimp only
  repeat' first
    | with_reducible assumption
    | with_reducible apply soundC_of
    | simp only [sound_mk]
    | split
    | dsimp only
    | intro _

theorem sound_catchAt {a1} {a2} {a3} {a4} (h4 : Sound q a4) : Sound q (catchAt a1 a2 a3 a4) := by
  unfold catchAt
  try dsimp only
  repeat' first
    | with_reducible assumption
    | with_reducible apply soundC_of
    | with_reducible apply sound_detect
    | with_reducible apply sound_seedOe0
    | with_reducible apply sound_setOffset
    | with_reducible apply sound_catchPlan
    | with_reducible apply sound_enterControl
    | with_reducible apply sound_enabled
    | with_reducible apply sound_startPhase
    | simp only [sound_mk]
    | split
    | dsimp only
    | intro _

theorem sound_execStartMeasurementEnd {a1} (h1 : Sound q a1) : SoundO q (execStartMeasurementEnd a1) := by
  unfold execStartMeasurementEnd
  try dsimp only
  repeat' first
    | with_reducible assumption
    | with_reducible apply soundC_of
    | with_reducible apply soundO_ok
    | with_reducible apply sound_record
    | with_reducible apply sound_standstill
    | with_reducible apply sound_startPhase
    | with_reducible apply sound_detect
    | with_reducible apply sound_catchAt
    | simp only [sound_mk]
    | split
    | dsimp only
    | intro _

theorem sound_execAscSettleEnd {a1} (h1 : Sound q a1) : SoundO q (execAscSettleEnd a1) := by
  unfold execAscSettleEnd
  try dsimp only
  repeat' first
    | with_reducible assumption
    | with_reducible apply soundC_of
    | with_reducible apply soundO_ok
    | with_reducible apply sound_standstill
    | with_reducible apply sound_startPhase
    | simp only [sound_mk]
    | split
    | dsimp only
    | intro _

theorem sound_execCatchLockCheck {a1} (h1 : Sound q a1) : SoundO q (execCatchLockCheck a1) := by
  unfold execCatchLockCheck
  try dsimp only
  repeat' first
    | with_reducible assumption
    | with_reducible apply soundC_of
    | with_reducible apply soundO_ok
    | with_reducible apply sound_detect
    | with_reducible apply sound_reacquired
    | simp only [sound_mk]
    | split
    | dsimp only
    | intro _

theorem sound_execAwlSequenceEnd {a1} {a2} (h2 : Sound q a2) : SoundO q (execAwlSequenceEnd a1 a2) := by
  unfold execAwlSequenceEnd
  try dsimp only
  repeat' first
    | with_reducible assumption
    | with_reducible apply soundC_of
    | with_reducible apply soundO_ok
    | with_reducible apply sound_startAwl
    | with_reducible apply sound_detect
    | with_reducible apply sound_endWinding
    | with_reducible apply sound_record
    | with_reducible apply sound_beginAtRest
    | with_reducible apply sound_setOffset
    | simp only [sound_mk]
    | split
    | dsimp only
    | intro _

theorem sound_commutate {a1} {a2} (h2 : Sound q a2) : Sound q (commutate a1 a2) := by
  unfold commutate
  try dsimp only
  repeat' first
    | with_reducible assumption
    | with_reducible apply soundC_of
    | with_reducible apply sound_maskFaulted
    | with_reducible apply sound_putLegs
    | simp only [sound_mk]
    | split
    | dsimp only
    | intro _

theorem sound_execBlockCommutation {a1} (h1 : Sound q a1) : SoundO q (execBlockCommutation a1) := by
  unfold execBlockCommutation
  try dsimp only
  repeat' first
    | with_reducible assumption
    | with_reducible apply soundC_of
    | with_reducible apply soundO_ok
    | with_reducible apply sound_commutate
    | simp only [sound_mk]
    | split
    | dsimp only
    | intro _

theorem sound_execCrossingMissed {a1} (h1 : Sound q a1) : SoundO q (execCrossingMissed a1) := by
  unfold execCrossingMissed
  try dsimp only
  repeat' first
    | with_reducible assumption
    | with_reducible apply soundC_of
    | with_reducible apply soundO_ok
    | with_reducible apply sound_record
    | with_reducible apply sound_commutate
    | with_reducible apply sound_lossOfRotor
    | simp only [sound_mk]
    | split
    | dsimp only
    | intro _

theorem sound_execBlockStartTimeout {a1} (h1 : Sound q a1) : SoundO q (execBlockStartTimeout a1) := by
  unfold execBlockStartTimeout
  try dsimp only
  repeat' first
    | with_reducible assumption
    | with_reducible apply soundC_of
    | with_reducible apply soundO_ok
    | with_reducible apply sound_detect
    | simp only [sound_mk]
    | split
    | dsimp only
    | intro _

theorem sound_execSixStepChange {a1} (h1 : Sound q a1) : SoundO q (execSixStepChange a1) := by
  unfold execSixStepChange
  try dsimp only
  repeat' first
    | with_reducible assumption
    | with_reducible apply soundC_of
    | with_reducible apply soundO_ok
    | with_reducible apply sound_record
    | simp only [sound_mk]
    | split
    | dsimp only
    | intro _

end Sys2Proof.Laws
end

