-- ==== Sys2Proof/Laws/KeepSafetyMonitor.lean ====
section
/-! SUPPORT. What the operations of SafetyMonitor.lean keep (Keep.lean). -/

set_option linter.unreachableTactic false
set_option linter.unusedTactic false
set_option linter.unusedSimpArgs false

namespace Sys2Proof.Laws
open Sys2Proof Sys2Proof.Machine

variable {q : Kept}

theorem sound_setCopy3 {a1} {a2} {a3} (h3 : Sound q a3) : Sound q (setCopy3 a1 a2 a3) := by
  unfold setCopy3
  try dsimp only
  repeat' first
    | with_reducible assumption
    | with_reducible apply soundC_of
    | simp only [sound_mk]
    | split
    | dsimp only
    | intro _

theorem sound_markResync {a1} (h1 : Sound q a1) : Sound q (markResync a1) := by
  unfold markResync
  try dsimp only
  repeat' first
    | with_reducible assumption
    | with_reducible apply soundC_of
    | simp only [sound_mk]
    | split
    | dsimp only
    | intro _

theorem sound_noMajority {a1} {a2} {a3} (h3 : Sound q a3) : Sound q (noMajority a1 a2 a3) := by
  unfold noMajority
  try dsimp only
  repeat' first
    | with_reducible assumption
    | with_reducible apply soundC_of
    | with_reducible apply sound_record
    | with_reducible apply sound_issuePackage
    | simp only [sound_mk]
    | split
    | dsimp only
    | intro _

theorem sound_degradedStop {a1} (h1 : Sound q a1) : Sound q (degradedStop a1) := by
  unfold degradedStop
  try dsimp only
  repeat' first
    | with_reducible assumption
    | with_reducible apply soundC_of
    | with_reducible apply sound_detect
    | simp only [sound_mk]
    | split
    | dsimp only
    | intro _

theorem sound_noTolerance {a1} {a2} {a3} {a4} (h4 : Sound q a4) : Sound q (noTolerance a1 a2 a3 a4) := by
  unfold noTolerance
  try dsimp only
  repeat' first
    | with_reducible assumption
    | with_reducible apply soundC_of
    | with_reducible apply sound_detect
    | with_reducible apply sound_degrade
    | with_reducible apply sound_noMajority
    | with_reducible apply sound_degradedStop
    | simp only [sound_mk]
    | split
    | dsimp only
    | intro _

theorem sound_minority {a1} {a2} {a3} {a4} {a5} (h5 : Sound q a5) : Sound q (minority a1 a2 a3 a4 a5) := by
  unfold minority
  try dsimp only
  repeat' first
    | with_reducible assumption
    | with_reducible apply soundC_of
    | with_reducible apply sound_markResync
    | with_reducible apply sound_setCopy3
    | with_reducible apply sound_record
    | simp only [sound_mk]
    | split
    | dsimp only
    | intro _

theorem sound_execOutputSlotVote {a1} {a2} {a3} {a4} {a5} (h5 : Sound q a5) : SoundO q (execOutputSlotVote a1 a2 a3 a4 a5) := by
  unfold execOutputSlotVote
  try dsimp only
  repeat' first
    | with_reducible assumption
    | with_reducible apply soundC_of
    | with_reducible apply soundO_ok
    | with_reducible apply sound_minority
    | with_reducible apply sound_noMajority
    | simp only [sound_mk]
    | split
    | dsimp only
    | intro _

theorem sound_execHashSlot {a1} {a2} {a3} {a4} (h4 : Sound q a4) : SoundO q (execHashSlot a1 a2 a3 a4) := by
  unfold execHashSlot
  try dsimp only
  repeat' first
    | with_reducible assumption
    | with_reducible apply soundC_of
    | with_reducible apply soundO_ok
    | with_reducible apply sound_minority
    | with_reducible apply sound_noMajority
    | simp only [sound_mk]
    | split
    | dsimp only
    | intro _

theorem sound_execResyncCopyDone {a1} {a2} (h2 : Sound q a2) : SoundO q (execResyncCopyDone a1 a2) := by
  unfold execResyncCopyDone
  try dsimp only
  repeat' first
    | with_reducible assumption
    | with_reducible apply soundC_of
    | with_reducible apply soundO_ok
    | with_reducible apply sound_setCopy3
    | simp only [sound_mk]
    | split
    | dsimp only
    | intro _

theorem sound_execResyncRendezvous {a1} {a2} {a3} (h3 : Sound q a3) : SoundO q (execResyncRendezvous a1 a2 a3) := by
  unfold execResyncRendezvous
  try dsimp only
  repeat' first
    | with_reducible assumption
    | with_reducible apply soundC_of
    | with_reducible apply soundO_ok
    | with_reducible apply sound_noMajority
    | with_reducible apply sound_markResync
    | with_reducible apply sound_setCopy3
    | simp only [sound_mk]
    | split
    | dsimp only
    | intro _

theorem sound_execLaneFault {a1} {a2} (h2 : Sound q a2) : SoundO q (execLaneFault a1 a2) := by
  unfold execLaneFault
  try dsimp only
  repeat' first
    | with_reducible assumption
    | with_reducible apply soundC_of
    | with_reducible apply soundO_ok
    | with_reducible apply sound_markResync
    | with_reducible apply sound_setCopy3
    | with_reducible apply sound_noTolerance
    | simp only [sound_mk]
    | split
    | dsimp only
    | intro _

theorem sound_weltResult {a1} {a2} {a3} {a4} (h4 : Sound q a4) : Sound q (weltResult a1 a2 a3 a4) := by
  unfold weltResult
  try dsimp only
  repeat' first
    | with_reducible assumption
    | with_reducible apply soundC_of
    | with_reducible apply sound_noTolerance
    | simp only [sound_mk]
    | split
    | dsimp only
    | intro _

theorem sound_execWeltSelfTest {a1} {a2} {a3} {a4} {a5} (h5 : Sound q a5) : SoundO q (execWeltSelfTest a1 a2 a3 a4 a5) := by
  unfold execWeltSelfTest
  try dsimp only
  repeat' first
    | with_reducible assumption
    | with_reducible apply soundC_of
    | with_reducible apply soundO_ok
    | with_reducible apply sound_weltResult
    | simp only [sound_mk]
    | split
    | dsimp only
    | intro _

theorem sound_execCheckerDisagreement {a1} {a2} {a3} (h3 : Sound q a3) : SoundO q (execCheckerDisagreement a1 a2 a3) := by
  unfold execCheckerDisagreement
  try dsimp only
  repeat' first
    | with_reducible assumption
    | with_reducible apply soundC_of
    | with_reducible apply soundO_ok
    | with_reducible apply sound_noMajority
    | with_reducible apply sound_weltResult
    | simp only [sound_mk]
    | split
    | dsimp only
    | intro _

theorem sound_execDegradedGraceExpiry {a1} (h1 : Sound q a1) : SoundO q (execDegradedGraceExpiry a1) := by
  unfold execDegradedGraceExpiry
  try dsimp only
  repeat' first
    | with_reducible assumption
    | with_reducible apply soundC_of
    | with_reducible apply soundO_ok
    | with_reducible apply sound_degradedStop
    | simp only [sound_mk]
    | split
    | dsimp only
    | intro _

theorem sound_crossover {a1} (h1 : Sound q a1) : Sound q (crossover a1) := by
  unfold crossover
  try dsimp only
  repeat' first
    | with_reducible assumption
    | with_reducible apply soundC_of
    | with_reducible apply sound_contactors
    | simp only [sound_mk]
    | split
    | dsimp only
    | intro _

theorem sound_torqueRefs {a1} (h1 : Sound q a1) : Sound q (torqueRefs a1) := by
  unfold torqueRefs
  try dsimp only
  repeat' first
    | with_reducible assumption
    | with_reducible apply soundC_of
    | simp only [sound_mk]
    | split
    | dsimp only
    | intro _

theorem sound_takeMode {a1} (h1 : Sound q a1) : Sound q (takeMode a1) := by
  unfold takeMode
  try dsimp only
  repeat' first
    | with_reducible assumption
    | with_reducible apply soundC_of
    | with_reducible apply sound_record
    | simp only [sound_mk]
    | split
    | dsimp only
    | intro _

theorem sound_takeEst {a1} (h1 : Sound q a1) : Sound q (takeEst a1) := by
  unfold takeEst
  try dsimp only
  repeat' first
    | with_reducible assumption
    | with_reducible apply soundC_of
    | simp only [sound_mk]
    | split
    | dsimp only
    | intro _

theorem sound_judgeMagnitude {a1} (h1 : Sound q a1) : Sound q (judgeMagnitude a1) := by
  unfold judgeMagnitude
  try dsimp only
  repeat' first
    | with_reducible assumption
    | with_reducible apply soundC_of
    | simp only [sound_mk]
    | split
    | dsimp only
    | intro _

theorem sound_judgeTorque {a1} {a2} (h2 : Sound q a2) : Sound q (judgeTorque a1 a2) := by
  unfold judgeTorque
  try dsimp only
  repeat' first
    | with_reducible assumption
    | with_reducible apply soundC_of
    | simp only [sound_mk]
    | split
    | dsimp only
    | intro _

theorem sound_torqueCompare {a1} {a2} (h2 : Sound q a2) : Sound q (torqueCompare a1 a2) := by
  unfold torqueCompare
  try dsimp only
  repeat' first
    | with_reducible assumption
    | with_reducible apply soundC_of
    | with_reducible apply sound_takeEst
    | with_reducible apply sound_torqueRefs
    | with_reducible apply sound_takeMode
    | with_reducible apply sound_judgeMagnitude
    | with_reducible apply sound_judgeTorque
    | simp only [sound_mk]
    | split
    | dsimp only
    | intro _

theorem sound_execUnintendedTorque {a1} (h1 : Sound q a1) : SoundO q (execUnintendedTorque a1) := by
  unfold execUnintendedTorque
  try dsimp only
  repeat' first
    | with_reducible assumption
    | with_reducible apply soundC_of
    | with_reducible apply soundO_ok
    | with_reducible apply sound_detect
    | simp only [sound_mk]
    | split
    | dsimp only
    | intro _

theorem sound_execCurrentBoundExceeded {a1} (h1 : Sound q a1) : SoundO q (execCurrentBoundExceeded a1) := by
  unfold execCurrentBoundExceeded
  try dsimp only
  repeat' first
    | with_reducible assumption
    | with_reducible apply soundC_of
    | with_reducible apply soundO_ok
    | with_reducible apply sound_detect
    | simp only [sound_mk]
    | split
    | dsimp only
    | intro _

theorem sound_execTorqueDeficit {a1} (h1 : Sound q a1) : SoundO q (execTorqueDeficit a1) := by
  unfold execTorqueDeficit
  try dsimp only
  repeat' first
    | with_reducible assumption
    | with_reducible apply soundC_of
    | with_reducible apply soundO_ok
    | with_reducible apply sound_detect
    | simp only [sound_mk]
    | split
    | dsimp only
    | intro _

theorem sound_setpointCheck {a1} (h1 : Sound q a1) : Sound q (setpointCheck a1) := by
  unfold setpointCheck
  try dsimp only
  repeat' first
    | with_reducible assumption
    | with_reducible apply soundC_of
    | simp only [sound_mk]
    | split
    | dsimp only
    | intro _

theorem sound_execSetpointOutOfBound {a1} (h1 : Sound q a1) : SoundO q (execSetpointOutOfBound a1) := by
  unfold execSetpointOutOfBound
  try dsimp only
  repeat' first
    | with_reducible assumption
    | with_reducible apply soundC_of
    | with_reducible apply soundO_ok
    | with_reducible apply sound_detect
    | simp only [sound_mk]
    | split
    | dsimp only
    | intro _

theorem sound_hkReset {a1} (h1 : Sound q a1) : Sound q (hkReset a1) := by
  unfold hkReset
  try dsimp only
  repeat' first
    | with_reducible assumption
    | with_reducible apply soundC_of
    | with_reducible apply sound_detect
    | simp only [sound_mk]
    | split
    | dsimp only
    | intro _

theorem sound_execHkWatchdogExpiry {a1} (h1 : Sound q a1) : SoundO q (execHkWatchdogExpiry a1) := by
  unfold execHkWatchdogExpiry
  try dsimp only
  repeat' first
    | with_reducible assumption
    | with_reducible apply soundC_of
    | with_reducible apply soundO_ok
    | with_reducible apply sound_hkReset
    | simp only [sound_mk]
    | split
    | dsimp only
    | intro _

theorem sound_stopUpdate {a1} (h1 : Sound q a1) : Sound q (stopUpdate a1) := by
  unfold stopUpdate
  try dsimp only
  repeat' first
    | with_reducible assumption
    | with_reducible apply soundC_of
    | simp only [sound_mk]
    | split
    | dsimp only
    | intro _

theorem sound_speedLimits {a1} (h1 : Sound q a1) : Sound q (speedLimits a1) := by
  unfold speedLimits
  try dsimp only
  repeat' first
    | with_reducible assumption
    | with_reducible apply soundC_of
    | simp only [sound_mk]
    | split
    | dsimp only
    | intro _

theorem sound_sdsCount {a1} (h1 : Sound q a1) : Sound q (sdsCount a1) := by
  unfold sdsCount
  try dsimp only
  repeat' first
    | with_reducible assumption
    | with_reducible apply soundC_of
    | simp only [sound_mk]
    | split
    | dsimp only
    | intro _

theorem sound_smUpdate {a1} {a2} (h2 : Sound q a2) : Sound q (smUpdate a1 a2) := by
  unfold smUpdate
  try dsimp only
  repeat' first
    | with_reducible assumption
    | with_reducible apply soundC_of
    | with_reducible apply sound_preStep
    | with_reducible apply sound_sdsCount
    | with_reducible apply sound_speedLimits
    | with_reducible apply sound_stopUpdate
    | with_reducible apply sound_setpointCheck
    | with_reducible apply sound_torqueCompare
    | with_reducible apply sound_crossover
    | simp only [sound_mk]
    | split
    | dsimp only
    | intro _

end Sys2Proof.Laws
end

