-- ==== Sys2Proof/Laws/KeepTrigger.lean ====
section
/-! SUPPORT. What the operations of Trigger.lean keep (Keep.lean). -/

set_option linter.unreachableTactic false
set_option linter.unusedTactic false
set_option linter.unusedSimpArgs false

namespace Sys2Proof.Laws
open Sys2Proof Sys2Proof.Machine

variable {q : Kept}

theorem sound_pairsCycle {a1} (h1 : Sound q a1) : Sound q (pairsCycle a1) := by
  unfold pairsCycle
  try dsimp only
  repeat' first
    | with_reducible assumption
    | with_reducible apply soundC_of
    | simp only [sound_mk]
    | split
    | dsimp only
    | intro _

theorem sound_runLoops {a1} (h1 : Sound q a1) : Sound q (runLoops a1) := by
  unfold runLoops
  try dsimp only
  repeat' first
    | with_reducible assumption
    | with_reducible apply soundC_of
    | with_reducible apply sound_loopUpdate
    | with_reducible apply sound_loopsHeld
    | with_reducible apply sound_loopsIdle
    | simp only [sound_mk]
    | split
    | dsimp only
    | intro _

theorem sound_runProfile {a1} (h1 : Sound q a1) : Sound q (runProfile a1) := by
  unfold runProfile
  try dsimp only
  repeat' first
    | with_reducible assumption
    | with_reducible apply soundC_of
    | with_reducible apply sound_overrunCheck
    | with_reducible apply sound_peUpdate
    | simp only [sound_mk]
    | split
    | dsimp only
    | intro _

theorem sound_diesTurn {a1} (h1 : Sound q a1) : Sound q (diesTurn a1) := by
  unfold diesTurn
  try dsimp only
  repeat' first
    | with_reducible assumption
    | with_reducible apply soundC_of
    | simp only [sound_mk]
    | split
    | dsimp only
    | intro _

theorem sound_execSamplingTrigger {a1} {a2} (h2 : Sound q a2) : SoundO q (execSamplingTrigger a1 a2) := by
  unfold execSamplingTrigger
  try dsimp only
  repeat' first
    | with_reducible assumption
    | with_reducible apply soundC_of
    | with_reducible apply soundO_ok
    | with_reducible apply sound_carrierTurn
    | with_reducible apply sound_senseUpdate
    | with_reducible apply sound_fbUpdate
    | with_reducible apply sound_diesTurn
    | with_reducible apply sound_runLoops
    | with_reducible apply sound_obsUpdate
    | with_reducible apply sound_observersEnd
    | with_reducible apply sound_selectBands
    | with_reducible apply sound_modUpdate
    | with_reducible apply sound_legLossCheck
    | with_reducible apply sound_pairsCycle
    | with_reducible apply sound_smUpdate
    | with_reducible apply sound_runProfile
    | simp only [sound_mk]
    | split
    | dsimp only
    | intro _
    | refine sound_of_pair ‹_ = (_, _)› ?_

theorem sound_enterRun {a1} {a2} (h2 : Sound q a2) : Sound q (enterRun a1 a2) := by
  unfold enterRun
  try dsimp only
  repeat' first
    | with_reducible assumption
    | with_reducible apply soundC_of
    | with_reducible apply sound_changeState
    | with_reducible apply sound_startMeasure
    | simp only [sound_mk]
    | split
    | dsimp only
    | intro _

theorem sound_execEnable {a1} {a2} (h2 : Sound q a2) : SoundO q (execEnable a1 a2) := by
  unfold execEnable
  try dsimp only
  repeat' first
    | with_reducible assumption
    | with_reducible apply soundC_of
    | with_reducible apply soundO_ok
    | with_reducible apply soundS_inl
    | with_reducible apply soundS_inr
    | with_reducible apply sound_longStep
    | with_reducible apply sound_no
    | with_reducible apply sound_noD
    | with_reducible apply sound_enterRun
    | simp only [sound_mk]
    | split
    | dsimp only
    | intro _
    | refine sound_of_pair ‹_ = (_, _)› ?_

theorem sound_execBootstrapChargePulse {a1} (h1 : Sound q a1) : SoundO q (execBootstrapChargePulse a1) := by
  unfold execBootstrapChargePulse
  try dsimp only
  repeat' first
    | with_reducible assumption
    | with_reducible apply soundC_of
    | with_reducible apply soundO_ok
    | with_reducible apply sound_answer
    | with_reducible apply sound_enterRun
    | simp only [sound_mk]
    | split
    | dsimp only
    | intro _

end Sys2Proof.Laws
end

