-- ==== Sys2Proof/Laws/KeepMemory.lean ====
section
/-! SUPPORT. What the operations of Memory.lean keep (Keep.lean). -/

set_option linter.unreachableTactic false
set_option linter.unusedTactic false
set_option linter.unusedSimpArgs false

namespace Sys2Proof.Laws
open Sys2Proof Sys2Proof.Machine

variable {q : Kept}

theorem sound_setCtl {a1} {a2} {a3} (h3 : Sound q a3) : Sound q (setCtl a1 a2 a3) := by
  unfold setCtl
  try dsimp only
  repeat' first
    | with_reducible assumption
    | with_reducible apply soundC_of
    | simp only [sound_mk]
    | split
    | dsimp only
    | intro _

theorem sound_enter {a1} {a2} {a3} {a4} {a5} (h5 : Sound q a5) : Sound q (enter a1 a2 a3 a4 a5) := by
  unfold enter
  try dsimp only
  repeat' first
    | with_reducible assumption
    | with_reducible apply soundC_of
    | with_reducible apply sound_setCtl
    | with_reducible apply sound_record
    | simp only [sound_mk]
    | split
    | dsimp only
    | intro _

theorem sound_hardFault {a1} {a2} {a3} (h3 : Sound q a3) : Sound q (hardFault a1 a2 a3) := by
  unfold hardFault
  try dsimp only
  repeat' first
    | with_reducible assumption
    | with_reducible apply soundC_of
    | with_reducible apply sound_detect
    | with_reducible apply sound_setCtl
    | with_reducible apply sound_degrade
    | simp only [sound_mk]
    | split
    | dsimp only
    | intro _

theorem sound_migrateRow {a1} {a2} {a3} (h3 : Sound q a3) : Sound q (migrateRow a1 a2 a3) := by
  unfold migrateRow
  try dsimp only
  repeat' first
    | with_reducible assumption
    | with_reducible apply soundC_of
    | with_reducible apply sound_setCtl
    | with_reducible apply sound_record
    | simp only [sound_mk]
    | split
    | dsimp only
    | intro _

theorem sound_cancelBack {a1} {a2} {a3} (h3 : Sound q a3) : Sound q (cancelBack a1 a2 a3) := by
  unfold cancelBack
  try dsimp only
  repeat' first
    | with_reducible assumption
    | with_reducible apply soundC_of
    | with_reducible apply sound_setCtl
    | simp only [sound_mk]
    | split
    | dsimp only
    | intro _

theorem sound_countOne {a1} {a2} {a3} {a4} (h4 : Sound q a4) : Sound q (countOne a1 a2 a3 a4) := by
  unfold countOne
  try dsimp only
  repeat' first
    | with_reducible assumption
    | with_reducible apply soundC_of
    | with_reducible apply sound_setCtl
    | with_reducible apply sound_record
    | with_reducible apply sound_noteClass
    | with_reducible apply sound_enter
    | with_reducible apply sound_hardFault
    | simp only [sound_mk]
    | split
    | dsimp only
    | intro _

theorem sound_correct1 {a1} {a2} {a3} {a4} (h4 : Sound q a4) : Sound q (correct1 a1 a2 a3 a4) := by
  unfold correct1
  try dsimp only
  repeat' first
    | with_reducible assumption
    | with_reducible apply soundC_of
    | with_reducible apply sound_countOne
    | simp only [sound_mk]
    | split
    | dsimp only
    | intro _

theorem sound_execEccCorrection {a1} {a2} {a3} {a4} {a5} (h5 : Sound q a5) : SoundO q (execEccCorrection a1 a2 a3 a4 a5) := by
  unfold execEccCorrection
  try dsimp only
  repeat' first
    | with_reducible assumption
    | with_reducible apply soundC_of
    | with_reducible apply soundO_ok
    | with_reducible apply sound_correct1
    | simp only [sound_mk]
    | split
    | dsimp only
    | intro _

theorem sound_poison {a1} {a2} {a3} {a4} (h4 : Sound q a4) : Sound q (poison a1 a2 a3 a4) := by
  unfold poison
  try dsimp only
  repeat' first
    | with_reducible assumption
    | with_reducible apply soundC_of
    | with_reducible apply sound_enter
    | with_reducible apply sound_setCtl
    | simp only [sound_mk]
    | split
    | dsimp only
    | intro _

theorem sound_unpoison {a1} {a2} {a3} (h3 : Sound q a3) : Sound q (unpoison a1 a2 a3) := by
  unfold unpoison
  try dsimp only
  repeat' first
    | with_reducible assumption
    | with_reducible apply soundC_of
    | with_reducible apply sound_setCtl
    | simp only [sound_mk]
    | split
    | dsimp only
    | intro _

theorem sound_reload {a1} {a2} {a3} {a4} (h4 : Sound q a4) : Sound q (reload a1 a2 a3 a4) := by
  unfold reload
  try dsimp only
  repeat' first
    | with_reducible assumption
    | with_reducible apply soundC_of
    | with_reducible apply sound_record
    | with_reducible apply sound_unpoison
    | with_reducible apply sound_detect
    | with_reducible apply sound_foldl
    | simp only [sound_mk]
    | split
    | dsimp only
    | intro _

theorem sound_cpRestart {a1} (h1 : Sound q a1) : Sound q (cpRestart a1) := by
  have h := h1
  obtain ⟨hq, hw, ht, hc, hs, hv, hp, hf, hl, g1, g2, g3, g4, g5⟩ := h
  unfold cpRestart
  split
  · exact h1
  · exact { h1 with log := fun _ => rfl }

theorem sound_oeInvalid {a1} {a2} (h2 : Sound q a2) : Sound q (oeInvalid a1 a2) := by
  unfold oeInvalid
  try dsimp only
  repeat' first
    | with_reducible assumption
    | with_reducible apply soundC_of
    | simp only [sound_mk]
    | split
    | dsimp only
    | intro _

theorem sound_smResync {a1} {a2} (h2 : Sound q a2) : Sound q (smResync a1 a2) := by
  unfold smResync
  try dsimp only
  repeat' first
    | with_reducible assumption
    | with_reducible apply soundC_of
    | with_reducible apply sound_markResync
    | with_reducible apply sound_setCopy3
    | simp only [sound_mk]
    | split
    | dsimp only
    | intro _

theorem sound_demandOutcome {a1} {a2} {a3} {a4} {a5} (h5 : Sound q a5) : Sound q (demandOutcome a1 a2 a3 a4 a5) := by
  unfold demandOutcome
  try dsimp only
  repeat' first
    | with_reducible assumption
    | with_reducible apply soundC_of
    | with_reducible apply sound_cpRestart
    | with_reducible apply sound_reload
    | with_reducible apply sound_answer
    | with_reducible apply sound_detect
    | with_reducible apply sound_degrade
    | with_reducible apply sound_hkReset
    | with_reducible apply sound_leRestart
    | with_reducible apply sound_oeInvalid
    | with_reducible apply sound_record
    | with_reducible apply sound_setLe
    | with_reducible apply sound_smResync
    | simp only [sound_mk]
    | split
    | dsimp only
    | intro _

theorem sound_scrubOutcome {a1} {a2} {a3} {a4} {a5} (h5 : Sound q a5) : Sound q (scrubOutcome a1 a2 a3 a4 a5) := by
  unfold scrubOutcome
  try dsimp only
  repeat' first
    | with_reducible assumption
    | with_reducible apply soundC_of
    | with_reducible apply sound_reload
    | with_reducible apply sound_detect
    | with_reducible apply sound_record
    | with_reducible apply sound_leRestart
    | with_reducible apply sound_degrade
    | with_reducible apply sound_setLe
    | with_reducible apply sound_smResync
    | simp only [sound_mk]
    | split
    | dsimp only
    | intro _

theorem sound_countBad {a1} {a2} (h2 : Sound q a2) : Sound q (countBad a1 a2) := by
  unfold countBad
  try dsimp only
  repeat' first
    | with_reducible assumption
    | with_reducible apply soundC_of
    | with_reducible apply sound_setCtl
    | simp only [sound_mk]
    | split
    | dsimp only
    | intro _

theorem sound_demandBad {a1} {a2} {a3} {a4} {a5} (h5 : Sound q a5) : Sound q (demandBad a1 a2 a3 a4 a5) := by
  unfold demandBad
  try dsimp only
  repeat' first
    | with_reducible assumption
    | with_reducible apply soundC_of
    | with_reducible apply sound_countBad
    | with_reducible apply sound_poison
    | with_reducible apply sound_record
    | with_reducible apply sound_demandOutcome
    | simp only [sound_mk]
    | split
    | dsimp only
    | intro _

theorem sound_execEccUncorrectable {a1} {a2} {a3} {a4} {a5} {a6} (h6 : Sound q a6) : SoundO q (execEccUncorrectable a1 a2 a3 a4 a5 a6) := by
  unfold execEccUncorrectable
  try dsimp only
  repeat' first
    | with_reducible assumption
    | with_reducible apply soundC_of
    | with_reducible apply soundO_ok
    | with_reducible apply sound_demandBad
    | simp only [sound_mk]
    | split
    | dsimp only
    | intro _

theorem sound_writeEntry {a1} {a2} {a3} {a4} (h4 : Sound q a4) : Sound q (writeEntry a1 a2 a3 a4) := by
  unfold writeEntry
  try dsimp only
  repeat' first
    | with_reducible assumption
    | with_reducible apply soundC_of
    | with_reducible apply sound_cancelBack
    | with_reducible apply sound_setCtl
    | with_reducible apply sound_unpoison
    | with_reducible apply sound_poison
    | with_reducible apply sound_record
    | with_reducible apply sound_countBad
    | simp only [sound_mk]
    | split
    | dsimp only
    | intro _

theorem sound_writeEntries {a1} {a2} {a3} (h3 : Sound q a3) : Sound q (writeEntries a1 a2 a3) := by
  unfold writeEntries
  try dsimp only
  repeat' first
    | with_reducible assumption
    | with_reducible apply soundC_of
    | with_reducible apply sound_writeEntry
    | with_reducible apply sound_foldl
    | simp only [sound_mk]
    | split
    | dsimp only
    | intro _

theorem sound_mergeWrite {a1} {a2} {a3} {a4} (h4 : Sound q a4) : Sound q (mergeWrite a1 a2 a3 a4) := by
  unfold mergeWrite
  try dsimp only
  repeat' first
    | with_reducible assumption
    | with_reducible apply soundC_of
    | with_reducible apply sound_writeEntry
    | with_reducible apply sound_setCtl
    | simp only [sound_mk]
    | split
    | dsimp only
    | intro _

theorem sound_execMergeBufferFlush {a1} {a2} {a3} {a4} {a5} {a6} (h6 : Sound q a6) : SoundO q (execMergeBufferFlush a1 a2 a3 a4 a5 a6) := by
  unfold execMergeBufferFlush
  try dsimp only
  repeat' first
    | with_reducible assumption
    | with_reducible apply soundC_of
    | with_reducible apply soundO_ok
    | with_reducible apply sound_writeEntry
    | simp only [sound_mk]
    | split
    | dsimp only
    | intro _

theorem sound_execCpCheckpoint {a1} (h1 : Sound q a1) : SoundO q (execCpCheckpoint a1) := by
  unfold execCpCheckpoint
  apply soundO_ok
  split
  · exact h1
  · have h := sound_writeEntries (a1 := 0) (a2 := fun _ => true) h1
    have hl (m : q.mail = true) : (writeEntries 0 (fun _ => true) a1).mbx.tags.length = 128 := by
      rw [← h.log m, replay_length]
      exact h.count m
    exact { h with log := fun _ => rfl, count := hl }

theorem sound_passOn {a1} {a2} (h2 : Sound q a2) : Sound q (passOn a1 a2) := by
  unfold passOn
  try dsimp only
  repeat' first
    | with_reducible assumption
    | with_reducible apply soundC_of
    | with_reducible apply sound_setCtl
    | simp only [sound_mk]
    | split
    | dsimp only
    | intro _

theorem sound_scrubFound {a1} {a2} {a3} {a4} (h4 : Sound q a4) : Sound q (scrubFound a1 a2 a3 a4) := by
  unfold scrubFound
  try dsimp only
  repeat' first
    | with_reducible assumption
    | with_reducible apply soundC_of
    | with_reducible apply sound_correct1
    | with_reducible apply sound_countBad
    | with_reducible apply sound_detect
    | with_reducible apply sound_poison
    | with_reducible apply sound_scrubOutcome
    | simp only [sound_mk]
    | split
    | dsimp only
    | intro _

theorem sound_execScrubRead {a1} {a2} {a3} {a4} {a5} (h5 : Sound q a5) : SoundO q (execScrubRead a1 a2 a3 a4 a5) := by
  unfold execScrubRead
  try dsimp only
  repeat' first
    | with_reducible assumption
    | with_reducible apply soundC_of
    | with_reducible apply soundO_ok
    | with_reducible apply sound_scrubFound
    | with_reducible apply sound_writeEntries
    | with_reducible apply sound_passOn
    | simp only [sound_mk]
    | split
    | dsimp only
    | intro _

theorem sound_execScrubPassLate {a1} {a2} {a3} (h3 : Sound q a3) : SoundO q (execScrubPassLate a1 a2 a3) := by
  unfold execScrubPassLate
  try dsimp only
  repeat' first
    | with_reducible assumption
    | with_reducible apply soundC_of
    | with_reducible apply soundO_ok
    | with_reducible apply sound_detect
    | with_reducible apply sound_setCtl
    | simp only [sound_mk]
    | split
    | dsimp only
    | intro _

theorem sound_execRowMigration {a1} {a2} {a3} {a4} (h4 : Sound q a4) : SoundO q (execRowMigration a1 a2 a3 a4) := by
  unfold execRowMigration
  try dsimp only
  repeat' first
    | with_reducible assumption
    | with_reducible apply soundC_of
    | with_reducible apply soundO_ok
    | with_reducible apply sound_migrateRow
    | with_reducible apply sound_writeEntries
    | with_reducible apply sound_detect
    | with_reducible apply sound_degrade
    | with_reducible apply sound_setCtl
    | simp only [sound_mk]
    | split
    | dsimp only
    | intro _

theorem sound_latchDiffers {a1} {a2} {a3} {a4} (h3 : Sound q a3) : Sound q (latchDiffers a1 a2 a3 a4) := by
  unfold latchDiffers
  try dsimp only
  repeat' first
    | with_reducible assumption
    | with_reducible apply soundC_of
    | with_reducible apply sound_detect
    | simp only [sound_mk]
    | split
    | dsimp only
    | intro _

theorem sound_execGdLatchCheck {a1} {a2} {a3} {a4} (h4 : Sound q a4) : SoundO q (execGdLatchCheck a1 a2 a3 a4) := by
  unfold execGdLatchCheck
  try dsimp only
  repeat' first
    | with_reducible assumption
    | with_reducible apply soundC_of
    | with_reducible apply soundO_ok
    | with_reducible apply sound_latchDiffers
    | with_reducible apply sound_setCtl
    | with_reducible apply sound_foldl
    | simp only [sound_mk]
    | split
    | dsimp only
    | intro _

theorem sound_execScrubRange {a1} {a2} (h2 : Sound q a2) : SoundO q (execScrubRange a1 a2) := by
  unfold execScrubRange
  try dsimp only
  repeat' first
    | with_reducible assumption
    | with_reducible apply soundC_of
    | with_reducible apply soundO_ok
    | with_reducible apply soundS_inl
    | with_reducible apply soundS_inr
    | with_reducible apply sound_longStep
    | with_reducible apply sound_no
    | with_reducible apply sound_yes
    | simp only [sound_mk]
    | split
    | dsimp only
    | intro _
    | refine sound_of_pair ‹_ = (_, _)› ?_

theorem sound_scrubStep {a1} {a2} (h2 : Sound q a2) : Sound q (scrubStep a1 a2) := by
  unfold scrubStep
  try dsimp only
  repeat' first
    | with_reducible assumption
    | with_reducible apply soundC_of
    | with_reducible apply sound_finishSt
    | with_reducible apply sound_setCtl
    | simp only [sound_mk]
    | split
    | dsimp only
    | intro _

theorem sound_execMemTest {a1} {a2} (h2 : Sound q a2) : SoundO q (execMemTest a1 a2) := by
  unfold execMemTest
  try dsimp only
  repeat' first
    | with_reducible assumption
    | with_reducible apply soundC_of
    | with_reducible apply soundO_ok
    | with_reducible apply soundS_inl
    | with_reducible apply soundS_inr
    | with_reducible apply sound_longStep
    | with_reducible apply sound_no
    | simp only [sound_mk]
    | split
    | dsimp only
    | intro _
    | refine sound_of_pair ‹_ = (_, _)› ?_

theorem sound_execPeriodicMemoryTest {a1} (h1 : Sound q a1) : SoundO q (execPeriodicMemoryTest a1) := by
  unfold execPeriodicMemoryTest
  try dsimp only
  repeat' first
    | with_reducible assumption
    | with_reducible apply soundC_of
    | with_reducible apply soundO_ok
    | simp only [sound_mk]
    | split
    | dsimp only
    | intro _

theorem sound_cellRepair {a1} {a2} {a3} (h2 : Sound q a2) : Sound q (cellRepair a1 a2 a3) := by
  unfold cellRepair
  try dsimp only
  repeat' first
    | with_reducible assumption
    | with_reducible apply soundC_of
    | with_reducible apply sound_migrateRow
    | with_reducible apply sound_degrade
    | simp only [sound_mk]
    | split
    | dsimp only
    | intro _

theorem sound_testBlock {a1} {a2} {a3} (h3 : Sound q a3) : Sound q (testBlock a1 a2 a3) := by
  unfold testBlock
  try dsimp only
  repeat' first
    | with_reducible assumption
    | with_reducible apply soundC_of
    | with_reducible apply sound_cellRepair
    | with_reducible apply sound_foldl
    | simp only [sound_mk]
    | split
    | dsimp only
    | intro _

theorem sound_blockVerdict {a1} {a2} {a3} (h3 : Sound q a3) : Sound q (blockVerdict a1 a2 a3) := by
  unfold blockVerdict
  try dsimp only
  repeat' first
    | with_reducible assumption
    | with_reducible apply soundC_of
    | with_reducible apply sound_detect
    | simp only [sound_mk]
    | split
    | dsimp only
    | intro _

theorem sound_jobEnd {a1} {a2} (h2 : Sound q a2) : Sound q (jobEnd a1 a2) := by
  unfold jobEnd
  try dsimp only
  repeat' first
    | with_reducible assumption
    | with_reducible apply soundC_of
    | with_reducible apply sound_record
    | with_reducible apply sound_answer
    | with_reducible apply sound_answerOk
    | simp only [sound_mk]
    | split
    | dsimp only
    | intro _

theorem sound_keepUnrep {a1} {a2} (h2 : Sound q a2) : Sound q (keepUnrep a1 a2) := by
  unfold keepUnrep
  try dsimp only
  repeat' first
    | with_reducible assumption
    | with_reducible apply soundC_of
    | simp only [sound_mk]
    | split
    | dsimp only
    | intro _

theorem sound_jobGoes {a1} (h1 : Sound q a1) : Sound q (jobGoes a1) := by
  unfold jobGoes
  try dsimp only
  repeat' first
    | with_reducible assumption
    | with_reducible apply soundC_of
    | with_reducible apply sound_jobEnd
    | simp only [sound_mk]
    | split
    | dsimp only
    | intro _

theorem sound_execMemoryTestBlock {a1} {a2} {a3} (h3 : Sound q a3) : SoundO q (execMemoryTestBlock a1 a2 a3) := by
  unfold execMemoryTestBlock
  try dsimp only
  repeat' first
    | with_reducible assumption
    | with_reducible apply soundC_of
    | with_reducible apply soundO_ok
    | with_reducible apply sound_jobGoes
    | with_reducible apply sound_keepUnrep
    | with_reducible apply sound_testBlock
    | with_reducible apply sound_scrubFound
    | with_reducible apply sound_blockVerdict
    | simp only [sound_mk]
    | split
    | dsimp only
    | intro _

end Sys2Proof.Laws
end

