-- ==== Sys2Proof/Laws/KeepThermal.lean ====
section
/-! SUPPORT. What the operations of Thermal.lean keep (Keep.lean). -/

set_option linter.unreachableTactic false
set_option linter.unusedTactic false
set_option linter.unusedSimpArgs false

namespace Sys2Proof.Laws
open Sys2Proof Sys2Proof.Machine

variable {q : Kept}

theorem sound_setSensor {a1} {a2} {a3} (h3 : Sound q a3) : Sound q (setSensor a1 a2 a3) := by
  unfold setSensor
  try dsimp only
  repeat' first
    | with_reducible assumption
    | with_reducible apply soundC_of
    | simp only [sound_mk]
    | split
    | dsimp only
    | intro _

theorem sound_noEstimate {a1} {a2} (h2 : Sound q a2) : Sound q (noEstimate a1 a2) := by
  unfold noEstimate
  try dsimp only
  repeat' first
    | with_reducible assumption
    | with_reducible apply soundC_of
    | with_reducible apply sound_setSensor
    | with_reducible apply sound_detect
    | simp only [sound_mk]
    | split
    | dsimp only
    | intro _

theorem sound_thermalRound {a1} {a2} (h2 : Sound q a2) : Sound q (thermalRound a1 a2) := by
  unfold thermalRound
  try dsimp only
  repeat' first
    | with_reducible assumption
    | with_reducible apply soundC_of
    | with_reducible apply sound_setSensor
    | with_reducible apply sound_noEstimate
    | with_reducible apply sound_foldl
    | simp only [sound_mk]
    | split
    | dsimp only
    | intro _

theorem sound_shutdownSensors {a1} {a2} (h2 : Sound q a2) : Sound q (shutdownSensors a1 a2) := by
  unfold shutdownSensors
  try dsimp only
  repeat' first
    | with_reducible assumption
    | with_reducible apply soundC_of
    | with_reducible apply sound_foldl
    | simp only [sound_mk]
    | split
    | dsimp only
    | intro _

theorem sound_trims {a1} (h1 : Sound q a1) : Sound q (trims a1) := by
  unfold trims
  try dsimp only
  repeat' first
    | with_reducible assumption
    | with_reducible apply soundC_of
    | with_reducible apply sound_foldl
    | simp only [sound_mk]
    | split
    | dsimp only
    | intro _

theorem sound_hkInputs {a1} {a2} (h2 : Sound q a2) : Sound q (hkInputs a1 a2) := by
  unfold hkInputs
  try dsimp only
  repeat' first
    | with_reducible assumption
    | with_reducible apply soundC_of
    | simp only [sound_mk]
    | split
    | dsimp only
    | intro _

theorem sound_resistorCheck {a1} {a2} (h2 : Sound q a2) : Sound q (resistorCheck a1 a2) := by
  unfold resistorCheck
  try dsimp only
  repeat' first
    | with_reducible assumption
    | with_reducible apply soundC_of
    | simp only [sound_mk]
    | split
    | dsimp only
    | intro _

theorem sound_execHousekeepingRound {a1} {a2} (h2 : Sound q a2) : SoundO q (execHousekeepingRound a1 a2) := by
  unfold execHousekeepingRound
  try dsimp only
  repeat' first
    | with_reducible assumption
    | with_reducible apply soundC_of
    | with_reducible apply soundO_ok
    | with_reducible apply sound_resistorCheck
    | with_reducible apply sound_hkInputs
    | with_reducible apply sound_trims
    | with_reducible apply sound_shutdownSensors
    | with_reducible apply sound_thermalRound
    | simp only [sound_mk]
    | split
    | dsimp only
    | intro _

theorem sound_execSensorBroken {a1} {a2} (h2 : Sound q a2) : SoundO q (execSensorBroken a1 a2) := by
  unfold execSensorBroken
  try dsimp only
  repeat' first
    | with_reducible assumption
    | with_reducible apply soundC_of
    | with_reducible apply soundO_ok
    | with_reducible apply sound_detect
    | with_reducible apply sound_degrade
    | with_reducible apply sound_setSensor
    | simp only [sound_mk]
    | split
    | dsimp only
    | intro _

theorem sound_execTemperatureWarning {a1} {a2} (h2 : Sound q a2) : SoundO q (execTemperatureWarning a1 a2) := by
  unfold execTemperatureWarning
  try dsimp only
  repeat' first
    | with_reducible assumption
    | with_reducible apply soundC_of
    | with_reducible apply soundO_ok
    | with_reducible apply sound_detect
    | with_reducible apply sound_setSensor
    | simp only [sound_mk]
    | split
    | dsimp only
    | intro _

theorem sound_execTemperatureWarningClear {a1} {a2} (h2 : Sound q a2) : SoundO q (execTemperatureWarningClear a1 a2) := by
  unfold execTemperatureWarningClear
  try dsimp only
  repeat' first
    | with_reducible assumption
    | with_reducible apply soundC_of
    | with_reducible apply soundO_ok
    | with_reducible apply sound_setSensor
    | simp only [sound_mk]
    | split
    | dsimp only
    | intro _

theorem sound_execTemperatureStopLevel {a1} {a2} (h2 : Sound q a2) : SoundO q (execTemperatureStopLevel a1 a2) := by
  unfold execTemperatureStopLevel
  try dsimp only
  repeat' first
    | with_reducible assumption
    | with_reducible apply soundC_of
    | with_reducible apply soundO_ok
    | with_reducible apply sound_detect
    | with_reducible apply sound_setSensor
    | simp only [sound_mk]
    | split
    | dsimp only
    | intro _

theorem sound_execModuleTempWarning {a1} {a2} (h2 : Sound q a2) : SoundO q (execModuleTempWarning a1 a2) := by
  unfold execModuleTempWarning
  try dsimp only
  repeat' first
    | with_reducible assumption
    | with_reducible apply soundC_of
    | with_reducible apply soundO_ok
    | with_reducible apply sound_setSensor
    | with_reducible apply sound_detect
    | simp only [sound_mk]
    | split
    | dsimp only
    | intro _

theorem sound_execModuleOvertemperature {a1} {a2} (h2 : Sound q a2) : SoundO q (execModuleOvertemperature a1 a2) := by
  unfold execModuleOvertemperature
  try dsimp only
  repeat' first
    | with_reducible assumption
    | with_reducible apply soundC_of
    | with_reducible apply soundO_ok
    | with_reducible apply sound_detect
    | with_reducible apply sound_setSensor
    | simp only [sound_mk]
    | split
    | dsimp only
    | intro _

theorem sound_execShutdownSensorDisagree {a1} {a2} (h2 : Sound q a2) : SoundO q (execShutdownSensorDisagree a1 a2) := by
  unfold execShutdownSensorDisagree
  try dsimp only
  repeat' first
    | with_reducible assumption
    | with_reducible apply soundC_of
    | with_reducible apply soundO_ok
    | with_reducible apply sound_detect
    | with_reducible apply sound_degrade
    | simp only [sound_mk]
    | split
    | dsimp only
    | intro _

end Sys2Proof.Laws
end

