-- ==== Sys2Proof/Laws/KeepCan.lean ====
section
/-! SUPPORT. What the operations of Can.lean keep (Keep.lean). -/

set_option linter.unreachableTactic false
set_option linter.unusedTactic false
set_option linter.unusedSimpArgs false

namespace Sys2Proof.Laws
open Sys2Proof Sys2Proof.Machine

variable {q : Kept}

theorem sound_setCh {a1} {a2} {a3} (h3 : Sound q a3) : Sound q (setCh a1 a2 a3) := by
  unfold setCh
  try dsimp only
  repeat' first
    | with_reducible assumption
    | with_reducible apply soundC_of
    | simp only [sound_mk]
    | split
    | dsimp only
    | intro _

theorem sound_setCounters {a1} {a2} {a3} {a4} (h4 : Sound q a4) : Sound q (setCounters a1 a2 a3 a4) := by
  unfold setCounters
  try dsimp only
  repeat' first
    | with_reducible assumption
    | with_reducible apply soundC_of
    | with_reducible apply sound_setCh
    | with_reducible apply sound_detect
    | simp only [sound_mk]
    | split
    | dsimp only
    | intro _

theorem sound_recDown {a1} {a2} (h2 : Sound q a2) : Sound q (recDown a1 a2) := by
  unfold recDown
  try dsimp only
  repeat' first
    | with_reducible assumption
    | with_reducible apply soundC_of
    | with_reducible apply sound_setCounters
    | with_reducible apply sound_takeFree
    | simp only [sound_mk]
    | split
    | dsimp only
    | intro _
    | refine sound_of_pair ‹_ = (_, _)› ?_

theorem sound_nowOn {a1} {a2} (h2 : Sound q a2) : Sound q (nowOn a1 a2) := by
  unfold nowOn
  try dsimp only
  repeat' first
    | with_reducible assumption
    | with_reducible apply soundC_of
    | with_reducible apply sound_setCh
    | with_reducible apply sound_record
    | with_reducible apply sound_answerOk
    | simp only [sound_mk]
    | split
    | dsimp only
    | intro _

theorem sound_beginJoin {a1} {a2} {a3} (h3 : Sound q a3) : Sound q (beginJoin a1 a2 a3) := by
  unfold beginJoin
  try dsimp only
  repeat' first
    | with_reducible assumption
    | with_reducible apply soundC_of
    | with_reducible apply sound_setCh
    | simp only [sound_mk]
    | split
    | dsimp only
    | intro _

theorem sound_execCanBusOn {a1} {a2} (h2 : Sound q a2) : SoundO q (execCanBusOn a1 a2) := by
  unfold execCanBusOn
  try dsimp only
  repeat' first
    | with_reducible assumption
    | with_reducible apply soundC_of
    | with_reducible apply soundO_ok
    | with_reducible apply soundS_inl
    | with_reducible apply soundS_inr
    | with_reducible apply sound_longStep
    | with_reducible apply sound_no
    | with_reducible apply sound_noD
    | with_reducible apply sound_record
    | with_reducible apply sound_yes
    | with_reducible apply sound_setCh
    | with_reducible apply sound_beginJoin
    | simp only [sound_mk]
    | split
    | dsimp only
    | intro _
    | refine sound_of_pair ‹_ = (_, _)› ?_

theorem sound_startupJoin {a1} {a2} (h2 : Sound q a2) : Sound q (startupJoin a1 a2) := by
  unfold startupJoin
  try dsimp only
  repeat' first
    | with_reducible assumption
    | with_reducible apply soundC_of
    | with_reducible apply sound_record
    | with_reducible apply sound_setCh
    | with_reducible apply sound_beginJoin
    | simp only [sound_mk]
    | split
    | dsimp only
    | intro _

theorem sound_execCanRecessiveIdle {a1} {a2} (h2 : Sound q a2) : SoundO q (execCanRecessiveIdle a1 a2) := by
  unfold execCanRecessiveIdle
  try dsimp only
  repeat' first
    | with_reducible assumption
    | with_reducible apply soundC_of
    | with_reducible apply soundO_ok
    | with_reducible apply sound_nowOn
    | with_reducible apply sound_setCh
    | simp only [sound_mk]
    | split
    | dsimp only
    | intro _

theorem sound_execCanRecoveryDone {a1} {a2} (h2 : Sound q a2) : SoundO q (execCanRecoveryDone a1 a2) := by
  unfold execCanRecoveryDone
  try dsimp only
  repeat' first
    | with_reducible assumption
    | with_reducible apply soundC_of
    | with_reducible apply soundO_ok
    | with_reducible apply sound_nowOn
    | with_reducible apply sound_setCh
    | simp only [sound_mk]
    | split
    | dsimp only
    | intro _

theorem sound_execCanOnTimeout {a1} {a2} (h2 : Sound q a2) : SoundO q (execCanOnTimeout a1 a2) := by
  unfold execCanOnTimeout
  try dsimp only
  repeat' first
    | with_reducible assumption
    | with_reducible apply soundC_of
    | with_reducible apply soundO_ok
    | with_reducible apply sound_record
    | with_reducible apply sound_setCh
    | with_reducible apply sound_answer
    | simp only [sound_mk]
    | split
    | dsimp only
    | intro _

theorem sound_execCanRateDetect {a1} {a2} (h2 : Sound q a2) : SoundO q (execCanRateDetect a1 a2) := by
  unfold execCanRateDetect
  try dsimp only
  repeat' first
    | with_reducible assumption
    | with_reducible apply soundC_of
    | with_reducible apply soundO_ok
    | with_reducible apply soundS_inl
    | with_reducible apply soundS_inr
    | with_reducible apply sound_longStep
    | with_reducible apply sound_no
    | with_reducible apply sound_setCh
    | simp only [sound_mk]
    | split
    | dsimp only
    | intro _
    | refine sound_of_pair ‹_ = (_, _)› ?_

theorem sound_candFails {a1} {a2} {a3} (h3 : Sound q a3) : Sound q (candFails a1 a2 a3) := by
  unfold candFails
  try dsimp only
  repeat' first
    | with_reducible assumption
    | with_reducible apply soundC_of
    | with_reducible apply sound_setCh
    | with_reducible apply sound_detect
    | with_reducible apply sound_answer
    | simp only [sound_mk]
    | split
    | dsimp only
    | intro _

theorem sound_candHit {a1} {a2} {a3} (h3 : Sound q a3) : Sound q (candHit a1 a2 a3) := by
  unfold candHit
  try dsimp only
  repeat' first
    | with_reducible assumption
    | with_reducible apply soundC_of
    | with_reducible apply sound_setCh
    | with_reducible apply sound_setPar
    | with_reducible apply sound_record
    | with_reducible apply sound_answer
    | simp only [sound_mk]
    | split
    | dsimp only
    | intro _

theorem sound_execCanDetectWindowEnd {a1} {a2} (h2 : Sound q a2) : SoundO q (execCanDetectWindowEnd a1 a2) := by
  unfold execCanDetectWindowEnd
  try dsimp only
  repeat' first
    | with_reducible assumption
    | with_reducible apply soundC_of
    | with_reducible apply soundO_ok
    | with_reducible apply sound_candFails
    | simp only [sound_mk]
    | split
    | dsimp only
    | intro _

theorem sound_countFlag {a1} {a2} {a3} (h3 : Sound q a3) : Sound q (countFlag a1 a2 a3) := by
  unfold countFlag
  try dsimp only
  repeat' first
    | with_reducible assumption
    | with_reducible apply soundC_of
    | with_reducible apply sound_setCh
    | with_reducible apply sound_record
    | with_reducible apply sound_noteClass
    | simp only [sound_mk]
    | split
    | dsimp only
    | intro _

theorem sound_execCanErrorFlag {a1} {a2} {a3} {a4} (h4 : Sound q a4) : SoundO q (execCanErrorFlag a1 a2 a3 a4) := by
  unfold execCanErrorFlag
  try dsimp only
  repeat' first
    | with_reducible assumption
    | with_reducible apply soundC_of
    | with_reducible apply soundO_ok
    | with_reducible apply sound_countFlag
    | with_reducible apply sound_setCounters
    | with_reducible apply sound_candFails
    | simp only [sound_mk]
    | split
    | dsimp only
    | intro _

theorem sound_fifoLost {a1} {a2} (h2 : Sound q a2) : Sound q (fifoLost a1 a2) := by
  unfold fifoLost
  try dsimp only
  repeat' first
    | with_reducible assumption
    | with_reducible apply soundC_of
    | with_reducible apply sound_setCh
    | with_reducible apply sound_detect
    | simp only [sound_mk]
    | split
    | dsimp only
    | intro _

theorem sound_execCanFrameReceived {a1} {a2} {a3} (h3 : Sound q a3) : SoundO q (execCanFrameReceived a1 a2 a3) := by
  unfold execCanFrameReceived
  try dsimp only
  repeat' first
    | with_reducible assumption
    | with_reducible apply soundC_of
    | with_reducible apply soundO_ok
    | with_reducible apply sound_candHit
    | with_reducible apply sound_setCh
    | with_reducible apply sound_fifoLost
    | with_reducible apply sound_recDown
    | simp only [sound_mk]
    | split
    | dsimp only
    | intro _

theorem sound_execCanFrameFiltering {a1} {a2} (h2 : Sound q a2) : SoundO q (execCanFrameFiltering a1 a2) := by
  unfold execCanFrameFiltering
  try dsimp only
  repeat' first
    | with_reducible assumption
    | with_reducible apply soundC_of
    | with_reducible apply soundO_ok
    | with_reducible apply sound_setCh
    | simp only [sound_mk]
    | split
    | dsimp only
    | intro _

theorem sound_execCanFilterLoad {a1} {a2} (h2 : Sound q a2) : SoundO q (execCanFilterLoad a1 a2) := by
  unfold execCanFilterLoad
  try dsimp only
  repeat' first
    | with_reducible assumption
    | with_reducible apply soundC_of
    | with_reducible apply soundO_ok
    | with_reducible apply sound_oneStep
    | with_reducible apply sound_no
    | with_reducible apply sound_yes
    | with_reducible apply sound_setCh
    | simp only [sound_mk]
    | split
    | dsimp only
    | intro _
    | refine sound_of_pair ‹_ = (_, _)› ?_

theorem sound_execCanRxRead {a1} {a2} (h2 : Sound q a2) : SoundO q (execCanRxRead a1 a2) := by
  unfold execCanRxRead
  try dsimp only
  repeat' first
    | with_reducible assumption
    | with_reducible apply soundC_of
    | with_reducible apply soundO_ok
    | with_reducible apply sound_oneStep
    | with_reducible apply sound_no
    | with_reducible apply sound_setCh
    | simp only [sound_mk]
    | split
    | dsimp only
    | intro _
    | refine sound_of_pair ‹_ = (_, _)› ?_

theorem sound_setTx {a1} {a2} {a3} {a4} (h4 : Sound q a4) : Sound q (setTx a1 a2 a3 a4) := by
  unfold setTx
  try dsimp only
  repeat' first
    | with_reducible assumption
    | with_reducible apply soundC_of
    | with_reducible apply sound_setCh
    | simp only [sound_mk]
    | split
    | dsimp only
    | intro _

theorem sound_addTx {a1} {a2} {a3} {a4} (h4 : Sound q a4) : Sound q (addTx a1 a2 a3 a4) := by
  unfold addTx
  try dsimp only
  repeat' first
    | with_reducible assumption
    | with_reducible apply soundC_of
    | with_reducible apply sound_setCh
    | simp only [sound_mk]
    | split
    | dsimp only
    | intro _

theorem sound_execCanTx {a1} {a2} (h2 : Sound q a2) : SoundO q (execCanTx a1 a2) := by
  unfold execCanTx
  try dsimp only
  repeat' first
    | with_reducible assumption
    | with_reducible apply soundC_of
    | with_reducible apply soundO_ok
    | with_reducible apply soundS_inl
    | with_reducible apply soundS_inr
    | with_reducible apply sound_longStep
    | with_reducible apply sound_no
    | with_reducible apply sound_noD
    | with_reducible apply sound_addTx
    | simp only [sound_mk]
    | split
    | dsimp only
    | intro _
    | refine sound_of_pair ‹_ = (_, _)› ?_

theorem sound_execCanBufWrite {a1} {a2} (h2 : Sound q a2) : SoundO q (execCanBufWrite a1 a2) := by
  unfold execCanBufWrite
  try dsimp only
  repeat' first
    | with_reducible assumption
    | with_reducible apply soundC_of
    | with_reducible apply soundO_ok
    | with_reducible apply sound_oneStep
    | with_reducible apply sound_no
    | with_reducible apply sound_yes
    | with_reducible apply sound_writeMem
    | with_reducible apply sound_setCh
    | simp only [sound_mk]
    | split
    | dsimp only
    | intro _
    | refine sound_of_pair ‹_ = (_, _)› ?_

theorem sound_busOff {a1} {a2} (h2 : Sound q a2) : Sound q (busOff a1 a2) := by
  unfold busOff
  try dsimp only
  repeat' first
    | with_reducible assumption
    | with_reducible apply soundC_of
    | with_reducible apply sound_dropTx
    | with_reducible apply sound_detect
    | with_reducible apply sound_setCh
    | with_reducible apply sound_foldl
    | simp only [sound_mk]
    | split
    | dsimp only
    | intro _

theorem sound_attemptSent {a1} {a2} {a3} {a4} {a5} (h5 : Sound q a5) : Sound q (attemptSent a1 a2 a3 a4 a5) := by
  unfold attemptSent
  try dsimp only
  repeat' first
    | with_reducible assumption
    | with_reducible apply soundC_of
    | with_reducible apply sound_setCounters
    | with_reducible apply sound_setCh
    | with_reducible apply sound_record
    | with_reducible apply sound_setTx
    | with_reducible apply sound_answer
    | simp only [sound_mk]
    | split
    | dsimp only
    | intro _

theorem sound_attemptFailed {a1} {a2} {a3} {a4} {a5} (h5 : Sound q a5) : Sound q (attemptFailed a1 a2 a3 a4 a5) := by
  unfold attemptFailed
  try dsimp only
  repeat' first
    | with_reducible assumption
    | with_reducible apply soundC_of
    | with_reducible apply sound_dropTx
    | with_reducible apply sound_record
    | with_reducible apply sound_setTx
    | simp only [sound_mk]
    | split
    | dsimp only
    | intro _

theorem sound_noAckCount {a1} {a2} {a3} (h3 : Sound q a3) : Sound q (noAckCount a1 a2 a3) := by
  unfold noAckCount
  try dsimp only
  repeat' first
    | with_reducible assumption
    | with_reducible apply soundC_of
    | with_reducible apply sound_setCh
    | with_reducible apply sound_detect
    | simp only [sound_mk]
    | split
    | dsimp only
    | intro _

theorem sound_attemptErred {a1} {a2} {a3} {a4} (h4 : Sound q a4) : Sound q (attemptErred a1 a2 a3 a4) := by
  unfold attemptErred
  try dsimp only
  repeat' first
    | with_reducible assumption
    | with_reducible apply soundC_of
    | with_reducible apply sound_attemptFailed
    | with_reducible apply sound_setCounters
    | with_reducible apply sound_busOff
    | simp only [sound_mk]
    | split
    | dsimp only
    | intro _

theorem sound_execCanAttemptEnd {a1} {a2} {a3} {a4} (h4 : Sound q a4) : SoundO q (execCanAttemptEnd a1 a2 a3 a4) := by
  unfold execCanAttemptEnd
  try dsimp only
  repeat' first
    | with_reducible assumption
    | with_reducible apply soundC_of
    | with_reducible apply soundO_ok
    | with_reducible apply sound_setCh
    | with_reducible apply sound_attemptSent
    | with_reducible apply sound_attemptErred
    | with_reducible apply sound_countFlag
    | with_reducible apply sound_attemptFailed
    | with_reducible apply sound_noAckCount
    | with_reducible apply sound_setCounters
    | with_reducible apply sound_busOff
    | simp only [sound_mk]
    | split
    | dsimp only
    | intro _

theorem sound_execCanTxDeadline {a1} {a2} {a3} {a4} (h4 : Sound q a4) : SoundO q (execCanTxDeadline a1 a2 a3 a4) := by
  unfold execCanTxDeadline
  try dsimp only
  repeat' first
    | with_reducible assumption
    | with_reducible apply soundC_of
    | with_reducible apply soundO_ok
    | with_reducible apply sound_setTx
    | with_reducible apply sound_dropTx
    | with_reducible apply sound_record
    | simp only [sound_mk]
    | split
    | dsimp only
    | intro _

theorem sound_queueStatus {a1} {a2} {a3} {a4} (h4 : Sound q a4) : Sound q (queueStatus a1 a2 a3 a4) := by
  unfold queueStatus
  try dsimp only
  repeat' first
    | with_reducible assumption
    | with_reducible apply soundC_of
    | with_reducible apply sound_setTx
    | with_reducible apply sound_addTx
    | simp only [sound_mk]
    | split
    | dsimp only
    | intro _

theorem sound_execSafeStatusTransmit {a1} {a2} {a3} (h3 : Sound q a3) : SoundO q (execSafeStatusTransmit a1 a2 a3) := by
  unfold execSafeStatusTransmit
  try dsimp only
  repeat' first
    | with_reducible assumption
    | with_reducible apply soundC_of
    | with_reducible apply soundO_ok
    | with_reducible apply sound_queueStatus
    | simp only [sound_mk]
    | split
    | dsimp only
    | intro _

theorem sound_execReferenceMessageDue {a1} (h1 : Sound q a1) : SoundO q (execReferenceMessageDue a1) := by
  unfold execReferenceMessageDue
  try dsimp only
  repeat' first
    | with_reducible assumption
    | with_reducible apply soundC_of
    | with_reducible apply soundO_ok
    | with_reducible apply sound_addTx
    | with_reducible apply sound_setTx
    | simp only [sound_mk]
    | split
    | dsimp only
    | intro _

theorem sound_changeRole {a1} {a2} (h2 : Sound q a2) : Sound q (changeRole a1 a2) := by
  unfold changeRole
  try dsimp only
  repeat' first
    | with_reducible assumption
    | with_reducible apply soundC_of
    | with_reducible apply sound_record
    | simp only [sound_mk]
    | split
    | dsimp only
    | intro _

theorem sound_execTimeMasterTimeout {a1} (h1 : Sound q a1) : SoundO q (execTimeMasterTimeout a1) := by
  unfold execTimeMasterTimeout
  try dsimp only
  repeat' first
    | with_reducible assumption
    | with_reducible apply soundC_of
    | with_reducible apply soundO_ok
    | with_reducible apply sound_changeRole
    | simp only [sound_mk]
    | split
    | dsimp only
    | intro _

theorem sound_execNetworkTimeLost {a1} (h1 : Sound q a1) : SoundO q (execNetworkTimeLost a1) := by
  unfold execNetworkTimeLost
  try dsimp only
  repeat' first
    | with_reducible assumption
    | with_reducible apply soundC_of
    | with_reducible apply soundO_ok
    | with_reducible apply sound_detect
    | simp only [sound_mk]
    | split
    | dsimp only
    | intro _

theorem sound_stepPt {a1} {a2} (h2 : Sound q a2) : Sound q (stepPt a1 a2) := by
  unfold stepPt
  try dsimp only
  repeat' first
    | with_reducible assumption
    | with_reducible apply soundC_of
    | with_reducible apply sound_setCarrier
    | with_reducible apply sound_closeBarrier
    | with_reducible apply sound_answer
    | with_reducible apply sound_record
    | simp only [sound_mk]
    | split
    | dsimp only
    | intro _

theorem sound_driftCheck {a1} {a2} (h2 : Sound q a2) : Sound q (driftCheck a1 a2) := by
  unfold driftCheck
  try dsimp only
  repeat' first
    | with_reducible assumption
    | with_reducible apply soundC_of
    | with_reducible apply sound_detect
    | simp only [sound_mk]
    | split
    | dsimp only
    | intro _

theorem sound_align {a1} {a2} {a3} (h3 : Sound q a3) : Sound q (align a1 a2 a3) := by
  unfold align
  try dsimp only
  repeat' first
    | with_reducible assumption
    | with_reducible apply soundC_of
    | with_reducible apply sound_driftCheck
    | with_reducible apply sound_record
    | with_reducible apply sound_stepPt
    | simp only [sound_mk]
    | split
    | dsimp only
    | intro _

theorem sound_execReferenceMessageReceived {a1} {a2} (h2 : Sound q a2) : SoundO q (execReferenceMessageReceived a1 a2) := by
  unfold execReferenceMessageReceived
  try dsimp only
  repeat' first
    | with_reducible assumption
    | with_reducible apply soundC_of
    | with_reducible apply soundO_ok
    | with_reducible apply sound_changeRole
    | with_reducible apply sound_align
    | simp only [sound_mk]
    | split
    | dsimp only
    | intro _

end Sys2Proof.Laws
end

