-- ==== Sys2Proof/Laws/KeepReset.lean ====
section
/-! SUPPORT. What the operations of Reset.lean keep (Keep.lean). -/

set_option linter.unreachableTactic false
set_option linter.unusedTactic false
set_option linter.unusedSimpArgs false

namespace Sys2Proof.Laws
open Sys2Proof Sys2Proof.Machine

variable {q : Kept}

theorem sound_resetCtls {a1} {a2} (h2 : Sound q a2) : Sound q (resetCtls a1 a2) := by
  unfold resetCtls
  try dsimp only
  repeat' first
    | with_reducible assumption
    | with_reducible apply soundC_of
    | with_reducible apply sound_setCtl
    | with_reducible apply sound_foldl
    | simp only [sound_mk]
    | split
    | dsimp only
    | intro _

theorem sound_hbReset {a1} (h1 : Sound q a1) : Sound q (hbReset a1) := by
  have h := h1
  obtain ⟨hq, hw, ht, hc, hs, hv, hp, hf, hl, g1, g2, g3, g4, g5⟩ := h
  unfold hbReset
  apply sound_resetCtls
  exact { h1 with wf := fun _ => rfl, log := fun _ => rfl, count := fun _ => rfl, next := fun _ => Nat.mod_le _ _, vol := by simp, waiting := by simp, lock := fun _ => rfl }

theorem sound_fcReset {a1} (h1 : Sound q.z a1) : Sound q.z (fcReset a1) := by
  have h := h1
  obtain ⟨hq, hw, ht, hc, hs, hv, hp, hf, hl, g1, g2, g3, g4, g5⟩ := h
  unfold fcReset
  apply sound_resetCtls
  exact { h1 with field := by simp, rank := Nat.zero_le _ }

theorem sound_gdReset {a1} {a2} (h2 : Sound q a2) : Sound q (gdReset a1 a2) := by
  unfold gdReset
  try dsimp only
  repeat' first
    | with_reducible assumption
    | with_reducible apply soundC_of
    | with_reducible apply sound_resetCtls
    | with_reducible apply sound_putDie
    | simp only [sound_mk]
    | split
    | dsimp only
    | intro _

theorem sound_intoBoot {a1} (h1 : Sound q a1) : Sound q (intoBoot a1) := by
  unfold intoBoot
  try dsimp only
  repeat' first
    | with_reducible assumption
    | with_reducible apply soundC_of
    | simp only [sound_mk]
    | split
    | dsimp only
    | intro _

theorem sound_endFuse {a1} {a2} (h2 : Sound q a2) : Sound q (endFuse a1 a2) := by
  unfold endFuse
  split
  · exact h2
  · split
    · refine { h2 with fuse := fun m => ?_, toRaise := by intro _ x hx; cases hx }
      have hf := h2.fuse m
      have hr := h2.toRaise m
      cases e : a2.boot.raise with
      | none => simpa [e] using hf
      | some x => simpa [e] using le_trans hf (hr x e)
    · exact h2
  · exact h2

theorem sound_packageReset {a1} {a2} (h2 : Sound q.z a2) : Sound q.z (packageReset a1 a2) := by
  unfold packageReset
  try dsimp only
  repeat' first
    | with_reducible assumption
    | with_reducible apply soundC_of
    | with_reducible apply sound_endFuse
    | with_reducible apply sound_hbReset
    | with_reducible apply sound_fcReset
    | with_reducible apply sound_gdReset
    | with_reducible apply sound_intoBoot
    | with_reducible apply sound_closeBarrier
    | with_reducible apply sound_foldl
    | simp only [sound_mk]
    | split
    | dsimp only
    | intro _

theorem sound_insoleRetry {a1} (h1 : Sound q.z a1) : Sound q.z (insoleRetry a1) := by
  unfold insoleRetry
  try dsimp only
  repeat' first
    | with_reducible assumption
    | with_reducible apply soundC_of
    | with_reducible apply sound_packageReset
    | with_reducible apply sound_journalSet
    | simp only [sound_mk]
    | split
    | dsimp only
    | intro _

theorem sound_setLocked {a1} {a2} {a3} (h3 : Sound q a3) : Sound q (setLocked a1 a2 a3) := by
  unfold setLocked
  try dsimp only
  repeat' first
    | with_reducible assumption
    | with_reducible apply soundC_of
    | simp only [sound_mk]
    | split
    | dsimp only
    | intro _

theorem sound_addCause {a1} {a2} (h2 : Sound q a2) : Sound q (addCause a1 a2) := by
  unfold addCause
  try dsimp only
  repeat' first
    | with_reducible assumption
    | with_reducible apply soundC_of
    | simp only [sound_mk]
    | split
    | dsimp only
    | intro _

theorem sound_gdHold {a1} {a2} {a3} (h3 : Sound q a3) : Sound q (gdHold a1 a2 a3) := by
  unfold gdHold
  try dsimp only
  repeat' first
    | with_reducible assumption
    | with_reducible apply soundC_of
    | with_reducible apply sound_putDie
    | simp only [sound_mk]
    | split
    | dsimp only
    | intro _

theorem sound_reportUv {a1} {a2} {a3} (h3 : Sound q a3) : Sound q (reportUv a1 a2 a3) := by
  unfold reportUv
  try dsimp only
  repeat' first
    | with_reducible assumption
    | with_reducible apply soundC_of
    | with_reducible apply sound_reportLeg
    | simp only [sound_mk]
    | split
    | dsimp only
    | intro _

theorem sound_hbDown {a1} (h1 : Sound q a1) : Sound q (hbDown a1) := by
  unfold hbDown
  try dsimp only
  repeat' first
    | with_reducible assumption
    | with_reducible apply soundC_of
    | with_reducible apply sound_setLocked
    | with_reducible apply sound_hbReset
    | with_reducible apply sound_endFuse
    | simp only [sound_mk]
    | split
    | dsimp only
    | intro _

theorem sound_fcDown {a1} (h1 : Sound q.z a1) : Sound q.z (fcDown a1) := by
  unfold fcDown
  try dsimp only
  repeat' first
    | with_reducible assumption
    | with_reducible apply soundC_of
    | with_reducible apply sound_addCause
    | with_reducible apply sound_fcReset
    | with_reducible apply sound_intoBoot
    | with_reducible apply sound_setLocked
    | simp only [sound_mk]
    | split
    | dsimp only
    | intro _

theorem sound_execLockoutEnter {a1} {a2} {a3} {a4} {a5} (h5 : Sound q.z a5) : SoundO q.z (execLockoutEnter a1 a2 a3 a4 a5) := by
  unfold execLockoutEnter
  try dsimp only
  repeat' first
    | with_reducible assumption
    | with_reducible apply soundC_of
    | with_reducible apply soundO_ok
    | with_reducible apply sound_hbDown
    | with_reducible apply sound_addCause
    | with_reducible apply sound_fcDown
    | with_reducible apply sound_record
    | with_reducible apply sound_setLocked
    | with_reducible apply sound_reportUv
    | with_reducible apply sound_gdHold
    | simp only [sound_mk]
    | split
    | dsimp only
    | intro _

theorem sound_hbUp {a1} {a2} (h2 : Sound q a2) : Sound q (hbUp a1 a2) := by
  unfold hbUp
  try dsimp only
  repeat' first
    | with_reducible assumption
    | with_reducible apply soundC_of
    | with_reducible apply sound_setLocked
    | with_reducible apply sound_arrive
    | with_reducible apply sound_noteClass
    | simp only [sound_mk]
    | split
    | dsimp only
    | intro _

theorem sound_fcUp {a1} (h1 : Sound q a1) : Sound q (fcUp a1) := by
  unfold fcUp
  try dsimp only
  repeat' first
    | with_reducible assumption
    | with_reducible apply soundC_of
    | with_reducible apply sound_setLocked
    | with_reducible apply sound_addCause
    | with_reducible apply sound_fcPush
    | with_reducible apply sound_foldl
    | simp only [sound_mk]
    | split
    | dsimp only
    | intro _

theorem sound_fcFirst {a1} {a2} {a3} (h3 : Sound q a3) : Sound q (fcFirst a1 a2 a3) := by
  unfold fcFirst
  try dsimp only
  repeat' first
    | with_reducible assumption
    | with_reducible apply soundC_of
    | with_reducible apply sound_fcPush
    | with_reducible apply sound_noteClass
    | simp only [sound_mk]
    | split
    | dsimp only
    | intro _

theorem sound_gdUp {a1} {a2} {a3} {a4} {a5} (h4 : ∀ x0, Sound q x0 → Sound q (a4 x0)) (h5 : Sound q a5) : Sound q (gdUp a1 a2 a3 a4 a5) := by
  unfold gdUp
  try dsimp only
  repeat' first
    | with_reducible assumption
    | with_reducible apply soundC_of
    | with_reducible apply sound_gdReset
    | with_reducible apply sound_setLocked
    | with_reducible apply sound_setLink
    | with_reducible apply sound_record
    | with_reducible apply sound_degrade
    | with_reducible apply sound_linkReaction
    | with_reducible apply sound_setCtl
    | with_reducible apply sound_putDie
    | with_reducible apply h4
    | with_reducible apply sound_foldl
    | simp only [sound_mk]
    | split
    | dsimp only
    | intro _

theorem sound_execLockoutLeave {a1} {a2} {a3} {a4} {a5} {a6} (h6 : Sound q a6) : SoundO q (execLockoutLeave a1 a2 a3 a4 a5 a6) := by
  unfold execLockoutLeave
  try dsimp only
  repeat' first
    | with_reducible assumption
    | with_reducible apply soundC_of
    | with_reducible apply soundO_ok
    | with_reducible apply sound_record
    | with_reducible apply sound_hbUp
    | with_reducible apply sound_fcFirst
    | with_reducible apply sound_fcUp
    | with_reducible apply sound_gdUp
    | simp only [sound_mk]
    | split
    | dsimp only
    | intro _

theorem sound_execThermalShutdownEnter {a1} {a2} {a3} (h3 : Sound q.z a3) : SoundO q.z (execThermalShutdownEnter a1 a2 a3) := by
  unfold execThermalShutdownEnter
  try dsimp only
  repeat' first
    | with_reducible assumption
    | with_reducible apply soundC_of
    | with_reducible apply soundO_ok
    | with_reducible apply sound_hbDown
    | with_reducible apply sound_record
    | with_reducible apply sound_fcDown
    | with_reducible apply sound_f4React
    | with_reducible apply sound_setLocked
    | with_reducible apply sound_reportUv
    | with_reducible apply sound_gdHold
    | simp only [sound_mk]
    | split
    | dsimp only
    | intro _

theorem sound_execThermalShutdownLeave {a1} {a2} {a3} {a4} {a5} {a6} (h6 : Sound q a6) : SoundO q (execThermalShutdownLeave a1 a2 a3 a4 a5 a6) := by
  unfold execThermalShutdownLeave
  try dsimp only
  repeat' first
    | with_reducible assumption
    | with_reducible apply soundC_of
    | with_reducible apply soundO_ok
    | with_reducible apply sound_record
    | with_reducible apply sound_addCause
    | with_reducible apply sound_hbUp
    | with_reducible apply sound_fcFirst
    | with_reducible apply sound_fcUp
    | with_reducible apply sound_gdUp
    | simp only [sound_mk]
    | split
    | dsimp only
    | intro _

theorem sound_execNresetAssert {a1} (h1 : Sound q.z a1) : SoundO q.z (execNresetAssert a1) := by
  unfold execNresetAssert
  try dsimp only
  repeat' first
    | with_reducible assumption
    | with_reducible apply soundC_of
    | with_reducible apply soundO_ok
    | with_reducible apply sound_addCause
    | with_reducible apply sound_packageReset
    | simp only [sound_mk]
    | split
    | dsimp only
    | intro _

theorem sound_execNresetRelease {a1} (h1 : Sound q a1) : SoundO q (execNresetRelease a1) := by
  unfold execNresetRelease
  try dsimp only
  repeat' first
    | with_reducible assumption
    | with_reducible apply soundC_of
    | with_reducible apply soundO_ok
    | simp only [sound_mk]
    | split
    | dsimp only
    | intro _

end Sys2Proof.Laws
end

