-- ==== Sys2Proof/Laws/KeepBoot.lean ====
section
/-! SUPPORT. What the operations of Boot.lean keep (Keep.lean). -/

set_option linter.unreachableTactic false
set_option linter.unusedTactic false
set_option linter.unusedSimpArgs false

namespace Sys2Proof.Laws
open Sys2Proof Sys2Proof.Machine

variable {q : Kept}

theorem sound_ruleEvent {a1} {a2} {a3} (h3 : Sound q a3) : Sound q (ruleEvent a1 a2 a3) := by
  unfold ruleEvent
  try dsimp only
  repeat' first
    | with_reducible assumption
    | with_reducible apply soundC_of
    | with_reducible apply sound_record
    | simp only [sound_mk]
    | split
    | dsimp only
    | intro _

theorem sound_setHold {a1} {a2} {a3} (h3 : Sound q a3) : Sound q (setHold a1 a2 a3) := by
  unfold setHold
  try dsimp only
  repeat' first
    | with_reducible assumption
    | with_reducible apply soundC_of
    | with_reducible apply sound_record
    | simp only [sound_mk]
    | split
    | dsimp only
    | intro _

theorem sound_ruleWhen {a1} {a2} {a3} {a4} (h4 : Sound q a4) : Sound q (ruleWhen a1 a2 a3 a4) := by
  unfold ruleWhen
  try dsimp only
  repeat' first
    | with_reducible assumption
    | with_reducible apply soundC_of
    | with_reducible apply sound_ruleEvent
    | simp only [sound_mk]
    | split
    | dsimp only
    | intro _

theorem sound_lateShutdown {a1} {a2} {a3} (h3 : Sound q a3) : Sound q (lateShutdown a1 a2 a3) := by
  unfold lateShutdown
  try dsimp only
  repeat' first
    | with_reducible assumption
    | with_reducible apply soundC_of
    | with_reducible apply sound_record
    | with_reducible apply sound_foldl
    | simp only [sound_mk]
    | split
    | dsimp only
    | intro _

theorem sound_insoleEvents {a1} {a2} (h2 : Sound q a2) : Sound q (insoleEvents a1 a2) := by
  unfold insoleEvents
  try dsimp only
  repeat' first
    | with_reducible assumption
    | with_reducible apply soundC_of
    | with_reducible apply sound_ruleWhen
    | with_reducible apply sound_ruleEvent
    | with_reducible apply sound_lateShutdown
    | with_reducible apply sound_foldl
    | simp only [sound_mk]
    | split
    | dsimp only
    | intro _

theorem sound_noteRepeat {a1} {a2} {a3} (h3 : Sound q a3) : Sound q (noteRepeat a1 a2 a3) := by
  unfold noteRepeat
  try dsimp only
  repeat' first
    | with_reducible assumption
    | with_reducible apply soundC_of
    | with_reducible apply sound_record
    | simp only [sound_mk]
    | split
    | dsimp only
    | intro _

theorem sound_insolePlan {a1} {a2} {a3} (h3 : Sound q a3) : Sound q (insolePlan a1 a2 a3) := by
  unfold insolePlan
  try dsimp only
  repeat' first
    | with_reducible assumption
    | with_reducible apply soundC_of
    | simp only [sound_mk]
    | split
    | dsimp only
    | intro _

theorem sound_insoleRules {a1} {a2} {a3} (h3 : Sound q a3) : Sound q (insoleRules a1 a2 a3) := by
  unfold insoleRules
  try dsimp only
  repeat' first
    | with_reducible assumption
    | with_reducible apply soundC_of
    | with_reducible apply sound_insolePlan
    | with_reducible apply sound_noteRepeat
    | with_reducible apply sound_insoleEvents
    | with_reducible apply sound_setHold
    | simp only [sound_mk]
    | split
    | dsimp only
    | intro _

theorem sound_failStep {a1} {a2} {a3} (h3 : Sound q.z a3) : Sound q.z (failStep a1 a2 a3) := by
  unfold failStep
  try dsimp only
  repeat' first
    | with_reducible assumption
    | with_reducible apply soundC_of
    | with_reducible apply sound_insoleRetry
    | with_reducible apply sound_setHold
    | with_reducible apply sound_journalSet
    | simp only [sound_mk]
    | split
    | dsimp only
    | intro _

theorem sound_bistReport {a1} {a2} {a3} {a4} {a5} (h5 : Sound q a5) : Sound q (bistReport a1 a2 a3 a4 a5) := by
  unfold bistReport
  try dsimp only
  repeat' first
    | with_reducible assumption
    | with_reducible apply soundC_of
    | simp only [sound_mk]
    | split
    | dsimp only
    | intro _

theorem sound_bistBegins {a1} (h1 : Sound q a1) : Sound q (bistBegins a1) := by
  unfold bistBegins
  try dsimp only
  repeat' first
    | with_reducible assumption
    | with_reducible apply soundC_of
    | simp only [sound_mk]
    | split
    | dsimp only
    | intro _

theorem sound_bootStep {a1} {a2} {a3} {a4} (h3 : ∀ x0, Sound q.z x0 → Sound q.z (a3 x0).2) (h4 : Sound q.z a4.2) : Sound q.z (bootStep a1 a2 a3 a4).2 := by
  unfold bootStep
  try dsimp only
  repeat' first
    | with_reducible assumption
    | with_reducible apply soundC_of
    | with_reducible apply sound_journalPt
    | with_reducible apply sound_journalSet
    | with_reducible apply sound_bistBegins
    | with_reducible apply sound_failStep
    | with_reducible apply h3
    | simp only [sound_mk]
    | split
    | dsimp only
    | intro _

theorem sound_openBoot {a1} {a2} {a3} (h3 : Sound q a3) : Sound q (openBoot a1 a2 a3) := by
  unfold openBoot
  try dsimp only
  repeat' first
    | with_reducible assumption
    | with_reducible apply soundC_of
    | with_reducible apply sound_record
    | simp only [sound_mk]
    | split
    | dsimp only
    | intro _

theorem sound_bootChange {a1} (h1 : Sound q a1) : Sound q (bootChange a1) := by
  unfold bootChange
  try dsimp only
  repeat' first
    | with_reducible assumption
    | with_reducible apply soundC_of
    | with_reducible apply sound_record
    | simp only [sound_mk]
    | split
    | dsimp only
    | intro _

theorem sound_logScan {a1} {a2} (h2 : Sound q a2) : Sound q (logScan a1 a2) := by
  unfold logScan
  have h := sound_countTail h2
  dsimp only
  split
  · exact h
  · split
    · exact sound_record { h with per := fun m => le_trans (by simp) (h.per m) }
    · exact h

theorem sound_step01 {a1} {a2} {a3} (h3 : Sound q a3) : Sound q (step01 a1 a2 a3).2 := by
  unfold step01
  try dsimp only
  repeat' first
    | with_reducible assumption
    | with_reducible apply soundC_of
    | with_reducible apply sound_insoleRules
    | with_reducible apply sound_bootChange
    | with_reducible apply sound_logScan
    | simp only [sound_mk]
    | split
    | dsimp only
    | intro _

theorem sound_slotTried {a1} {a2} (h2 : Sound q a2) : Sound q (slotTried a1 a2) := by
  unfold slotTried
  try dsimp only
  repeat' first
    | with_reducible assumption
    | with_reducible apply soundC_of
    | with_reducible apply sound_record
    | simp only [sound_mk]
    | split
    | dsimp only
    | intro _

theorem sound_enterRecovery {a1} (h1 : Sound q a1) : Sound q (enterRecovery a1) := by
  unfold enterRecovery
  try dsimp only
  repeat' first
    | with_reducible assumption
    | with_reducible apply soundC_of
    | with_reducible apply sound_addCause
    | simp only [sound_mk]
    | split
    | dsimp only
    | intro _

theorem sound_startImage {a1} {a2} (h2 : Sound q a2) : Sound q (startImage a1 a2) := by
  unfold startImage
  try dsimp only
  repeat' first
    | with_reducible assumption
    | with_reducible apply soundC_of
    | simp only [sound_mk]
    | split
    | dsimp only
    | intro _

theorem sound_step02 {a1} (h1 : Sound q.z a1) : Sound q.z (step02 a1).2 := by
  unfold step02
  try dsimp only
  repeat' first
    | with_reducible assumption
    | with_reducible apply soundC_of
    | with_reducible apply sound_enterRecovery
    | with_reducible apply sound_record
    | with_reducible apply sound_slotTried
    | with_reducible apply sound_startImage
    | with_reducible apply sound_insoleRetry
    | simp only [sound_mk]
    | split
    | dsimp only
    | intro _

theorem sound_trainLink {a1} {a2} {a3} {a4} (h4 : Sound q a4) : Sound q (trainLink a1 a2 a3 a4) := by
  unfold trainLink
  try dsimp only
  repeat' first
    | with_reducible assumption
    | with_reducible apply soundC_of
    | with_reducible apply sound_setLink
    | with_reducible apply sound_journalLane
    | with_reducible apply sound_degrade
    | with_reducible apply sound_record
    | with_reducible apply sound_linkReaction
    | with_reducible apply sound_foldl
    | simp only [sound_mk]
    | split
    | dsimp only
    | intro _

theorem sound_startWait {a1} {a2} (h2 : Sound q a2) : Sound q (startWait a1 a2) := by
  unfold startWait
  try dsimp only
  repeat' first
    | with_reducible assumption
    | with_reducible apply soundC_of
    | simp only [sound_mk]
    | split
    | dsimp only
    | intro _

theorem sound_endWait {a1} (h1 : Sound q a1) : Sound q (endWait a1) := by
  unfold endWait
  try dsimp only
  repeat' first
    | with_reducible assumption
    | with_reducible apply soundC_of
    | simp only [sound_mk]
    | split
    | dsimp only
    | intro _

theorem sound_step03 {a1} {a2} (h2 : Sound q a2) : Sound q (step03 a1 a2).2 := by
  unfold step03
  try dsimp only
  repeat' first
    | with_reducible assumption
    | with_reducible apply soundC_of
    | with_reducible apply sound_startWait
    | with_reducible apply sound_endWait
    | with_reducible apply sound_trainLink
    | with_reducible apply sound_closeBarrier
    | with_reducible apply sound_record
    | with_reducible apply sound_contactors
    | simp only [sound_mk]
    | split
    | dsimp only
    | intro _

theorem sound_trainDie {a1} {a2} {a3} (h2 : Sound q a2) : Sound q (trainDie a1 a2 a3) := by
  unfold trainDie
  try dsimp only
  repeat' first
    | with_reducible assumption
    | with_reducible apply soundC_of
    | with_reducible apply sound_trainLink
    | with_reducible apply sound_putDie
    | simp only [sound_mk]
    | split
    | dsimp only
    | intro _

theorem sound_step04 {a1} {a2} {a3} (h3 : Sound q a3) : Sound q (step04 a1 a2 a3).2 := by
  unfold step04
  try dsimp only
  repeat' first
    | with_reducible assumption
    | with_reducible apply soundC_of
    | with_reducible apply sound_startWait
    | with_reducible apply sound_trainDie
    | with_reducible apply sound_endWait
    | with_reducible apply sound_record
    | with_reducible apply sound_foldl
    | simp only [sound_mk]
    | split
    | dsimp only
    | intro _

theorem sound_carrierOrigin {a1} (h1 : Sound q a1) : Sound q (carrierOrigin a1) := by
  unfold carrierOrigin
  try dsimp only
  repeat' first
    | with_reducible assumption
    | with_reducible apply soundC_of
    | simp only [sound_mk]
    | split
    | dsimp only
    | intro _

theorem sound_step05 {a1} {a2} (h2 : Sound q a2) : Sound q (step05 a1 a2).2 := by
  unfold step05
  try dsimp only
  repeat' first
    | with_reducible assumption
    | with_reducible apply soundC_of
    | with_reducible apply sound_closeBarrier
    | with_reducible apply sound_carrierOrigin
    | simp only [sound_mk]
    | split
    | dsimp only
    | intro _

theorem sound_step06 {a1} (h1 : Sound q a1) : Sound q (step06 a1).2 := by
  unfold step06
  try dsimp only
  repeat' first
    | with_reducible assumption
    | with_reducible apply soundC_of
    | simp only [sound_mk]
    | split
    | dsimp only
    | intro _

theorem sound_repairMacro {a1} {a2} {a3} {a4} (h4 : Sound q a4) : Sound q (repairMacro a1 a2 a3 a4).2 := by
  unfold repairMacro
  try dsimp only
  repeat' first
    | with_reducible assumption
    | with_reducible apply soundC_of
    | with_reducible apply sound_setCtl
    | with_reducible apply sound_foldl
    | simp only [sound_mk]
    | split
    | dsimp only
    | intro _

theorem sound_testTcm {a1} {a2} {a3} (h2 : Sound q a2.2) : Sound q (testTcm a1 a2 a3).2 := by
  unfold testTcm
  dsimp only
  split
  · exact sound_record h2
  · split
    · apply sound_record
      refine sound_foldlP ?_ h2
      intro x k h
      exact sound_repairMacro h
    · apply sound_record
      refine sound_foldlP ?_ h2
      intro x k h
      exact sound_repairMacro h

theorem sound_step07 {a1} {a2} (h2 : Sound q a2) : Sound q (step07 a1 a2).2 := by
  unfold step07
  dsimp only
  refine sound_foldlP ?_ h2
  intro x k h
  exact sound_testTcm h

theorem sound_step08 {a1} {a2} (h2 : Sound q a2) : Sound q (step08 a1 a2).2 := by
  unfold step08
  try dsimp only
  repeat' first
    | with_reducible assumption
    | with_reducible apply soundC_of
    | with_reducible apply sound_bistReport
    | with_reducible apply sound_record
    | simp only [sound_mk]
    | split
    | dsimp only
    | intro _

theorem sound_step09 {a1} (h1 : Sound q a1) : Sound q (step09 a1).2 := by
  unfold step09
  try dsimp only
  repeat' first
    | with_reducible assumption
    | with_reducible apply soundC_of
    | simp only [sound_mk]
    | split
    | dsimp only
    | intro _

theorem sound_checkCopies {a1} {a2} (h2 : Sound q a2) : Sound q (checkCopies a1 a2) := by
  unfold checkCopies
  try dsimp only
  repeat' first
    | with_reducible assumption
    | with_reducible apply soundC_of
    | simp only [sound_mk]
    | split
    | dsimp only
    | intro _

theorem sound_step0A {a1} {a2} (h2 : Sound q a2) : Sound q (step0A a1 a2).2 := by
  unfold step0A
  try dsimp only
  repeat' first
    | with_reducible assumption
    | with_reducible apply soundC_of
    | with_reducible apply sound_checkCopies
    | with_reducible apply sound_record
    | simp only [sound_mk]
    | split
    | dsimp only
    | intro _

theorem sound_step0B {a1} {a2} (h2 : Sound q a2) : Sound q (step0B a1 a2).2 := by
  unfold step0B
  try dsimp only
  repeat' first
    | with_reducible assumption
    | with_reducible apply soundC_of
    | with_reducible apply sound_record
    | with_reducible apply sound_setCarrier
    | with_reducible apply sound_bothBanks
    | simp only [sound_mk]
    | split
    | dsimp only
    | intro _

theorem sound_step0C {a1} {a2} (h2 : Sound q a2) : Sound q (step0C a1 a2).2 := by
  unfold step0C
  try dsimp only
  repeat' first
    | with_reducible assumption
    | with_reducible apply soundC_of
    | with_reducible apply sound_fbStartEnd
    | simp only [sound_mk]
    | split
    | dsimp only
    | intro _

theorem sound_step0D {a1} {a2} (h2 : Sound q a2) : Sound q (step0D a1 a2).2 := by
  unfold step0D
  try dsimp only
  repeat' first
    | with_reducible assumption
    | with_reducible apply soundC_of
    | with_reducible apply sound_calEvaluate
    | with_reducible apply sound_record
    | simp only [sound_mk]
    | split
    | dsimp only
    | intro _

theorem sound_step0E {a1} {a2} (h2 : Sound q a2) : Sound q (step0E a1 a2).2 := by
  unfold step0E
  try dsimp only
  repeat' first
    | with_reducible assumption
    | with_reducible apply soundC_of
    | with_reducible apply sound_record
    | simp only [sound_mk]
    | split
    | dsimp only
    | intro _

theorem sound_joinBoth {a1} (h1 : Sound q a1) : Sound q (joinBoth a1) := by
  unfold joinBoth
  try dsimp only
  repeat' first
    | with_reducible assumption
    | with_reducible apply soundC_of
    | with_reducible apply sound_startupJoin
    | simp only [sound_mk]
    | split
    | dsimp only
    | intro _

theorem sound_trialPassed {a1} (h1 : Sound q a1) : Sound q (trialPassed a1) := by
  unfold trialPassed
  try dsimp only
  repeat' first
    | with_reducible assumption
    | with_reducible apply soundC_of
    | simp only [sound_mk]
    | split
    | dsimp only
    | intro _

theorem sound_raiseDue {a1} (h1 : Sound q a1) : Sound q (raiseDue a1) := by
  unfold raiseDue
  dsimp only
  repeat' first
    | with_reducible assumption
    | split
  all_goals exact { h1 with toRaise := by intro _ x hx; cases hx; dsimp only; omega }

theorem sound_bootEnd {a1} (h1 : Sound q a1) : Sound q (bootEnd a1) := by
  unfold bootEnd
  try dsimp only
  repeat' first
    | with_reducible assumption
    | with_reducible apply soundC_of
    | with_reducible apply sound_raiseDue
    | with_reducible apply sound_trialPassed
    | with_reducible apply sound_changeState
    | simp only [sound_mk]
    | split
    | dsimp only
    | intro _

theorem sound_rejoinEnd {a1} (h1 : Sound q a1) : Sound q (rejoinEnd a1) := by
  unfold rejoinEnd
  try dsimp only
  repeat' first
    | with_reducible assumption
    | with_reducible apply soundC_of
    | with_reducible apply sound_addCause
    | with_reducible apply sound_joinBoth
    | with_reducible apply sound_brake
    | with_reducible apply sound_contactors
    | with_reducible apply sound_foldl
    | simp only [sound_mk]
    | split
    | dsimp only
    | intro _

theorem sound_bootRest {a1} {a2} {a3} {a4} {a5} (h5 : Sound q.z a5.2) : Sound q.z (bootRest a1 a2 a3 a4 a5).2 := by
  unfold bootRest
  try dsimp only
  repeat' first
    | with_reducible assumption
    | with_reducible apply soundC_of
    | with_reducible apply sound_bootStep
    | with_reducible apply sound_step05
    | with_reducible apply sound_step04
    | with_reducible apply sound_carrierOrigin
    | with_reducible apply sound_step07
    | with_reducible apply sound_step06
    | with_reducible apply sound_step09
    | with_reducible apply sound_step08
    | with_reducible apply sound_step0B
    | with_reducible apply sound_step0A
    | with_reducible apply sound_step0D
    | with_reducible apply sound_step0C
    | with_reducible apply sound_step0E
    | with_reducible apply sound_bootEnd
    | with_reducible apply sound_joinBoth
    | simp only [sound_mk]
    | split
    | dsimp only
    | intro _
    | refine sound_of_pair ‹_ = (_, _)› ?_

theorem sound_bootFrom03 {a1} {a2} {a3} (h3 : Sound q.z a3.2) : Sound q.z (bootFrom03 a1 a2 a3).2 := by
  unfold bootFrom03
  try dsimp only
  repeat' first
    | with_reducible assumption
    | with_reducible apply soundC_of
    | with_reducible apply sound_bootStep
    | with_reducible apply sound_step03
    | with_reducible apply sound_rejoinEnd
    | with_reducible apply sound_bootRest
    | simp only [sound_mk]
    | split
    | dsimp only
    | intro _
    | refine sound_of_pair ‹_ = (_, _)› ?_

theorem sound_bootFrom01 {a1} {a2} {a3} (h3 : Sound q.z a3) : Sound q.z (bootFrom01 a1 a2 a3).2 := by
  unfold bootFrom01
  try dsimp only
  repeat' first
    | with_reducible assumption
    | with_reducible apply soundC_of
    | with_reducible apply sound_bootStep
    | with_reducible apply sound_step01
    | with_reducible apply sound_openBoot
    | with_reducible apply sound_step02
    | with_reducible apply sound_bootFrom03
    | simp only [sound_mk]
    | split
    | dsimp only
    | intro _
    | refine sound_of_pair ‹_ = (_, _)› ?_

theorem sound_bootField {a1} {a2} (h2 : Sound q.z a2) : Sound q.z (bootField a1 a2).2 := by
  unfold bootField
  try dsimp only
  repeat' first
    | with_reducible assumption
    | with_reducible apply soundC_of
    | with_reducible apply sound_bootChange
    | with_reducible apply sound_bootFrom03
    | simp only [sound_mk]
    | split
    | dsimp only
    | intro _
    | refine sound_of_pair ‹_ = (_, _)› ?_

theorem sound_execBoot {a1} {a2} (h2 : Sound q.z a2) : SoundO q.z (execBoot a1 a2) := by
  unfold execBoot
  try dsimp only
  repeat' first
    | with_reducible assumption
    | with_reducible apply soundC_of
    | with_reducible apply soundO_ok
    | with_reducible apply sound_bootField
    | with_reducible apply sound_bootFrom01
    | with_reducible apply sound_bootFrom03
    | with_reducible apply sound_bootRest
    | simp only [sound_mk]
    | split
    | dsimp only
    | intro _
    | refine sound_of_pair ‹_ = (_, _)› ?_

theorem sound_execGdWaitTimeout {a1} {a2} (h2 : Sound q.z a2) : SoundO q.z (execGdWaitTimeout a1 a2) := by
  unfold execGdWaitTimeout
  try dsimp only
  repeat' first
    | with_reducible assumption
    | with_reducible apply soundC_of
    | with_reducible apply soundO_ok
    | with_reducible apply sound_bootRest
    | simp only [sound_mk]
    | split
    | dsimp only
    | intro _
    | refine sound_of_pair ‹_ = (_, _)› ?_

theorem sound_execTrialBootTimeout {a1} (h1 : Sound q.z a1) : SoundO q.z (execTrialBootTimeout a1) := by
  unfold execTrialBootTimeout
  try dsimp only
  repeat' first
    | with_reducible assumption
    | with_reducible apply soundC_of
    | with_reducible apply soundO_ok
    | with_reducible apply sound_insoleRetry
    | simp only [sound_mk]
    | split
    | dsimp only
    | intro _

theorem sound_execHighSideTrainTimeout {a1} (h1 : Sound q a1) : SoundO q (execHighSideTrainTimeout a1) := by
  unfold execHighSideTrainTimeout
  try dsimp only
  repeat' first
    | with_reducible assumption
    | with_reducible apply soundC_of
    | with_reducible apply soundO_ok
    | with_reducible apply sound_answer
    | with_reducible apply sound_record
    | simp only [sound_mk]
    | split
    | dsimp only
    | intro _

theorem sound_cancelOpen {a1} (h1 : Sound q a1) : Sound q (cancelOpen a1) := by
  unfold cancelOpen
  try dsimp only
  repeat' first
    | with_reducible assumption
    | with_reducible apply soundC_of
    | with_reducible apply sound_finishSt
    | with_reducible apply sound_foldl
    | simp only [sound_mk]
    | split
    | dsimp only
    | intro _

theorem sound_retestBlock {a1} {a2} {a3} (h2 : Sound q a2) : Sound q (retestBlock a1 a2 a3) := by
  unfold retestBlock
  try dsimp only
  repeat' first
    | with_reducible assumption
    | with_reducible apply soundC_of
    | with_reducible apply sound_record
    | simp only [sound_mk]
    | split
    | dsimp only
    | intro _

theorem sound_drainLog {a1} (h1 : Sound q a1) : Sound q (drainLog a1) := by
  unfold drainLog
  refine sound_foldl (fun s a h => sound_putP h) ?_
  exact { sound_countTail h1 with waiting := by simp }

theorem sound_scrubOff {a1} (h1 : Sound q a1) : Sound q (scrubOff a1) := by
  unfold scrubOff
  try dsimp only
  repeat' first
    | with_reducible assumption
    | with_reducible apply soundC_of
    | simp only [sound_mk]
    | split
    | dsimp only
    | intro _

theorem sound_step22 {a1} {a2} (h2 : Sound q a2) : Sound q (step22 a1 a2) := by
  unfold step22
  try dsimp only
  repeat' first
    | with_reducible assumption
    | with_reducible apply soundC_of
    | with_reducible apply sound_scrubOff
    | with_reducible apply sound_drainLog
    | with_reducible apply sound_retestBlock
    | with_reducible apply sound_foldl
    | simp only [sound_mk]
    | split
    | dsimp only
    | intro _

theorem sound_burnNext {a1} {a2} (h2 : Sound q a2) : Sound q (burnNext a1 a2) := by
  unfold burnNext
  try dsimp only
  repeat' first
    | with_reducible assumption
    | with_reducible apply soundC_of
    | with_reducible apply sound_record
    | with_reducible apply sound_endFuse
    | simp only [sound_mk]
    | split
    | dsimp only
    | intro _

theorem sound_burnUpTo {a1} {a2} {a3} (h3 : Sound q a3) : Sound q (burnUpTo a1 a2 a3) := by
  unfold burnUpTo
  try dsimp only
  repeat' first
    | with_reducible assumption
    | with_reducible apply soundC_of
    | with_reducible apply sound_burnNext
    | with_reducible apply sound_foldl
    | simp only [sound_mk]
    | split
    | dsimp only
    | intro _

theorem sound_shutBist {a1} {a2} (h2 : Sound q a2) : Sound q (shutBist a1 a2) := by
  unfold shutBist
  try dsimp only
  repeat' first
    | with_reducible assumption
    | with_reducible apply soundC_of
    | with_reducible apply sound_bistReport
    | with_reducible apply sound_journalSet
    | with_reducible apply sound_record
    | with_reducible apply sound_foldl
    | simp only [sound_mk]
    | split
    | dsimp only
    | intro _

theorem sound_shutEnd {a1} (h1 : Sound q a1) : Sound q (shutEnd a1) := by
  unfold shutEnd
  try dsimp only
  repeat' first
    | with_reducible assumption
    | with_reducible apply soundC_of
    | with_reducible apply sound_record
    | with_reducible apply sound_journalSet
    | with_reducible apply sound_drainLog
    | simp only [sound_mk]
    | split
    | dsimp only
    | intro _

theorem sound_shutFrom24 {a1} {a2} {a3} (h3 : Sound q a3) : Sound q (shutFrom24 a1 a2 a3) := by
  unfold shutFrom24
  try dsimp only
  repeat' first
    | with_reducible assumption
    | with_reducible apply soundC_of
    | with_reducible apply sound_shutEnd
    | with_reducible apply sound_journalSet
    | with_reducible apply sound_bistBegins
    | with_reducible apply sound_shutBist
    | simp only [sound_mk]
    | split
    | dsimp only
    | intro _

theorem sound_execShutdownDrainEnd {a1} {a2} {a3} {a4} {a5} (h5 : Sound q a5) : SoundO q (execShutdownDrainEnd a1 a2 a3 a4 a5) := by
  unfold execShutdownDrainEnd
  try dsimp only
  repeat' first
    | with_reducible assumption
    | with_reducible apply soundC_of
    | with_reducible apply soundO_ok
    | with_reducible apply sound_journalSet
    | with_reducible apply sound_cancelOpen
    | with_reducible apply sound_step22
    | with_reducible apply sound_shutFrom24
    | with_reducible apply sound_burnUpTo
    | simp only [sound_mk]
    | split
    | dsimp only
    | intro _

end Sys2Proof.Laws
end

