-- ==== Sys2Proof/Laws/KeepCommandStep.lean ====
section
/-! SUPPORT. What the operations of CommandStep.lean keep (Keep.lean). -/

set_option linter.unreachableTactic false
set_option linter.unusedTactic false
set_option linter.unusedSimpArgs false

namespace Sys2Proof.Laws
open Sys2Proof Sys2Proof.Machine

variable {q : Kept}

theorem sound_longBody {a1} {a2} (h2 : Sound q a2) : Sound q (longBody a1 a2) := by
  unfold longBody
  try dsimp only
  repeat' first
    | with_reducible assumption
    | with_reducible apply soundC_of
    | with_reducible apply sound_storeHeader
    | with_reducible apply sound_fbRestartDone
    | with_reducible apply sound_lastComputeDone
    | with_reducible apply sound_finishSt
    | with_reducible apply sound_stageVerified
    | with_reducible apply sound_scrubStep
    | simp only [sound_mk]
    | split
    | dsimp only
    | intro _

theorem sound_execCommandStep {a1} {a2} (h2 : Sound q a2) : SoundO q (execCommandStep a1 a2) := by
  unfold execCommandStep
  try dsimp only
  repeat' first
    | with_reducible assumption
    | with_reducible apply soundC_of
    | with_reducible apply soundO_ok
    | with_reducible apply sound_postInterim
    | with_reducible apply sound_setTag
    | with_reducible apply sound_longBody
    | simp only [sound_mk]
    | split
    | dsimp only
    | intro _

theorem sound_bothEnd {a1} {a2} {a3} (h3 : Sound q a3) : Sound q (bothEnd a1 a2 a3) := by
  unfold bothEnd
  try dsimp only
  repeat' first
    | with_reducible assumption
    | with_reducible apply soundC_of
    | with_reducible apply sound_finishSt
    | simp only [sound_mk]
    | split
    | dsimp only
    | intro _

theorem sound_cancelTx {a1} {a2} {a3} {a4} (h4 : Sound q a4) : Sound q (cancelTx a1 a2 a3 a4) := by
  unfold cancelTx
  try dsimp only
  repeat' first
    | with_reducible assumption
    | with_reducible apply soundC_of
    | with_reducible apply sound_finishSt
    | with_reducible apply sound_bothEnd
    | with_reducible apply sound_setTx
    | simp only [sound_mk]
    | split
    | dsimp only
    | intro _

theorem sound_cancelMotion {a1} {a2} (h2 : Sound q a2) : Sound q (cancelMotion a1 a2) := by
  unfold cancelMotion
  try dsimp only
  repeat' first
    | with_reducible assumption
    | with_reducible apply soundC_of
    | with_reducible apply sound_planStop
    | with_reducible apply sound_endSource
    | simp only [sound_mk]
    | split
    | dsimp only
    | intro _

theorem sound_cancelRunning {a1} {a2} {a3} {a4} (h4 : Sound q a4) : Sound q (cancelRunning a1 a2 a3 a4) := by
  unfold cancelRunning
  try dsimp only
  repeat' first
    | with_reducible assumption
    | with_reducible apply soundC_of
    | with_reducible apply sound_finishSt
    | with_reducible apply sound_bothEnd
    | with_reducible apply sound_cancelMotion
    | with_reducible apply sound_setSlot
    | with_reducible apply sound_cancelTx
    | with_reducible apply sound_setCh
    | simp only [sound_mk]
    | split
    | dsimp only
    | intro _

theorem sound_execCancel {a1} {a2} {a3} (h3 : Sound q a3) : SoundO q (execCancel a1 a2 a3) := by
  unfold execCancel
  try dsimp only
  repeat' first
    | with_reducible assumption
    | with_reducible apply soundC_of
    | with_reducible apply soundO_ok
    | with_reducible apply sound_start
    | with_reducible apply sound_finishSt
    | with_reducible apply sound_bothEnd
    | with_reducible apply sound_cancelRunning
    | simp only [sound_mk]
    | split
    | dsimp only
    | intro _

end Sys2Proof.Laws
end

