-- ==== Sys2Proof/Laws/KeepTap.lean ====
section
/-! SUPPORT. What the operations of Tap.lean keep (Keep.lean). -/

set_option linter.unreachableTactic false
set_option linter.unusedTactic false
set_option linter.unusedSimpArgs false

namespace Sys2Proof.Laws
open Sys2Proof Sys2Proof.Machine

variable {q : Kept}

theorem sound_loadIr {a1} {a2} (h2 : Sound q a2) : Sound q (loadIr a1 a2) := by
  unfold loadIr
  try dsimp only
  repeat' first
    | with_reducible assumption
    | with_reducible apply soundC_of
    | simp only [sound_mk]
    | split
    | dsimp only
    | intro _

theorem sound_shiftsOut {a1} {a2} (h2 : Sound q a2) : Sound q (shiftsOut a1 a2) := by
  unfold shiftsOut
  try dsimp only
  repeat' first
    | with_reducible assumption
    | with_reducible apply soundC_of
    | simp only [sound_mk]
    | split
    | dsimp only
    | intro _

theorem sound_replaced {a1} (h1 : Sound q a1) : Sound q (replaced a1) := by
  unfold replaced
  try dsimp only
  repeat' first
    | with_reducible assumption
    | with_reducible apply soundC_of
    | with_reducible apply sound_loadIr
    | simp only [sound_mk]
    | split
    | dsimp only
    | intro _

theorem sound_tapOp {a1} {a2} (h1 : ∀ x0, Sound q x0 → Sound q (a1 x0)) (h2 : Sound q a2) : Sound q (tapOp a1 a2) := by
  unfold tapOp
  try dsimp only
  repeat' first
    | with_reducible assumption
    | with_reducible apply soundC_of
    | with_reducible apply h1
    | simp only [sound_mk]
    | split
    | dsimp only
    | intro _

theorem sound_unlockedOp {a1} {a2} (h2 : Sound q a2) : Sound q (unlockedOp a1 a2) := by
  unfold unlockedOp
  try dsimp only
  repeat' first
    | with_reducible assumption
    | with_reducible apply soundC_of
    | with_reducible apply sound_loadIr
    | with_reducible apply sound_replaced
    | simp only [sound_mk]
    | split
    | dsimp only
    | intro _

theorem sound_execTapBypass {a1} (h1 : Sound q a1) : SoundO q (execTapBypass a1) := by
  unfold execTapBypass
  try dsimp only
  repeat' first
    | with_reducible assumption
    | with_reducible apply soundC_of
    | with_reducible apply soundO_ok
    | with_reducible apply sound_tapOp
    | with_reducible apply sound_loadIr
    | simp only [sound_mk]
    | split
    | dsimp only
    | intro _

theorem sound_execTapIdcode {a1} (h1 : Sound q a1) : SoundO q (execTapIdcode a1) := by
  unfold execTapIdcode
  try dsimp only
  repeat' first
    | with_reducible assumption
    | with_reducible apply soundC_of
    | with_reducible apply soundO_ok
    | with_reducible apply sound_tapOp
    | with_reducible apply sound_shiftsOut
    | with_reducible apply sound_loadIr
    | simp only [sound_mk]
    | split
    | dsimp only
    | intro _

theorem sound_execTapSamplePreload {a1} (h1 : Sound q a1) : SoundO q (execTapSamplePreload a1) := by
  unfold execTapSamplePreload
  try dsimp only
  repeat' first
    | with_reducible assumption
    | with_reducible apply soundC_of
    | with_reducible apply soundO_ok
    | with_reducible apply sound_tapOp
    | with_reducible apply sound_unlockedOp
    | simp only [sound_mk]
    | split
    | dsimp only
    | intro _

theorem sound_execTapExtest {a1} (h1 : Sound q a1) : SoundO q (execTapExtest a1) := by
  unfold execTapExtest
  try dsimp only
  repeat' first
    | with_reducible assumption
    | with_reducible apply soundC_of
    | with_reducible apply soundO_ok
    | with_reducible apply sound_tapOp
    | with_reducible apply sound_loadIr
    | with_reducible apply sound_replaced
    | simp only [sound_mk]
    | split
    | dsimp only
    | intro _

theorem sound_execDbgChal {a1} (h1 : Sound q a1) : SoundO q (execDbgChal a1) := by
  unfold execDbgChal
  try dsimp only
  repeat' first
    | with_reducible assumption
    | with_reducible apply soundC_of
    | with_reducible apply soundO_ok
    | with_reducible apply sound_tapOp
    | with_reducible apply sound_takeFree
    | with_reducible apply sound_loadIr
    | simp only [sound_mk]
    | split
    | dsimp only
    | intro _
    | refine sound_of_pair ‹_ = (_, _)› ?_

theorem sound_execDbgResp {a1} {a2} (h2 : Sound q.u a2) : SoundO q.u (execDbgResp a1 a2) := by
  unfold execDbgResp
  apply soundO_ok
  apply sound_tapOp
  · intro s h
    have h := sound_loadIr (a1 := 0x11) h
    exact { h with lock := fun e => by cases e }
  · exact h2

theorem sound_execDbgAccess {a1} (h1 : Sound q a1) : SoundO q (execDbgAccess a1) := by
  unfold execDbgAccess
  try dsimp only
  repeat' first
    | with_reducible assumption
    | with_reducible apply soundC_of
    | with_reducible apply soundO_ok
    | with_reducible apply sound_tapOp
    | with_reducible apply sound_unlockedOp
    | simp only [sound_mk]
    | split
    | dsimp only
    | intro _

theorem sound_execTapReset {a1} (h1 : Sound q a1) : SoundO q (execTapReset a1) := by
  unfold execTapReset
  try dsimp only
  repeat' first
    | with_reducible assumption
    | with_reducible apply soundC_of
    | with_reducible apply soundO_ok
    | with_reducible apply sound_tapOp
    | with_reducible apply sound_shiftsOut
    | with_reducible apply sound_loadIr
    | simp only [sound_mk]
    | split
    | dsimp only
    | intro _

end Sys2Proof.Laws
end

