-- ==== Sys2Proof/Laws/KeepRegs.lean ====
section
/-! SUPPORT. What the operations of Regs.lean keep (Keep.lean). -/

set_option linter.unreachableTactic false
set_option linter.unusedTactic false
set_option linter.unusedSimpArgs false

namespace Sys2Proof.Laws
open Sys2Proof Sys2Proof.Machine

variable {q : Kept}

theorem sound_readLatch {a1} {a2} (h2 : Sound q a2) : Sound q (readLatch a1 a2) := by
  unfold readLatch
  try dsimp only
  repeat' first
    | with_reducible assumption
    | with_reducible apply soundC_of
    | simp only [sound_mk]
    | split
    | dsimp only
    | intro _

theorem sound_readDone {a1} {a2} (h2 : Sound q a2) : Sound q (readDone a1 a2) := by
  unfold readDone
  try dsimp only
  repeat' first
    | with_reducible assumption
    | with_reducible apply soundC_of
    | with_reducible apply sound_setCtl
    | with_reducible apply sound_setCur
    | simp only [sound_mk]
    | split
    | dsimp only
    | intro _

theorem sound_doorbell {a1} {a2} (h2 : Sound q a2) : Sound q (doorbell a1 a2).2 := by
  unfold doorbell
  try dsimp only
  repeat' first
    | with_reducible assumption
    | with_reducible apply soundC_of
    | with_reducible apply sound_tagBusy
    | with_reducible apply sound_ringBell
    | simp only [sound_mk]
    | split
    | dsimp only
    | intro _

theorem sound_headWrite {a1} {a2} (h2 : Sound q a2) : Sound q (headWrite a1 a2).2 := by
  unfold headWrite
  try dsimp only
  repeat' first
    | with_reducible assumption
    | with_reducible apply soundC_of
    | with_reducible apply sound_recordPort
    | with_reducible apply sound_moveHead
    | simp only [sound_mk]
    | split
    | dsimp only
    | intro _

theorem sound_irqWrite {a1} {a2} (h2 : Sound q a2) : Sound q (irqWrite a1 a2) := by
  unfold irqWrite
  try dsimp only
  repeat' first
    | with_reducible assumption
    | with_reducible apply soundC_of
    | simp only [sound_mk]
    | split
    | dsimp only
    | intro _

theorem sound_resetCtrl {a1} {a2} (h2 : Sound q.z a2) : Sound q.z (resetCtrl a1 a2) := by
  unfold resetCtrl
  try dsimp only
  repeat' first
    | with_reducible assumption
    | with_reducible apply soundC_of
    | with_reducible apply sound_addCause
    | with_reducible apply sound_packageReset
    | with_reducible apply sound_record
    | simp only [sound_mk]
    | split
    | dsimp only
    | intro _

theorem sound_gdSelectWrite {a1} {a2} (h2 : Sound q a2) : Sound q (gdSelectWrite a1 a2) := by
  unfold gdSelectWrite
  try dsimp only
  repeat' first
    | with_reducible assumption
    | with_reducible apply soundC_of
    | simp only [sound_mk]
    | split
    | dsimp only
    | intro _

theorem sound_cursorWrite {a1} {a2} (h2 : Sound q a2) : Sound q (cursorWrite a1 a2) := by
  unfold cursorWrite
  try dsimp only
  repeat' first
    | with_reducible assumption
    | with_reducible apply soundC_of
    | with_reducible apply sound_setCur
    | simp only [sound_mk]
    | split
    | dsimp only
    | intro _

theorem sound_writeHb {a1} {a2} {a3} (h3 : Sound q.z a3) : Sound q.z (writeHb a1 a2 a3).2 := by
  unfold writeHb
  try dsimp only
  repeat' first
    | with_reducible assumption
    | with_reducible apply soundC_of
    | with_reducible apply sound_gdSelectWrite
    | with_reducible apply sound_resetCtrl
    | with_reducible apply sound_doorbell
    | with_reducible apply sound_headWrite
    | with_reducible apply sound_irqWrite
    | with_reducible apply sound_cursorWrite
    | with_reducible apply sound_setCtl
    | simp only [sound_mk]
    | split
    | dsimp only
    | intro _
    | refine sound_of_pair ‹_ = (_, _)› ?_

theorem sound_writeFc {a1} {a2} {a3} (h3 : Sound q a3) : Sound q (writeFc a1 a2 a3) := by
  unfold writeFc
  try dsimp only
  repeat' first
    | with_reducible assumption
    | with_reducible apply soundC_of
    | with_reducible apply sound_setCtl
    | simp only [sound_mk]
    | split
    | dsimp only
    | intro _

theorem sound_execSnapshotLatch {a1} (h1 : Sound q a1) : SoundO q (execSnapshotLatch a1) := by
  unfold execSnapshotLatch
  try dsimp only
  repeat' first
    | with_reducible assumption
    | with_reducible apply soundC_of
    | with_reducible apply soundO_ok
    | with_reducible apply sound_answerOk
    | simp only [sound_mk]
    | split
    | dsimp only
    | intro _

end Sys2Proof.Laws
end

