-- ==== Sys2Proof/Laws/KeepPort.lean ====
section
/-! SUPPORT. What the operations of Port.lean keep (Keep.lean). -/

set_option linter.unreachableTactic false
set_option linter.unusedTactic false
set_option linter.unusedSimpArgs false

namespace Sys2Proof.Laws
open Sys2Proof Sys2Proof.Machine

variable {q : Kept}

theorem sound_beginFrame {a1} {a2} (h2 : Sound q a2) : Sound q (beginFrame a1 a2) := by
  unfold beginFrame
  try dsimp only
  repeat' first
    | with_reducible assumption
    | with_reducible apply soundC_of
    | simp only [sound_mk]
    | split
    | dsimp only
    | intro _

theorem sound_setSticky {a1} {a2} (h2 : Sound q a2) : Sound q (setSticky a1 a2) := by
  unfold setSticky
  try dsimp only
  repeat' first
    | with_reducible assumption
    | with_reducible apply soundC_of
    | simp only [sound_mk]
    | split
    | dsimp only
    | intro _

theorem sound_badHeader {a1} {a2} {a3} (h3 : Sound q a3) : Sound q (badHeader a1 a2 a3) := by
  unfold badHeader
  try dsimp only
  repeat' first
    | with_reducible assumption
    | with_reducible apply soundC_of
    | with_reducible apply sound_recordPort
    | with_reducible apply sound_setSticky
    | simp only [sound_mk]
    | split
    | dsimp only
    | intro _

theorem sound_respond {a1} {a2} {a3} (h3 : Sound q a3) : Sound q (respond a1 a2 a3) := by
  unfold respond
  try dsimp only
  repeat' first
    | with_reducible assumption
    | with_reducible apply soundC_of
    | simp only [sound_mk]
    | split
    | dsimp only
    | intro _

theorem sound_refuseFrame {a1} {a2} {a3} {a4} (h4 : Sound q a4) : Sound q (refuseFrame a1 a2 a3 a4) := by
  unfold refuseFrame
  try dsimp only
  repeat' first
    | with_reducible assumption
    | with_reducible apply soundC_of
    | with_reducible apply sound_respond
    | with_reducible apply sound_recordPort
    | simp only [sound_mk]
    | split
    | dsimp only
    | intro _

theorem sound_frame {a1} {a2} {a3} {a4} {a5} {a6} {a7} (h6 : ∀ x0, Sound q x0 → Sound q (a6 x0)) (h7 : Sound q a7) : Sound q (frame a1 a2 a3 a4 a5 a6 a7) := by
  unfold frame
  try dsimp only
  repeat' first
    | with_reducible assumption
    | with_reducible apply soundC_of
    | with_reducible apply sound_beginFrame
    | with_reducible apply sound_badHeader
    | with_reducible apply sound_refuseFrame
    | with_reducible apply h6
    | simp only [sound_mk]
    | split
    | dsimp only
    | intro _

theorem sound_readWords {a1} {a2} {a3} (h3 : Sound q a3) : Sound q (readWords a1 a2 a3).2 := by
  induction a2 generalizing a3 with
  | nil => exact h3
  | cons w r ih => exact ih (sound_readLatch h3)

theorem sound_readsDone {a1} {a2} {a3} (h3 : Sound q a3) : Sound q (readsDone a1 a2 a3) := by
  unfold readsDone
  try dsimp only
  repeat' first
    | with_reducible assumption
    | with_reducible apply soundC_of
    | with_reducible apply sound_readDone
    | with_reducible apply sound_foldl
    | simp only [sound_mk]
    | split
    | dsimp only
    | intro _

theorem sound_answerRead {a1} {a2} {a3} {a4} {a5} {a6} (h6 : Sound q a6) : Sound q (answerRead a1 a2 a3 a4 a5 a6) := by
  unfold answerRead
  try dsimp only
  repeat' first
    | with_reducible assumption
    | with_reducible apply soundC_of
    | with_reducible apply sound_readWords
    | with_reducible apply sound_respond
    | with_reducible apply sound_readsDone
    | simp only [sound_mk]
    | split
    | dsimp only
    | intro _
    | refine sound_of_pair ‹_ = (_, _)› ?_

theorem sound_writeWords {a1} {a2} {a3} (h3 : Sound q.z a3) : Sound q.z (writeWords a1 a2 a3).2 := by
  induction a2 generalizing a1 a3 with
  | nil => exact h3
  | cons w r ih => exact ih (sound_writeHb h3)

theorem sound_writeFcWords {a1} {a2} {a3} (h3 : Sound q a3) : Sound q (writeFcWords a1 a2 a3) := by
  induction a2 generalizing a1 a3 with
  | nil => exact h3
  | cons w r ih => exact ih (sound_writeFc h3)

theorem sound_serve {a1} {a2} (h2 : Sound q a2) : Sound q (serve a1 a2).2 := by
  unfold serve
  try dsimp only
  repeat' first
    | with_reducible assumption
    | with_reducible apply soundC_of
    | with_reducible apply sound_writeFcWords
    | with_reducible apply sound_readWords
    | simp only [sound_mk]
    | split
    | dsimp only
    | intro _
    | refine sound_of_pair ‹_ = (_, _)› ?_

theorem sound_beginAccess {a1} {a2} {a3} {a4} {a5} (h5 : Sound q a5) : Sound q (beginAccess a1 a2 a3 a4 a5) := by
  unfold beginAccess
  try dsimp only
  repeat' first
    | with_reducible assumption
    | with_reducible apply soundC_of
    | with_reducible apply sound_respond
    | with_reducible apply sound_serve
    | simp only [sound_mk]
    | split
    | dsimp only
    | intro _
    | refine sound_of_pair ‹_ = (_, _)› ?_

theorem sound_doRead {a1} {a2} {a3} {a4} (h4 : Sound q a4) : Sound q (doRead a1 a2 a3 a4) := by
  unfold doRead
  try dsimp only
  repeat' first
    | with_reducible assumption
    | with_reducible apply soundC_of
    | with_reducible apply sound_respond
    | with_reducible apply sound_answerRead
    | with_reducible apply sound_beginAccess
    | simp only [sound_mk]
    | split
    | dsimp only
    | intro _

theorem sound_doWrite {a1} {a2} {a3} (h3 : Sound q.z a3) : Sound q.z (doWrite a1 a2 a3) := by
  unfold doWrite
  try dsimp only
  repeat' first
    | with_reducible assumption
    | with_reducible apply soundC_of
    | with_reducible apply sound_respond
    | with_reducible apply sound_writeWords
    | with_reducible apply sound_beginAccess
    | simp only [sound_mk]
    | split
    | dsimp only
    | intro _
    | refine sound_of_pair ‹_ = (_, _)› ?_

theorem sound_regRead {a1} {a2} {a3} {a4} (h4 : Sound q a4) : Sound q (regRead a1 a2 a3 a4) := by
  unfold regRead
  try dsimp only
  repeat' first
    | with_reducible assumption
    | with_reducible apply soundC_of
    | with_reducible apply sound_frame
    | with_reducible apply sound_doRead
    | simp only [sound_mk]
    | split
    | dsimp only
    | intro _

theorem sound_regWrite {a1} {a2} {a3} {a4} (h4 : Sound q.z a4) : Sound q.z (regWrite a1 a2 a3 a4) := by
  unfold regWrite
  try dsimp only
  repeat' first
    | with_reducible assumption
    | with_reducible apply soundC_of
    | with_reducible apply sound_frame
    | with_reducible apply sound_doWrite
    | simp only [sound_mk]
    | split
    | dsimp only
    | intro _

theorem sound_execRegRead {a1} {a2} {a3} {a4} (h4 : Sound q a4) : SoundO q (execRegRead a1 a2 a3 a4) := by
  unfold execRegRead
  try dsimp only
  repeat' first
    | with_reducible assumption
    | with_reducible apply soundC_of
    | with_reducible apply soundO_ok
    | with_reducible apply sound_regRead
    | simp only [sound_mk]
    | split
    | dsimp only
    | intro _

theorem sound_execRegWrite {a1} {a2} {a3} {a4} (h4 : Sound q.z a4) : SoundO q.z (execRegWrite a1 a2 a3 a4) := by
  unfold execRegWrite
  try dsimp only
  repeat' first
    | with_reducible assumption
    | with_reducible apply soundC_of
    | with_reducible apply soundO_ok
    | with_reducible apply sound_regWrite
    | simp only [sound_mk]
    | split
    | dsimp only
    | intro _

theorem sound_execDoorbell {a1} {a2} {a3} (h3 : Sound q.z a3) : SoundO q.z (execDoorbell a1 a2 a3) := by
  unfold execDoorbell
  try dsimp only
  repeat' first
    | with_reducible assumption
    | with_reducible apply soundC_of
    | with_reducible apply soundO_ok
    | with_reducible apply sound_regWrite
    | simp only [sound_mk]
    | split
    | dsimp only
    | intro _

theorem sound_execCqHeadWrite {a1} {a2} {a3} (h3 : Sound q.z a3) : SoundO q.z (execCqHeadWrite a1 a2 a3) := by
  unfold execCqHeadWrite
  try dsimp only
  repeat' first
    | with_reducible assumption
    | with_reducible apply soundC_of
    | with_reducible apply soundO_ok
    | with_reducible apply sound_regWrite
    | simp only [sound_mk]
    | split
    | dsimp only
    | intro _

theorem sound_execIrqStatusClear {a1} {a2} {a3} (h3 : Sound q.z a3) : SoundO q.z (execIrqStatusClear a1 a2 a3) := by
  unfold execIrqStatusClear
  try dsimp only
  repeat' first
    | with_reducible assumption
    | with_reducible apply soundC_of
    | with_reducible apply soundO_ok
    | with_reducible apply sound_regWrite
    | simp only [sound_mk]
    | split
    | dsimp only
    | intro _

theorem sound_execRcRegisterRead {a1} {a2} {a3} (h3 : Sound q a3) : SoundO q (execRcRegisterRead a1 a2 a3) := by
  unfold execRcRegisterRead
  try dsimp only
  repeat' first
    | with_reducible assumption
    | with_reducible apply soundC_of
    | with_reducible apply soundO_ok
    | with_reducible apply sound_regRead
    | simp only [sound_mk]
    | split
    | dsimp only
    | intro _

theorem sound_execPtLoRead {a1} {a2} (h2 : Sound q a2) : SoundO q (execPtLoRead a1 a2) := by
  unfold execPtLoRead
  try dsimp only
  repeat' first
    | with_reducible assumption
    | with_reducible apply soundC_of
    | with_reducible apply soundO_ok
    | with_reducible apply sound_regRead
    | simp only [sound_mk]
    | split
    | dsimp only
    | intro _

theorem sound_execSetposLoRead {a1} {a2} (h2 : Sound q a2) : SoundO q (execSetposLoRead a1 a2) := by
  unfold execSetposLoRead
  try dsimp only
  repeat' first
    | with_reducible assumption
    | with_reducible apply soundC_of
    | with_reducible apply soundO_ok
    | with_reducible apply sound_regRead
    | simp only [sound_mk]
    | split
    | dsimp only
    | intro _

theorem sound_execEvtDataRead {a1} {a2} (h2 : Sound q a2) : SoundO q (execEvtDataRead a1 a2) := by
  unfold execEvtDataRead
  try dsimp only
  repeat' first
    | with_reducible assumption
    | with_reducible apply soundC_of
    | with_reducible apply soundO_ok
    | with_reducible apply sound_regRead
    | simp only [sound_mk]
    | split
    | dsimp only
    | intro _

theorem sound_execEvtCursorWrite {a1} {a2} {a3} (h3 : Sound q.z a3) : SoundO q.z (execEvtCursorWrite a1 a2 a3) := by
  unfold execEvtCursorWrite
  try dsimp only
  repeat' first
    | with_reducible assumption
    | with_reducible apply soundC_of
    | with_reducible apply soundO_ok
    | with_reducible apply sound_regWrite
    | simp only [sound_mk]
    | split
    | dsimp only
    | intro _

theorem sound_execGdSelectWrite {a1} {a2} {a3} (h3 : Sound q.z a3) : SoundO q.z (execGdSelectWrite a1 a2 a3) := by
  unfold execGdSelectWrite
  try dsimp only
  repeat' first
    | with_reducible assumption
    | with_reducible apply soundC_of
    | with_reducible apply soundO_ok
    | with_reducible apply sound_regWrite
    | simp only [sound_mk]
    | split
    | dsimp only
    | intro _

theorem sound_execResetCtrlPackageReset {a1} {a2} {a3} {a4} (h4 : Sound q.z a4) : SoundO q.z (execResetCtrlPackageReset a1 a2 a3 a4) := by
  unfold execResetCtrlPackageReset
  try dsimp only
  repeat' first
    | with_reducible assumption
    | with_reducible apply soundC_of
    | with_reducible apply soundO_ok
    | with_reducible apply sound_regWrite
    | simp only [sound_mk]
    | split
    | dsimp only
    | intro _

theorem sound_execResetCtrlBistReset {a1} {a2} {a3} {a4} (h4 : Sound q.z a4) : SoundO q.z (execResetCtrlBistReset a1 a2 a3 a4) := by
  unfold execResetCtrlBistReset
  try dsimp only
  repeat' first
    | with_reducible assumption
    | with_reducible apply soundC_of
    | with_reducible apply soundO_ok
    | with_reducible apply sound_regWrite
    | simp only [sound_mk]
    | split
    | dsimp only
    | intro _

theorem sound_execResetCtrlRecoveryReset {a1} {a2} {a3} {a4} (h4 : Sound q.z a4) : SoundO q.z (execResetCtrlRecoveryReset a1 a2 a3 a4) := by
  unfold execResetCtrlRecoveryReset
  try dsimp only
  repeat' first
    | with_reducible assumption
    | with_reducible apply soundC_of
    | with_reducible apply soundO_ok
    | with_reducible apply sound_regWrite
    | simp only [sound_mk]
    | split
    | dsimp only
    | intro _

theorem sound_execFieldAccessReply {a1} {a2} {a3} (h3 : Sound q a3) : SoundO q (execFieldAccessReply a1 a2 a3) := by
  unfold execFieldAccessReply
  try dsimp only
  repeat' first
    | with_reducible assumption
    | with_reducible apply soundC_of
    | with_reducible apply soundO_ok
    | with_reducible apply sound_respond
    | with_reducible apply sound_serve
    | with_reducible apply sound_readsDone
    | simp only [sound_mk]
    | split
    | dsimp only
    | intro _
    | refine sound_of_pair ‹_ = (_, _)› ?_

theorem sound_execWaitTimeout {a1} (h1 : Sound q a1) : SoundO q (execWaitTimeout a1) := by
  unfold execWaitTimeout
  try dsimp only
  repeat' first
    | with_reducible assumption
    | with_reducible apply soundC_of
    | with_reducible apply soundO_ok
    | with_reducible apply sound_respond
    | with_reducible apply sound_recordPort
    | simp only [sound_mk]
    | split
    | dsimp only
    | intro _

theorem sound_putWords {a1} {a2} {a3} (h3 : Sound q a3) : Sound q (putWords a1 a2 a3) := by
  induction a2 generalizing a1 a3 with
  | nil => exact h3
  | cons w r ih => exact ih (sound_mergeWrite (sound_writeMem h3))

theorem sound_doEyeletWrite {a1} {a2} {a3} {a4} (h4 : Sound q a4) : Sound q (doEyeletWrite a1 a2 a3 a4) := by
  unfold doEyeletWrite
  try dsimp only
  repeat' first
    | with_reducible assumption
    | with_reducible apply soundC_of
    | with_reducible apply sound_respond
    | with_reducible apply sound_tagBusy
    | with_reducible apply sound_putWords
    | with_reducible apply sound_doorbell
    | simp only [sound_mk]
    | split
    | dsimp only
    | intro _
    | refine sound_of_pair ‹_ = (_, _)› ?_

theorem sound_execEyeletWrite {a1} {a2} {a3} {a4} {a5} (h5 : Sound q a5) : SoundO q (execEyeletWrite a1 a2 a3 a4 a5) := by
  unfold execEyeletWrite
  try dsimp only
  repeat' first
    | with_reducible assumption
    | with_reducible apply soundC_of
    | with_reducible apply soundO_ok
    | with_reducible apply sound_frame
    | with_reducible apply sound_doEyeletWrite
    | simp only [sound_mk]
    | split
    | dsimp only
    | intro _

theorem sound_execEyeletRead {a1} {a2} {a3} {a4} (h4 : Sound q a4) : SoundO q (execEyeletRead a1 a2 a3 a4) := by
  unfold execEyeletRead
  try dsimp only
  repeat' first
    | with_reducible assumption
    | with_reducible apply soundC_of
    | with_reducible apply soundO_ok
    | with_reducible apply sound_frame
    | with_reducible apply sound_respond
    | simp only [sound_mk]
    | split
    | dsimp only
    | intro _

theorem sound_execCqRead {a1} {a2} {a3} {a4} (h4 : Sound q a4) : SoundO q (execCqRead a1 a2 a3 a4) := by
  unfold execCqRead
  try dsimp only
  repeat' first
    | with_reducible assumption
    | with_reducible apply soundC_of
    | with_reducible apply soundO_ok
    | with_reducible apply sound_frame
    | with_reducible apply sound_respond
    | simp only [sound_mk]
    | split
    | dsimp only
    | intro _

theorem sound_doHello {a1} {a2} (h2 : Sound q a2) : Sound q (doHello a1 a2) := by
  unfold doHello
  try dsimp only
  repeat' first
    | with_reducible assumption
    | with_reducible apply soundC_of
    | with_reducible apply sound_respond
    | with_reducible apply sound_recordPort
    | simp only [sound_mk]
    | split
    | dsimp only
    | intro _

theorem sound_execHello {a1} {a2} {a3} {a4} (h4 : Sound q a4) : SoundO q (execHello a1 a2 a3 a4) := by
  unfold execHello
  try dsimp only
  repeat' first
    | with_reducible assumption
    | with_reducible apply soundC_of
    | with_reducible apply soundO_ok
    | with_reducible apply sound_frame
    | with_reducible apply sound_doHello
    | simp only [sound_mk]
    | split
    | dsimp only
    | intro _

theorem sound_execPortFallback {a1} (h1 : Sound q a1) : SoundO q (execPortFallback a1) := by
  unfold execPortFallback
  try dsimp only
  repeat' first
    | with_reducible assumption
    | with_reducible apply soundC_of
    | with_reducible apply soundO_ok
    | with_reducible apply sound_recordPort
    | with_reducible apply sound_setSticky
    | simp only [sound_mk]
    | split
    | dsimp only
    | intro _

theorem sound_abandon {a1} {a2} {a3} {a4} {a5} {a6} {a7} (h7 : Sound q a7) : Sound q (abandon a1 a2 a3 a4 a5 a6 a7) := by
  unfold abandon
  try dsimp only
  repeat' first
    | with_reducible assumption
    | with_reducible apply soundC_of
    | with_reducible apply sound_beginFrame
    | with_reducible apply sound_recordPort
    | with_reducible apply sound_setSticky
    | with_reducible apply sound_violation
    | simp only [sound_mk]
    | split
    | dsimp only
    | intro _

theorem sound_execFrameStall {a1} {a2} {a3} {a4} {a5} {a6} (h6 : Sound q a6) : SoundO q (execFrameStall a1 a2 a3 a4 a5 a6) := by
  unfold execFrameStall
  try dsimp only
  repeat' first
    | with_reducible assumption
    | with_reducible apply soundC_of
    | with_reducible apply soundO_ok
    | with_reducible apply sound_abandon
    | simp only [sound_mk]
    | split
    | dsimp only
    | intro _

theorem sound_execFrameTruncated {a1} {a2} {a3} {a4} {a5} (h5 : Sound q a5) : SoundO q (execFrameTruncated a1 a2 a3 a4 a5) := by
  unfold execFrameTruncated
  try dsimp only
  repeat' first
    | with_reducible assumption
    | with_reducible apply soundC_of
    | with_reducible apply soundO_ok
    | with_reducible apply sound_abandon
    | simp only [sound_mk]
    | split
    | dsimp only
    | intro _

end Sys2Proof.Laws
end

