-- ==== Sys2Proof/Laws/KeepWrite.lean ====
section
/-! SUPPORT. A write of one register other than HB_RESET_CTRL orders no reset, so it keeps the bound of FC's held order
too (Keep.lean). -/

namespace Sys2Proof.Laws
open Sys2Proof Sys2Proof.Machine

variable {q : Kept}

theorem sound_writeHb_at {a w : Nat} {s : State} (ha : a ≠ 0x0024) (h : Sound q s) : Sound q (writeHb a w s).2 := by
  unfold writeHb
  split
  case h_3 => exact absurd rfl ha
  all_goals
    repeat' first
      | with_reducible assumption
      | with_reducible apply soundC_of
      | with_reducible apply sound_gdSelectWrite
      | with_reducible apply sound_doorbell
      | with_reducible apply sound_headWrite
      | with_reducible apply sound_irqWrite
      | with_reducible apply sound_cursorWrite
      | with_reducible apply sound_setCtl
      | simp only [sound_mk]
      | split

theorem sound_regWrite_at {f : Frame} {a : Nat} {w : Word} {s : State} (ha : a ≠ 0x0024) (h : Sound q s) :
    Sound q (regWrite f a [w] s) := by
  unfold regWrite
  apply sound_frame
  · intro s h
    unfold doWrite
    dsimp only
    repeat' first
      | with_reducible assumption
      | with_reducible apply sound_respond
      | with_reducible apply sound_beginAccess
      | exact sound_writeHb_at ha h
      | split
  · exact h

end Sys2Proof.Laws
end

