-- ==== Sys2Proof/Laws/Record.lean ====
section
/-! SUPPORT. What recording an event can do: it changes the recorder, MAX_CLASS and the interrupt causes, and nothing
else (R57, R519, R660, R661). -/

namespace Sys2Proof.Laws
open Sys2Proof Sys2Proof.Machine

/-- `t` is `s` but for the recorder, MAX_CLASS and the interrupt causes. -/
def Recorded (s t : State) : Prop :=
  ∃ evt mc irq, t = { s with evt := evt, op := { s.op with maxClass := mc }, mbx := { s.mbx with irq := irq } }

theorem Recorded.refl (s : State) : Recorded s s := ⟨s.evt, s.op.maxClass, s.mbx.irq, rfl⟩

theorem Recorded.trans {s t u : State} (h : Recorded s t) (k : Recorded t u) : Recorded s u := by
  obtain ⟨e, m, i, rfl⟩ := h
  obtain ⟨e', m', i', rfl⟩ := k
  exact ⟨e', m', i', rfl⟩

theorem recorded_evt (s : State) (e : RecBlock) : Recorded s { s with evt := e } := ⟨e, s.op.maxClass, s.mbx.irq, rfl⟩

theorem recorded_noteClass (k : Nat) (s : State) : Recorded s (noteClass k s) := ⟨s.evt, _, _, rfl⟩

theorem recorded_enqueueP (r : EventRec) (s : State) : Recorded s (enqueueP r s) := by
  unfold enqueueP
  dsimp only
  split
  · exact recorded_evt _ _
  · split
    · exact (recorded_evt _ _).trans (recorded_noteClass _ _)
    · exact recorded_evt _ _

theorem recorded_putV (r : EventRec) (s : State) : Recorded s (putV r s) := by
  unfold putV
  dsimp only
  split
  · exact recorded_evt _ _
  · split
    · split
      · exact ((recorded_evt _ _).trans (recorded_noteClass _ _)).trans (recorded_enqueueP _ _)
      · exact (recorded_evt _ _).trans (recorded_noteClass _ _)
    · exact recorded_evt _ _

theorem recorded_arrive (r : EventRec) (s : State) : Recorded s (arrive r s) := by
  unfold arrive
  dsimp only
  split
  · exact ((recorded_evt _ _).trans (recorded_putV _ _)).trans (recorded_enqueueP _ _)
  · exact (recorded_evt _ _).trans (recorded_putV _ _)

theorem recorded_fcPush (r : EventRec) (s : State) : Recorded s (fcPush r s) := by
  unfold fcPush
  split <;> exact recorded_evt _ _

/-- Recording an event changes the recorder, MAX_CLASS and the interrupt causes alone. -/
theorem recorded_record (d : Die) (code cls : Nat) (ps : List Int) (s : State) : Recorded s (record d code cls ps s) := by
  unfold record
  dsimp only
  split
  · exact Recorded.refl s
  · split
    · exact (recorded_noteClass _ _).trans (recorded_arrive _ _)
    · exact (recorded_noteClass _ _).trans (recorded_fcPush _ _)

variable (d : Die) (code cls : Nat) (ps : List Int) (s : State)

@[simp] theorem record_pending : (record d code cls ps s).pending = s.pending := by
  obtain ⟨e, m, i, h⟩ := recorded_record d code cls ps s; rw [h]
@[simp] theorem record_free : (record d code cls ps s).free = s.free := by
  obtain ⟨e, m, i, h⟩ := recorded_record d code cls ps s; rw [h]
@[simp] theorem record_gdSelect : (record d code cls ps s).gdSelect = s.gdSelect := by
  obtain ⟨e, m, i, h⟩ := recorded_record d code cls ps s; rw [h]
@[simp] theorem record_pt : (record d code cls ps s).pt = s.pt := by
  obtain ⟨e, m, i, h⟩ := recorded_record d code cls ps s; rw [h]
@[simp] theorem record_id : (record d code cls ps s).id = s.id := by
  obtain ⟨e, m, i, h⟩ := recorded_record d code cls ps s; rw [h]
@[simp] theorem record_rst : (record d code cls ps s).rst = s.rst := by
  obtain ⟨e, m, i, h⟩ := recorded_record d code cls ps s; rw [h]
@[simp] theorem record_boot : (record d code cls ps s).boot = s.boot := by
  obtain ⟨e, m, i, h⟩ := recorded_record d code cls ps s; rw [h]
@[simp] theorem record_supply : (record d code cls ps s).supply = s.supply := by
  obtain ⟨e, m, i, h⟩ := recorded_record d code cls ps s; rw [h]
@[simp] theorem record_pairs : (record d code cls ps s).pairs = s.pairs := by
  obtain ⟨e, m, i, h⟩ := recorded_record d code cls ps s; rw [h]
@[simp] theorem record_cp : (record d code cls ps s).cp = s.cp := by
  obtain ⟨e, m, i, h⟩ := recorded_record d code cls ps s; rw [h]
@[simp] theorem record_clk : (record d code cls ps s).clk = s.clk := by
  obtain ⟨e, m, i, h⟩ := recorded_record d code cls ps s; rw [h]
@[simp] theorem record_jx : (record d code cls ps s).jx = s.jx := by
  obtain ⟨e, m, i, h⟩ := recorded_record d code cls ps s; rw [h]
@[simp] theorem record_snap : (record d code cls ps s).snap = s.snap := by
  obtain ⟨e, m, i, h⟩ := recorded_record d code cls ps s; rw [h]
@[simp] theorem record_heel : (record d code cls ps s).heel = s.heel := by
  obtain ⟨e, m, i, h⟩ := recorded_record d code cls ps s; rw [h]
@[simp] theorem record_port : (record d code cls ps s).port = s.port := by
  obtain ⟨e, m, i, h⟩ := recorded_record d code cls ps s; rw [h]
@[simp] theorem record_par : (record d code cls ps s).par = s.par := by
  obtain ⟨e, m, i, h⟩ := recorded_record d code cls ps s; rw [h]
@[simp] theorem record_last : (record d code cls ps s).last = s.last := by
  obtain ⟨e, m, i, h⟩ := recorded_record d code cls ps s; rw [h]
@[simp] theorem record_saf : (record d code cls ps s).saf = s.saf := by
  obtain ⟨e, m, i, h⟩ := recorded_record d code cls ps s; rw [h]
@[simp] theorem record_sense : (record d code cls ps s).sense = s.sense := by
  obtain ⟨e, m, i, h⟩ := recorded_record d code cls ps s; rw [h]
@[simp] theorem record_fb : (record d code cls ps s).fb = s.fb := by
  obtain ⟨e, m, i, h⟩ := recorded_record d code cls ps s; rw [h]
@[simp] theorem record_obs : (record d code cls ps s).obs = s.obs := by
  obtain ⟨e, m, i, h⟩ := recorded_record d code cls ps s; rw [h]
@[simp] theorem record_loop : (record d code cls ps s).loop = s.loop := by
  obtain ⟨e, m, i, h⟩ := recorded_record d code cls ps s; rw [h]
@[simp] theorem record_pe : (record d code cls ps s).pe = s.pe := by
  obtain ⟨e, m, i, h⟩ := recorded_record d code cls ps s; rw [h]
@[simp] theorem record_mod : (record d code cls ps s).mod = s.mod := by
  obtain ⟨e, m, i, h⟩ := recorded_record d code cls ps s; rw [h]
@[simp] theorem record_gd : (record d code cls ps s).gd = s.gd := by
  obtain ⟨e, m, i, h⟩ := recorded_record d code cls ps s; rw [h]
@[simp] theorem record_diag : (record d code cls ps s).diag = s.diag := by
  obtain ⟨e, m, i, h⟩ := recorded_record d code cls ps s; rw [h]
@[simp] theorem record_sm : (record d code cls ps s).sm = s.sm := by
  obtain ⟨e, m, i, h⟩ := recorded_record d code cls ps s; rw [h]
@[simp] theorem record_can : (record d code cls ps s).can = s.can := by
  obtain ⟨e, m, i, h⟩ := recorded_record d code cls ps s; rw [h]
@[simp] theorem record_nt : (record d code cls ps s).nt = s.nt := by
  obtain ⟨e, m, i, h⟩ := recorded_record d code cls ps s; rw [h]
@[simp] theorem record_mem : (record d code cls ps s).mem = s.mem := by
  obtain ⟨e, m, i, h⟩ := recorded_record d code cls ps s; rw [h]
@[simp] theorem record_thm : (record d code cls ps s).thm = s.thm := by
  obtain ⟨e, m, i, h⟩ := recorded_record d code cls ps s; rw [h]
@[simp] theorem record_bist : (record d code cls ps s).bist = s.bist := by
  obtain ⟨e, m, i, h⟩ := recorded_record d code cls ps s; rw [h]
@[simp] theorem record_tap : (record d code cls ps s).tap = s.tap := by
  obtain ⟨e, m, i, h⟩ := recorded_record d code cls ps s; rw [h]
@[simp] theorem record_op_state : (record d code cls ps s).op.state = s.op.state := by
  obtain ⟨e, m, i, h⟩ := recorded_record d code cls ps s; rw [h]
@[simp] theorem record_op_prev : (record d code cls ps s).op.prev = s.op.prev := by
  obtain ⟨e, m, i, h⟩ := recorded_record d code cls ps s; rw [h]
@[simp] theorem record_op_faultHold : (record d code cls ps s).op.faultHold = s.op.faultHold := by
  obtain ⟨e, m, i, h⟩ := recorded_record d code cls ps s; rw [h]
@[simp] theorem record_op_commissioning : (record d code cls ps s).op.commissioning = s.op.commissioning := by
  obtain ⟨e, m, i, h⟩ := recorded_record d code cls ps s; rw [h]
@[simp] theorem record_op_degraded : (record d code cls ps s).op.degraded = s.op.degraded := by
  obtain ⟨e, m, i, h⟩ := recorded_record d code cls ps s; rw [h]
@[simp] theorem record_op_stoActive : (record d code cls ps s).op.stoActive = s.op.stoActive := by
  obtain ⟨e, m, i, h⟩ := recorded_record d code cls ps s; rw [h]
@[simp] theorem record_op_holdFrom : (record d code cls ps s).op.holdFrom = s.op.holdFrom := by
  obtain ⟨e, m, i, h⟩ := recorded_record d code cls ps s; rw [h]
@[simp] theorem record_op_f2Stop : (record d code cls ps s).op.f2Stop = s.op.f2Stop := by
  obtain ⟨e, m, i, h⟩ := recorded_record d code cls ps s; rw [h]
@[simp] theorem record_op_ackBarred : (record d code cls ps s).op.ackBarred = s.op.ackBarred := by
  obtain ⟨e, m, i, h⟩ := recorded_record d code cls ps s; rw [h]
@[simp] theorem record_op_speedDependent : (record d code cls ps s).op.speedDependent = s.op.speedDependent := by
  obtain ⟨e, m, i, h⟩ := recorded_record d code cls ps s; rw [h]
@[simp] theorem record_mbx_mem : (record d code cls ps s).mbx.mem = s.mbx.mem := by
  obtain ⟨e, m, i, h⟩ := recorded_record d code cls ps s; rw [h]
@[simp] theorem record_mbx_empty : (record d code cls ps s).mbx.empty = s.mbx.empty := by
  obtain ⟨e, m, i, h⟩ := recorded_record d code cls ps s; rw [h]
@[simp] theorem record_mbx_tags : (record d code cls ps s).mbx.tags = s.mbx.tags := by
  obtain ⟨e, m, i, h⟩ := recorded_record d code cls ps s; rw [h]
@[simp] theorem record_mbx_bells : (record d code cls ps s).mbx.bells = s.mbx.bells := by
  obtain ⟨e, m, i, h⟩ := recorded_record d code cls ps s; rw [h]
@[simp] theorem record_mbx_bellNo : (record d code cls ps s).mbx.bellNo = s.mbx.bellNo := by
  obtain ⟨e, m, i, h⟩ := recorded_record d code cls ps s; rw [h]
@[simp] theorem record_mbx_tail : (record d code cls ps s).mbx.tail = s.mbx.tail := by
  obtain ⟨e, m, i, h⟩ := recorded_record d code cls ps s; rw [h]
@[simp] theorem record_mbx_head : (record d code cls ps s).mbx.head = s.mbx.head := by
  obtain ⟨e, m, i, h⟩ := recorded_record d code cls ps s; rw [h]
@[simp] theorem record_mbx_irqEn : (record d code cls ps s).mbx.irqEn = s.mbx.irqEn := by
  obtain ⟨e, m, i, h⟩ := recorded_record d code cls ps s; rw [h]
@[simp] theorem record_mbx_coalCount : (record d code cls ps s).mbx.coalCount = s.mbx.coalCount := by
  obtain ⟨e, m, i, h⟩ := recorded_record d code cls ps s; rw [h]
@[simp] theorem record_mbx_coalSince : (record d code cls ps s).mbx.coalSince = s.mbx.coalSince := by
  obtain ⟨e, m, i, h⟩ := recorded_record d code cls ps s; rw [h]
@[simp] theorem record_mbx_errCrc : (record d code cls ps s).mbx.errCrc = s.mbx.errCrc := by
  obtain ⟨e, m, i, h⟩ := recorded_record d code cls ps s; rw [h]
@[simp] theorem record_mbx_errOp : (record d code cls ps s).mbx.errOp = s.mbx.errOp := by
  obtain ⟨e, m, i, h⟩ := recorded_record d code cls ps s; rw [h]
@[simp] theorem record_mbx_errBusy : (record d code cls ps s).mbx.errBusy = s.mbx.errBusy := by
  obtain ⟨e, m, i, h⟩ := recorded_record d code cls ps s; rw [h]
@[simp] theorem record_mbx_violLost : (record d code cls ps s).mbx.violLost = s.mbx.violLost := by
  obtain ⟨e, m, i, h⟩ := recorded_record d code cls ps s; rw [h]
@[simp] theorem record_mbx_completed : (record d code cls ps s).mbx.completed = s.mbx.completed := by
  obtain ⟨e, m, i, h⟩ := recorded_record d code cls ps s; rw [h]
@[simp] theorem record_mbx_violations : (record d code cls ps s).mbx.violations = s.mbx.violations := by
  obtain ⟨e, m, i, h⟩ := recorded_record d code cls ps s; rw [h]
@[simp] theorem record_mbx_rr : (record d code cls ps s).mbx.rr = s.mbx.rr := by
  obtain ⟨e, m, i, h⟩ := recorded_record d code cls ps s; rw [h]

end Sys2Proof.Laws
end

