-- ==== Sys2Proof/Laws/State.lean ====
section
/-! SUPPORT. What the named updates of the state leave alone: one lemma per field per update. -/

namespace Sys2Proof.Laws
open Sys2Proof Sys2Proof.Machine

variable (s : State)

/-! `setTag` -/

@[simp] theorem setTag_pending (i : Nat) (f : TagInfo → TagInfo) : (setTag i f s).pending = s.pending := rfl
@[simp] theorem setTag_free (i : Nat) (f : TagInfo → TagInfo) : (setTag i f s).free = s.free := rfl
@[simp] theorem setTag_gdSelect (i : Nat) (f : TagInfo → TagInfo) : (setTag i f s).gdSelect = s.gdSelect := rfl
@[simp] theorem setTag_pt (i : Nat) (f : TagInfo → TagInfo) : (setTag i f s).pt = s.pt := rfl
@[simp] theorem setTag_op (i : Nat) (f : TagInfo → TagInfo) : (setTag i f s).op = s.op := rfl
@[simp] theorem setTag_id (i : Nat) (f : TagInfo → TagInfo) : (setTag i f s).id = s.id := rfl
@[simp] theorem setTag_rst (i : Nat) (f : TagInfo → TagInfo) : (setTag i f s).rst = s.rst := rfl
@[simp] theorem setTag_boot (i : Nat) (f : TagInfo → TagInfo) : (setTag i f s).boot = s.boot := rfl
@[simp] theorem setTag_supply (i : Nat) (f : TagInfo → TagInfo) : (setTag i f s).supply = s.supply := rfl
@[simp] theorem setTag_pairs (i : Nat) (f : TagInfo → TagInfo) : (setTag i f s).pairs = s.pairs := rfl
@[simp] theorem setTag_clk (i : Nat) (f : TagInfo → TagInfo) : (setTag i f s).clk = s.clk := rfl
@[simp] theorem setTag_jx (i : Nat) (f : TagInfo → TagInfo) : (setTag i f s).jx = s.jx := rfl
@[simp] theorem setTag_snap (i : Nat) (f : TagInfo → TagInfo) : (setTag i f s).snap = s.snap := rfl
@[simp] theorem setTag_heel (i : Nat) (f : TagInfo → TagInfo) : (setTag i f s).heel = s.heel := rfl
@[simp] theorem setTag_port (i : Nat) (f : TagInfo → TagInfo) : (setTag i f s).port = s.port := rfl
@[simp] theorem setTag_par (i : Nat) (f : TagInfo → TagInfo) : (setTag i f s).par = s.par := rfl
@[simp] theorem setTag_last (i : Nat) (f : TagInfo → TagInfo) : (setTag i f s).last = s.last := rfl
@[simp] theorem setTag_evt (i : Nat) (f : TagInfo → TagInfo) : (setTag i f s).evt = s.evt := rfl
@[simp] theorem setTag_saf (i : Nat) (f : TagInfo → TagInfo) : (setTag i f s).saf = s.saf := rfl
@[simp] theorem setTag_sense (i : Nat) (f : TagInfo → TagInfo) : (setTag i f s).sense = s.sense := rfl
@[simp] theorem setTag_fb (i : Nat) (f : TagInfo → TagInfo) : (setTag i f s).fb = s.fb := rfl
@[simp] theorem setTag_obs (i : Nat) (f : TagInfo → TagInfo) : (setTag i f s).obs = s.obs := rfl
@[simp] theorem setTag_loop (i : Nat) (f : TagInfo → TagInfo) : (setTag i f s).loop = s.loop := rfl
@[simp] theorem setTag_pe (i : Nat) (f : TagInfo → TagInfo) : (setTag i f s).pe = s.pe := rfl
@[simp] theorem setTag_mod (i : Nat) (f : TagInfo → TagInfo) : (setTag i f s).mod = s.mod := rfl
@[simp] theorem setTag_gd (i : Nat) (f : TagInfo → TagInfo) : (setTag i f s).gd = s.gd := rfl
@[simp] theorem setTag_diag (i : Nat) (f : TagInfo → TagInfo) : (setTag i f s).diag = s.diag := rfl
@[simp] theorem setTag_sm (i : Nat) (f : TagInfo → TagInfo) : (setTag i f s).sm = s.sm := rfl
@[simp] theorem setTag_can (i : Nat) (f : TagInfo → TagInfo) : (setTag i f s).can = s.can := rfl
@[simp] theorem setTag_nt (i : Nat) (f : TagInfo → TagInfo) : (setTag i f s).nt = s.nt := rfl
@[simp] theorem setTag_mem (i : Nat) (f : TagInfo → TagInfo) : (setTag i f s).mem = s.mem := rfl
@[simp] theorem setTag_thm (i : Nat) (f : TagInfo → TagInfo) : (setTag i f s).thm = s.thm := rfl
@[simp] theorem setTag_bist (i : Nat) (f : TagInfo → TagInfo) : (setTag i f s).bist = s.bist := rfl
@[simp] theorem setTag_tap (i : Nat) (f : TagInfo → TagInfo) : (setTag i f s).tap = s.tap := rfl

/-! `setPar` -/

@[simp] theorem setPar_pending (k : Nat × Int) (v : Int) : (setPar k v s).pending = s.pending := rfl
@[simp] theorem setPar_free (k : Nat × Int) (v : Int) : (setPar k v s).free = s.free := rfl
@[simp] theorem setPar_gdSelect (k : Nat × Int) (v : Int) : (setPar k v s).gdSelect = s.gdSelect := rfl
@[simp] theorem setPar_pt (k : Nat × Int) (v : Int) : (setPar k v s).pt = s.pt := rfl
@[simp] theorem setPar_op (k : Nat × Int) (v : Int) : (setPar k v s).op = s.op := rfl
@[simp] theorem setPar_id (k : Nat × Int) (v : Int) : (setPar k v s).id = s.id := rfl
@[simp] theorem setPar_rst (k : Nat × Int) (v : Int) : (setPar k v s).rst = s.rst := rfl
@[simp] theorem setPar_boot (k : Nat × Int) (v : Int) : (setPar k v s).boot = s.boot := rfl
@[simp] theorem setPar_supply (k : Nat × Int) (v : Int) : (setPar k v s).supply = s.supply := rfl
@[simp] theorem setPar_pairs (k : Nat × Int) (v : Int) : (setPar k v s).pairs = s.pairs := rfl
@[simp] theorem setPar_cp (k : Nat × Int) (v : Int) : (setPar k v s).cp = s.cp := rfl
@[simp] theorem setPar_clk (k : Nat × Int) (v : Int) : (setPar k v s).clk = s.clk := rfl
@[simp] theorem setPar_jx (k : Nat × Int) (v : Int) : (setPar k v s).jx = s.jx := rfl
@[simp] theorem setPar_snap (k : Nat × Int) (v : Int) : (setPar k v s).snap = s.snap := rfl
@[simp] theorem setPar_heel (k : Nat × Int) (v : Int) : (setPar k v s).heel = s.heel := rfl
@[simp] theorem setPar_port (k : Nat × Int) (v : Int) : (setPar k v s).port = s.port := rfl
@[simp] theorem setPar_mbx (k : Nat × Int) (v : Int) : (setPar k v s).mbx = s.mbx := rfl
@[simp] theorem setPar_last (k : Nat × Int) (v : Int) : (setPar k v s).last = s.last := rfl
@[simp] theorem setPar_evt (k : Nat × Int) (v : Int) : (setPar k v s).evt = s.evt := rfl
@[simp] theorem setPar_saf (k : Nat × Int) (v : Int) : (setPar k v s).saf = s.saf := rfl
@[simp] theorem setPar_sense (k : Nat × Int) (v : Int) : (setPar k v s).sense = s.sense := rfl
@[simp] theorem setPar_fb (k : Nat × Int) (v : Int) : (setPar k v s).fb = s.fb := rfl
@[simp] theorem setPar_obs (k : Nat × Int) (v : Int) : (setPar k v s).obs = s.obs := rfl
@[simp] theorem setPar_loop (k : Nat × Int) (v : Int) : (setPar k v s).loop = s.loop := rfl
@[simp] theorem setPar_pe (k : Nat × Int) (v : Int) : (setPar k v s).pe = s.pe := rfl
@[simp] theorem setPar_mod (k : Nat × Int) (v : Int) : (setPar k v s).mod = s.mod := rfl
@[simp] theorem setPar_gd (k : Nat × Int) (v : Int) : (setPar k v s).gd = s.gd := rfl
@[simp] theorem setPar_diag (k : Nat × Int) (v : Int) : (setPar k v s).diag = s.diag := rfl
@[simp] theorem setPar_sm (k : Nat × Int) (v : Int) : (setPar k v s).sm = s.sm := rfl
@[simp] theorem setPar_can (k : Nat × Int) (v : Int) : (setPar k v s).can = s.can := rfl
@[simp] theorem setPar_nt (k : Nat × Int) (v : Int) : (setPar k v s).nt = s.nt := rfl
@[simp] theorem setPar_mem (k : Nat × Int) (v : Int) : (setPar k v s).mem = s.mem := rfl
@[simp] theorem setPar_thm (k : Nat × Int) (v : Int) : (setPar k v s).thm = s.thm := rfl
@[simp] theorem setPar_bist (k : Nat × Int) (v : Int) : (setPar k v s).bist = s.bist := rfl
@[simp] theorem setPar_tap (k : Nat × Int) (v : Int) : (setPar k v s).tap = s.tap := rfl

/-! `writeMem` -/

@[simp] theorem writeMem_pending (a : Nat) (l : List Byte) : (writeMem a l s).pending = s.pending := rfl
@[simp] theorem writeMem_free (a : Nat) (l : List Byte) : (writeMem a l s).free = s.free := rfl
@[simp] theorem writeMem_gdSelect (a : Nat) (l : List Byte) : (writeMem a l s).gdSelect = s.gdSelect := rfl
@[simp] theorem writeMem_pt (a : Nat) (l : List Byte) : (writeMem a l s).pt = s.pt := rfl
@[simp] theorem writeMem_op (a : Nat) (l : List Byte) : (writeMem a l s).op = s.op := rfl
@[simp] theorem writeMem_id (a : Nat) (l : List Byte) : (writeMem a l s).id = s.id := rfl
@[simp] theorem writeMem_rst (a : Nat) (l : List Byte) : (writeMem a l s).rst = s.rst := rfl
@[simp] theorem writeMem_boot (a : Nat) (l : List Byte) : (writeMem a l s).boot = s.boot := rfl
@[simp] theorem writeMem_supply (a : Nat) (l : List Byte) : (writeMem a l s).supply = s.supply := rfl
@[simp] theorem writeMem_pairs (a : Nat) (l : List Byte) : (writeMem a l s).pairs = s.pairs := rfl
@[simp] theorem writeMem_cp (a : Nat) (l : List Byte) : (writeMem a l s).cp = s.cp := rfl
@[simp] theorem writeMem_clk (a : Nat) (l : List Byte) : (writeMem a l s).clk = s.clk := rfl
@[simp] theorem writeMem_jx (a : Nat) (l : List Byte) : (writeMem a l s).jx = s.jx := rfl
@[simp] theorem writeMem_snap (a : Nat) (l : List Byte) : (writeMem a l s).snap = s.snap := rfl
@[simp] theorem writeMem_heel (a : Nat) (l : List Byte) : (writeMem a l s).heel = s.heel := rfl
@[simp] theorem writeMem_port (a : Nat) (l : List Byte) : (writeMem a l s).port = s.port := rfl
@[simp] theorem writeMem_par (a : Nat) (l : List Byte) : (writeMem a l s).par = s.par := rfl
@[simp] theorem writeMem_last (a : Nat) (l : List Byte) : (writeMem a l s).last = s.last := rfl
@[simp] theorem writeMem_evt (a : Nat) (l : List Byte) : (writeMem a l s).evt = s.evt := rfl
@[simp] theorem writeMem_saf (a : Nat) (l : List Byte) : (writeMem a l s).saf = s.saf := rfl
@[simp] theorem writeMem_sense (a : Nat) (l : List Byte) : (writeMem a l s).sense = s.sense := rfl
@[simp] theorem writeMem_fb (a : Nat) (l : List Byte) : (writeMem a l s).fb = s.fb := rfl
@[simp] theorem writeMem_obs (a : Nat) (l : List Byte) : (writeMem a l s).obs = s.obs := rfl
@[simp] theorem writeMem_loop (a : Nat) (l : List Byte) : (writeMem a l s).loop = s.loop := rfl
@[simp] theorem writeMem_pe (a : Nat) (l : List Byte) : (writeMem a l s).pe = s.pe := rfl
@[simp] theorem writeMem_mod (a : Nat) (l : List Byte) : (writeMem a l s).mod = s.mod := rfl
@[simp] theorem writeMem_gd (a : Nat) (l : List Byte) : (writeMem a l s).gd = s.gd := rfl
@[simp] theorem writeMem_diag (a : Nat) (l : List Byte) : (writeMem a l s).diag = s.diag := rfl
@[simp] theorem writeMem_sm (a : Nat) (l : List Byte) : (writeMem a l s).sm = s.sm := rfl
@[simp] theorem writeMem_can (a : Nat) (l : List Byte) : (writeMem a l s).can = s.can := rfl
@[simp] theorem writeMem_nt (a : Nat) (l : List Byte) : (writeMem a l s).nt = s.nt := rfl
@[simp] theorem writeMem_mem (a : Nat) (l : List Byte) : (writeMem a l s).mem = s.mem := rfl
@[simp] theorem writeMem_thm (a : Nat) (l : List Byte) : (writeMem a l s).thm = s.thm := rfl
@[simp] theorem writeMem_bist (a : Nat) (l : List Byte) : (writeMem a l s).bist = s.bist := rfl
@[simp] theorem writeMem_tap (a : Nat) (l : List Byte) : (writeMem a l s).tap = s.tap := rfl

/-! `setCh` -/

@[simp] theorem setCh_pending (c : Ch) (x : CanCh) : (setCh c x s).pending = s.pending := rfl
@[simp] theorem setCh_free (c : Ch) (x : CanCh) : (setCh c x s).free = s.free := rfl
@[simp] theorem setCh_gdSelect (c : Ch) (x : CanCh) : (setCh c x s).gdSelect = s.gdSelect := rfl
@[simp] theorem setCh_pt (c : Ch) (x : CanCh) : (setCh c x s).pt = s.pt := rfl
@[simp] theorem setCh_op (c : Ch) (x : CanCh) : (setCh c x s).op = s.op := rfl
@[simp] theorem setCh_id (c : Ch) (x : CanCh) : (setCh c x s).id = s.id := rfl
@[simp] theorem setCh_rst (c : Ch) (x : CanCh) : (setCh c x s).rst = s.rst := rfl
@[simp] theorem setCh_boot (c : Ch) (x : CanCh) : (setCh c x s).boot = s.boot := rfl
@[simp] theorem setCh_supply (c : Ch) (x : CanCh) : (setCh c x s).supply = s.supply := rfl
@[simp] theorem setCh_pairs (c : Ch) (x : CanCh) : (setCh c x s).pairs = s.pairs := rfl
@[simp] theorem setCh_cp (c : Ch) (x : CanCh) : (setCh c x s).cp = s.cp := rfl
@[simp] theorem setCh_clk (c : Ch) (x : CanCh) : (setCh c x s).clk = s.clk := rfl
@[simp] theorem setCh_jx (c : Ch) (x : CanCh) : (setCh c x s).jx = s.jx := rfl
@[simp] theorem setCh_snap (c : Ch) (x : CanCh) : (setCh c x s).snap = s.snap := rfl
@[simp] theorem setCh_heel (c : Ch) (x : CanCh) : (setCh c x s).heel = s.heel := rfl
@[simp] theorem setCh_port (c : Ch) (x : CanCh) : (setCh c x s).port = s.port := rfl
@[simp] theorem setCh_mbx (c : Ch) (x : CanCh) : (setCh c x s).mbx = s.mbx := rfl
@[simp] theorem setCh_par (c : Ch) (x : CanCh) : (setCh c x s).par = s.par := rfl
@[simp] theorem setCh_last (c : Ch) (x : CanCh) : (setCh c x s).last = s.last := rfl
@[simp] theorem setCh_evt (c : Ch) (x : CanCh) : (setCh c x s).evt = s.evt := rfl
@[simp] theorem setCh_saf (c : Ch) (x : CanCh) : (setCh c x s).saf = s.saf := rfl
@[simp] theorem setCh_sense (c : Ch) (x : CanCh) : (setCh c x s).sense = s.sense := rfl
@[simp] theorem setCh_fb (c : Ch) (x : CanCh) : (setCh c x s).fb = s.fb := rfl
@[simp] theorem setCh_obs (c : Ch) (x : CanCh) : (setCh c x s).obs = s.obs := rfl
@[simp] theorem setCh_loop (c : Ch) (x : CanCh) : (setCh c x s).loop = s.loop := rfl
@[simp] theorem setCh_pe (c : Ch) (x : CanCh) : (setCh c x s).pe = s.pe := rfl
@[simp] theorem setCh_mod (c : Ch) (x : CanCh) : (setCh c x s).mod = s.mod := rfl
@[simp] theorem setCh_gd (c : Ch) (x : CanCh) : (setCh c x s).gd = s.gd := rfl
@[simp] theorem setCh_diag (c : Ch) (x : CanCh) : (setCh c x s).diag = s.diag := rfl
@[simp] theorem setCh_sm (c : Ch) (x : CanCh) : (setCh c x s).sm = s.sm := rfl
@[simp] theorem setCh_nt (c : Ch) (x : CanCh) : (setCh c x s).nt = s.nt := rfl
@[simp] theorem setCh_mem (c : Ch) (x : CanCh) : (setCh c x s).mem = s.mem := rfl
@[simp] theorem setCh_thm (c : Ch) (x : CanCh) : (setCh c x s).thm = s.thm := rfl
@[simp] theorem setCh_bist (c : Ch) (x : CanCh) : (setCh c x s).bist = s.bist := rfl
@[simp] theorem setCh_tap (c : Ch) (x : CanCh) : (setCh c x s).tap = s.tap := rfl

/-! `setCtl` -/

@[simp] theorem setCtl_pending (c : Nat) (m : MemCtl) : (setCtl c m s).pending = s.pending := rfl
@[simp] theorem setCtl_free (c : Nat) (m : MemCtl) : (setCtl c m s).free = s.free := rfl
@[simp] theorem setCtl_gdSelect (c : Nat) (m : MemCtl) : (setCtl c m s).gdSelect = s.gdSelect := rfl
@[simp] theorem setCtl_pt (c : Nat) (m : MemCtl) : (setCtl c m s).pt = s.pt := rfl
@[simp] theorem setCtl_op (c : Nat) (m : MemCtl) : (setCtl c m s).op = s.op := rfl
@[simp] theorem setCtl_id (c : Nat) (m : MemCtl) : (setCtl c m s).id = s.id := rfl
@[simp] theorem setCtl_rst (c : Nat) (m : MemCtl) : (setCtl c m s).rst = s.rst := rfl
@[simp] theorem setCtl_boot (c : Nat) (m : MemCtl) : (setCtl c m s).boot = s.boot := rfl
@[simp] theorem setCtl_supply (c : Nat) (m : MemCtl) : (setCtl c m s).supply = s.supply := rfl
@[simp] theorem setCtl_pairs (c : Nat) (m : MemCtl) : (setCtl c m s).pairs = s.pairs := rfl
@[simp] theorem setCtl_cp (c : Nat) (m : MemCtl) : (setCtl c m s).cp = s.cp := rfl
@[simp] theorem setCtl_clk (c : Nat) (m : MemCtl) : (setCtl c m s).clk = s.clk := rfl
@[simp] theorem setCtl_jx (c : Nat) (m : MemCtl) : (setCtl c m s).jx = s.jx := rfl
@[simp] theorem setCtl_snap (c : Nat) (m : MemCtl) : (setCtl c m s).snap = s.snap := rfl
@[simp] theorem setCtl_heel (c : Nat) (m : MemCtl) : (setCtl c m s).heel = s.heel := rfl
@[simp] theorem setCtl_port (c : Nat) (m : MemCtl) : (setCtl c m s).port = s.port := rfl
@[simp] theorem setCtl_mbx (c : Nat) (m : MemCtl) : (setCtl c m s).mbx = s.mbx := rfl
@[simp] theorem setCtl_par (c : Nat) (m : MemCtl) : (setCtl c m s).par = s.par := rfl
@[simp] theorem setCtl_last (c : Nat) (m : MemCtl) : (setCtl c m s).last = s.last := rfl
@[simp] theorem setCtl_evt (c : Nat) (m : MemCtl) : (setCtl c m s).evt = s.evt := rfl
@[simp] theorem setCtl_saf (c : Nat) (m : MemCtl) : (setCtl c m s).saf = s.saf := rfl
@[simp] theorem setCtl_sense (c : Nat) (m : MemCtl) : (setCtl c m s).sense = s.sense := rfl
@[simp] theorem setCtl_fb (c : Nat) (m : MemCtl) : (setCtl c m s).fb = s.fb := rfl
@[simp] theorem setCtl_obs (c : Nat) (m : MemCtl) : (setCtl c m s).obs = s.obs := rfl
@[simp] theorem setCtl_loop (c : Nat) (m : MemCtl) : (setCtl c m s).loop = s.loop := rfl
@[simp] theorem setCtl_pe (c : Nat) (m : MemCtl) : (setCtl c m s).pe = s.pe := rfl
@[simp] theorem setCtl_mod (c : Nat) (m : MemCtl) : (setCtl c m s).mod = s.mod := rfl
@[simp] theorem setCtl_gd (c : Nat) (m : MemCtl) : (setCtl c m s).gd = s.gd := rfl
@[simp] theorem setCtl_diag (c : Nat) (m : MemCtl) : (setCtl c m s).diag = s.diag := rfl
@[simp] theorem setCtl_sm (c : Nat) (m : MemCtl) : (setCtl c m s).sm = s.sm := rfl
@[simp] theorem setCtl_can (c : Nat) (m : MemCtl) : (setCtl c m s).can = s.can := rfl
@[simp] theorem setCtl_nt (c : Nat) (m : MemCtl) : (setCtl c m s).nt = s.nt := rfl
@[simp] theorem setCtl_thm (c : Nat) (m : MemCtl) : (setCtl c m s).thm = s.thm := rfl
@[simp] theorem setCtl_bist (c : Nat) (m : MemCtl) : (setCtl c m s).bist = s.bist := rfl
@[simp] theorem setCtl_tap (c : Nat) (m : MemCtl) : (setCtl c m s).tap = s.tap := rfl

/-! `setSticky` -/

@[simp] theorem setSticky_pending (b : Nat) : (setSticky b s).pending = s.pending := rfl
@[simp] theorem setSticky_free (b : Nat) : (setSticky b s).free = s.free := rfl
@[simp] theorem setSticky_gdSelect (b : Nat) : (setSticky b s).gdSelect = s.gdSelect := rfl
@[simp] theorem setSticky_pt (b : Nat) : (setSticky b s).pt = s.pt := rfl
@[simp] theorem setSticky_op (b : Nat) : (setSticky b s).op = s.op := rfl
@[simp] theorem setSticky_id (b : Nat) : (setSticky b s).id = s.id := rfl
@[simp] theorem setSticky_rst (b : Nat) : (setSticky b s).rst = s.rst := rfl
@[simp] theorem setSticky_boot (b : Nat) : (setSticky b s).boot = s.boot := rfl
@[simp] theorem setSticky_supply (b : Nat) : (setSticky b s).supply = s.supply := rfl
@[simp] theorem setSticky_pairs (b : Nat) : (setSticky b s).pairs = s.pairs := rfl
@[simp] theorem setSticky_cp (b : Nat) : (setSticky b s).cp = s.cp := rfl
@[simp] theorem setSticky_clk (b : Nat) : (setSticky b s).clk = s.clk := rfl
@[simp] theorem setSticky_jx (b : Nat) : (setSticky b s).jx = s.jx := rfl
@[simp] theorem setSticky_snap (b : Nat) : (setSticky b s).snap = s.snap := rfl
@[simp] theorem setSticky_heel (b : Nat) : (setSticky b s).heel = s.heel := rfl
@[simp] theorem setSticky_par (b : Nat) : (setSticky b s).par = s.par := rfl
@[simp] theorem setSticky_last (b : Nat) : (setSticky b s).last = s.last := rfl
@[simp] theorem setSticky_evt (b : Nat) : (setSticky b s).evt = s.evt := rfl
@[simp] theorem setSticky_saf (b : Nat) : (setSticky b s).saf = s.saf := rfl
@[simp] theorem setSticky_sense (b : Nat) : (setSticky b s).sense = s.sense := rfl
@[simp] theorem setSticky_fb (b : Nat) : (setSticky b s).fb = s.fb := rfl
@[simp] theorem setSticky_obs (b : Nat) : (setSticky b s).obs = s.obs := rfl
@[simp] theorem setSticky_loop (b : Nat) : (setSticky b s).loop = s.loop := rfl
@[simp] theorem setSticky_pe (b : Nat) : (setSticky b s).pe = s.pe := rfl
@[simp] theorem setSticky_mod (b : Nat) : (setSticky b s).mod = s.mod := rfl
@[simp] theorem setSticky_gd (b : Nat) : (setSticky b s).gd = s.gd := rfl
@[simp] theorem setSticky_diag (b : Nat) : (setSticky b s).diag = s.diag := rfl
@[simp] theorem setSticky_sm (b : Nat) : (setSticky b s).sm = s.sm := rfl
@[simp] theorem setSticky_can (b : Nat) : (setSticky b s).can = s.can := rfl
@[simp] theorem setSticky_nt (b : Nat) : (setSticky b s).nt = s.nt := rfl
@[simp] theorem setSticky_mem (b : Nat) : (setSticky b s).mem = s.mem := rfl
@[simp] theorem setSticky_thm (b : Nat) : (setSticky b s).thm = s.thm := rfl
@[simp] theorem setSticky_bist (b : Nat) : (setSticky b s).bist = s.bist := rfl
@[simp] theorem setSticky_tap (b : Nat) : (setSticky b s).tap = s.tap := rfl

/-! `respond` -/

@[simp] theorem respond_pending (c : Nat) (w : List Word) : (respond c w s).pending = s.pending := rfl
@[simp] theorem respond_free (c : Nat) (w : List Word) : (respond c w s).free = s.free := rfl
@[simp] theorem respond_gdSelect (c : Nat) (w : List Word) : (respond c w s).gdSelect = s.gdSelect := rfl
@[simp] theorem respond_pt (c : Nat) (w : List Word) : (respond c w s).pt = s.pt := rfl
@[simp] theorem respond_op (c : Nat) (w : List Word) : (respond c w s).op = s.op := rfl
@[simp] theorem respond_id (c : Nat) (w : List Word) : (respond c w s).id = s.id := rfl
@[simp] theorem respond_rst (c : Nat) (w : List Word) : (respond c w s).rst = s.rst := rfl
@[simp] theorem respond_boot (c : Nat) (w : List Word) : (respond c w s).boot = s.boot := rfl
@[simp] theorem respond_supply (c : Nat) (w : List Word) : (respond c w s).supply = s.supply := rfl
@[simp] theorem respond_pairs (c : Nat) (w : List Word) : (respond c w s).pairs = s.pairs := rfl
@[simp] theorem respond_cp (c : Nat) (w : List Word) : (respond c w s).cp = s.cp := rfl
@[simp] theorem respond_clk (c : Nat) (w : List Word) : (respond c w s).clk = s.clk := rfl
@[simp] theorem respond_jx (c : Nat) (w : List Word) : (respond c w s).jx = s.jx := rfl
@[simp] theorem respond_snap (c : Nat) (w : List Word) : (respond c w s).snap = s.snap := rfl
@[simp] theorem respond_heel (c : Nat) (w : List Word) : (respond c w s).heel = s.heel := rfl
@[simp] theorem respond_mbx (c : Nat) (w : List Word) : (respond c w s).mbx = s.mbx := rfl
@[simp] theorem respond_par (c : Nat) (w : List Word) : (respond c w s).par = s.par := rfl
@[simp] theorem respond_last (c : Nat) (w : List Word) : (respond c w s).last = s.last := rfl
@[simp] theorem respond_evt (c : Nat) (w : List Word) : (respond c w s).evt = s.evt := rfl
@[simp] theorem respond_saf (c : Nat) (w : List Word) : (respond c w s).saf = s.saf := rfl
@[simp] theorem respond_sense (c : Nat) (w : List Word) : (respond c w s).sense = s.sense := rfl
@[simp] theorem respond_fb (c : Nat) (w : List Word) : (respond c w s).fb = s.fb := rfl
@[simp] theorem respond_obs (c : Nat) (w : List Word) : (respond c w s).obs = s.obs := rfl
@[simp] theorem respond_loop (c : Nat) (w : List Word) : (respond c w s).loop = s.loop := rfl
@[simp] theorem respond_pe (c : Nat) (w : List Word) : (respond c w s).pe = s.pe := rfl
@[simp] theorem respond_mod (c : Nat) (w : List Word) : (respond c w s).mod = s.mod := rfl
@[simp] theorem respond_gd (c : Nat) (w : List Word) : (respond c w s).gd = s.gd := rfl
@[simp] theorem respond_diag (c : Nat) (w : List Word) : (respond c w s).diag = s.diag := rfl
@[simp] theorem respond_sm (c : Nat) (w : List Word) : (respond c w s).sm = s.sm := rfl
@[simp] theorem respond_can (c : Nat) (w : List Word) : (respond c w s).can = s.can := rfl
@[simp] theorem respond_nt (c : Nat) (w : List Word) : (respond c w s).nt = s.nt := rfl
@[simp] theorem respond_mem (c : Nat) (w : List Word) : (respond c w s).mem = s.mem := rfl
@[simp] theorem respond_thm (c : Nat) (w : List Word) : (respond c w s).thm = s.thm := rfl
@[simp] theorem respond_bist (c : Nat) (w : List Word) : (respond c w s).bist = s.bist := rfl
@[simp] theorem respond_tap (c : Nat) (w : List Word) : (respond c w s).tap = s.tap := rfl

/-! `beginFrame` -/

@[simp] theorem beginFrame_pending (f : Frame) : (beginFrame f s).pending = s.pending := rfl
@[simp] theorem beginFrame_free (f : Frame) : (beginFrame f s).free = s.free := rfl
@[simp] theorem beginFrame_gdSelect (f : Frame) : (beginFrame f s).gdSelect = s.gdSelect := rfl
@[simp] theorem beginFrame_pt (f : Frame) : (beginFrame f s).pt = s.pt := rfl
@[simp] theorem beginFrame_op (f : Frame) : (beginFrame f s).op = s.op := rfl
@[simp] theorem beginFrame_id (f : Frame) : (beginFrame f s).id = s.id := rfl
@[simp] theorem beginFrame_rst (f : Frame) : (beginFrame f s).rst = s.rst := rfl
@[simp] theorem beginFrame_boot (f : Frame) : (beginFrame f s).boot = s.boot := rfl
@[simp] theorem beginFrame_supply (f : Frame) : (beginFrame f s).supply = s.supply := rfl
@[simp] theorem beginFrame_pairs (f : Frame) : (beginFrame f s).pairs = s.pairs := rfl
@[simp] theorem beginFrame_cp (f : Frame) : (beginFrame f s).cp = s.cp := rfl
@[simp] theorem beginFrame_clk (f : Frame) : (beginFrame f s).clk = s.clk := rfl
@[simp] theorem beginFrame_jx (f : Frame) : (beginFrame f s).jx = s.jx := rfl
@[simp] theorem beginFrame_snap (f : Frame) : (beginFrame f s).snap = s.snap := rfl
@[simp] theorem beginFrame_heel (f : Frame) : (beginFrame f s).heel = s.heel := rfl
@[simp] theorem beginFrame_mbx (f : Frame) : (beginFrame f s).mbx = s.mbx := rfl
@[simp] theorem beginFrame_par (f : Frame) : (beginFrame f s).par = s.par := rfl
@[simp] theorem beginFrame_last (f : Frame) : (beginFrame f s).last = s.last := rfl
@[simp] theorem beginFrame_evt (f : Frame) : (beginFrame f s).evt = s.evt := rfl
@[simp] theorem beginFrame_saf (f : Frame) : (beginFrame f s).saf = s.saf := rfl
@[simp] theorem beginFrame_sense (f : Frame) : (beginFrame f s).sense = s.sense := rfl
@[simp] theorem beginFrame_fb (f : Frame) : (beginFrame f s).fb = s.fb := rfl
@[simp] theorem beginFrame_obs (f : Frame) : (beginFrame f s).obs = s.obs := rfl
@[simp] theorem beginFrame_loop (f : Frame) : (beginFrame f s).loop = s.loop := rfl
@[simp] theorem beginFrame_pe (f : Frame) : (beginFrame f s).pe = s.pe := rfl
@[simp] theorem beginFrame_mod (f : Frame) : (beginFrame f s).mod = s.mod := rfl
@[simp] theorem beginFrame_gd (f : Frame) : (beginFrame f s).gd = s.gd := rfl
@[simp] theorem beginFrame_diag (f : Frame) : (beginFrame f s).diag = s.diag := rfl
@[simp] theorem beginFrame_sm (f : Frame) : (beginFrame f s).sm = s.sm := rfl
@[simp] theorem beginFrame_can (f : Frame) : (beginFrame f s).can = s.can := rfl
@[simp] theorem beginFrame_nt (f : Frame) : (beginFrame f s).nt = s.nt := rfl
@[simp] theorem beginFrame_mem (f : Frame) : (beginFrame f s).mem = s.mem := rfl
@[simp] theorem beginFrame_thm (f : Frame) : (beginFrame f s).thm = s.thm := rfl
@[simp] theorem beginFrame_bist (f : Frame) : (beginFrame f s).bist = s.bist := rfl
@[simp] theorem beginFrame_tap (f : Frame) : (beginFrame f s).tap = s.tap := rfl

/-! `tick` -/

@[simp] theorem tick_pending : (tick s).pending = s.pending := rfl
@[simp] theorem tick_free : (tick s).free = s.free := rfl
@[simp] theorem tick_gdSelect : (tick s).gdSelect = s.gdSelect := rfl
@[simp] theorem tick_op : (tick s).op = s.op := rfl
@[simp] theorem tick_id : (tick s).id = s.id := rfl
@[simp] theorem tick_rst : (tick s).rst = s.rst := rfl
@[simp] theorem tick_boot : (tick s).boot = s.boot := rfl
@[simp] theorem tick_supply : (tick s).supply = s.supply := rfl
@[simp] theorem tick_pairs : (tick s).pairs = s.pairs := rfl
@[simp] theorem tick_cp : (tick s).cp = s.cp := rfl
@[simp] theorem tick_clk : (tick s).clk = s.clk := rfl
@[simp] theorem tick_jx : (tick s).jx = s.jx := rfl
@[simp] theorem tick_snap : (tick s).snap = s.snap := rfl
@[simp] theorem tick_heel : (tick s).heel = s.heel := rfl
@[simp] theorem tick_port : (tick s).port = s.port := rfl
@[simp] theorem tick_mbx : (tick s).mbx = s.mbx := rfl
@[simp] theorem tick_par : (tick s).par = s.par := rfl
@[simp] theorem tick_last : (tick s).last = s.last := rfl
@[simp] theorem tick_evt : (tick s).evt = s.evt := rfl
@[simp] theorem tick_saf : (tick s).saf = s.saf := rfl
@[simp] theorem tick_sense : (tick s).sense = s.sense := rfl
@[simp] theorem tick_fb : (tick s).fb = s.fb := rfl
@[simp] theorem tick_obs : (tick s).obs = s.obs := rfl
@[simp] theorem tick_loop : (tick s).loop = s.loop := rfl
@[simp] theorem tick_pe : (tick s).pe = s.pe := rfl
@[simp] theorem tick_mod : (tick s).mod = s.mod := rfl
@[simp] theorem tick_gd : (tick s).gd = s.gd := rfl
@[simp] theorem tick_diag : (tick s).diag = s.diag := rfl
@[simp] theorem tick_sm : (tick s).sm = s.sm := rfl
@[simp] theorem tick_can : (tick s).can = s.can := rfl
@[simp] theorem tick_nt : (tick s).nt = s.nt := rfl
@[simp] theorem tick_mem : (tick s).mem = s.mem := rfl
@[simp] theorem tick_thm : (tick s).thm = s.thm := rfl
@[simp] theorem tick_bist : (tick s).bist = s.bist := rfl
@[simp] theorem tick_tap : (tick s).tap = s.tap := rfl

end Sys2Proof.Laws
end

