-- ==== Sys2Proof/Laws/Time.lean ====
section
/-! SUPPORT. What the guards of timed operations say: a stamp has stood for a time, a flag parameter is set. -/

namespace Sys2Proof.Laws
open Sys2Proof Sys2Proof.Machine

theorem heldFor_some (u ns : Nat) (s : State) : heldFor (some u) ns s = decide (u + ns ≤ now s) := rfl

@[simp] theorem heldFor_none (ns : Nat) (s : State) : heldFor none ns s = false := rfl

theorem heldFor_of_le {o : Option Nat} {u ns : Nat} {s : State} (h : o = some u) (h' : u + ns ≤ now s) :
    heldFor o ns s = true := by
  rw [h, heldFor_some]; exact decide_eq_true h'

theorem parOn_of_eq {s : State} {k : Nat × Int} (h : par s k = 1) : parOn s k = true := by
  unfold parOn; rw [h]; rfl

theorem parOn_of_ne {s : State} {k : Nat × Int} (h : par s k ≠ 1) : parOn s k = false := by
  unfold parOn; exact beq_eq_false_iff_ne.2 h

end Sys2Proof.Laws
end

