-- ==== Sys2Proof/WellFormed.lean ====
section
/-! DEFINITION. Which commands are well formed: every operand lies in the field the spec gives it. -/

namespace Sys2Proof.WellFormed
open Sys2Proof

/-- The header of a frame is one word, each CRC 16 bits; a header whose CRC passes and whose KIND is defined carries the
KIND, COUNT and ADDR of the command (R491, R492). -/
def frameOk (f : Frame) (kind addr count : Nat) : Bool :=
  decide (f.raw < 2 ^ 32) && decide (f.hcrc < 65536) && decide (f.dcrc < 65536) &&
    (crc16 (beBytes 4 f.raw) != f.hcrc || bitsOf f.raw 28 4 == 0 || decide (6 < bitsOf f.raw 28 4) ||
      (bitsOf f.raw 28 4 == kind && bitsOf f.raw 16 9 == count && bitsOf f.raw 0 16 == addr))

/-- ADDR has 16 bits and COUNT nine (R492). -/
def port (addr count : Nat) : Bool := decide (addr < 65536) && decide (count < 512)

/-- A tag names one of 128 Eyelets (R506). -/
def tagOk (t : Nat) : Bool := decide (t < 128)

/-- A lane of the link between FC and a die: four to HB, two to a gate driver die (R39). -/
def laneOk (d : Die) (lane : Nat) : Bool :=
  match d with
  | .hb => decide (lane < 4)
  | .fc => false
  | .gd _ => decide (lane < 2)

/-- Memory number and byte address (R613, R621). -/
def memOk (mem addr : Nat) : Bool := decide (mem < 16) && decide (addr < 2 ^ 32)

/-- A syndrome of a correctable word: 8 bits of odd weight, or the low 8 of MRAM's 16 (R602, R625). -/
def synOk (d : Die) (mem n : Nat) : Bool :=
  decide (n < 256) && ((d == .hb && mem == 1) || ((List.range 8).filter (fun k => n / 2 ^ k % 2 == 1)).length % 2 == 1)

/-- A CAN frame: its kind and the length of its data (R578). -/
def canOk (f : CanFrame) : Bool := decide (f.word < 2 ^ 32) && decide (f.kind < 3) && decide (f.data.length ≤ 2048)

/-- What one die's diagnostic measures has four pairs (R388). -/
def diagOk (d : DiagMeas) : Bool := d.high.length == 4 && d.tr.length == 4 && d.rise.length == 4 && d.cmp.length == 8

/-- One value per measured channel (R113). -/
def calOk (m : CalMeas) : Bool :=
  m.offA.length == 12 && m.offB.length == 12 && m.spanA.length == 12 && m.spanB.length == 12 && m.midA.length == 12
  && m.midB.length == 12 && m.rawMax.length == 12

/-- One candidate rate has four delays, sixteen test frames, and a frame every 50 µs of the 8 ms confirmation (R168, R169). -/
def tryOk (t : SsiTry) : Bool := t.trt.length == 4 && t.frames.length == 16 && t.confirm.length == 160

/-- Hall state, resolver phase and candidates of a feedback start (R168). -/
def fbOk (r : FbStart) : Bool := decide (r.hall < 8) && decide (r.resPhase < 65536) && decide (r.cands.length ≤ 9) && r.cands.all tryOk

/-- What a boot meets (R84). -/
def bootOk (i : BootIn) : Bool := decide (i.lanes.length ≤ 7) && fbOk i.fb && calOk i.cal && decide (i.bad < 32) &&
  decide (i.rot.a < 8) && decide (i.rot.b < 8)

end Sys2Proof.WellFormed

namespace Sys2Proof
open Sys2Proof.WellFormed

/-- A command whose operands lie in their fields. -/
def Instr.wellFormed (i : Instr) : Bool :=
  match i with
  | .regRead f addr count => frameOk f 1 addr count && port addr count
  | .regWrite f addr data => frameOk f 2 addr data.length && port addr data.length
  | .eyeletWrite f db addr data => frameOk f 3 addr data.length && (!db || bitOf f.raw 27) && port addr data.length
  | .eyeletRead f addr count => frameOk f 4 addr count && port addr count
  | .cqRead f addr count => frameOk f 5 addr count && port addr count
  | .hello f addr data => frameOk f 6 addr data.length && port addr data.length
  | .portFallback => true
  | .frameStall f kind addr bytes _ => frameOk f kind addr (bitsOf f.raw 16 9) && decide (kind < 16) && port addr 0 && decide (bytes < 2053)
  | .frameTruncated f kind addr bytes => frameOk f kind addr (bitsOf f.raw 16 9) && decide (kind < 16) && port addr 0 && decide (bytes < 2053)
  | .fieldAccessReply _ _ => true
  | .waitTimeout => true
  | .doorbell f _ => frameOk f 2 0x0048 1
  | .cqHeadWrite f _ => frameOk f 2 0x0050 1
  | .irqStatusClear f _ => frameOk f 2 0x0054 1
  | .rcRegisterRead f addr => frameOk f 1 addr 1 && decide (addr < 65536) && decide (addr % 4 = 0)
  | .ptLoRead f => frameOk f 1 0x0018 1
  | .setposLoRead f => frameOk f 1 0x0604 1
  | .evtDataRead f => frameOk f 1 0x1210 8
  | .evtCursorWrite f _ => frameOk f 2 0x1204 1
  | .gdSelectWrite f _ => frameOk f 2 0x0014 1
  | .resetCtrlPackageReset f key _ => frameOk f 2 0x0024 1 && decide (key < 256)
  | .resetCtrlBistReset f key _ => frameOk f 2 0x0024 1 && decide (key < 256)
  | .resetCtrlRecoveryReset f key _ => frameOk f 2 0x0024 1 && decide (key < 256)
  | .commandAdmission => true
  | .commandStep tag => tagOk tag
  | .fieldSideReply tag => tagOk tag
  | .irqCoalescingTimeout => true
  | .nop tag => tagOk tag
  | .cancel tag _ => tagOk tag
  | .paramRead tag => tagOk tag
  | .paramWrite tag => tagOk tag
  | .lastConfirmWrite tag => tagOk tag
  | .tableCommitWrite tag => tagOk tag
  | .paramDesc tag => tagOk tag
  | .blockRead tag => tagOk tag
  | .blockWrite tag => tagOk tag
  | .store tag => tagOk tag
  | .restoreDefaults tag => tagOk tag
  | .precharge tag => tagOk tag
  | .enable tag => tagOk tag
  | .stop tag => tagOk tag
  | .faultAck tag => tagOk tag
  | .discharge tag => tagOk tag
  | .shutdown tag => tagOk tag
  | .senseCal tag => tagOk tag
  | .fbRestart tag r => tagOk tag && fbOk r
  | .gdDiag tag => tagOk tag
  | .contactorCheck tag => tagOk tag
  | .snapshot tag => tagOk tag
  | .moveAbs tag => tagOk tag
  | .moveRel tag => tagOk tag
  | .velTarget tag => tagOk tag
  | .torqueTarget tag => tagOk tag
  | .home tag => tagOk tag
  | .segLoad tag => tagOk tag
  | .segExec tag => tagOk tag
  | .lastCompute tag => tagOk tag
  | .lastImageRead tag => tagOk tag
  | .unseal tag => tagOk tag
  | .fwStageBegin tag => tagOk tag
  | .fwStageData tag => tagOk tag
  | .fwStageEnd tag img => tagOk tag && decide (img.secVer < 64)
  | .fwActivate tag => tagOk tag
  | .eventRead tag => tagOk tag
  | .eventClear tag => tagOk tag
  | .scrubRange tag => tagOk tag
  | .memTest tag => tagOk tag
  | .canTx tag => tagOk tag
  | .canRxRead tag => tagOk tag
  | .canFilterLoad tag => tagOk tag
  | .canBusOn tag => tagOk tag
  | .canRateDetect tag => tagOk tag
  | .canBufWrite tag => tagOk tag
  | .leLockstepMismatch _ _ => true
  | .lePairPersistent _ => true
  | .cpLockstepMismatch => true
  | .cpRestartDone => true
  | .cpPairPersistent => true
  | .crystalClockFault => true
  | .referenceClockLost => true
  | .pllClockFault _ => true
  | .laneErrorLimit d lane _ => laneOk d lane
  | .laneTrainingDone d lane _ => laneOk d lane
  | .linkLost d => d != .fc
  | .gdLinkLost _ => true
  | .hbLinkLoss => true
  | .heelReceived d _ => d != .fc
  | .heelReport _ _ l => decide (l.length ≤ 5)
  | .heldOrderRelease _ => true
  | .compareSetReceived _ _ => true
  | .ptDisciplineExchange d _ => d != .fc
  | .ptOffsetWarning d => d != .fc
  | .barrierFailed => true
  | .snapshotLatch => true
  | .lockoutEnter _ _ _ _ => true
  | .lockoutLeave _ trained cmp _ mv => decide (trained.length ≤ 4) && decide (cmp.length ≤ 8) && decide (mv.length ≤ 2)
  | .vfPowerFailWarning => true
  | .nresetAssert => true
  | .nresetRelease => true
  | .boot b => bootOk b
  | .gdWaitTimeout b => bootOk b
  | .trialBootTimeout => true
  | .highSideTrainTimeout => true
  | .shutdownDrainEnd _ _ _ cut => cut.all (fun c => (c.1 == 0x23 && decide (c.2 ≤ 16)) || c.1 == 0x24)
  | .samplingTrigger smp => smp.uvA.length == 12 && smp.clkB.length == 12
  | .pathAConversion ch _ => decide (ch < 12)
  | .overcurrentTrip ch => decide (ch < 6)
  | .overvoltageTrip ch => ch == 6 || ch == 7
  | .pathComparisonWindow => true
  | .comparisonFailed _ => true
  | .crossCheckVerdict _ => true
  | .sumCheckFailed set => decide (set < 2)
  | .vdcDisagreement => true
  | .vdcArbitrationTimeout => true
  | .terminalImplausible _ => true
  | .openInput ch => decide (ch < 12)
  | .stuckChannel ch => decide (ch < 6)
  | .pathBOverload ch => decide (ch < 12)
  | .overvoltageWarning => true
  | .overvoltageWarningClear => true
  | .undervoltage => true
  | .housekeepingRound r => r.conv.length == 24 && r.conv.all (fun l => l.length == 64 && l.all (· < 4096)) && r.refPpm.length == 4 && r.jn.length == 8 && r.shd.length == 8
  | .referenceOutOfTolerance ref => decide (ref < 24)
  | .bandgapDisagreement => true
  | .transducerSupplyFault set => decide (set < 2)
  | .hkAdcSuspect input => decide (input < 24)
  | .calibrationComplete m => calOk m
  | .quadratureTransition _ _ _ _ => true
  | .illegalLimitExceeded src => decide (src < 2)
  | .indexLatch _ => true
  | .indexFaultCheck => true
  | .hallStateChange st _ => decide (st < 8)
  | .hallStateInvalid _ => true
  | .resolverAmplitudeFault => true
  | .resolverTrackingLost => true
  | .resolverExcitationFault => true
  | .ssiFrameDecoded _ => true
  | .ssiFrameAbort _ => true
  | .ssiStaleLimit => true
  | .wireFault input _ => decide (input < 12)
  | .encoderSupplyFault => true
  | .sourceDisagreement => true
  | .frozenSource src => decide (src < 5)
  | .oe0Valid => true
  | .oe1Valid => true
  | .residualDisagreement => true
  | .observerRejoin _ => true
  | .startMeasurementEnd => true
  | .ascSettleEnd => true
  | .catchLockCheck => true
  | .reacquisitionTimeout => true
  | .awlSequenceEnd r => r.uv.length == 15 && r.uv.all (fun x => x.length == 3)
  | .blockCommutation => true
  | .crossingMissed => true
  | .blockStartTimeout => true
  | .sixStepChange => true
  | .tableCommitCopy table => decide (table < 65536)
  | .loopModeChange => true
  | .currentDeviation => true
  | .voltageLimitHeld => true
  | .disturbedPredictionLimit => true
  | .speedDeviation => true
  | .overspeed => true
  | .followingError => true
  | .dampingClamped => true
  | .pePlan => true
  | .targetReached => true
  | .switchInputChange k _ => decide (k < 3)
  | .switchDebounced k => decide (k < 3)
  | .switchChatter k => decide (k < 3)
  | .switchChatterEnd k => decide (k < 3)
  | .homingTimeout => true
  | .standstill => true
  | .standstillAction => true
  | .legEdgeDecision _ => true
  | .compareSetsMissedTwice _ => true
  | .echoReceived _ _ _ => true
  | .delayLineCalibration _ _ => true
  | .bootstrapRefresh _ => true
  | .bootstrapChargePulse => true
  | .legLossRampEnd => true
  | .gateEdge _ => true
  | .profileEnd _ => true
  | .didtTrip _ _ _ => true
  | .desatTrip _ _ _ => true
  | .softTurnOffEnd _ => true
  | .gateVoltageFault _ pair _ _ => decide (1 ≤ pair) && decide (pair ≤ 4)
  | .ntcConversion _ code => decide (code < 4096)
  | .moduleTempWarning _ => true
  | .moduleOvertemperature _ => true
  | .diagnosticComplete m => m.length == 6 && m.all diagOk
  | .outputSlotVote _ _ _ _ => true
  | .resyncCopyDone k => decide (k < 3)
  | .resyncRendezvous k h => decide (k < 3) && h.length == 3
  | .weltSelfTest a b _ _ => a.length == 6 && b.length == 6
  | .checkerDisagreement a b => a.length == 6 && b.length == 6
  | .hashSlot _ _ _ => true
  | .laneFault k => decide (k < 3)
  | .degradedGraceExpiry => true
  | .unintendedTorque => true
  | .currentBoundExceeded => true
  | .torqueDeficit => true
  | .setpointOutOfBound => true
  | .hkWatchdogExpiry => true
  | .stoInputChange _ _ => true
  | .stoFilterChange _ => true
  | .stoStatusPeriodic => true
  | .stoStatusReceived => true
  | .stoDiscrepancy => true
  | .sdsPiReplacement => true
  | .ss1EnvelopeExceeded => true
  | .ss1Standstill => true
  | .ss1Timeout => true
  | .smsExceeded => true
  | .slsExceeded => true
  | .brakeReleaseDelay => true
  | .brakeDemand => true
  | .brakeTestPulse _ => true
  | .brakeTestPulseEnd fb => decide (fb < 2)
  | .brakeFeedbackMismatch _ _ => true
  | .contactorFeedbackChange _ _ => true
  | .contactorCheckDue _ => true
  | .prechargeWeldCheckEnd => true
  | .prechargeTargetReached => true
  | .prechargeTimeout => true
  | .fcLossHoldExpiry => true
  | .dischargeResistorFailed => true
  | .dischargeWindingFailed => true
  | .dischargeComplete => true
  | .safeMessageReceived _ bytes => bytes.length == 16
  | .safeMessageDeadline => true
  | .safeStatusTransmit _ _ => true
  | .canFrameReceived _ f => canOk f
  | .canFrameFiltering _ => true
  | .canAttemptEnd _ b _ => decide (b < 8)
  | .canTxDeadline _ b _ => decide (b < 8)
  | .canErrorFlag _ kind _ => decide (kind < 8)
  | .canRecessiveIdle _ => true
  | .canRecoveryDone _ => true
  | .canOnTimeout _ => true
  | .canDetectWindowEnd _ => true
  | .referenceMessageDue => true
  | .referenceMessageReceived f => canOk f
  | .timeMasterTimeout => true
  | .networkTimeLost => true
  | .eccCorrection d mem addr syndrome => memOk mem addr && synOk d mem syndrome
  | .eccUncorrectable _ mem addr _ _ => memOk mem addr
  | .scrubRead d mem addr w => memOk mem addr && (match w with | .single syn => synOk d mem syn | _ => true)
  | .scrubPassLate _ mem => memOk mem 0
  | .mergeBufferFlush _ mem addr mask _ => memOk mem addr && decide (mask < 256)
  | .rowMigration _ mem addr => memOk mem addr
  | .gdLatchCheck _ _ _ => true
  | .periodicMemoryTest => true
  | .memoryTestBlock fails _ => fails.all (fun f => decide (f.1 < 3) && decide (f.2.2 < 72))
  | .sensorBroken sensor => decide (sensor < 17)
  | .temperatureWarning sensor => decide (sensor < 17)
  | .temperatureWarningClear sensor => decide (sensor < 17)
  | .temperatureStopLevel sensor => decide (sensor < 17)
  | .thermalShutdownEnter _ _ => true
  | .thermalShutdownLeave _ trained cmp _ _ => decide (trained.length ≤ 4) && decide (cmp.length ≤ 8)
  | .shutdownSensorDisagree _ => true
  | .recordArrival => true
  | .fcRecordQueueRoom => true
  | .persistentLogWrite _ => true
  | .tapBypass => true
  | .tapIdcode => true
  | .tapSamplePreload => true
  | .tapExtest => true
  | .dbgChal => true
  | .dbgResp _ => true
  | .dbgAccess => true
  | .tapReset => true
  | .cpCheckpoint => true
  | .stoPathTestEnd _ _ => true
  | .gdLogicPowerLost _ => true

end Sys2Proof
end

