-- ==== Sys2Proof/Tests/Slice0.lean ====
section
/-! SUPPORT. Tests of the model against the spec's own words and worked examples, and for every statement with
hypotheses a state that meets them. -/

namespace Sys2Proof.Tests
open Sys2Proof Sys2Proof.Machine

set_option Elab.async false

/-- A frame with the given header, its CRCs right. -/
def frameOf (raw : Nat) (data : List Word) : Frame :=
  ⟨raw, crc16 (beBytes 4 raw), crc16 (data.map wordBytes).flatten, false, true, false⟩

/-- CRC-16 of "123456789" is 0x29B1 (R491). -/
theorem test_crc16 : crc16 [0x31, 0x32, 0x33, 0x34, 0x35, 0x36, 0x37, 0x38, 0x39] = 0x29B1 := by decide +kernel

/-- The state after reset, in an operating state of its own. -/
def inState (o : OpState) : State := { State.reset with op := { State.reset.op with state := o } }

/-- `s` with an admitted command of opcode `op` and payload `p` running on tag 0. -/
def withCmd (op : Nat) (p : List Byte) (s : State) : State :=
  { s with mbx := { s.mbx with
      mem := memWrite s.mbx.mem 16 p
      tags := upd s.mbx.tags 0 (fun t => { t with st := .running, admitted := true, opcode := op, len := p.length }) } }

/-- `s` with parameter values. -/
def withPar (l : List (Nat × Int)) (s : State) : State := { s with par := { s.par with work := l } }

/-- Parameters with which every check of ENABLE passes. -/
def enablePars : List (Nat × Int) :=
  (List.range 6).flatMap (fun k => [((P.senseGainARaw (k + 1)).1, 1), ((P.senseGainBRaw (k + 1)).1, 1),
    ((P.gdDidtLsk (k + 1)).1, 1000), ((P.gdDidtThr (k + 1)).1, 10)] ++
    (List.range 8).flatMap (fun b => [((P.gdProfOn b (k + 1)).1, 16), ((P.gdProfOff b (k + 1)).1, 16)])) ++
  [(P.senseOcTrip.1, 1000), (P.loopTMaxMot.1, 1), (P.loopTMaxGen.1, 1), (P.smTqAbsLim.1, 1), (P.loopMode.1, 0),
   (P.safetyDisR.1, 100), (P.safetyDisC.1, 1)]

/-- READY with every link and die trained and `enablePars`. -/
def enableState : State := withPar enablePars { inState .ready with
  jx := ⟨⟨[.full], false⟩, six ⟨[.full], false⟩, [], none, []⟩
  gd := six { State.reset.gd.uh with trained := true, powered := true }
  loop := { State.reset.loop with
    active := ([P.loopIqKpTab, P.loopIdKpTab, P.loopSpdKpTab].map (fun t => [(t * 256 + 1, 1), (t * 256 + 0x41, 1)])).flatten } }

def f0 : Frame := ⟨0, 1, 0, false, true, false⟩
def fb0 : FbStart := ⟨0, 0, 0, 0, 0, []⟩
def z12 : List Int := List.replicate 12 0
def cal0 : CalMeas := ⟨z12, z12, z12, z12, z12, z12, z12, 0⟩
def boot0 : BootIn := ⟨true, [], true, [], 0, true, fb0, cal0, none, none, true, 0, 0, none, none, false, ⟨0, 0⟩⟩
def can0 : CanFrame := ⟨0, 0, false, false, false, [], [], 0⟩
def smp0 : Sample := ⟨z12, List.replicate 12 [], 0, 0, 0, 0, 0, true⟩

/-! ## Worked examples of the spec -/

/-- CRC-32C of "123456789" (R474). -/
theorem test_crc32c : crc32c [0x31, 0x32, 0x33, 0x34, 0x35, 0x36, 0x37, 0x38, 0x39] = 0xE3069283 := by decide +kernel

/-- The header of a read of HB_OP_STATE has CRC 0xBA66 (the worked example after R528). -/
theorem test_header_crc : crc16 (wordBytes 0x10010010) = 0xBA66 := by decide +kernel

/-- One phase-current sample: code 12,500, offset 3,328, gain 205,619 at shift 4 (R112). -/
theorem test_scale : scale (xOfCode 12500) 3328 205619 4 = 55321149 := by decide +kernel

/-- The table of the q-axis example (R240): breakpoints 0 and 1, kp from 2 on, span 320 A, shift 24. -/
def kpState : State := { State.reset with loop := { State.reset.loop with active :=
  [(P.loopIqKpTab * 256 + 1, 151796674), (P.loopIqKpTab * 256 + 2, 202395565), (P.loopIqKpTab * 256 + 3, 252994456),
   (P.loopIqKpTab * 256 + 0x80, 24), (P.loopIqKpTab * 256 + 0x81, 20971520)] } }

theorem test_gain : gain kpState P.loopIqKpTab 458752 = 187215898 ∧ gainMul kpState P.loopIqKpTab 458752 = 5119185 ∧
    gainMul kpState P.loopIqKpTab 655360 = 7906077 := by decide +kernel

/-- 1,500 N m with id = -150 A on the reference machine gives iq = 33,334,690 (R252). -/
theorem test_current_refs :
    let s := withPar [(P.obsMachPsi.1, 379000), (P.obsMachLd.1, 0), (P.obsMachLq.1, 750000), (P.loopIMax.1, 1000)]
      { State.reset with loop := { State.reset.loop with idfw := -150 * 65536 } }
    currentRefs s 384000 = (-9830400, 33334690, false) := by decide +kernel

/-- The SSI encoder of the example: n = 28 at 8,000 kHz with t_rt = 456 ns gives D = 4,121 ns and a frame at every update
(R162). -/
theorem test_ssi :
    let s := withPar [(P.fbSsiStBits.1, 20), (P.fbSsiStatusBits.1, 2), (P.fbSsiCheck.1, 3), (P.fbSsiTm.1, 4000)]
      { State.reset with
        fb := { State.reset.fb with ssiRate := 8000, ssiTrt := 456 }
        mod := { State.reset.mod with h := 100000 } }
    ssiFrameNs s = 4121 ∧ ssiEvery s = 1 := by decide +kernel

/-- The NOP of the example: header bytes on tag 5, SEQUENCE 0x2A, entry at index 17, tail 18 (the worked example after
R528). -/
theorem test_nop :
    let h : List Byte := [0x00, 0x05, 0x00, 0x00, 0x00, 0x00, 0x00, 0x00, 0x00, 0x00, 0x00, 0x2A, 0x00, 0x00]
    let s0 := { inState .standby with
      boot := { State.reset.boot with rom := false }
      mbx := { State.reset.mbx with tail := 17, head := 17 } }
    let d := toWords (h ++ beBytes 2 (crc16 h))
    let r := match exec (.eyeletWrite (frameOf 0x38040500 d) true 0x0500 d) s0 with
      | .next s1 => match exec .commandAdmission s1 with
        | .next s2 => match exec (.nop 5) s2 with | .next s3 => s3 | _ => s2
        | _ => s1
      | _ => s0
    r.mbx.tail = 18 ∧ (tag r 5).st = .done ∧ r.mbx.irq % 2 = 1 ∧
    memRead r.mbx.mem (ringAt 17) 12 = [0x05, 0x00, 0x00, 0x00, 0, 0, 0, 0, 0x00, 0x00, 0x00, 0x2A] := by decide +kernel

/-! ## Well-formedness: every check refuses a term -/

theorem test_wf_accepts : [Instr.regRead f0 0x10 1, .regRead (frameOf 0x10010010 []) 0x10 1, .nop 127,
    .laneTrainingDone .hb 3 true, .boot boot0, .samplingTrigger smp0, .calibrationComplete cal0, .fbRestart 0 fb0,
    .referenceMessageReceived can0, .eccCorrection .hb 0 0 1].all (fun i => i.wellFormed) = true := by decide +kernel

theorem test_wf_refuses_port : [Instr.regRead { f0 with raw := 2 ^ 32 } 0x10 1, .regRead { f0 with hcrc := 65536 } 0x10 1,
    .regRead { f0 with dcrc := 65536 } 0x10 1, .regRead (frameOf 0x10010010 []) 0x14 1,
    .regRead (frameOf 0x10010010 []) 0x10 2, .regWrite (frameOf 0x10010010 []) 0x10 [0],
    .eyeletWrite (frameOf 0x30000500 []) true 0x0500 [], .regRead f0 65536 1, .regRead f0 0 512,
    .eyeletRead f0 65536 1, .cqRead f0 0 512, .hello f0 65536 [], .regWrite f0 65536 [], .eyeletWrite f0 false 65536 [],
    .frameStall f0 16 0 0 0, .frameTruncated f0 3 0 2053, .doorbell { f0 with raw := 2 ^ 32 } 0, .rcRegisterRead f0 2,
    .rcRegisterRead f0 65536, .resetCtrlPackageReset f0 256 false, .resetCtrlBistReset f0 256 false,
    .resetCtrlRecoveryReset f0 256 false, .nop 128, .cancel 128 true, .commandStep 128,
    .fieldSideReply 128].any (fun i => i.wellFormed) = false := by decide +kernel

theorem test_wf_refuses_field : [Instr.laneErrorLimit .hb 4 0, .laneTrainingDone .fc 0 true,
    .laneTrainingDone (.gd .uh) 2 true, .linkLost .fc, .heelReceived .fc .pi, .ptDisciplineExchange .fc 0,
    .ptOffsetWarning .fc, .heelReport .uh .sc (List.replicate 6 (.ul, .uv)), .lockoutLeave .fc [0, 0, 0, 0, 0] [] false [],
    .lockoutLeave .fc [] (List.replicate 9 (true, true)) false [], .lockoutLeave .fc [] [] false [0, 0, 0],
    .thermalShutdownLeave .fc [] (List.replicate 9 (true, true)) 0 0, .boot { boot0 with lanes := List.replicate 8 [] },
    .boot { boot0 with bad := 32 }, .boot { boot0 with rot := ⟨8, 0⟩ }, .boot { boot0 with rot := ⟨0, 8⟩ },
    .shutdownDrainEnd 0 [] [] (some (0x22, 0)), .shutdownDrainEnd 0 [] [] (some (0x23, 17)),
    .fbRestart 0 { fb0 with hall := 8 }, .fbRestart 0 { fb0 with resPhase := 65536 },
    .fbRestart 0 { fb0 with cands := [⟨[0], [], []⟩] }, .calibrationComplete { cal0 with offA := [] },
    .samplingTrigger { smp0 with uvA := [] }, .samplingTrigger { smp0 with clkB := [] },
    .pathAConversion 12 0, .overcurrentTrip 6, .overvoltageTrip 2, .overvoltageTrip 8,
    .sumCheckFailed 2, .openInput 12, .stuckChannel 6, .pathBOverload 12, .referenceOutOfTolerance 24,
    .transducerSupplyFault 2, .hkAdcSuspect 24, .housekeepingRound ⟨[], 3300, [0, 0, 0, 0], 0, [], []⟩,
    .illegalLimitExceeded 2].any (fun i => i.wellFormed) = false := by decide +kernel

theorem test_wf_refuses_rest : [Instr.hallStateChange 8 0, .wireFault 12 0, .frozenSource 5, .awlSequenceEnd ⟨[]⟩,
    .awlSequenceEnd ⟨List.replicate 15 [0]⟩, .tableCommitCopy 65536, .switchInputChange 3 true, .switchDebounced 3,
    .switchChatter 3, .switchChatterEnd 3, .gateVoltageFault .uh 0 0 0, .gateVoltageFault .uh 5 0 0,
    .ntcConversion .uh 4096, .diagnosticComplete [], .diagnosticComplete (List.replicate 6 ⟨[], [], [], []⟩),
    .resyncCopyDone 3, .resyncRendezvous 3 [0, 0, 0], .resyncRendezvous 0 [], .weltSelfTest [] [] true true,
    .checkerDisagreement [] [], .laneFault 3, .brakeTestPulseEnd 2, .safeMessageReceived .a [], .canAttemptEnd .a 8 .error,
    .canTxDeadline .a 8 true, .canErrorFlag .a 8 true, .referenceMessageReceived { can0 with word := 2 ^ 32 },
    .canFrameReceived .a { can0 with kind := 3 }, .eccCorrection .hb 16 0 1, .eccCorrection .hb 0 (2 ^ 32) 1,
    .eccCorrection .hb 0 0 255, .eccUncorrectable .hb 16 0 .mram true, .scrubRead .hb 0 0 (.single 255), .scrubPassLate .hb 16,
    .mergeBufferFlush .hb 0 0 256 none, .rowMigration .hb 16 0, .memoryTestBlock [(0, 0, 72)] none,
    .memoryTestBlock [(3, 0, 0)] none, .sensorBroken 17, .temperatureWarning 17, .temperatureWarningClear 17,
    .temperatureStopLevel 17, .fwStageEnd 0 ⟨0, 64, 0, 0, 0, 0, none, 0, 0⟩].any (fun i => i.wellFormed) = false := by
  decide +kernel

theorem witness_StepIdle : State.reset.pending = [] := by decide +kernel

theorem witness_MailboxInvariant : memWf State.reset.mbx.mem = true ∧
    replay State.reset.cp.ckpt State.reset.cp.journal = State.reset.mbx.tags ∧ State.reset.cp.ckpt.length = 128 := by
  decide +kernel

theorem witness_LogInvariant : State.reset.evt.vlog.length ≤ 4096 ∧ State.reset.evt.plog.length ≤ 16384 ∧
    State.reset.evt.pq.length ≤ 64 ∧ State.reset.evt.fcq.length ≤ 256 ∧ State.reset.evt.seq ≤ State.reset.evt.reserve := by
  decide +kernel

theorem witness_SecVerNeverFalls : State.reset.boot.raise = none := by decide +kernel

theorem witness_SerialFixed : State.reset.id.serial = Config.serial := rfl

theorem witness_DebugUnlockOnlyByResponse :
    let s := { State.reset with tap := { State.reset.tap with challenge := some 5 } }
    s.tap.unlocked = false ∧ (match exec (.dbgResp true) s with | .next t => t.tap.unlocked | _ => false) = true := by
  decide +kernel

theorem witness_HeldOrderNeverFalls :
    (match exec .overspeed { State.reset with
        op := { State.reset.op with state := .run }, heel := { State.reset.heel with fc := some .ascLow } } with
      | .next _ => true | _ => false) = true := by decide +kernel

theorem witness_LePairMismatch :
    let s := { State.reset with pairs := { State.reset.pairs with le23 := ⟨[], true, .early, 7, 2, false, false⟩ } }
    s.supply.fcLock = false ∧ (lePair s .le23).persistent = false ∧ 2 ≤ (lePair s .le23).flagRun := by decide +kernel

theorem witness_LePairMismatch_stamps :
    let s := { State.reset with pairs := { State.reset.pairs with le01 := ⟨[0, 0, 0], true, .late, 7, 1, false, false⟩ } }
    (lePair s .le01).persistent = false ∧
      3 ≤ ((lePair s .le01).stamps.filter (fun a => s.pt.ns < a + 1000000000)).length := by decide +kernel

theorem witness_CpMismatchLosesNothing :
    State.reset.pairs.cp.held = false ∧ State.reset.supply.hbLock = false ∧
    replay State.reset.cp.ckpt State.reset.cp.journal = State.reset.mbx.tags := by decide +kernel

theorem witness_CpRestart :
    let s := { State.reset with pairs := { State.reset.pairs with cp := ⟨[0, 0, 0], false, .waiting, 0, 0, false, false⟩ } }
    let r := { State.reset with pairs := { State.reset.pairs with cp := ⟨[], true, .waiting, 0, 0, false, false⟩ } }
    s.pairs.cp.held = false ∧ s.pairs.cp.restarting = false ∧ (memCtl s 0).merge = [] ∧ r.pairs.cp.restarting = true ∧
    3 ≤ (s.pairs.cp.stamps.filter (fun a => s.pt.ns < a + 1000000000)).length := by decide +kernel

theorem witness_ClockFaults : State.reset.clk.hclkRc = false ∧ State.reset.supply.hbLock = false ∧
    State.reset.clk.fcRc = false ∧ State.reset.supply.fcLock = false ∧ (Die.fc).id ∉ State.reset.clk.pll ∧
    dieDown State.reset .fc = false := by decide +kernel

theorem witness_LanesAndLinks :
    let l : LinkState := ⟨[.full, .full, .training 2, .training 4], false⟩
    let s := { State.reset with jx := { State.reset.jx with hb := l } }
    (link s .hb).lost = false ∧ s.supply.fcLock = false ∧
    (par s P.jxLaneErrLimit).toNat ≤ laneErrors .hb 0 (countErrors .hb 0 100 s) ∧
    laneErrors .hb 0 (countErrors .hb 0 1 s) < (par s P.jxLaneErrLimit).toNat ∧
    laneUp (nth s.jx.hb.lanes 0 .untrained) = true ∧ ((s.jx.hb.lanes.eraseIdx 0).any (· == .full)) = true ∧
    nth (link s .hb).lanes 2 .untrained = .training 2 ∧ nth s.jx.hb.lanes 3 .untrained = .training 4 ∧
    (s.jx.hb.lanes.any (· == .full)) = true := by decide +kernel

theorem witness_HbLosesItsLink :
    let s := { State.reset with gd := six { State.reset.gd.uh with trained := true, powered := true } }
    s.saf.fcLoss = none ∧ s.supply.hbLock = false ∧ (s.gd.get .uh).powered = true ∧
    s.supply.gdLock.get .uh = false ∧ (s.gd.get .uh).trained = true ∧
    s.supply.fcLock = false := by decide +kernel

theorem witness_PackageTime :
    let s := { State.reset with
      jx := ⟨⟨[.full, .full], false⟩, State.reset.jx.gd, [⟨0, [0, 3]⟩, ⟨1, [2]⟩], none, []⟩
      pt := { State.reset.pt with ns := 1000000, hb := ⟨400, 0, true, some 0, false⟩ } }
    s.supply.fcLock = false ∧ fullLanes (link s .hb) ≠ 0 ∧ s.pt.hb.outSince = some 0 ∧ 0 + 1000000 ≤ s.pt.ns ∧
    s.pt.hb.warned = false ∧ s.jx.barriers = ⟨0, [0, 3]⟩ :: [⟨1, [2]⟩] ∧ dieMask [0, 3] = 9 := by decide +kernel

theorem witness_Snapshots :
    let m := memWrite [] 16 [0, 0, 0, 0, 0, 0, 0x10, 0]
    let s := { State.reset with mbx := { State.reset.mbx with
      mem := m
      tags := upd State.reset.mbx.tags 0 (fun t => { t with st := .running, admitted := true, opcode := 0x34, len := 8 }) } }
    canStart s 0 0x34 = true ∧ s.snap.pending = none ∧ ptNow s + 2000 ≤ beNat (payload (start 0 s) 0) ∧
    s.supply.fcLock = false := by decide +kernel

theorem witness_StoChannels :
    let s := { State.reset with
      pt := { State.reset.pt with ns := 20000000000 }
      jx := { State.reset.jx with hb := ⟨[.full], false⟩ }
      saf := { State.reset.saf with stoFilt := ⟨false, false⟩, stoDiff := some 0, stoMsg := some true } }
    let t := { s with saf := { State.reset.saf with stoTest := some false, stoMsg := some false } }
    s.saf.stoRaw.get .a ≠ false ∧ s.supply.hbLock = false ∧ s.saf.stoTest = none ∧ s.saf.stoFilt.b = false ∧
    s.saf.stoRaw.b = true ∧ s.saf.stoSince.b + (par s P.safetyStoFilter).toNat * 100000 ≤ s.pt.ns ∧ s.saf.fcLoss = none ∧
    s.saf.stoTxAt + 30000 ≤ s.pt.ns ∧ s.saf.stoMsg = some true ∧ s.supply.fcLock = false ∧
    linkUp s.jx.hb = true ∧ t.saf.stoMsg = some false ∧ linkUp t.jx.hb = true ∧ s.saf.stoDiff = some 0 ∧
    0 + (par s P.safetyStoDiscTime).toNat * 1000000 ≤ s.pt.ns ∧ s.saf.stoDisc = false ∧
    t.saf.stoTest = some false ∧ t.saf.stoTestAt + stoTestNs t ≤ t.pt.ns ∧ 0 < stoTestNs t := by decide +kernel

theorem witness_StoOrdersPi :
    let s := { inState .run with
      pt := { State.reset.pt with ns := 1000000000 }, saf := { State.reset.saf with stoFilt := ⟨false, false⟩ } }
    s.op.state = .run ∧ s.supply.hbLock = false ∧ s.saf.stoTest = none ∧ s.saf.stoFilt.a = false ∧
    s.saf.stoRaw.a = true ∧ s.saf.stoSince.a + (par s P.safetyStoFilter).toNat * 100000 ≤ s.pt.ns ∧ s.heel.fc = none := by decide +kernel

theorem witness_SafeSpeedLimits :
    let s := { inState .stopping with
      pt := { State.reset.pt with ns := 700000000000 }
      saf := { State.reset.saf with stop := some ⟨0, 0, 0, 3, some 0⟩, smsRun := 2, sls := true, slsRun := 2, brkRel := true }
      par := { State.reset.par with work := [(P.safetyBrkEnable.1, 1)] } }
    let b := { s with saf := { State.reset.saf with stop := some ⟨0, 0, 0, 0, some 0⟩, brkAt := some 0 } }
    let d := { inState .safeHold with
      pt := { State.reset.pt with ns := 100000000 }, saf := { State.reset.saf with sdsSince := some 0 } }
    let d := { d with op := { d.op with speedDependent := true }, heel := { d.heel with fc := some .ascLow } }
    s.saf.stop = some ⟨0, 0, 0, 3, some 0⟩ ∧ 0 + (par s P.safetySs1Time).toNat * 1000000 ≤ s.pt.ns ∧
    0 + 10000000 ≤ s.pt.ns ∧ s.saf.brkRel = true ∧
    s.op.state = .stopping ∧ par s P.safetyBrkEnable = 1 ∧ 2 ≤ s.saf.smsRun ∧ s.saf.sls = true ∧ 2 ≤ s.saf.slsRun ∧
    b.saf.stop = some ⟨0, 0, 0, 0, some 0⟩ ∧ b.op.state = .stopping ∧ brakeHeld b = true ∧
    d.op.state = .safeHold ∧ d.op.speedDependent = true ∧
    d.saf.sdsSince = some 0 ∧ 0 + 100000000 ≤ d.pt.ns ∧ d.heel.fc = some .ascLow := by decide +kernel

theorem witness_BrakeSwitches :
    let p := { State.reset.par with work := [(P.safetyBrkEnable.1, 1)] }
    let s := { inState .run with
      par := p, saf := { State.reset.saf with brkRel := true, fcLoss := none, ctlAt := some 0 }
      pt := { State.reset.pt with ns := 100000000000000 }
      mod := { State.reset.mod with running := true } }
    let r := { inState .ready with par := p, saf := { State.reset.saf with brkDue := [true, false] } }
    s.op.state = .run ∧ s.mod.running = true ∧ brakeApplied s = false ∧ brakeApplied State.reset = true ∧
    par s P.safetyBrkEnable = 1 ∧ s.saf.brkTest = none ∧ s.supply.hbLock = false ∧ s.saf.brkRel = true ∧
    s.saf.ctlAt = some 0 ∧ 0 + (par s P.safetyBrkReleaseDelay).toNat * 1000000 ≤ s.pt.ns ∧
    s.saf.brkTestAt + (par s P.safetyBrkTestPeriod).toNat * 1000000000 ≤ s.pt.ns ∧
    0 + (par s P.safetyBrkTestPulse).toNat * 1000 ≤ s.pt.ns ∧ r.saf.brkDue = true :: [false] ∧
    r.saf.brkRel = false ∧ r.op.state = .ready ∧ par r P.safetyBrkEnable = 1 ∧ r.saf.brkTest = none := by decide +kernel

theorem witness_Contactors :
    let s := { inState .standby with
      pt := { State.reset.pt with ns := 100000000000 }
      saf := { State.reset.saf with
        kAt := kon (some 0), kCmd := ⟨true, false, false⟩, kFb := ⟨false, true, false⟩, fcLoss := some 0 } }
    let x := { s with saf := { s.saf with kFb := ⟨true, false, false⟩, check := some (0, 0, true) } }
    let y := { s with saf := { s.saf with check := some (0, 0, false) } }
    let c := withCmd 0x33 [0, 0, 0, 0] (inState .standby)
    konGet s.saf.kFb .neg ≠ true ∧ s.supply.hbLock = false ∧ s.saf.dis = none ∧ s.op.state ≠ .safeHold ∧
    s.saf.pre = none ∧ konGet s.saf.kAt .neg = some 0 ∧ 0 + 100000000 ≤ s.pt.ns ∧
    konGet s.saf.kFb .pos = konGet s.saf.kCmd .pos ∧ x.saf.check = some (0, kontNum .neg, true) ∧
    konGet x.saf.kFb .neg = true ∧ y.saf.check = some (0, kontNum .neg, false) ∧ konGet y.saf.kFb .neg = false ∧
    0 + (par s P.safetyContFcLossHold).toNat * 1000000000 ≤ s.pt.ns ∧ s.saf.check = none ∧ konGet s.saf.kCmd .neg = true ∧
    konGet s.saf.kFb .neg = false ∧ konGet s.saf.kCmd .pre = false ∧ konGet s.saf.kFb .pre = true ∧
    s.op.state ≠ .discharge ∧ canStart c 0 0x33 = true ∧ c.op.state = .standby ∧ c.saf.check = none ∧
    (nth (payload (start 0 c) 0) 0 0).toNat = 0 ∧ s.saf.fcLoss = some 0 := by decide +kernel

theorem witness_PrechargeSequence :
    let s := withCmd 0x20 [] (withPar ((P.sysBootGdSupply.1, 1) :: (List.range 6).map (fun i => ((P.gdDiagMode (i + 1)).1, 0))) { inState .standby with
      last := { State.reset.last with sealed := true }
      jx := ⟨⟨[.full], false⟩, six ⟨[.full], false⟩, [], none, []⟩
      gd := six { State.reset.gd.uh with trained := true } })
    let w := withPar [(P.safetySrcMode.1, 2)] { inState .precharge with
      pt := { State.reset.pt with ns := 20000000000 }
      saf := { State.reset.saf with
        pre := some ⟨0, .weld, 0, some 0, 0, none, false⟩, kFb := ⟨true, false, false⟩, vsrc := some 20 } }
    let hot := { w with saf := { w.saf with pre := some ⟨0, .weld, 0, some 0, 2 * 65536, none, false⟩ } }
    let c := { w with saf := { w.saf with pre := some ⟨0, .charge, 0, none, 0, none, false⟩ }
                      sense := { w.sense with ya := List.replicate 12 (20 * 65536) } }
    let o := { w with saf := { w.saf with pre := some ⟨0, .opening, 0, none, 0, none, false⟩, kFb := ⟨true, true, true⟩ } }
    canStart s 0 0x20 = true ∧ s.op.state = .standby ∧
    (∀ p ∈ GdPos.all, requiredDie s p = true → (s.gd.get p).trained = true) ∧ s.op.commissioning = false ∧
    s.last.sealed = true ∧ s.tap.unlocked = false ∧ s.sense.cal = none ∧ s.diag = none ∧ s.saf.coolUntil ≤ s.pt.ns ∧
    s.saf.check = none ∧ s.op.maxClass < 3 ∧ anyWeld s = false ∧ diagFailed s = false ∧ linksFull s = true ∧
    s.sense.vdcSuspect = 0 ∧ diagOrdered s = false ∧ w.saf.pre = some ⟨0, .weld, 0, some 0, 0, none, false⟩ ∧
    0 + 20000000 ≤ w.pt.ns ∧ vSrc w = some (20 * 65536) ∧ 10 * max 0 (vdcSel w) < 20 * 65536 ∧
    hot.saf.pre = some ⟨0, .weld, 0, some 0, 2 * 65536, none, false⟩ ∧ (20 * 65536 : Int) ≤ 10 * max (2 * 65536) (vdcSel hot) ∧
    chargeReached ⟨0, .charge, 0, none, 0, none, false⟩ c = true ∧ o.saf.kFb.pre = true ∧ o.supply.hbLock = false ∧
    o.saf.dis = none ∧ w.saf.kFb.pos = false ∧ 0 + (par w P.safetyPreTime).toNat * 1000000 ≤ w.pt.ns := by decide +kernel

theorem witness_DischargePaths :
    let s := withCmd 0x24 [0, 0, 0, 0] (withPar [(P.safetyDisR.1, 100)] (inState .standby))
    let d : DisRun := ⟨some 0, 0, true, false, some 0, 2, false, 0, 0, 0, some 0⟩
    let f := withPar [(P.safetyDisId.1, 0)] { inState .discharge with
      pt := { State.reset.pt with ns := 3000000000 }
      saf := { State.reset.saf with dis := some d, disOn := true } }
    let h := { f with sense := { f.sense with ya := List.replicate 12 (60 * 65536) } }
    canStart s 0 0x24 = true ∧ s.op.state = .standby ∧ (nth (payload (start 0 s) 0) 0 0).toNat = 0 ∧
    parN s P.safetyDisR ≠ 0 ∧ f.saf.dis = some d ∧ f.saf.disOn = true ∧ 2 ≤ d.fails ∧ windingAllowed f = false ∧
    d.winding = true ∧ d.onSince = some 0 ∧ 0 + 210000000 ≤ h.pt.ns ∧ 9 * d.v0 < 10 * vdcSel h ∧ d.posOpen = some 0 ∧
    0 + 3000000000 ≤ h.pt.ns ∧ 60 * 65536 ≤ vdcSel h ∧ h.saf.dis = some d ∧ f.op.state = .discharge ∧ vdcSel f < 60 * 65536 := by decide +kernel

theorem witness_SafeMessages :
    let s := withPar [(P.safetyCmsgEnable.1, 1), (P.safetyCmsgRxId.1, 0x1234)] { State.reset with
      pt := { State.reset.pt with ns := 100000000000 }
      boot := { State.reset.boot with done := true } }
    let b : List Byte := [0x12, 0x34, 0, 1, 0, 0, 0, 0, 0, 0, 0, 7]
    let good := b ++ beBytes 4 (crc32c b)
    let bad := b ++ beBytes 4 (crc32c b + 1)
    par s P.safetyCmsgEnable = 1 ∧ s.supply.hbLock = false ∧ good.length = 16 ∧ bad.length = 16 ∧
    beNat (good.take 2) = parN s P.safetyCmsgRxId ∧ beNat (bad.take 2) = parN s P.safetyCmsgRxId ∧
    crc32c (bad.take 12) ≠ beNat (bad.drop 12) ∧ crc32c (good.take 12) = beNat (good.drop 12) ∧
    s.nt.aligned = false ∧ s.saf.cand = ⟨none, none⟩ ∧ s.saf.msgSeq = none ∧ s.saf.cmsgMissed = false ∧
    s.boot.done = true ∧ s.saf.msgAt + (par s P.safetyCmsgDeadline).toNat * 1000000 ≤ s.pt.ns := by decide +kernel

theorem witness_AckAndShutdown :
    let g := { State.reset.gd.uh with powered := true }
    let s := withCmd 0x23 [] { inState .safeHold with
      gd := six g, saf := { State.reset.saf with fcSto := false, stoFilt := ⟨false, false⟩ } }
    let f := withCmd 0x23 [] (inState .safeHold)
    let d := withCmd 0x25 [] (inState .standby)
    canStart s 0 0x23 = true ∧ s.op.state = .safeHold ∧ causeStands s = false ∧ s.supply.hbLock = false ∧
    s.saf.fcLoss = none ∧ canStart f 0 0x23 = true ∧ causeStands f = true ∧ 0 < f.mbx.tags.length ∧
    canStart d 0 0x25 = true ∧ d.op.state = .standby ∧ vdcBelow60 d = true := by decide +kernel

theorem witness_HardwareTrips :
    let z := State.reset.sense
    let s := withPar [(P.senseVdcOvTrip.1, 1), (P.senseOcTrip.1, 1), (P.senseOcCount.1, 2), ((P.senseGainARaw 1).1, 16384),
      ((P.senseGainARaw 7).1, 16384)] { State.reset with
      sense := { z with ocRun := [2], ovRun := [2, 2], ovWarnRun := 10, uvSince := some 0 }
      pt := { State.reset.pt with ns := 1000000 } }
    let x := { s with sm := { s.sm with xover := true } }
    let t := { s with sense := { s.sense with ocTrip := 1, ovWarn := true, ovClearRun := 10 } }
    s.supply.fcLock = false ∧ testSource s = false ∧ lostA s 0 = false ∧ 0 < par s P.senseOcTrip ∧
    (gainA s 0).1 ≠ 0 ∧ par s P.senseOcTrip * 65536 < ((scaleA s 0 (xOfCode (codeOfUv 2000000))).natAbs : Int) ∧
    bitOf t.sense.ocTrip 0 = true ∧ ((scaleA t 0 (xOfCode (codeOfUv 0))).natAbs : Int) ≤ par t P.senseOcTrip * 65536 ∧
    lostA s 6 = false ∧ par s P.senseVdcOvTrip * 65536 < scaleA s 6 (xOfCode (codeOfUv 2000000)) ∧
    parN s P.senseOcCount ≤ nth s.sense.ocRun 0 0 ∧ bitOf s.sense.ocTrip 0 = false ∧
    2 ≤ nth s.sense.ovRun (7 - 6) 0 ∧ bitOf s.sense.ovTrip (7 - 6) = false ∧ lostA s 7 = false ∧ x.sm.xover = true ∧
    s.sm.xover = false ∧ 10 ≤ s.sense.ovWarnRun ∧ s.sense.ovWarn = false ∧ 10 ≤ t.sense.ovClearRun ∧
    t.sense.ovWarn = true ∧ s.sense.uvSince = some 0 ∧ 0 + 1000000 ≤ s.pt.ns ∧ s.sense.uvRec = false := by decide +kernel

theorem witness_CrossChecks :
    let z := State.reset.sense
    let s := { State.reset with
      pt := { State.reset.pt with ns := 3000000 }
      sense := { z with
        failed := [5, 2, 1], verdict := [some 0, some 0, none], sumRun := [8, 8], vdcRun := 16, termRun := [16] } }
    let o := { s with sense := { s.sense with lostA := 8 } }
    let r := { inState .run with sense := { z with vdcArb := some 100 } }
    testSource s = false ∧ s.supply.fcLock = false ∧ nth s.sense.failed Phase.w.idx 0 ≠ 0 ∧ nth s.sense.verdict Phase.w.idx none = none ∧
    nth s.sense.verdict Phase.u.idx none = some 0 ∧ 0 + 3000000 ≤ s.pt.ns ∧ nth s.sense.failed Phase.u.idx 0 = 5 ∧
    nth s.sense.verdict Phase.v.idx none = some 0 ∧ nth s.sense.failed Phase.v.idx 0 = 2 ∧
    8 ≤ nth s.sense.sumRun 0 0 ∧ bitOf s.sense.sumFail 0 = false ∧ usable s.sense.lostA (1 - 0) = true ∧
    8 ≤ nth o.sense.sumRun 0 0 ∧ usable o.sense.lostA 0 = true ∧ usable o.sense.lostA (1 - 0) = false ∧
    16 ≤ s.sense.vdcRun ∧ s.sense.vdcArb = none ∧ r.sense.vdcArb = some 100 ∧ r.op.state = .run ∧
    16 ≤ nth s.sense.termRun Phase.u.idx 0 ∧ lostA s (8 + Phase.u.idx) = false := by decide +kernel

theorem witness_ChannelLosses :
    let z := State.reset.sense
    let w := List.replicate 64 8192
    let v := List.replicate 32 0 ++ List.replicate 32 16383
    let s := { State.reset with sense := { z with
      openRun := [4], ovlRun := [8], stuckWin := [w, v, v], hkFail := List.replicate 24 2 } }
    let b := withCmd 0x30 [] (inState .standby)
    let c := { s with sense := { s.sense with cal := some ⟨0, some 0⟩ }, pt := { s.pt with ns := 20000000 } }
    4 ≤ nth s.sense.openRun 0 0 ∧ (lostA s 0 && lostB s 0) = false ∧ lostA s 0 = false ∧ stuck s 0 = true ∧ 8 ≤ nth s.sense.ovlRun 0 0 ∧ lostB s 0 = false ∧
    2 ≤ nth s.sense.hkFail (3 + 2) 0 ∧ s.sense.bandgap = false ∧ s.sense.hkSuspect = false ∧
    2 ≤ nth s.sense.hkFail 6 0 ∧ 2 ≤ nth s.sense.hkFail (7 + 1) 0 ∧ 2 ≤ nth s.sense.hkFail 23 0 ∧
    canStart b 0 0x30 = true ∧ b.op.state = .standby ∧ b.sense.cal = none ∧ c.sense.cal = some ⟨0, some 0⟩ ∧
    0 + 20000000 ≤ c.pt.ns := by
  decide +kernel

theorem witness_CountingSources :
    let s := withPar [(P.fbIncIllegalMax.1, 0), (P.fbIncIllegalWindow.1, 10), (P.fbIdxMode.1, 2), ((P.fbHallMap 1).1, 1)]
      { State.reset with
        fb := { State.reset.fb with illegal := [0], hallKnown := true, hallSector := 0, idxPending := some 9 }
        sense := { State.reset.sense with hkFail := List.replicate 24 2 } }
    let r := { s with fb := { s.fb with cref := some 0 } }
    let v := withPar [(P.fbSrcPrimary.1, 1), (P.fbSrcSecondary.1, 2), (P.fbIncLines.1, 1024), (P.fbSsiStBits.1, 12)] { s with
      fb := { s.fb with idxPending := some 9, ssiPos := 0, w := [0, 0, 0, 0], c := 0 } }
    s.supply.fcLock = false ∧ (!s.fb.a) ≠ s.fb.a ∧ srcLost s 1 = false ∧
    parN s P.fbIncIllegalMax < (s.fb.illegal.filter (fun t => s.pt.ns < t + parN s P.fbIncIllegalWindow * 1000000)).length ∧
    parN s P.fbIdxMode ≠ 0 ∧ parN s P.fbIdxMode ≠ 1 ∧ s.fb.idxOff = false ∧ s.fb.cref = none ∧ r.fb.cref = some (0 : Int) ∧
    idxDev (incN r) (r.fb.c - 0) = 0 ∧ parN s P.fbIncFilter ≤ 1000 ∧ v.fb.idxPending = some 9 ∧ absSecondary v = true ∧
    ((v.fb.c * 65536 - convCounts v (srcPos v (secondary v)) (secondary v) 1).natAbs : Int) ≤ par v P.fbXchkLim * 65536 ∧
    parN s P.fbHallFilter ≤ 1000000000 ∧ s.fb.idxPending = some 9 ∧ absSecondary s = false ∧ s.fb.hallKnown = true ∧
    (parN s (P.fbHallMap 1) + 6 - s.fb.hallSector) % 6 = 1 ∧ srcLost s 4 = false ∧ 2 ≤ nth s.sense.hkFail 9 0 ∧
    s.sense.hkSuspect = false := by decide +kernel

theorem witness_AbsoluteSources :
    let s := withPar [(P.fbSsiStaleMax.1, 3), (P.fbSrcPrimary.1, 1), (P.fbSrcSecondary.1, 2), (P.fbXchkCount.1, 4),
        (P.fbFrozenN.1, 4)] { State.reset with
      fb := { State.reset.fb with ampRun := 4, trkRun := 4, ssiRunning := true, ssiRun := 3, xchkRun := 4, frozenRun := [4, 4, 4, 4] }
      sense := { State.reset.sense with hkFail := List.replicate 24 2 } }
    let c := withCmd 0x31 [] (inState .standby)
    let q := withPar [(P.fbSsiStBits.1, 4), (P.fbSsiJump.1, 20)] { State.reset with
      pt := { State.reset.pt with ns := 1000000 }, fb := { State.reset.fb with ssiRunning := true, ssiRate := 1000, ssiTrt := 400 } }
    let g : SsiFrame := ⟨[false, true, false, true], true, true⟩
    let k := { q with fb := { q.fb with ssiKnown := true, ssiRaw := 3, ssiPos := 3, w := [0, 0, 0, 0] } }
    q.fb.ssiRunning = true ∧ q.supply.fcLock = false ∧ q.fb.ssiT0 + ssiFrameNs q ≤ q.pt.ns ∧ frameCause q g = none ∧
    framePos q g = 6 ∧ q.fb.ssiKnown = false ∧ k.fb.ssiKnown = true ∧ frameCause k g = none ∧
    ((framePos k g : Int) - k.fb.ssiRaw - 3) % 2 ^ parN k P.fbSsiStBits = 0 ∧
    -(2 ^ parN k P.fbSsiStBits) ≤ (2 * 3 : Int) ∧ (2 * 3 : Int) < 2 ^ parN k P.fbSsiStBits ∧
    ((k.fb.ssiPos + 3 - divr (ssiAtPt k (k.fb.ssiT0 + k.fb.ssiTrt / 2)) 65536).natAbs : Int) ≤ par k P.fbSsiJump ∧
    frameCause q { g with startLow := false } = some 2 ∧ ssiAborts q (some 3000) = true ∧ parN s P.fbWireFilter ≤ 1000000 ∧
    bitOf s.fb.wire 2 = false ∧
    4 ≤ s.fb.ampRun ∧ srcLost s 3 = false ∧ 4 ≤ s.fb.trkRun ∧ 2 ≤ nth s.sense.hkFail 10 0 ∧ s.sense.hkSuspect = false ∧
    s.fb.ssiRunning = true ∧ s.supply.fcLock = false ∧ parN s P.fbSsiStaleMax ≤ s.fb.ssiRun ∧ srcLost s 2 = false ∧ bitOf s.fb.wire 1 = false ∧
    parN s P.fbXchkCount ≤ s.fb.xchkRun ∧ primaryUsable s = true ∧ secondary s ≠ 0 ∧ srcLost s (secondary s) = false ∧
    configured s 2 = true ∧ parN s P.fbFrozenN ≤ nth s.fb.frozenRun (2 - 1) 0 ∧ canStart c 0 0x31 = true ∧
    c.op.state = .standby ∧ c.sense.cal = none ∧ c.fb.restart = none := by decide +kernel

theorem witness_ObserversAndBlock :
    let z := State.reset.obs
    let s := withPar [(P.fbSrcPrimary.1, 2), (P.obsResCount.1, 2), (P.obsResRejoin.1, 4), (P.obsCommMode.1, 2)]
      { inState .run with
        pt := { State.reset.pt with ns := 1000000000000 }
        obs := { z with resRun := [2, 2, 2], resDecl := [false, false, false], rejoin := [4, 4], reacq := some 0
                        oe0 := { z.oe0 with run := 16, valid := true }, oe1 := { z.oe1 with run := 16, valid := true } } }
    let v := { s with obs := { s.obs with resRun := [2, 1, 2] } }
    let r := { s with obs := { s.obs with oe0 := { s.obs.oe0 with out := true }, oe1 := { s.obs.oe1 with out := true } } }
    let b := withPar [(P.fbSrcPrimary.1, 0), (P.obsBlkMissMax.1, 4)] { inState .run with
      pt := { State.reset.pt with ns := 1000000 }
      mod := { State.reset.mod with running := true, pattern := 4, h := 400000 }
      sense := { State.reset.sense with stamp := 1000000 }
      obs := { z with comm := 1, synced := true, ctrlSrc := 2, commAt := 0, tz := 100000, tzPrev := 1 } }
    let k := withPar [(P.fbSrcPrimary.1, 0), (P.obsBlkWMin.1, 0), (P.profAcc.1, 1000000000)] { b with
      pt := { State.reset.pt with ns := 1000000000000 }, obs := { b.obs with phase := .block } }
    let x := withPar [(P.obsCommMode.1, 2), (P.obsSixWOn.1, 0)] { b with
      obs := { b.obs with syncRun := 16, turnAt := 1000000, oe0 := { z.oe0 with valid := true } } }
    16 ≤ s.obs.oe0.run ∧ s.obs.oe0.out = false ∧ 16 ≤ s.obs.oe1.run ∧ s.obs.oe1.out = false ∧ terminalsOk s = true ∧
    anySetA s = true ∧ s.obs.resRun = [2, 2, 2] ∧ parN s P.obsResCount ≤ 2 ∧ s.op.state = .run ∧ primaryUsable s = true ∧
    s.obs.oe0.valid = true ∧ s.obs.oe1.valid = true ∧ v.obs.resRun = [2, 1, 2] ∧ 1 < parN v P.obsResCount ∧
    r.obs.oe0.out = true ∧ parN r P.obsResRejoin ≤ nth r.obs.rejoin 0 0 ∧ r.obs.oe1.out = true ∧
    parN r P.obsResRejoin ≤ nth r.obs.rejoin 1 0 ∧ s.obs.reacq = some 0 ∧
    0 + (par s P.obsFlyTimeout).toNat * 1000000 ≤ s.pt.ns ∧ selfCommutated b = true ∧
    b.obs.phase ≠ .block ∧ b.obs.commAt < b.obs.tz ∧ fromT0 b (commTime b) < b.mod.h ∧ crossingLate b = true ∧
    selfCommutated k = true ∧ scheduleDue k = true ∧ 2 * par k P.obsBlkWMin * 100 ≤ scheduleW k ∧ x.obs.turnAt = x.pt.ns ∧ b.obs.synced = true ∧ b.obs.missRun + 1 < parN b P.obsBlkMissMax ∧
    k.obs.phase = .block ∧ parN x P.obsCommMode = 2 ∧ x.mod.running = true ∧ x.obs.comm = 1 ∧
    par x P.obsSixWOn * 100 ≤ ((elecW x).natAbs : Int) ∧ x.obs.oe0.valid = true ∧ 16 ≤ x.obs.syncRun := by decide +kernel

theorem witness_RotorStarts :
    let z := State.reset.obs
    let o := { inState .run with pt := { State.reset.pt with ns := 2000000000000 } }
    let m : MeasAcc := { MeasAcc.reset with n := 1 }
    let w := withPar [(P.obsFlyEMin.1, 1)] { o with obs := { z with phase := .measV, meas := m } }
    let x := withPar [(P.obsFlyEMin.1, 0)] { o with
      obs := { z with phase := .measV, meas := m }, sense := { State.reset.sense with ya := List.replicate 12 65536 } }
    let y := { x with obs := { x.obs with meas := { m with rails := [1] } } }
    let v := { x with obs := { x.obs with meas := { m with n := 2, st := 1, stt := 1 } } }
    let s := withPar [(P.obsFlyIMin.1, 1)] { o with obs := { z with phase := .settle, probe := true } }
    let q := { s with obs := { s.obs with meas := { m with peak := 65536 } } }
    let l := { o with obs := { z with phase := .lock } }
    let k := { o with obs := { z with phase := .lock, measTheta := 32768 } }
    let a := withPar [(P.obsAwlRetry.1, 1), (P.obsAwlPolMin.1, 100), (P.fbSrcPrimary.1, 1)] { o with
      obs := { z with phase := .awl }, fb := { State.reset.fb with c := 100000 } }
    let e := { a with obs := { a.obs with awlRetries := 1 } }
    let p := { a with fb := { a.fb with c := 0 } }
    let f : AwlResp := ⟨List.replicate 15 [0, 0, 0]⟩
    let u (p : State) := record .fc 0x3031 0 [2, ((fitFreq p.obs.meas).natAbs : Int), if fitFreq p.obs.meas < 0 then 1 else 0,
      voltParam (qfree 26 p.obs.meas.smag p.obs.meas.n)] p
    w.obs.phase = .measV ∧ w.op.state = .run ∧ windowOver w = true ∧
    qfree 26 w.obs.meas.smag w.obs.meas.n < par (u w) P.obsFlyEMin * 65536 ∧ windowOver x = true ∧
    par (u x) P.obsFlyEMin * 65536 ≤ qfree 26 x.obs.meas.smag x.obs.meas.n ∧ railed y.obs.meas = true ∧
    par (u y) P.obsFlyEMin * 65536 ≤ qfree 26 y.obs.meas.smag y.obs.meas.n ∧
    par (u y) P.safetyAscSide = 0 ∧ railed x.obs.meas = false ∧
    10 * qfree 26 x.obs.meas.smag x.obs.meas.n < 9 * vdcSel (u x) ∧ fitOk (u x) = false ∧
    par (u v) P.obsFlyEMin * 65536 ≤ qfree 26 v.obs.meas.smag v.obs.meas.n ∧ railed v.obs.meas = false ∧
    10 * qfree 26 v.obs.meas.smag v.obs.meas.n < 9 * vdcSel (u v) ∧ fitOk (u v) = true ∧
    s.obs.phase = .settle ∧ s.obs.phaseAt + (par s P.obsFlyAscSettle).toNat * 1000000 ≤ s.pt.ns ∧ s.obs.probe = true ∧
    s.obs.meas.peak < par s P.obsFlyIMin * 65536 ∧ par q P.obsFlyIMin * 65536 ≤ q.obs.meas.peak ∧
    l.obs.phase = .lock ∧ l.obs.reacq = none ∧ l.obs.phaseAt + (par l P.obsFlyLock).toNat * 1000000 ≤ l.pt.ns ∧
    (wrap16 ((l.obs.oe0.last : Int) - (l.obs.measTheta + advance16 l.obs.measW ((l.sense.stamp : Int) - l.obs.measAt)))).natAbs
      ≤ parN l P.obsResLim ∧
    parN k P.obsResLim <
      (wrap16 ((k.obs.oe0.last : Int) - (k.obs.measTheta + advance16 k.obs.measW ((k.sense.stamp : Int) - k.obs.measAt)))).natAbs ∧
    a.obs.phase = .awl ∧ 8 * a.obs.phaseAt + awlLength a ≤ 8 * a.pt.ns ∧ awlFails a f = true ∧
    a.obs.awlRetries < parN a P.obsAwlRetry ∧
    parN e P.obsAwlRetry ≤ e.obs.awlRetries ∧ dieDown e .fc = false ∧ awlFails p f = false := by decide +kernel

theorem witness_LoopFaults :
    let z := State.reset.loop
    let s := withPar [(P.loopIDevN.1, 2), (P.loopIDistMax.1, 1), (P.loopSpdDevTime.1, 0), (P.loopMode.1, 1)] { inState .run with
      loop := { z with commit := [P.loopSpdKpTab], mode := 0, devRun := 2, satDue := true, distDue := true, spdDue := true
                       ovspRun := 2, ferrDue := true, dcdRun := 1000 } }
    let m (n : Nat) : State := withPar [(P.loopMode.1, (n : Int)), (P.loopPosDiv.1, 1)] { inState .ready with loop := { z with mode := 0 } }
    let r : State := { s with pairs := { s.pairs with le23 := { s.pairs.le23 with restarting := true } } }
    s.loop.commit = [P.loopSpdKpTab] ∧ s.supply.fcLock = false ∧ P.loopSpdKpTab ≠ P.loopMtpaIdTab ∧
    ownerRestarts s P.loopSpdKpTab = false ∧ ownerRestarts r P.loopSpdKpTab = true ∧
    (m 1).loop.mode = 0 ∧ parN (m 1) P.loopMode = 1 ∧ (m 1).supply.fcLock = false ∧ (m 1).op.state ≠ .stopping ∧
    posDue (m 1) = true ∧ (m 1).loop.commit = [] ∧ (m 2).loop.mode ≠ 2 ∧ parN (m 2) P.loopMode = 2 ∧
    (m 2).supply.fcLock = false ∧ (m 2).op.state ≠ .stopping ∧ posDue (m 2) = true ∧ (m 2).loop.commit = [] ∧ (m 2).pe.source ≠ 1 ∧
    parN s P.loopIDevN ≤ s.loop.devRun ∧ s.loop.satDue = true ∧
    s.loop.distDue = true ∧ s.loop.distRec = false ∧ s.loop.spdDue = true ∧
    2 ≤ s.loop.ovspRun ∧ s.loop.ferrDue = true ∧ 1000 ≤ s.loop.dcdRun := by decide +kernel

theorem witness_MotionCommands :
    let p (n : Nat) : State := { inState .run with loop := { State.reset.loop with mode := n } }
    let a := withCmd 0x40 (List.replicate 8 0) (p 2)
    let b := withCmd 0x41 (List.replicate 8 0) (p 2)
    let c := withCmd 0x42 (List.replicate 8 0) (p 1)
    let d := withCmd 0x43 (List.replicate 4 0) (p 0)
    let e := withCmd 0x44 [] (withPar [(P.profVelMax.1, 100), (P.profHomeVFast.1, 10), (P.profHomeVSlow.1, 1)] (p 1))
    let f := withCmd 0x46 [] { p 2 with pe := { State.reset.pe with segs := [⟨0, 0, 0⟩], queue := [.stop] } }
    let g := withCmd 0x45 [0, 0, 0, 0] (inState .run)
    let h := withCmd 0x22 [] (inState .run)
    let k := withCmd 0x40 (List.replicate 8 0) (inState .ready)
    canStart a 0 0x40 = true ∧ a.op.state = .run ∧ a.loop.mode = 2 ∧ canStart b 0 0x41 = true ∧ b.op.state = .run ∧
    b.loop.mode = 2 ∧ canStart c 0 0x42 = true ∧ c.op.state = .run ∧ c.loop.mode = 1 ∧ canStart d 0 0x43 = true ∧
    d.op.state = .run ∧ d.loop.mode = 0 ∧ canStart e 0 0x44 = true ∧ 0 < e.mbx.tags.length ∧ e.op.state = .run ∧
    e.loop.mode = 1 ∧ par e P.profHomeVFast ≤ par e P.profVelMax ∧ par e P.profHomeVSlow ≤ par e P.profVelMax ∧
    canStart f 0 0x46 = true ∧ 0 < f.mbx.tags.length ∧ f.op.state = .run ∧ f.loop.mode = 2 ∧ f.pe.segs ≠ [] ∧
    canStart g 0 0x45 = true ∧ g.pe.segTag = none ∧ beNat ((payload (start 0 g) 0).take 2) = 0 ∧
    beNat (((payload (start 0 g) 0).drop 2).take 2) = 0 ∧ f.supply.fcLock = false ∧ f.pe.queue = [.stop] ∧
    canStart h 0 0x22 = true ∧ h.op.state = .run ∧ canStart k 0 0x40 = true ∧ k.op.state ≠ .run := by decide +kernel

theorem witness_SwitchesAndStandstill :
    let s := withPar [(P.profSwChatterN.1, 0), (P.profSwChatterWin.1, 10), (P.safetyBrkEnable.1, 1), (P.profSwEnable.1, 1)] { inState .stopping with
      pt := { State.reset.pt with ns := 10000000000000 }
      pe := { State.reset.pe with homeTag := some 0, homePhase := 1, winSince := some 0, standSince := some 0 }
      saf := { State.reset.saf with brkRel := true } }
    let raw := (swGet s 0).raw
    let u := swPut 0 { swGet s 0 with chatter := false, stamps := [s.pt.ns] } s
    let q := { s with pe := { s.pe with homeTag := none } }
    let v := swPut 0 { swGet q 0 with raw := true, deb := false } q
    let c (d : Bool) : State := withPar [(P.profSwChatterN.1, 0), (P.profSwChatterWin.1, 10), (P.profSwEnable.1, 1)]
      (swPut 0 { swGet q 0 with raw := d, deb := d, stamps := [q.pt.ns] } q)
    let g (d : Bool) : State := swPut 0 { swGet (c d) 0 with chatter := true, stamps := [0] } (c d)
    let n := { s with saf := { s.saf with brkRel := false, brkAt := some 0 } }
    let r := withPar [(P.profStandMode.1, 0)] { inState .run with
      pt := { State.reset.pt with ns := 10000000000000 }
      pe := { State.reset.pe with ended := true, standSince := some 0 } }
    (swGet s 0).raw ≠ (!raw) ∧ s.supply.fcLock = false ∧ (swGet v 0).raw ≠ (swGet v 0).deb ∧
    (swGet v 0).at_ + parN v P.profSwDebounce * 100000 ≤ v.pt.ns ∧ swEnabled (c true) 0 = true ∧
    (∀ t ∈ (swGet (g true) 0).stamps, t + parN (g true) P.profSwChatterWin * 1000000 ≤ (g true).pt.ns) ∧
    (swGet (c true) 0).chatter = false ∧
    parN (c true) P.profSwChatterN < ((swGet (c true) 0).stamps.filter
      (fun t => (c true).pt.ns < t + parN (c true) P.profSwChatterWin * 1000000)).length ∧
    (swGet (g true) 0).chatter = true ∧ (swDeb (g true) 0 = false ∨ swDeb (g false) 0 = false) ∧ (g true).pe.homeTag = none ∧
    s.pe.homeTag.isSome = true ∧ 1 ≤ s.pe.homePhase ∧ s.pe.homePhase ≤ 5 ∧ s.pe.winSince = some 0 ∧
    s.pe.homeAt + parN s P.profHomeTimeout * 1000000000 ≤ s.pt.ns ∧ 0 + parN s P.profWinTime * 1000000 ≤ s.pt.ns ∧
    0 + parN s P.profStandTime * 1000000 ≤ s.pt.ns ∧ 0 + parN r P.profStandTime * 1000000 ≤ r.pt.ns ∧
    s.pe.reached = false ∧ s.op.state = .stopping ∧ s.saf.stop = none ∧ s.pe.standSince = some 0 ∧
    par s P.safetyBrkEnable = 1 ∧ s.saf.brkRel = true ∧ brakeHeld n = true ∧ n.pe.standSince = some 0 ∧ r.op.state = .run ∧ r.pe.ended = true ∧
    r.pe.v.m = 0 ∧ r.pe.standSince = some 0 ∧ r.pe.parked = false ∧ r.pe.source ≠ 6 ∧ r.obs.phase = .idle ∧
    parN r P.profStandMode = 0 ∧ u.supply.fcLock = false := by decide +kernel

theorem witness_GateEdges :
    let g := { State.reset.gd.uh with powered := true, hiZ := false, held := none, leg := false, done := true, cmp := none }
    let z := State.reset
    let s := { inState .run with
      gd := six { g with missRun := 2, edges := [⟨true, 0, 0⟩], gate := .offHold }
      supply := { z.supply with gdLock := six false }
      jx := { z.jx with gd := six ⟨[.full], false⟩ }
      mod := { z.mod with running := true } }
    let c : CmpSet := ⟨s.mod.half, .off, 0, 0⟩
    let t := { s with gd := six { g with cmp := some c, trip := true, edges := [⟨true, 0, 0⟩] } }
    let u := { s with gd := six { g with gate := .profile true 0 } }
    let v := { s with gd := six { g with gate := .soft, edges := [] } }
    s.mod.running = true ∧ ptNow s ≤ s.sense.stamp + 300 ∧ dieUp s .uh = true ∧ dieFree (s.gd.get .uh) = true ∧
    linkUp (s.jx.gd.get .uh) = true ∧ linkUp (State.reset.jx.gd.get .uh) = false ∧ (s.gd.get .uh).cmp = none ∧ (s.gd.get .uh).done = true ∧
    dieUp t .uh = true ∧ dieFree (t.gd.get .uh) = true ∧ (t.gd.get .uh).cmp = some c ∧ c.half = t.mod.half ∧
    (t.gd.get .uh).done = true ∧ 2 ≤ (s.gd.get .uh).missRun ∧ 7 ≠ sentValue s .u ∧ (s.gd.get .uh).edges = [⟨true, 0, 0⟩] ∧
    mayTurnOn .uh (s.gd.get .uh) = true ∧ (s.gd.get .uh).gate = .offHold ∧ (t.gd.get .uh).edges = [⟨true, 0, 0⟩] ∧
    mayTurnOn .uh (t.gd.get .uh) = false ∧ dieUp u .uh = true ∧ (u.gd.get .uh).gate = .profile true 0 ∧
    (v.gd.get .uh).gate = .soft ∧ (v.gd.get .uh).powered = true ∧ (v.gd.get .uh).edges = [] ∧
    0 ≤ 8 * s.pt.ns ∧ (u.gd.get .uh).drvAt + driveNs (u.gd.get .uh).drive ≤ u.pt.ns ∧
    (v.gd.get .uh).drvAt + driveNs (v.gd.get .uh).drive ≤ v.pt.ns := by decide +kernel

theorem witness_GateTrips :
    let g := { State.reset.gd.uh with powered := true, gate := .onHold, trip := false, onAt := 0 }
    let z := State.reset
    let s := withPar [((P.gdOutMask 1).1, 15), ((P.gdDesatBlank 1).1, 100), ((P.gdDidtQual 1).1, 50), (P.modLegRamp.1, 0)] { inState .run with
      gd := six g, supply := { z.supply with gdLock := six false, vp := six 18000 }, pt := { z.pt with ns := 100000 }
      heel := { z.heel with releasing := some [0, 2, 3] }
      jx := { z.jx with hb := ⟨[.full], false⟩, gd := six ⟨[.full], false⟩ }
      mod := { z.mod with legLoss := true }, loop := { z.loop with rampT := some (0, 0) } }
    let w := { s with gd := six { g with onAt := 99950 } }
    dieUp s .uh = true ∧ (s.gd.get .uh).gate = .onHold ∧ (s.gd.get .uh).trip = false ∧
    (s.gd.get .uh).onAt + parN s (P.gdDesatBlank (GdPos.uh.id - 1)) ≤ s.pt.ns ∧
    parN s (P.gdDidtQual (GdPos.uh.id - 1)) ≤ 50 ∧ vRun s (GdPos.uh.id - 1) < ((1000000 : Nat) : Int) ∧
    w.pt.ns < (w.gd.get .uh).onAt + parN w (P.gdDesatBlank (GdPos.uh.id - 1)) ∧ dieUp w .uh = true ∧
    (w.gd.get .uh).gate = .onHold ∧ (w.gd.get .uh).trip = false ∧ parN w (P.gdDidtQual (GdPos.uh.id - 1)) ≤ 50 ∧
    vRaise w (GdPos.uh.id - 1) < ((1000000 : Nat) : Int) ∧
    (s.gd.get .uh).onAt + parN s (P.gdDesatBlank (GdPos.uh.id - 1)) + parN s (P.gdDesatFilt (GdPos.uh.id - 1)) ≤ s.pt.ns ∧
    parN s (P.gdDesatVth (GdPos.uh.id - 1)) < 1000000 ∧ parN s (P.gdDesatFilt (GdPos.uh.id - 1)) ≤ 10000 ∧
    pairUsed s .uh 1 = true ∧ (s.gd.get .uh).holdAt + 1200 ≤ s.pt.ns ∧
    (0 : Int) < (s.supply.vp.get .uh : Int) - par s (P.gdGchkMargin (GdPos.uh.id - 1)) ∧
    linkUp (s.jx.gd.get .uh) = true ∧ linkUp (z.jx.gd.get .uh) = false ∧ linkUp s.jx.hb = true ∧ linkUp (s.jx.gd.get .vl) = true ∧
    GdPos.uh.phase ≠ GdPos.vl.phase ∧ s.heel.legs.get .v = false ∧ s.heel.fc = none ∧
    (s.jx.gd.get .uh).lanes.any laneUp = true ∧ 0 + parN s P.modLegRamp * 1000000 ≤ s.pt.ns ∧ s.supply.hbLock = false ∧ s.supply.fcLock = false ∧
    s.heel.reports.get (GdPos.uh.partner) = none ∧ s.heel.legs.get .u = false ∧ holdsAsc s = false ∧
    s.heel.releasing = some [0, 2, 3] ∧ ([0, 2, 3] : List Nat).contains (GdPos.uh.id) = true ∧ dieDown s (.gd .uh) = false ∧
    ([0, 2, 3] : List Nat).filter (· != GdPos.uh.id) ≠ [] ∧ s.mod.legLoss = true ∧ s.loop.rampT = some (0, 0) ∧
    s.op.state = .run := by decide +kernel

theorem witness_EnableAndPulses :
    let z := State.reset
    let s := withCmd 0x21 [] enableState
    let l := withCmd 0x21 [] { enableState with
      par := { z.par with work := (P.sysBootGdSupply.1, 1) :: enablePars }
      gd := { enableState.gd with uh := { enableState.gd.uh with trained := false } } }
    let c := { inState .ready with
      mod := { z.mod with charging := true }, obs := { z.obs with enableTag := some 0 }
      gd := six { z.gd.uh with trained := true, powered := true } }
    let e := { c with gd := six { z.gd.uh with trained := false, powered := true } }
    let b := withPar [(P.sysBootGdSupply.1, 1), (P.modBsRefreshN.1, 1)] { inState .run with
      mod := { z.mod with up := true, running := true, bsRun := ⟨1, 1, 1⟩, bsDue := ⟨true, true, true⟩ } }
    let d := withCmd 0x32 [] (inState .standby)
    let q := { inState .standby with diag := some ⟨0, false, 0⟩, gd := six { z.gd.uh with pairs := [15, 15, 15, 15] } }
    canStart s 0 0x21 = true ∧ s.op.state = .ready ∧ s.op.stoActive = false ∧
    enableBusy (start 0 s) = false ∧ enableFault (start 0 s) = none ∧ enableRange (start 0 s) = none ∧
    bootstrap (start 0 s) = false ∧ canStart l 0 0x21 = true ∧ l.op.state = .ready ∧ l.op.stoActive = false ∧
    enableBusy (start 0 l) = false ∧ enableFault (start 0 l) = none ∧ enableRange (start 0 l) = none ∧
    bootstrap (start 0 l) = true ∧ highTrained (start 0 l) = false ∧ c.mod.charging = true ∧ c.op.state = .ready ∧
    c.supply.fcLock = false ∧ c.obs.enableTag = some 0 ∧
    (∀ p ∈ Phase.all, (c.gd.get p.hi).cmpFail = 0 ∧ (c.gd.get p.hi).trained = true) ∧
    dieDown c (.gd .uh) = false ∧ 100 * 4849 < 97 * 5000 ∧ 103 * 5000 < 100 * 5151 ∧ bitOf c.mod.calFail (GdPos.uh.id) = false ∧
    bootstrap b = true ∧ b.mod.up = true ∧ controlled b = true ∧ parN b P.modBsRefreshN ≤ b.mod.bsRun.get .u ∧ b.heel.legs.get .u = false ∧
    b.heel.fc = none ∧ b.mod.bsDue.get .u = true ∧ canStart d 0 0x32 = true ∧ d.op.state = .standby ∧ d.diag = none ∧
    q.diag = some ⟨0, false, 0⟩ ∧ (0 : Nat) ≤ q.pt.ns ∧ q.thm.round ≠ some (ptNow q / 10000000) ∧
    e.mod.charging = true ∧ e.op.state = .ready ∧ e.supply.fcLock = false ∧ e.obs.enableTag = some 0 ∧
    (∀ p ∈ Phase.all, (e.gd.get p.hi).cmpFail = 0) ∧ highTrained e = false ∧ e.mod.pulseAt ≤ e.pt.ns ∧
    97 * 5000 ≤ 100 * 4850 ∧ 100 * 5150 ≤ 103 * 5000 ∧ dieDown c .fc = false ∧ 97 * 4000 ≤ 100 * 3880 ∧ 100 * 4120 ≤ 103 * 4000 ∧ (∀ p ∈ GdPos.all, (q.gd.get p).diagMode = 0 ∧ (q.gd.get p).cmpFail = 0 ∧
      (q.gd.get p).pairs = [15, 15, 15, 15]) := by decide +kernel

theorem witness_ModuleAndDieTemperatures :
    let z := State.reset
    let x := { Sensor.reset with warnRun := 2, clearRun := 2, stopRun := 2, xrun := 5 }
    let s := withPar [(P.thmXchkN.1, 5)] { z with
      gd := six { z.gd.uh with powered := true, ntcSamples := 8 }, supply := { z.supply with gdLock := six false }
      thm := { z.thm with sensors := List.replicate 17 x, shdRun := List.replicate 8 2 } }
    dieUp s .uh = true ∧ (s.gd.get .uh).ntcSamples < 9 ∧ 2 ≤ (sensor s (GdPos.uh.id + 6)).warnRun ∧
    (sensor s (GdPos.uh.id + 6)).warned = false ∧ s.supply.fcLock = false ∧ 2 ≤ (sensor s (GdPos.uh.id + 6)).stopRun ∧
    (sensor s (GdPos.uh.id + 6)).stopped = false ∧ (sensor s 7).broken = false ∧ isBroken s (sensor s 7) = true ∧
    2 ≤ (sensor s 7).warnRun ∧ (sensor s 7).warned = false ∧ 2 ≤ (sensor s 16).clearRun ∧ 2 ≤ (sensor s 7).stopRun ∧
    (sensor s 7).stopped = false ∧ nth s.thm.shdRun Die.fc.id 0 = 2 := by decide +kernel

theorem witness_WeltVotes :
    let z := State.reset
    let s := withPar [(P.smDegGrace.1, 0)] { z with
      sm := { z.sm with graceSince := some 0 }, pt := { z.pt with ns := 5003000 }
      sense := { z.sense with stamp := 5000000 }, mod := { z.mod with h := 400000 } }
    let e := { s with sm := { s.sm with hashMs := 5 } }
    let h := { s with
      pt := { s.pt with ns := 5010000 }
      sm := { z.sm with
        c0 := { z.sm.c0 with halted := true, copying := false }
        c1 := { z.sm.c1 with due := some 1 }
        c2 := { z.sm.c2 with halted := true, copying := true } } }
    s.sm.noMajority = false ∧ s.supply.fcLock = false ∧ (∀ i ∈ [0, 1, 2], (copyOf s i).isolated = false ∧
      (copyOf s i).halted = false ∧ (copyOf s i).stamps = []) ∧ (copyOf h 0).halted = true ∧ (copyOf h 0).copying = false ∧
    (copyOf h 0).due = none ∧ (copyOf h 0).isolated = false ∧ h.sm.noMajority = false ∧ (copyOf h 1).due = some 1 ∧
    s.sm.tree = 0 ∧ s.sm.graceSince = some 0 ∧ 0 + parN s P.smDegGrace * 1000000000 ≤ s.pt.ns ∧ s.sm.degStop = false ∧
    hashDue s = true ∧ testDue e = true ∧ e.sm.noMajority = false ∧ idleWindow 2000 h = true ∧
    (copyOf h 2).halted = true ∧ (copyOf h 2).copying = true ∧ (copyOf h 2).since + 109226 ≤ h.pt.ns ∧
    treeFails weltPatterns = 0 ∧ treeFails [] ≠ 0 := by decide +kernel

theorem witness_TorqueSupervision :
    let z := State.reset
    let s := withPar [(P.smTqN.1, 2)] { z with
      pt := { z.pt with ns := 25000000 }
      sm := { z.sm with outRun := 2, iRun := 2, defPs := 1000000000000000, boundRun := 2 } }
    parN s P.smTqN ≤ s.sm.outRun ∧ parN s P.smTqN ≤ s.sm.iRun ∧ parN s P.smTqDefTime * 1000000000 ≤ s.sm.defPs ∧ s.sm.hkLast + 25000000 ≤ s.pt.ns ∧ 2 ≤ s.sm.boundRun ∧
    s.supply.fcLock = false ∧ s.sm.noMajority = false := by decide +kernel

theorem witness_MemoryIntegrity :
    let z := State.reset
    let m := { MemCtl.reset with on := true, migrate := [64], period := 1 }
    let s := withPar [(P.memScrubEnable.1, 1), (P.bistMemPeriod.1, 1)] { z with
      pt := { z.pt with ns := 10000000000 }, mod := { z.mod with h := 400000 }, sense := { z.sense with stamp := 9999999000, seq := 7 }
      mem := { z.mem with ctl := List.replicate 20 m }, gd := six { z.gd.uh with powered := true }
      supply := { z.supply with gdLock := six false } }
    let r (l : List Byte) := withCmd 0x78 ([1, 0, 0, 0, 0, 0] ++ l) (inState .standby)
    let t := withCmd 0x79 [1, 3] (inState .standby)
    let b := { s with mem := { s.mem with ctl := List.replicate 20 { m with pos := ctlWords 2 - 1 } } }
    let j := { s with bist := { s.bist with job := some ⟨some 0, 3, ctlBlocks 3 - 1, 0, none, false, false, none, none⟩ } }
    ctlOf .fc 0 = some 2 ∧ dieDown s .fc = false ∧ 0 < ctlSize 2 ∧ ctlSize 2 - 1 < ctlSize 2 ∧ (memCtl s (2 + 0)).on = true ∧
    par s P.memScrubEnable = 1 ∧ 2 + 11 < s.mem.ctl.length ∧ (memCtl s (2 + 0)).merge = [] ∧
    passDue b (2 + 0) ((ctlSize 2 - 1) / 8 * 8) = true ∧ (ctlSize 2 - 1) / 8 + 1 = ctlWords (2 + 0) ∧ (memCtl b (2 + 0)).merge = [] ∧
    2 + 0 < b.mem.ctl.length ∧ (memCtl s (2 + 0)).passAt + (memCtl s (2 + 0)).period * 1250000000 ≤ s.pt.ns ∧
    passRuns s (12 + GdPos.uh.id) = true ∧ (memCtl s (12 + GdPos.uh.id)).latched = false ∧
    s.bist.memAt + parN s P.bistMemPeriod * 1000000000 ≤ s.pt.ns ∧
    blockWindow j ⟨some 0, 3, ctlBlocks 3 - 1, 0, none, false, false, none, none⟩ = true ∧
    (memCtl s (2 + 0)).migrate.any (fun x => x / 64 == 100 / 64) = true ∧ spareUsed (memCtl s (2 + 0)) (100 / 65536) < 4 ∧ engineIdle s (2 + 1) = true ∧
    dieDown s (.gd .uh) = false ∧ (memCtl s (12 + GdPos.uh.id)).on = true ∧
    canStart (r [0, 0, 0, 0]) 0 0x78 = true ∧ 0 < (r [0, 0, 0, 0]).mbx.tags.length ∧
    ctlNamed (payload (start 0 (r [0, 0, 0, 0])) 0) = some 2 ∧
    beNat (((payload (start 0 (r [0, 0, 0, 0])) 0).drop 6).take 4) = 0 ∧ canStart (r [0, 64, 0, 0]) 0 0x78 = true ∧
    ctlNamed (payload (start 0 (r [0, 64, 0, 0])) 0) = some 2 ∧
    beNat (((payload (start 0 (r [0, 64, 0, 0])) 0).drop 2).take 4) + beNat (((payload (start 0 (r [0, 64, 0, 0])) 0).drop 6).take 4)
      = ctlSize 2 ∧ canStart t 0 0x79 = true ∧ ctlNamed (payload (start 0 t) 0) = some 5 ∧ t.op.state = .standby ∧
    t.bist.job = none ∧ dieDown t (ctlDie 5) = false ∧ parN s P.bistMemPeriod ≠ 0 ∧ s.bist.job = none ∧
    s.supply.fcLock = false ∧ j.bist.job = some ⟨some 0, 3, ctlBlocks 3 - 1, 0, none, false, false, none, none⟩ ∧
    0 < ctlBlocks 3 ∧ dieDown j (ctlDie 3) = false := by decide +kernel

theorem witness_CanCommands :
    let z := State.reset
    let on (c : CanCh) : State := { inState .ready with can := ⟨c, z.can.b⟩ }
    let a := z.can.a
    let b := withCmd 0x83 [0, 0, 0, 0] (on a)
    let j := on { a with mode := .joining, onTag := some 0 }
    let j' := withPar [((P.canOnTimeout 1).1, 10)] { j with pt := { z.pt with ns := 10000000 } }
    let k := on { a with mode := .joining }
    let r := on { a with mode := .recovering, idle := 128 }
    let d := withCmd 0x84 [0, 0, 0, 0, 0, 7, 161, 32] (on a)
    let e := withPar [(P.canDetPasses.1, 1), (P.canDetWindow.1, 0)] (on { a with det := some ⟨0, [500000], 0, 0, 0, 0⟩ })
    let f := withCmd 0x82 [0, 0, 0, 0, 0, 0, 1, 0, 0, 0, 7, 255] (on a)
    let t := withCmd 0x80 ([0, 0, 0, 1, 0, 0, 1, 0] ++ List.replicate 8 0 ++ [5]) (on { a with mode := .on })
    let w := withCmd 0x85 [0, 0, 0, 0, 1, 2] (on a)
    let q := withCmd 0x81 [0, 63, 0, 0] (on a)
    canStart b 0 0x83 = true ∧ (nth (payload (start 0 b) 0) 0 0).toNat = Ch.a.idx ∧ (b.can.get .a).mode = .off ∧
    b.clk.hclkRc = false ∧ timingFault (start 0 b) (Ch.a.idx + 1) = none ∧ parN b (P.canChMode (Ch.a.idx + 1)) = 0 ∧
    (k.can.get .a).mode = .joining ∧ k.supply.hbLock = false ∧ (k.can.get .a).onTag = none ∧
    (r.can.get .a).mode = .recovering ∧ (r.can.get .a).idle = 128 ∧
    (j'.can.get .a).joinAt + parN j' (P.canOnTimeout (Ch.a.idx + 1)) * 1000000 ≤ j'.pt.ns ∧
    0 + parN e P.canDetWindow * 1000000 ≤ e.pt.ns ∧ e.supply.hbLock = false ∧ parN j' (P.canOnTimeout (Ch.a.idx + 1)) ≠ 0 ∧ (j'.can.get .a).mode = .joining ∧
    (j'.can.get .a).onTag = some 0 ∧ canStart d 0 0x84 = true ∧ (nth (payload (start 0 d) 0) 0 0).toNat = Ch.a.idx ∧
    ratesOf ((payload (start 0 d) 0).drop 4) = [500000] ∧
    (candTiming (parN d (P.canNomSp (Ch.a.idx + 1))) 500000).isSome = true ∧ (d.can.get .a).mode = .off ∧
    (e.can.get .a).det = some ⟨0, [500000], 0, 0, 0, 0⟩ ∧ parN e P.canDetPasses ≤ 0 + 1 ∧ canStart f 0 0x82 = true ∧
    0 < f.mbx.tags.length ∧ (nth (payload (start 0 f) 0) 0 0).toNat = Ch.a.idx ∧ nth (payload (start 0 f) 0) 1 0 = 0 ∧
    beNat (((payload (start 0 f) 0).drop 2).take 2) = 0 ∧
    filterEntries ((payload (start 0 f) 0).drop 4) = [(256, 2047)] ∧ 0 ≤ (f.can.get .a).filt.length ∧
    bitOf 256 29 = false ∧ bitOf 2047 29 = false ∧ canStart t 0 0x80 = true ∧ (txOp (payload (start 0 t) 0)).chan = Ch.a.idx ∧
    (txOp (payload (start 0 t) 0)).inRange (t.can.get .a).stageLen = true ∧ (t.can.get .a).mode = .on ∧
    (txOp (payload (start 0 t) 0)).buf = false ∧ (t.can.get .a).tx = List.replicate 8 none ∧ canStart w 0 0x85 = true ∧
    (nth (payload (start 0 w) 0) 0 0).toNat = Ch.a.idx ∧ nth (payload (start 0 w) 0) 1 0 = 0 ∧
    beNat (((payload (start 0 w) 0).drop 2).take 2) + ((payload (start 0 w) 0).drop 4).length ≤ 2048 ∧
    bufPending (w.can.get .a) = false ∧ canStart q 0 0x81 = true ∧ (nth (payload (start 0 q) 0) 0 0).toNat = Ch.a.idx ∧
    (nth (payload (start 0 q) 0) 1 0).toNat ≤ 63 := by decide +kernel

theorem witness_CanTraffic :
    let z := State.reset
    let a := z.can.a
    let f : CanFrame := ⟨0x100, 0, false, false, false, List.replicate 8 0, List.replicate 8 0, 7⟩
    let on (c : CanCh) : State := withPar [((P.canTxDeadline 1).1, 5), (P.canTtRole.1, 2), (P.canTtRefId.1, 0x100)]
      { inState .ready with
        can := ⟨c, z.can.b⟩, boot := { z.boot with done := true }, pt := { z.pt with ns := 1000000000000 } }
    let l := on { a with mode := .listen }
    let e : CanRx := ⟨f, false, false, false, 0⟩
    let r := on { a with fifo := [e], filt := [(0, 0)] }
    let o := on { a with mode := .on }
    let x : CanTx := ⟨f, some 0, true, false, none, false, none, 0⟩
    let y : State := { o with can := ⟨{ a with mode := .on, tx := upd a.tx 1 (fun _ => some (plainTx f)) }, z.can.b⟩ }
    let t := on { a with mode := .on, tx := upd a.tx 2 (fun _ => some x), tec := 248 }
    let m := { o with nt := { z.nt with master := true, sync := true } }
    (l.can.get .a).mode = .listen ∧ l.supply.hbLock = false ∧ (l.can.get .a).fifo.length < 64 ∧ isSafe l f = false ∧
    cpDown r = false ∧ r.pairs.cp.restarting = false ∧ (r.can.get .a).fifo = [e] ∧ e.filtered = false ∧
    (r.can.get .a).safe = [] ∧ accepted r .a e.frame = true ∧ (o.can.get .a).mode = .on ∧
    (o.can.get .a).errStamp = none ∧ (o.can.get .a).rec_ < 127 ∧ (o.can.get .a).tec < 128 ∧
    txAt (t.can.get .a) 2 = some x ∧ arbitrates (t.can.get .a) 2 = true ∧
    arbitrates { a with tx := upd (upd a.tx 2 (fun _ => some x)) 3 (fun _ => some x) } 3 = false ∧ (t.can.get .a).mode = .on ∧ 247 < (t.can.get .a).tec ∧
    parN t (P.canTxDeadline (Ch.a.idx + 1)) ≠ 0 ∧ x.since + parN t (P.canTxDeadline (Ch.a.idx + 1)) * 1000000 ≤ t.pt.ns ∧
    tdcOffset t .a x.frame = none ∧ (t.can.get .a).noListener = false ∧ x.next = none ∧
    y.boot.done = true ∧ y.saf.msgTxAt = none ∧ (y.can.get .a).tx.length = 8 ∧ (y.can.get .b).tx.length = 8 ∧
    (y.can.get .a).mode = .on ∧ txAt (y.can.get .a) 1 = some (plainTx f) ∧ (y.can.get .b).mode ≠ .on ∧
    txAt (o.can.get .a) 1 = none ∧ m.nt.due ≠ some (ttMultiple m) ∧
    o.nt.rxAt + (2 * parN o P.canTtCycle + parN o P.canTtRefId % 8 * 100) * 1000 ≤ o.pt.ns ∧
    m.nt.rxAt + parN m P.canTtLostN * parN m P.canTtCycle * 1000 ≤ m.pt.ns ∧
    m.nt.master = true ∧ par m P.canTtRole = 2 ∧ (m.can.get (timeCh m)).mode = .on ∧ o.nt.master = false ∧
    m.nt.sync = true ∧ isRef o f = true ∧ parN o P.canTtRole ≠ 0 ∧ (o.can.get (timeCh o)).mode = .on ∧
    o.nt.mark = none := by decide +kernel

theorem witness_LockoutAndReset :
    let z := State.reset
    let s := { z with pt := { z.pt with ns := 2000000000 } }
    let f := { s with supply := { z.supply with fcLock := true }, rst := { z.rst with due := none } }
    let t := { f with thm := { z.thm with shd := upd z.thm.shd 1 (fun _ => some 0) } }
    let n := { s with rst := { z.rst with nresetLow := true } }
    let g := { s with supply := { z.supply with gdLock := six false } }
    s.supply.hbLock = false ∧ nth s.thm.shd 0 none = none ∧ s.supply.fcLock = false ∧ nth s.thm.shd 1 none = none ∧
    g.supply.gdLock.get .uh = false ∧ nth g.thm.shd (GdPos.uh.id) none = none ∧ f.supply.fcLock = true ∧ f.rst.due = none ∧
    f.boot.waitFc = false ∧ f.supply.hbLock = false ∧ f.rst.nresetLow = false ∧ (165 : Int) < 166 ∧ (2799 : Int) < 2800 ∧ (4399 : Int) < 4400 ∧
    (12999 : Int) < 13000 ∧ (4550 : Int) < 4551 ∧ (139 : Int) < 140 ∧
    nth t.thm.shd 1 none = some 0 ∧ 0 + 2000000000 ≤ t.pt.ns ∧ t.supply.fcLock = true ∧ n.rst.nresetLow = true := by
  decide +kernel

theorem witness_BootAndShutdownEnd :
    let z := State.reset
    let s := { z with rst := { z.rst with due := some .full } }
    let w := { z with boot := { z.boot with running := some .full, waitGd := true }, pt := { z.pt with ns := 1000000000000000 } }
    let r := { z with boot := { z.boot with onTrial := true }, pt := { z.pt with ns := 2000000000 }, rst := { z.rst with due := none } }
    let e := { inState .ready with pt := { z.pt with ns := 50000000 }, obs := { z.obs with enableTag := some 0 }, mod := { z.mod with charging := true } }
    let d := { inState .shutdown with boot := { z.boot with drain := true } }
    let b := withPar [(P.sysShutdownBist.1, 1)] { d with boot := { d.boot with raise := some 2 } }
    let i : BootIn := { boot0 with cut := some 1 }
    s.supply.hbLock = false ∧ s.rst.nresetLow = false ∧ s.rst.due = some .full ∧ BootKind.full ≠ .fieldSide ∧
    i.cut = some 1 ∧ w.boot.running = some .full ∧ w.boot.waitGd = true ∧ w.supply.fcLock = false ∧
    r.boot.onTrial = true ∧ r.op.state = .boot ∧ r.boot.waitFc = false ∧ r.boot.waitGd = false ∧ r.rst.due = none ∧
    r.supply.hbLock = false ∧ e.obs.enableTag = some 0 ∧ e.mod.charging = true ∧ e.op.state = .ready ∧
    highTrained e = false ∧ w.boot.waitAt + (bootVal w P.sysBootGdWait).toNat * 1000000 ≤ w.pt.ns ∧ r.boot.since + 2000000000 ≤ r.pt.ns ∧
    e.mod.chargeAt + 50000000 ≤ e.pt.ns ∧ d.boot.shutdownDone = false ∧ draining d = false ∧ draining b = false ∧
    fuseList b ≠ [] ∧ parN b P.sysShutdownBist ≠ 0 ∧ b.op.state = .shutdown ∧ b.boot.drain = true ∧ d.op.state = .shutdown ∧ d.boot.drain = true ∧ d.supply.hbLock = false ∧
    d.rst.nresetLow = false := by decide +kernel

theorem witness_CommandFlow :
    let z := { State.reset with boot := { State.reset.boot with rom := false } }
    let hd : List Byte := [0, 0, 0, 0, 0, 0, 0, 0, 0, 0, 0, 0, 0, 0]
    let q := { z with mbx := { z.mbx with bells := [0], tags := upd z.mbx.tags 0 (fun t => { t with st := .queued }) } }
    let g := { inState .standby with mbx := { q.mbx with
      empty := upd q.mbx.empty 0 (fun _ => false), mem := memWrite q.mbx.mem 0 (hd ++ beBytes 2 (crc16 hd)) } }
    let n := withCmd 0x00 [] z
    let c := withCmd 0x01 [1] z
    let d := { c with mbx := { c.mbx with tags := upd c.mbx.tags 1 (fun t => { t with st := .running, admitted := true }) } }
    let r := { z with mbx := { z.mbx with
      tags := upd z.mbx.tags 0 (fun t => { t with st := .running, opcode := 0x40, started := true, reply := some ⟨0, 0, []⟩ }) } }
    let l := withPar [(P.portIrqCoalUs.1, 7)] { z with pt := { z.pt with ns := 7000 }, mbx := { z.mbx with
      rr := [0]
      coalSince := some 0
      tags := upd z.mbx.tags 0 (fun t => { t with st := .running, opcode := 0x44, started := true }) } }
    cpDown g = false ∧ g.pairs.cp.restarting = false ∧ g.mbx.bells = [0] ∧
    admissionFail { g with mbx := { g.mbx with bells := [] } } 0 = none ∧ 0 < g.mbx.tags.length ∧
    (header g 0).ordered = false ∧ nth g.mbx.empty 0 true = false ∧ q.mbx.bells = [0] ∧ nth q.mbx.empty 0 true = true ∧
    canStart n 0 0x00 = true ∧ canStart c 0 0x01 = true ∧ cancelTarget (start 0 c) 0 = 1 ∧
    (tag (start 0 c) 1).st = .free ∧ canStart d 0 0x01 = true ∧ cancelTarget (start 0 d) 0 = 1 ∧ (tag d 1).st = .running ∧
    (tag d 1).started = false ∧ cpDown r = false ∧ (tag r 0).st = .running ∧ (tag r 0).reply = some ⟨0, 0, []⟩ ∧
    longOps.contains (tag r 0).opcode = false ∧ (tag r 0).opcode ≠ 0x01 ∧ (∀ k ∈ List.range 128, cancels r 0 k = false) ∧
    l.mbx.bells = [] ∧ shortWaiting l = false ∧ l.mbx.rr = [0] ∧ (tag l 0).opcode = 0x44 ∧ (tag l 0).interim = false ∧
    l.mbx.coalSince = some 0 ∧ 0 + parN l P.portIrqCoalUs * 1000 ≤ l.pt.ns ∧ parN l P.portIrqCoalUs ≠ 0 := by decide +kernel

theorem witness_ParameterCommands :
    let z := inState .standby
    let rd := withCmd 0x10 [0x10, 0x00, 1, 0] z
    let wr (a b c t v : Nat) : State := withCmd 0x11 (beBytes 2 (a * 256 + b) ++ beBytes 1 c ++ beBytes 1 t ++ beBytes 8 v) z
    let bad := wr 0xFF 0 1 1 0
    let good := wr (P.portIrqCoalUs.1 / 65536) (P.portIrqCoalUs.1 / 256 % 256) (P.portIrqCoalUs.1 % 256) 2 7
    let cf0 := wr (P.safetyLastConfirm.1 / 65536) (P.safetyLastConfirm.1 / 256 % 256) (P.safetyLastConfirm.1 % 256) 3 5
    let cf := { cf0 with last := { cf0.last with pending := 5, sealed := false } }
    let tc := wr (P.loopTabCommit.1 / 65536) (P.loopTabCommit.1 / 256 % 256) (P.loopTabCommit.1 % 256) 1 1
    let wc : Wr := ⟨P.safetyLastConfirm.1 / 256, P.safetyLastConfirm.1 % 256, 3, 5⟩
    let wt : Wr := ⟨P.loopTabCommit.1 / 256, P.loopTabCommit.1 % 256, 1, 1⟩
    let ds := withCmd 0x12 [0x10, 0, 1, 1] z
    let br := withCmd 0x13 [0, 0, 0x10, 0x00, 0, 1, 0, 1] z
    let bw := withCmd 0x14 ([0, 0] ++ beBytes 2 (P.portIrqCoalUs.1 / 256) ++ beBytes 2 (P.portIrqCoalUs.1 % 256) ++ beBytes 2 1 ++ [0, 7]) z
    let st := withCmd 0x18 [] z
    let rs := withCmd 0x19 [0] z
    canStart rd 0 0x10 = true ∧ needsField 0x10 (payload rd 0) = false ∧
    (match readAll (start 0 rd) 1 (rdEntries (payload (start 0 rd) 0)) with | .inr _ => true | .inl _ => false) = true ∧
    canStart bad 0 0x11 = true ∧
    (firstFail (start 0 bad) (wrEntries (payload (start 0 bad) 0)) 1 (wrEntries (payload (start 0 bad) 0))).isSome = true ∧
    (firstFail (start 0 good) (wrEntries (payload (start 0 good) 0)) 1 (wrEntries (payload (start 0 good) 0))) = none ∧
    needsField 0x11 (payload good 0) = false ∧ canStart good 0 0x11 = true ∧ canStart ds 0 0x12 = true ∧
    canStart br 0 0x13 = true ∧ needsField 0x13 (payload br 0) = false ∧
    (match blockRead (start 0 br) 0 0x1000 1 1 with | .inr _ => true | .inl _ => false) = true ∧
    canStart bw 0 0x14 = true ∧ needsField 0x14 (payload bw 0) = false ∧
    (match blockEntries 0 (start 0 bw) with
      | .inr l => firstFail (start 0 bw) l 1 l == none
      | .inl _ => false) = true ∧ canStart cf 0 0x11 = true ∧
    wrEntries (payload cf 0) = [wc] ∧ wc.key = P.safetyLastConfirm.1 ∧ judge (start 0 cf) [wc] wc = none ∧
    canStart tc 0 0x11 = true ∧ wrEntries (payload tc 0) = [wt] ∧ wt.key = P.loopTabCommit.1 ∧
    judge (start 0 tc) [wt] wt = none ∧ canStart st 0 0x18 = true ∧ st.par.storing = none ∧
    canStart rs 0 0x19 = true ∧ (nth (payload (start 0 rs) 0) 0 0).toNat = 0 ∧ rs.op.state = .standby ∧
    rs.loop.commit = [] ∧ 0 < rs.mbx.tags.length := by decide +kernel

theorem witness_LastAndFirmware :
    let z := inState .standby
    let c := withCmd 0x50 [] z
    let r := withCmd 0x51 [0, 0, 0, 0, 0, 8] z
    let u := withCmd 0x52 [0, 0, 0, 9] { z with last := { z.last with sealed := true, code := 9 } }
    let b := withCmd 0x60 [0, 0, 2, 0] z
    let d := withCmd 0x61 [0, 0, 0, 4, 1, 2, 3, 4] { z with boot := { z.boot with stage := some (512, 4) } }
    let e := withCmd 0x62 [] { z with boot := { z.boot with stage := some (512, 512) } }
    let a := withCmd 0x63 [] { z with id := { z.id with staged := 1 } }
    canStart c 0 0x50 = true ∧ c.op.state = .standby ∧ c.last.computing = none ∧ canStart r 0 0x51 = true ∧
    beNat (((payload (start 0 r) 0).drop 4).take 2) = 8 ∧
    beNat ((payload (start 0 r) 0).take 4) + 8 ≤ (lastImage (start 0 r)).length ∧ canStart u 0 0x52 = true ∧
    0 < u.mbx.tags.length ∧ u.op.state = .standby ∧ vdcBelow60 u = true ∧ u.last.computing = none ∧
    u.last.sealed = true ∧ beNat (payload (start 0 u) 0) = u.last.code ∧ canStart b 0 0x60 = true ∧
    b.boot.stageVerify = none ∧ beNat (payload (start 0 b) 0) = 512 ∧ canStart d 0 0x61 = true ∧
    d.boot.stageVerify = none ∧ d.boot.stage = some (512, 4) ∧ beNat ((payload (start 0 d) 0).take 4) = 4 ∧
    ((payload (start 0 d) 0).length - 4) % 4 = 0 ∧ 4 + ((payload (start 0 d) 0).length - 4) ≤ 512 ∧
    canStart e 0 0x62 = true ∧ e.boot.stageVerify = none ∧ e.boot.stage = some (512, 512) ∧ canStart a 0 0x63 = true ∧
    a.op.state = .standby ∧ a.id.staged ≠ 0 := by decide +kernel

theorem witness_EventLog :
    let z := inState .standby
    let r : EventRec := ⟨0x1001, 1, 0, 0, false, false, false, [], 0⟩
    let rd := withCmd 0x70 [0, 2] z
    let rx := withCmd 0x70 [2, 2] z
    let c0 := withCmd 0x71 [0] z
    let c1 := withCmd 0x71 [1] z
    let u := { c1 with last := { c1.last with sealed := false } }
    let v := { u with op := { u.op with state := .run } }
    let l := { c1 with last := { c1.last with sealed := true } }
    let q := { z with
      supply := { z.supply with hbLock := false, fcLock := false }
      evt := { z.evt with fcq := [r], pq := [r], fcDropped := 3 } }
    let w := { z with evt := { z.evt with pTail := some r } }
    canStart rd 0 0x70 = true ∧ (nth (payload (start 0 rd) 0) 0 0).toNat ≤ 1 ∧
    (nth (payload (start 0 rd) 0) 1 0).toNat ≤ 31 ∧ canStart rx 0 0x70 = true ∧
    1 < (nth (payload (start 0 rx) 0) 0 0).toNat ∧ canStart c0 0 0x71 = true ∧ 0 < c0.mbx.tags.length ∧
    (nth (payload (start 0 c0) 0) 0 0).toNat = 0 ∧ dieDown c0 .hb = false ∧ canStart u 0 0x71 = true ∧
    (nth (payload (start 0 u) 0) 0 0).toNat = 1 ∧ u.last.sealed = false ∧ u.op.state = .standby ∧
    u.evt.vlog.length < 4095 ∧ canStart v 0 0x71 = true ∧ (nth (payload (start 0 v) 0) 0 0).toNat = 1 ∧
    v.last.sealed = false ∧ v.op.state ≠ .standby ∧ canStart l 0 0x71 = true ∧ l.last.sealed = true ∧
    (nth (payload (start 0 l) 0) 0 0).toNat = 1 ∧ fieldUp q = true ∧ q.supply.hbLock = false ∧ q.evt.fcq = [r] ∧
    q.evt.vlog.length < 4095 ∧ q.evt.pq.length < 64 ∧ q.evt.fcDropped ≠ 0 ∧ q.evt.fcq.length < 256 ∧
    dieDown q .fc = false ∧ q.evt.pq = [r] ∧ q.evt.pTail = none ∧ w.evt.pq = [] ∧ w.evt.pTail = some r ∧ w.evt.plog.length < 16384 ∧ q.evt.plog.length < 16383 := by decide +kernel

/-- The two other fill counts of the persistent log. -/
theorem witness_EventLog_full :
    let r : EventRec := ⟨0x1001, 1, 0, 0, false, false, false, [], 0⟩
    (List.replicate 16383 r).length = 16383 ∧ 16383 < (List.replicate 16384 r).length := by
  simp only [List.length_replicate]
  exact ⟨trivial, by omega⟩

theorem witness_TapDebug :
    let s := inState .standby
    let u := { s with tap := { s.tap with unlocked := true, challenge := some 5 } }
    let d := { s with supply := { s.supply with hbLock := true } }
    s.supply.hbLock = false ∧ s.tap.unlocked = false ∧ u.supply.hbLock = false ∧ u.tap.unlocked = true ∧
    u.tap.challenge.isSome = true ∧ u.tap.chalUsed = false ∧ u.boot.recovery = false ∧ ({ u with boot := { u.boot with recovery := true } } : State).boot.recovery = true ∧ u.op.state = .standby ∧ s.tap.challenge.isSome = false ∧
    d.supply.hbLock = true := by decide +kernel

theorem witness_HostPortFrames :
    let z := inState .standby
    let f : Frame := frameOf 0x10000000 [0]
    let m := { z with boot := { z.boot with rom := false, recovery := false } }
    let r := { z with boot := { z.boot with recovery := true } }
    let b := { z with mbx := { z.mbx with tags := upd z.mbx.tags 0 (fun t => { t with st := .queued }) } }
    let p := { z with port := { z.port with badRun := 8 } }
    let a : Access := ⟨false, 0x0604, 1, [], .uh, 0⟩
    let q := { z with
      port := { z.port with access := some a, dropAccess := false }
      jx := { z.jx with hb := ⟨[.full], false⟩ } }
    let w := { q with pt := { q.pt with ns := 1000000000 } }
    portUp z = true ∧ headOk f = true ∧ kindOk f = true ∧ dataOk f [0] = true ∧ f.busErr = false ∧
    headOk { f with hcrc := 0 } = false ∧ dataOk { f with dcrc := 0 } [0] = false ∧
    windowOk 0x0014 1 = true ∧ (rangeOf 0x0014).1 = .hb ∧ (readHb z 0x0014).isSome = true ∧ 0x0014 ≠ 0x24 ∧
    inRom m = false ∧ portUp m = true ∧ (readHb m 0x0014).isSome = true ∧ romWritable 0x0014 = false ∧ inRom r = true ∧
    portUp r = true ∧ (readHb r 0x0014).isSome = true ∧ (tag z 127).st = .free ∧ z.mbx.tags.length = 128 ∧
    memWf z.mbx.mem = true ∧ cpDown z = false ∧ z.pairs.cp.restarting = false ∧ (tag b 0).st ≠ .free ∧ portUp b = true ∧
    memWf b.mbx.mem = true ∧ poisonedIn z (1024 * 127 + 4 * 255) 4 = false ∧ poisonedIn z (131072 + 16 * 511) 16 = false ∧
    dataOk (frameOf 0x60000000 [0x010A0007]) [0x010A0007] = true ∧ dataOk (frameOf 0x60000000 [0x01000006]) [0x01000006] = true ∧
    a.since + parN w P.portReadWait ≤ w.pt.ns ∧ w.port.access = some a ∧ w.port.dropAccess = false ∧
    bitOf 0x010A0007 0 = true ∧ bitsOf 0x010A0007 16 8 ≠ 0 ∧ bitOf 0x01000006 0 = false ∧ portUp p = true ∧
    8 ≤ p.port.badRun ∧ 127 < z.mbx.empty.length ∧ q.port.access = some a ∧ q.port.dropAccess = false ∧ a.write = false ∧
    fieldDown q (rangeOf a.addr).1 a.gd = false := by decide +kernel

theorem witness_RegisterEffects :
    let z := inState .standby
    let m := { z with boot := { z.boot with rom := false, recovery := false } }
    let f : Frame := frameOf 0x10000000 [0]
    let b := { z with mbx := { z.mbx with tags := upd z.mbx.tags 0 (fun t => { t with st := .queued }) } }
    let q := { z with jx := { z.jx with hb := ⟨[.full], false⟩ } }
    portUp z = true ∧ headOk f = true ∧ kindOk f = true ∧ dataOk f [0] = true ∧ f.busErr = false ∧ f.clocked = true ∧
    ({ f with clocked := false }).clocked = false ∧ (tag z (128 % 128)).st = .free ∧ z.mbx.tags.length = 128 ∧
    cpDown z = false ∧ z.pairs.cp.restarting = false ∧ portUp b = true ∧ (tag b (0 % 128)).st ≠ .free ∧
    z.cp.heldHead = [] ∧ (0 % 1024 + 1024 - z.mbx.head) % 1024 ≤ (z.mbx.tail + 1024 - z.mbx.head) % 1024 ∧
    (z.mbx.tail + 1024 - z.mbx.head) % 1024 < (1 % 1024 + 1024 - z.mbx.head) % 1024 ∧ inRom m = false ∧ portUp m = true ∧
    portUp q = true ∧ q.port.access = none ∧ fieldDown q .fc (selGd q) = false ∧ z.op.state = .standby ∧
    (∀ n ∈ [0, 1, 2], (∀ k ∈ [0x5C, 0x5D], dataOk (frameOf 0x20000024 [resetWord k false n]) [resetWord k false n] = true) ∧
      headOk (frameOf 0x20000024 [resetWord 0x5C false n]) = true ∧ kindOk (frameOf 0x20000024 [resetWord 0x5C false n]) = true) ∧
    portUp (inState .run) = true ∧ (inState .run).op.state = .run := by decide +kernel

theorem witness_CursorRule :
    let m := { inState .standby with boot := { State.reset.boot with rom := false, recovery := false } }
    let f : Frame := frameOf 0x10000000 [0]
    portUp m = true ∧ headOk f = true ∧ kindOk f = true ∧ dataOk f [0] = true ∧ inRom m = false := by decide +kernel

theorem witness_DieSelector :
    let m := { inState .standby with boot := { State.reset.boot with rom := false, recovery := false } }
    let f : Frame := frameOf 0x10000000 [0]
    let g := { m with
      gdSelect := 7
      jx := { m.jx with hb := ⟨[.full], false⟩, gd := six ⟨[.full], false⟩ }
      gd := six { m.gd.uh with powered := true, trained := true } }
    let q := { g with port := { g.port with access := some ⟨false, 0x0800, 1, [], .wl, 0⟩, dropAccess := false } }
    portUp m = true ∧ headOk f = true ∧ kindOk f = true ∧ dataOk f [0] = true ∧ inRom m = false ∧ State.reset.gdSelect < 8 ∧
    2 ≤ State.reset.gdSelect ∧ portUp g = true ∧ windowOk 0x0800 1 = true ∧ (rangeOf 0x0800).1 = .gd ∧
    (readGd g .wl 0x0800).isSome = true ∧ g.gdSelect = GdPos.wl.id ∧ fieldDown g .gd .wl = false ∧ g.port.access = none ∧
    q.port.access = some ⟨false, 0x0800, 1, [], .wl, 0⟩ ∧ q.port.dropAccess = false ∧ fieldDown q .gd .wl = false := by
  decide +kernel

theorem witness_PortFrame :
    (match exec .portFallback { State.reset with port := { State.reset.port with badRun := 8 } } with
      | .next _ => true | _ => false) = true := by decide +kernel

theorem witness_CanLeavesTheDrive :
    (match exec .networkTimeLost State.reset with | .next _ => true | _ => false) = true := by decide +kernel

theorem witness_StateOnlyByItsCommand :
    (match exec (.enable 0) (withCmd 0x21 [] enableState) with | .next t => t.op.state | _ => .boot) = .run := by
  decide +kernel

end Sys2Proof.Tests
end

section
/-! What every command and every step keeps, assembled from the lemmas of the meanings: one rule for `exec`, one for
`step`. The statements about invariants are read off the fields of `Sound`. -/

namespace Sys2Proof.Laws
open Sys2Proof Sys2Proof.Machine

/-- What a command keeps of `q`: the release and the commands that can reset FC drop the bound of the held order
(R35, R549), DBG_RESP the lock of debug (R684), every other command nothing. -/
def Kept.after (q : Kept) : Instr → Kept
  | .faultAck _ | .lockoutEnter _ _ _ _ | .thermalShutdownEnter _ _ | .nresetAssert | .boot _ | .gdWaitTimeout _
  | .trialBootTimeout | .regWrite _ _ _ | .resetCtrlPackageReset _ _ _ | .resetCtrlBistReset _ _ _
  | .resetCtrlRecoveryReset _ _ _ => q.z
  | .dbgResp _ => q.u
  | _ => q

variable {q : Kept} {s t : State}

theorem Sound.z (h : Sound q s) : Sound q.z s := { h with rank := Nat.zero_le _ }

theorem Sound.u (h : Sound q s) : Sound q.u s := { h with lock := nofun }

/-- Every command keeps what `Kept.after` says. -/
theorem sound_exec (c : Instr) (h : Sound q s) : SoundO (q.after c) (exec c s) := by
  cases c with
  | regRead => exact sound_execRegRead h
  | regWrite => exact sound_execRegWrite h.z
  | eyeletWrite => exact sound_execEyeletWrite h
  | eyeletRead => exact sound_execEyeletRead h
  | cqRead => exact sound_execCqRead h
  | hello => exact sound_execHello h
  | portFallback => exact sound_execPortFallback h
  | frameStall => exact sound_execFrameStall h
  | frameTruncated => exact sound_execFrameTruncated h
  | fieldAccessReply => exact sound_execFieldAccessReply h
  | waitTimeout => exact sound_execWaitTimeout h
  | doorbell => exact soundO_ok (sound_regWrite_at (by decide) h)
  | cqHeadWrite => exact soundO_ok (sound_regWrite_at (by decide) h)
  | irqStatusClear => exact soundO_ok (sound_regWrite_at (by decide) h)
  | rcRegisterRead => exact sound_execRcRegisterRead h
  | ptLoRead => exact sound_execPtLoRead h
  | setposLoRead => exact sound_execSetposLoRead h
  | evtDataRead => exact sound_execEvtDataRead h
  | evtCursorWrite => exact soundO_ok (sound_regWrite_at (by decide) h)
  | gdSelectWrite => exact soundO_ok (sound_regWrite_at (by decide) h)
  | resetCtrlPackageReset => exact sound_execResetCtrlPackageReset h.z
  | resetCtrlBistReset => exact sound_execResetCtrlBistReset h.z
  | resetCtrlRecoveryReset => exact sound_execResetCtrlRecoveryReset h.z
  | commandAdmission => exact sound_execCommandAdmission h
  | commandStep => exact sound_execCommandStep h
  | fieldSideReply => exact sound_execFieldSideReply h
  | irqCoalescingTimeout => exact sound_execIrqCoalescingTimeout h
  | nop => exact sound_execNop h
  | cancel => exact sound_execCancel h
  | paramRead => exact sound_execParamRead h
  | paramWrite => exact sound_execParamWrite h
  | lastConfirmWrite => exact sound_execLastConfirmWrite h
  | tableCommitWrite => exact sound_execTableCommitWrite h
  | paramDesc => exact sound_execParamDesc h
  | blockRead => exact sound_execBlockRead h
  | blockWrite => exact sound_execBlockWrite h
  | store => exact sound_execStore h
  | restoreDefaults => exact sound_execRestoreDefaults h
  | precharge => exact sound_execPrecharge h
  | enable => exact sound_execEnable h
  | stop => exact sound_execStop h
  | faultAck => exact sound_execFaultAck h.z
  | discharge => exact sound_execDischarge h
  | shutdown => exact sound_execShutdown h
  | senseCal => exact sound_execSenseCal h
  | fbRestart => exact sound_execFbRestart h
  | gdDiag => exact sound_execGdDiag h
  | contactorCheck => exact sound_execContactorCheck h
  | snapshot => exact sound_execSnapshot h
  | moveAbs => exact sound_execMoveAbs h
  | moveRel => exact sound_execMoveRel h
  | velTarget => exact sound_execVelTarget h
  | torqueTarget => exact sound_execTorqueTarget h
  | home => exact sound_execHome h
  | segLoad => exact sound_execSegLoad h
  | segExec => exact sound_execSegExec h
  | lastCompute => exact sound_execLastCompute h
  | lastImageRead => exact sound_execLastImageRead h
  | fwStageBegin => exact sound_execFwStageBegin h
  | fwStageData => exact sound_execFwStageData h
  | fwStageEnd => exact sound_execFwStageEnd h
  | fwActivate => exact sound_execFwActivate h
  | eventRead => exact sound_execEventRead h
  | eventClear => exact sound_execEventClear h
  | scrubRange => exact sound_execScrubRange h
  | memTest => exact sound_execMemTest h
  | canTx => exact sound_execCanTx h
  | canRxRead => exact sound_execCanRxRead h
  | canFilterLoad => exact sound_execCanFilterLoad h
  | canBusOn => exact sound_execCanBusOn h
  | canRateDetect => exact sound_execCanRateDetect h
  | canBufWrite => exact sound_execCanBufWrite h
  | leLockstepMismatch => exact sound_execLeLockstepMismatch h
  | lePairPersistent => exact sound_execLePairPersistent h
  | cpLockstepMismatch => exact sound_execCpLockstepMismatch h
  | cpRestartDone => exact sound_execCpRestartDone h
  | cpPairPersistent => exact sound_execCpPairPersistent h
  | crystalClockFault => exact sound_execCrystalClockFault h
  | referenceClockLost => exact sound_execReferenceClockLost h
  | pllClockFault => exact sound_execPllClockFault h
  | laneErrorLimit => exact sound_execLaneErrorLimit h
  | laneTrainingDone => exact sound_execLaneTrainingDone h
  | linkLost => exact sound_execLinkLost h
  | gdLinkLost => exact sound_execGdLinkLost h
  | hbLinkLoss => exact sound_execHbLinkLoss h
  | heelReceived => exact sound_execHeelReceived h
  | heelReport => exact sound_execHeelReport h
  | heldOrderRelease => exact sound_execHeldOrderRelease h
  | compareSetReceived => exact sound_execCompareSetReceived h
  | ptDisciplineExchange => exact sound_execPtDisciplineExchange h
  | ptOffsetWarning => exact sound_execPtOffsetWarning h
  | barrierFailed => exact sound_execBarrierFailed h
  | snapshotLatch => exact sound_execSnapshotLatch h
  | lockoutEnter => exact sound_execLockoutEnter h.z
  | lockoutLeave => exact sound_execLockoutLeave h
  | vfPowerFailWarning => exact sound_execVfPowerFailWarning h
  | nresetAssert => exact sound_execNresetAssert h.z
  | nresetRelease => exact sound_execNresetRelease h
  | boot => exact sound_execBoot h.z
  | gdWaitTimeout => exact sound_execGdWaitTimeout h.z
  | trialBootTimeout => exact sound_execTrialBootTimeout h.z
  | highSideTrainTimeout => exact sound_execHighSideTrainTimeout h
  | shutdownDrainEnd => exact sound_execShutdownDrainEnd h
  | samplingTrigger => exact sound_execSamplingTrigger h
  | pathAConversion => exact sound_execPathAConversion h
  | overcurrentTrip => exact sound_execOvercurrentTrip h
  | overvoltageTrip => exact sound_execOvervoltageTrip h
  | pathComparisonWindow => exact sound_execPathComparisonWindow h
  | comparisonFailed => exact sound_execComparisonFailed h
  | crossCheckVerdict => exact sound_execCrossCheckVerdict h
  | sumCheckFailed => exact sound_execSumCheckFailed h
  | vdcDisagreement => exact sound_execVdcDisagreement h
  | vdcArbitrationTimeout => exact sound_execVdcArbitrationTimeout h
  | terminalImplausible => exact sound_execTerminalImplausible h
  | openInput => exact sound_execOpenInput h
  | stuckChannel => exact sound_execStuckChannel h
  | pathBOverload => exact sound_execPathBOverload h
  | overvoltageWarning => exact sound_execOvervoltageWarning h
  | overvoltageWarningClear => exact sound_execOvervoltageWarningClear h
  | undervoltage => exact sound_execUndervoltage h
  | housekeepingRound => exact sound_execHousekeepingRound h
  | referenceOutOfTolerance => exact sound_execReferenceOutOfTolerance h
  | bandgapDisagreement => exact sound_execBandgapDisagreement h
  | transducerSupplyFault => exact sound_execTransducerSupplyFault h
  | hkAdcSuspect => exact sound_execHkAdcSuspect h
  | calibrationComplete => exact sound_execCalibrationComplete h
  | quadratureTransition => exact sound_execQuadratureTransition h
  | illegalLimitExceeded => exact sound_execIllegalLimitExceeded h
  | indexLatch => exact sound_execIndexLatch h
  | indexFaultCheck => exact sound_execIndexFaultCheck h
  | hallStateChange => exact sound_execHallStateChange h
  | hallStateInvalid => exact sound_execHallStateInvalid h
  | resolverAmplitudeFault => exact sound_execResolverAmplitudeFault h
  | resolverTrackingLost => exact sound_execResolverTrackingLost h
  | resolverExcitationFault => exact sound_execResolverExcitationFault h
  | ssiFrameDecoded => exact sound_execSsiFrameDecoded h
  | ssiFrameAbort => exact sound_execSsiFrameAbort h
  | ssiStaleLimit => exact sound_execSsiStaleLimit h
  | wireFault => exact sound_execWireFault h
  | encoderSupplyFault => exact sound_execEncoderSupplyFault h
  | sourceDisagreement => exact sound_execSourceDisagreement h
  | frozenSource => exact sound_execFrozenSource h
  | oe0Valid => exact sound_execOe0Valid h
  | oe1Valid => exact sound_execOe1Valid h
  | residualDisagreement => exact sound_execResidualDisagreement h
  | observerRejoin => exact sound_execObserverRejoin h
  | startMeasurementEnd => exact sound_execStartMeasurementEnd h
  | ascSettleEnd => exact sound_execAscSettleEnd h
  | catchLockCheck => exact sound_execCatchLockCheck h
  | reacquisitionTimeout => exact sound_execReacquisitionTimeout h
  | awlSequenceEnd => exact sound_execAwlSequenceEnd h
  | blockCommutation => exact sound_execBlockCommutation h
  | crossingMissed => exact sound_execCrossingMissed h
  | blockStartTimeout => exact sound_execBlockStartTimeout h
  | sixStepChange => exact sound_execSixStepChange h
  | tableCommitCopy => exact sound_execTableCommitCopy h
  | loopModeChange => exact sound_execLoopModeChange h
  | currentDeviation => exact sound_execCurrentDeviation h
  | voltageLimitHeld => exact sound_execVoltageLimitHeld h
  | disturbedPredictionLimit => exact sound_execDisturbedPredictionLimit h
  | speedDeviation => exact sound_execSpeedDeviation h
  | overspeed => exact sound_execOverspeed h
  | followingError => exact sound_execFollowingError h
  | dampingClamped => exact sound_execDampingClamped h
  | pePlan => exact sound_execPePlan h
  | targetReached => exact sound_execTargetReached h
  | switchInputChange => exact sound_execSwitchInputChange h
  | switchDebounced => exact sound_execSwitchDebounced h
  | switchChatter => exact sound_execSwitchChatter h
  | switchChatterEnd => exact sound_execSwitchChatterEnd h
  | homingTimeout => exact sound_execHomingTimeout h
  | standstill => exact sound_execStandstill h
  | standstillAction => exact sound_execStandstillAction h
  | legEdgeDecision => exact sound_execLegEdgeDecision h
  | compareSetsMissedTwice => exact sound_execCompareSetsMissedTwice h
  | echoReceived => exact sound_execEchoReceived h
  | delayLineCalibration => exact sound_execDelayLineCalibration h
  | bootstrapRefresh => exact sound_execBootstrapRefresh h
  | bootstrapChargePulse => exact sound_execBootstrapChargePulse h
  | legLossRampEnd => exact sound_execLegLossRampEnd h
  | gateEdge => exact sound_execGateEdge h
  | profileEnd => exact sound_execProfileEnd h
  | didtTrip => exact sound_execDidtTrip h
  | desatTrip => exact sound_execDesatTrip h
  | softTurnOffEnd => exact sound_execSoftTurnOffEnd h
  | gateVoltageFault => exact sound_execGateVoltageFault h
  | ntcConversion => exact sound_execNtcConversion h
  | moduleTempWarning => exact sound_execModuleTempWarning h
  | moduleOvertemperature => exact sound_execModuleOvertemperature h
  | diagnosticComplete => exact sound_execDiagnosticComplete h
  | outputSlotVote => exact sound_execOutputSlotVote h
  | resyncCopyDone => exact sound_execResyncCopyDone h
  | resyncRendezvous => exact sound_execResyncRendezvous h
  | weltSelfTest => exact sound_execWeltSelfTest h
  | checkerDisagreement => exact sound_execCheckerDisagreement h
  | hashSlot => exact sound_execHashSlot h
  | laneFault => exact sound_execLaneFault h
  | degradedGraceExpiry => exact sound_execDegradedGraceExpiry h
  | unintendedTorque => exact sound_execUnintendedTorque h
  | currentBoundExceeded => exact sound_execCurrentBoundExceeded h
  | torqueDeficit => exact sound_execTorqueDeficit h
  | setpointOutOfBound => exact sound_execSetpointOutOfBound h
  | hkWatchdogExpiry => exact sound_execHkWatchdogExpiry h
  | stoInputChange => exact sound_execStoInputChange h
  | stoFilterChange => exact sound_execStoFilterChange h
  | stoStatusPeriodic => exact sound_execStoStatusPeriodic h
  | stoStatusReceived => exact sound_execStoStatusReceived h
  | stoDiscrepancy => exact sound_execStoDiscrepancy h
  | sdsPiReplacement => exact sound_execSdsPiReplacement h
  | ss1EnvelopeExceeded => exact sound_execSs1EnvelopeExceeded h
  | ss1Standstill => exact sound_execSs1Standstill h
  | ss1Timeout => exact sound_execSs1Timeout h
  | smsExceeded => exact sound_execSmsExceeded h
  | slsExceeded => exact sound_execSlsExceeded h
  | brakeReleaseDelay => exact sound_execBrakeReleaseDelay h
  | brakeDemand => exact sound_execBrakeDemand h
  | brakeTestPulse => exact sound_execBrakeTestPulse h
  | brakeTestPulseEnd => exact sound_execBrakeTestPulseEnd h
  | brakeFeedbackMismatch => exact sound_execBrakeFeedbackMismatch h
  | contactorFeedbackChange => exact sound_execContactorFeedbackChange h
  | contactorCheckDue => exact sound_execContactorCheckDue h
  | prechargeWeldCheckEnd => exact sound_execPrechargeWeldCheckEnd h
  | prechargeTargetReached => exact sound_execPrechargeTargetReached h
  | prechargeTimeout => exact sound_execPrechargeTimeout h
  | fcLossHoldExpiry => exact sound_execFcLossHoldExpiry h
  | dischargeResistorFailed => exact sound_execDischargeResistorFailed h
  | dischargeWindingFailed => exact sound_execDischargeWindingFailed h
  | dischargeComplete => exact sound_execDischargeComplete h
  | safeMessageReceived => exact sound_execSafeMessageReceived h
  | safeMessageDeadline => exact sound_execSafeMessageDeadline h
  | safeStatusTransmit => exact sound_execSafeStatusTransmit h
  | canFrameReceived => exact sound_execCanFrameReceived h
  | canFrameFiltering => exact sound_execCanFrameFiltering h
  | canAttemptEnd => exact sound_execCanAttemptEnd h
  | canTxDeadline => exact sound_execCanTxDeadline h
  | canErrorFlag => exact sound_execCanErrorFlag h
  | canRecessiveIdle => exact sound_execCanRecessiveIdle h
  | canRecoveryDone => exact sound_execCanRecoveryDone h
  | canOnTimeout => exact sound_execCanOnTimeout h
  | canDetectWindowEnd => exact sound_execCanDetectWindowEnd h
  | referenceMessageDue => exact sound_execReferenceMessageDue h
  | referenceMessageReceived => exact sound_execReferenceMessageReceived h
  | timeMasterTimeout => exact sound_execTimeMasterTimeout h
  | networkTimeLost => exact sound_execNetworkTimeLost h
  | eccCorrection => exact sound_execEccCorrection h
  | eccUncorrectable => exact sound_execEccUncorrectable h
  | scrubRead => exact sound_execScrubRead h
  | scrubPassLate => exact sound_execScrubPassLate h
  | mergeBufferFlush => exact sound_execMergeBufferFlush h
  | rowMigration => exact sound_execRowMigration h
  | gdLatchCheck => exact sound_execGdLatchCheck h
  | periodicMemoryTest => exact sound_execPeriodicMemoryTest h
  | memoryTestBlock => exact sound_execMemoryTestBlock h
  | sensorBroken => exact sound_execSensorBroken h
  | temperatureWarning => exact sound_execTemperatureWarning h
  | temperatureWarningClear => exact sound_execTemperatureWarningClear h
  | temperatureStopLevel => exact sound_execTemperatureStopLevel h
  | thermalShutdownEnter => exact sound_execThermalShutdownEnter h.z
  | thermalShutdownLeave => exact sound_execThermalShutdownLeave h
  | shutdownSensorDisagree => exact sound_execShutdownSensorDisagree h
  | recordArrival => exact sound_execRecordArrival h
  | fcRecordQueueRoom => exact sound_execFcRecordQueueRoom h
  | persistentLogWrite => exact sound_execPersistentLogWrite h
  | tapBypass => exact sound_execTapBypass h
  | tapIdcode => exact sound_execTapIdcode h
  | tapSamplePreload => exact sound_execTapSamplePreload h
  | tapExtest => exact sound_execTapExtest h
  | dbgChal => exact sound_execDbgChal h
  | dbgResp => exact sound_execDbgResp h.u
  | dbgAccess => exact sound_execDbgAccess h
  | tapReset => exact sound_execTapReset h
  | cpCheckpoint => exact sound_execCpCheckpoint h
  | stoPathTestEnd => exact sound_execStoPathTestEnd h
  | gdLogicPowerLost => exact sound_execGdLogicPowerLost h
  -- UNSEAL (R480) alone is left: its constructor's name is a word of Lean's own.
  | _ => exact sound_execUnseal h

/-- A bound of 0 and an open lock are nothing to drop. -/
theorem Kept.after_eq (c : Instr) (hr : q.rank = 0) (hl : q.locked = false) : q.after c = q := by
  obtain ⟨queue, fused, locked, rank, mail, logs, sec, num⟩ := q
  cases hr
  cases hl
  unfold Kept.after
  split <;> rfl

theorem sound_tick (h : Sound q s) : Sound q (tick s) := h

/-- The queue is not followed across a step: it takes its front command off. -/
def Kept.on (q : Kept) (p : List Instr) : Kept := { q with queue := p }

theorem Sound.on (h : Sound q s) (p : List Instr) : Sound (q.on p) { s with pending := p } := { h with queue := rfl }

/-- Every step keeps the invariants that are asked: an idle one touches the time alone, any other runs a command. -/
theorem sound_step (h : Sound q s) (hr : q.rank = 0) (hl : q.locked = false) (e : step s = .next t) :
    ∃ p, Sound (q.on p) t := by
  unfold step at e
  split at e
  case h_1 hp =>
    cases e
    exact ⟨s.pending, { sound_tick h with queue := rfl }⟩
  case h_2 c r hp =>
    have keeps := sound_exec c (h.on r)
    rw [Kept.after_eq c (q := q.on r) hr hl] at keeps
    exact ⟨r, keeps t e⟩

/-- The serial number alone is asked. -/
def Kept.serial (p : List Instr) : Kept :=
  { queue := p, fused := 0, locked := false, rank := 0, mail := false, logs := false, sec := false, num := true }

theorem sound_serial (h : s.id.serial = Config.serial) : Sound (.serial s.pending) s where
  queue := rfl
  wf := nofun
  log := nofun
  count := nofun
  next := nofun
  vol := nofun
  waiting := nofun
  field := nofun
  per := nofun
  fuse := nofun
  toRaise := nofun
  number _ := h
  lock := nofun
  rank := Nat.zero_le _

/-- Settles O8: the serial number is one of the invariants that every step keeps. -/
theorem serialFixed : Obligations.SerialFixed := by
  unfold Obligations.SerialFixed
  intro s t hs e
  obtain ⟨p, ht⟩ := sound_step (sound_serial hs) rfl rfl e
  exact ht.number rfl

end Sys2Proof.Laws
end

section
/-! The invariants of the architecture: the mailbox and the journal through every step, the held order through every
command, and what holds right after reset. -/

namespace Sys2Proof.Laws
open Sys2Proof Sys2Proof.Machine Sys2Proof.Safety

variable {s t : State}

/-- The mailbox and the journal alone are asked. -/
def Kept.mailbox (p : List Instr) : Kept :=
  { queue := p, fused := 0, locked := false, rank := 0, mail := true, logs := false, sec := false, num := false }

theorem sound_mailbox_iff : Sound (.mailbox s.pending) s ↔ mailboxSound s ∧ s.cp.ckpt.length = 128 := by
  constructor
  · intro h
    exact ⟨⟨h.wf rfl, h.log rfl⟩, h.count rfl⟩
  · rintro ⟨⟨hmem, hlog⟩, hcount⟩
    exact { queue := rfl, wf := fun _ => hmem, log := fun _ => hlog, count := fun _ => hcount, next := nofun, vol := nofun,
            waiting := nofun, field := nofun, per := nofun, fuse := nofun, toRaise := nofun, number := nofun, lock := nofun,
            rank := Nat.zero_le _ }

/-- Settles O4: the mailbox memory, the journal and the checkpoint are among the invariants that every step keeps. -/
theorem mailboxInvariant : Obligations.MailboxInvariant := by
  unfold Obligations.MailboxInvariant
  intro s t hs hcount e
  obtain ⟨p, ht⟩ := sound_step (sound_mailbox_iff.2 ⟨hs, hcount⟩) rfl rfl e
  exact ⟨⟨ht.wf rfl, ht.log rfl⟩, ht.count rfl⟩

/-- The severity of FC's held order alone is asked. -/
def Kept.severity (s : State) : Kept :=
  { queue := s.pending, fused := 0, locked := false, rank := rankOf s.heel.fc, mail := false, logs := false, sec := false,
    num := false }

theorem sound_severity : Sound (.severity s) s where
  queue := rfl
  wf := nofun
  log := nofun
  count := nofun
  next := nofun
  vol := nofun
  waiting := nofun
  field := nofun
  per := nofun
  fuse := nofun
  toRaise := nofun
  number := nofun
  lock := nofun
  rank := le_refl _

theorem sev_pos (o : HeelOrder) : 0 < sev o := by
  cases o <;> simp [sev]

/-- Settles O10: the rank of the held order is a bound that only the release and the resets drop, and every order ranks
above none. -/
theorem heldOrderNeverFalls : Obligations.HeldOrderNeverFalls := by
  unfold Obligations.HeldOrderNeverFalls
  intro c s t e
  refine or_iff_not_imp_right.2 fun other => ?_
  have keeps : rankOf s.heel.fc ≤ rankOf t.heel.fc := by
    have bound := (sound_exec c (sound_severity (s := s)) t e).rank
    cases c
    case faultAck | lockoutEnter | thermalShutdownEnter | nresetAssert | boot | gdWaitTimeout | trialBootTimeout
        | regWrite | resetCtrlPackageReset | resetCtrlBistReset | resetCtrlRecoveryReset => exact absurd trivial other
    all_goals exact bound
  split
  case h_1 => trivial
  case h_2 held after =>
    rw [held, after] at keeps
    exact keeps
  case h_3 o held after =>
    rw [held, after] at keeps
    exact absurd keeps (Nat.not_le.2 (sev_pos o))

/-- Settles O2: a tick adds one to PT's count and touches nothing else. -/
theorem stepIdle : Obligations.StepIdle := by
  unfold Obligations.StepIdle
  intro s idle
  refine ⟨tick s, ?_, rfl, rfl⟩
  unfold step
  rw [idle]

/-- Settles O5: at reset every list of the mailbox, the journal and the logs is empty and SEQ is 0. -/
theorem invariantsAtReset : Obligations.InvariantsAtReset := by
  unfold Obligations.InvariantsAtReset
  have logs : logsBounded State.reset := ⟨Nat.zero_le _, Nat.zero_le _, Nat.zero_le _, Nat.zero_le _, Nat.zero_le _⟩
  exact ⟨⟨rfl, rfl⟩, List.length_replicate, logs⟩

end Sys2Proof.Laws
end

section
/-! Lockstep pairs and clocks (R23 to R31). -/

namespace Sys2Proof.Laws
open Sys2Proof Sys2Proof.Machine Sys2Proof.Safety

@[simp] theorem lePair_setLe (p : LePair) (x : PairState) (s : State) : lePair (setLe p x s) p = x := by
  cases p <;> rfl

@[simp] theorem setLe_setLe (p : LePair) (x y : PairState) (s : State) : setLe p x (setLe p y s) = setLe p x s := by
  cases p <;> rfl

/-- A mismatch stamped and then restarted changes the pair's entry once. -/
theorem leRestart_setLe (p : LePair) (a : CyclePoint) (x : PairState) (s : State) :
    leRestart p a (setLe p x s) =
      { setLe p { x with restarting := x.restarting || a != .waiting
                         point := if x.restarting then firstPoint x.point a else a } s with
        loop := { s.loop with restarts := satInc 255 s.loop.restarts } } := by
  simp only [leRestart, lePair_setLe, setLe_setLe]
  rfl

theorem pairPersistent_of {t : Nat} {x : PairState}
    (h : 2 ≤ x.flagRun ∨ 3 ≤ (x.stamps.filter (fun a => t < a + 1000000000)).length) : pairPersistent t x = true := by
  unfold pairPersistent
  rw [Bool.or_eq_true, decide_eq_true_iff, decide_eq_true_iff]
  exact h.symm

/-- Settles O11: the two rows of a Loop Engine pair, each by its guard. -/
theorem lePairMismatch : Obligations.LePairMismatch := by
  unfold Obligations.LePairMismatch
  constructor
  · intro p a s powered
    have guard : ¬s.supply.fcLock = true := by rw [powered]; exact Bool.false_ne_true
    refine congrArg Host.Outcome.next ((if_neg guard).trans ?_)
    exact congrArg (record .fc 0x1101 0 []) (leRestart_setLe p a _ s)
  · intro p s powered fresh limit
    have guard : (pairPersistent (now s) (lePair s p) && !(lePair s p).persistent && !s.supply.fcLock) = true := by
      rw [pairPersistent_of (t := now s) limit, fresh, powered]; rfl
    exact congrArg Host.Outcome.next (if_pos guard)

/-- Settles O12: the replay of a complete journal gives back the table, and the record touches the recorder alone. -/
theorem cpMismatchLosesNothing : Obligations.CpMismatchLosesNothing := by
  unfold Obligations.CpMismatchLosesNothing
  intro s up powered complete
  have guard : ¬(cpDown s || s.supply.hbLock) = true := by simp [cpDown, up, powered]
  refine ⟨_, congrArg Host.Outcome.next (if_neg guard), ?_⟩
  have tags : replay s.cp.ckpt s.cp.journal = s.mbx.tags := complete
  simp [tags]

theorem writeEntries_of_empty {c : Nat} {f : MergeEntry → Bool} {s : State} (h : (memCtl s c).merge = []) :
    writeEntries c f s = s := by
  unfold writeEntries
  rw [h]
  rfl

/-- Settles O13: the checkpoint, the end of a restart and the persistent fault, each by its guard. -/
theorem cpRestart : Obligations.CpRestart := by
  unfold Obligations.CpRestart
  refine ⟨?_, ?_, ?_⟩
  · intro s up running
    have guard : ¬(cpDown s || s.pairs.cp.restarting) = true := by simp [cpDown, up, running]
    refine ⟨congrArg Host.Outcome.next (if_neg guard), fun empty => congrArg Host.Outcome.next ((if_neg guard).trans ?_)⟩
    rw [writeEntries_of_empty empty]
  · intro s running
    exact congrArg Host.Outcome.next (if_pos running)
  · intro s up third
    have guard : (decide (3 ≤ (s.pairs.cp.stamps.filter (fun a => now s < a + 1000000000)).length) &&
        !s.pairs.cp.held) = true := by
      rw [up, Bool.and_eq_true]
      exact ⟨decide_eq_true third, rfl⟩
    exact congrArg Host.Outcome.next (if_pos guard)

theorem stopChannel_get (c : Ch) (s : State) : ((stopChannel c s).can.get c).mode = .off ∧
    ((stopChannel c s).can.get c).clkStop = true ∧ ((stopChannel c s).can.get c).tx = List.replicate 8 none := by
  cases c <;> exact ⟨rfl, rfl, rfl⟩

/-- Settles O14: each clock fault by its guard; a stopped channel is off, its transmissions gone. -/
theorem clockFaults : Obligations.ClockFaults := by
  unfold Obligations.ClockFaults
  refine ⟨?_, ?_, ?_, stopChannel_get⟩
  · intro s crystal powered
    have guard : ¬(s.clk.hclkRc || s.supply.hbLock) = true := by simp [crystal, powered]
    exact congrArg Host.Outcome.next (if_neg guard)
  · intro s reference powered
    have guard : ¬(s.clk.fcRc || s.supply.fcLock) = true := by simp [reference, powered]
    exact congrArg Host.Outcome.next (if_neg guard)
  · intro d s sound up
    have guard : ¬(s.clk.pll.contains d.id || dieDown s d) = true := by simp [sound, up]
    exact congrArg Host.Outcome.next (if_neg guard)

end Sys2Proof.Laws
end

section
/-! What the operations of the model leave of a state: the die that HB_GD_SELECT names and, for those of an update and of
a housekeeping round, package time, the sample set and the carrier. One rule per operation, in the order of the model's
files. -/

namespace Sys2Proof.Laws
open Sys2Proof Sys2Proof.Machine Sys2Proof.Safety

/-! ## What is looked at -/

/-- What most operations leave: the selected die, and, for those of an update and of a housekeeping round, package time,
the number, stamp and codes of the sample set, the housekeeping readings and the carrier. -/
structure Steady where
  sel : Nat
  clock : Option (PtState × Nat × Nat × List Nat × List Nat × Bool × Nat)

def steadyOf (all : Bool) (sel : Nat) (pt : PtState) (seq stamp : Nat) (codeA hk : List Nat) (up : Bool) (half : Nat) : Steady :=
  ⟨sel, if all then some (pt, seq, stamp, codeA, hk, up, half) else none⟩

def steady (all : Bool) (s : State) : Steady :=
  steadyOf all s.gdSelect s.pt s.sense.seq s.sense.stamp s.sense.codeA s.sense.hk s.mod.up s.mod.half

variable {all : Bool}

@[simp] theorem steady_mk {pending free gdSelect pt op id rst boot supply pairs cp clk jx snap heel port mbx par last evt saf
    sense fb obs loop pe mod gd diag sm can nt mem thm bist tap} : steady all ⟨pending, free, gdSelect, pt, op, id, rst, boot,
      supply, pairs, cp, clk, jx, snap, heel, port, mbx, par, last, evt, saf, sense, fb, obs, loop, pe, mod, gd, diag, sm, can,
      nt, mem, thm, bist, tap⟩ = steadyOf all gdSelect pt sense.seq sense.stamp sense.codeA sense.hk mod.up mod.half := (rfl)

@[simp] theorem steadyOf_self (s : State) : steadyOf all s.gdSelect s.pt s.sense.seq s.sense.stamp s.sense.codeA s.sense.hk
    s.mod.up s.mod.half = steady all s := (rfl)

/-- Where the die alone is asked, the rest does not matter. -/
@[simp] theorem steadyOf_false (s : State) (pt : PtState) (seq stamp : Nat) (codeA hk : List Nat) (up : Bool) (half : Nat) :
    steadyOf false s.gdSelect pt seq stamp codeA hk up half = steady false s := (rfl)

@[simp] theorem foldl_steady {α : Type} {f : State → α → State} (l : List α) (s : State)
    (h : ∀ s a, steady all (f s a) = steady all s) : steady all (l.foldl f s) = steady all s := by
  induction l generalizing s with
  | nil => rfl
  | cons a l ih => exact (ih (f s a)).trans (h s a)

@[simp] theorem foldl_snd_steady {α β : Type} {f : β × State → α → β × State} (l : List α) (x : β × State)
    (h : ∀ x a, steady all (f x a).2 = steady all x.2) : steady all (l.foldl f x).2 = steady all x.2 := by
  induction l generalizing x with
  | nil => rfl
  | cons a l ih => exact (ih (f x a)).trans (h x a)

@[simp] theorem steady_ite {c : Prop} [Decidable c] (t u : State) :
    steady all (if c then t else u) = if c then steady all t else steady all u := apply_ite (steady all) c t u

/-- A command that leaves the selected die. -/
def SelKept (s : State) (o : Host.Outcome State Fault Refusal) : Prop := ∀ t, o = .next t → steady false t = steady false s

@[simp] theorem selKept_ok (s t : State) : SelKept s (ok t) ↔ steady false t = steady false s :=
  ⟨fun h => h t rfl, fun h u e => by cases e; exact h⟩

/-- A first step that leaves the selected die, whether it refuses or goes on. -/
def SelSum (s : State) : State ⊕ (Result × State) → Prop
  | .inl t => steady false t = steady false s
  | .inr r => steady false r.2 = steady false s

@[simp] theorem selSum_inl (s t : State) : SelSum s (.inl t) ↔ steady false t = steady false s := Iff.rfl

@[simp] theorem selSum_inr (s : State) (r : Result × State) : SelSum s (.inr r) ↔ steady false r.2 = steady false s := Iff.rfl

/-! ## One rule per operation -/

/-! ### Ops -/

@[simp] theorem setPar_steady (k v) (s : State) : steady all (setPar k v s) = steady all s := by
  simp [setPar]
@[simp] theorem takeFree_steady (s : State) : steady false (takeFree s).2 = steady false s := by
  simp [takeFree]
@[simp] theorem setTag_steady (i f) (s : State) : steady all (setTag i f s) = steady all s := by
  simp [setTag]
@[simp] theorem answer_steady (i r) (s : State) : steady all (answer i r s) = steady all s := by
  simp [answer]
@[simp] theorem answerOk_steady (i) (s : State) : steady all (answerOk i s) = steady all s := by
  simp [answerOk]

@[simp] theorem endOpcodes_steady (ops status detail) (s : State) :
    steady all (endOpcodes ops status detail s) = steady all s := by
  refine foldl_steady _ _ fun s a => ?_
  split <;> simp

@[simp] theorem noteClass_steady (cls) (s : State) : steady all (noteClass cls s) = steady all s := by
  simp [noteClass]
@[simp] theorem enqueueP_steady (r) (s : State) : steady all (enqueueP r s) = steady all s := by
  simp [enqueueP]
@[simp] theorem putV_steady (r) (s : State) : steady all (putV r s) = steady all s := by
  simp [putV]
@[simp] theorem arrive_steady (r) (s : State) : steady all (arrive r s) = steady all s := by
  simp [arrive]
@[simp] theorem fcPush_steady (r) (s : State) : steady all (fcPush r s) = steady all s := by
  simp [fcPush]

@[simp] theorem record_steady (d code cls ps) (s : State) : steady all (record d code cls ps s) = steady all s := by
  obtain ⟨e, m, i, h⟩ := recorded_record d code cls ps s
  rw [h]
  rfl

@[simp] theorem cmdK_steady (neg pre pos) (s : State) : steady all (cmdK neg pre pos s) = steady all s := by
  simp [cmdK]

@[simp] theorem contactors_steady (s : State) : steady all (contactors s) = steady all s := by
  unfold contactors
  repeat' split
  all_goals simp

@[simp] theorem brake_steady (s : State) : steady all (brake s) = steady all s := by
  simp [brake]
@[simp] theorem startStoTest_steady (boot) (s : State) : steady all (startStoTest boot s) = steady all s := by
  simp [startStoTest]
@[simp] theorem changeState_steady (new cause) (s : State) : steady all (changeState new cause s) = steady all s := by
  simp [changeState]
@[simp] theorem closeBarrier_steady (op) (s : State) : steady false (closeBarrier op s) = steady false s := by
  simp [closeBarrier]
@[simp] theorem abortDiag_steady (code) (s : State) : steady all (abortDiag code s) = steady all s := by
  unfold abortDiag
  split <;> simp

@[simp] theorem endMotion_steady (status code) (s : State) : steady all (endMotion status code s) = steady all s := by
  unfold endMotion
  extract_lets s₁ s₂ homing s₃
  have kept₂ : steady all s₂ = steady all s :=
    (foldl_steady _ _ fun s m => by split <;> simp).trans (endOpcodes_steady _ _ _ s)
  have kept₃ : steady all s₃ = steady all s := by
    simp only [s₃]
    split <;> simp [kept₂]
  simpa using kept₃

@[simp] theorem startPhase_steady (p) (s : State) : steady all (startPhase p s) = steady all s := by
  simp [startPhase]
@[simp] theorem dropStart_steady (keepLock) (s : State) : steady all (dropStart keepLock s) = steady all s := by
  simp [dropStart]
@[simp] theorem endControl_steady (s : State) : steady all (endControl s) = steady all s := by
  simp [endControl]
@[simp] theorem leaveByFault_steady (code) (s : State) : steady all (leaveByFault code s) = steady all s := by
  unfold leaveByFault
  split <;> simp
@[simp] theorem toSafeHold_steady (cause) (s : State) : steady all (toSafeHold cause s) = steady all s := by
  unfold toSafeHold
  split <;> simp
@[simp] theorem broadcast_steady (o) (s : State) : steady all (broadcast o s) = steady all s := by
  simp [broadcast]
@[simp] theorem raiseRun_steady (c) (s : State) : steady all (raiseRun c s) = steady all s := by
  simp [raiseRun]
@[simp] theorem issuePackage_steady (o code) (s : State) : steady all (issuePackage o code s) = steady all s := by
  simp [issuePackage]

@[simp] theorem faultLeg_steady (p code) (s : State) : steady false (faultLeg p code s) = steady false s := by
  unfold faultLeg
  dsimp only
  repeat' split
  all_goals simp

@[simp] theorem startSs1_steady (s : State) : steady all (startSs1 s) = steady all s := by
  simp [startSs1]

@[simp] theorem f2React_steady (code) (s : State) : steady all (f2React code s) = steady all s := by
  unfold f2React
  dsimp only
  repeat' split
  all_goals simp

@[simp] theorem f3React_steady (code) (s : State) : steady all (f3React code s) = steady all s := by
  unfold f3React
  split <;> simp
@[simp] theorem f4React_steady (o code) (s : State) : steady false (f4React o code s) = steady false s := by
  unfold f4React
  split <;> simp

@[simp] theorem detect_steady (d code cls ps) (s : State) : steady all (detect d code cls ps s) = steady all s := by
  unfold detect
  repeat' split
  all_goals simp

@[simp] theorem degrade_steady (s : State) : steady all (degrade s) = steady all s := by
  simp [degrade]
@[simp] theorem onJournal_steady (f) (s : State) : steady false (onJournal f s) = steady false s := by
  unfold onJournal
  split <;> simp
@[simp] theorem journalPt_steady (step) (s : State) : steady false (journalPt step s) = steady false s := by
  simp [journalPt]
@[simp] theorem journalWord_steady (step status detail) (s : State) :
    steady false (journalWord step status detail s) = steady false s := by
  simp [journalWord]
@[simp] theorem journalSet_steady (step status detail) (s : State) :
    steady false (journalSet step status detail s) = steady false s := by
  simp [journalSet]
@[simp] theorem journalLane_steady (step status detail) (s : State) :
    steady false (journalLane step status detail s) = steady false s := by
  simp [journalLane]

/-! ### Mailbox -/

@[simp] theorem writeMem_steady (a l) (s : State) : steady false (writeMem a l s) = steady false s := by
  simp [writeMem]
@[simp] theorem postEntry_steady (e) (s : State) : steady false (postEntry e s) = steady false s := by
  simp [postEntry]
@[simp] theorem countCq_steady (noIrq) (s : State) : steady false (countCq noIrq s) = steady false s := by
  simp [countCq]
@[simp] theorem finish_steady (i r) (s : State) : steady false (finish i r s) = steady false s := by
  simp [finish]
@[simp] theorem finishSt_steady (i status) (s : State) : steady false (finishSt i status s) = steady false s := by
  simp [finishSt]
@[simp] theorem postInterim_steady (i) (s : State) : steady false (postInterim i s) = steady false s := by
  simp [postInterim]

@[simp] theorem recordPort_steady (code cls ps) (s : State) :
    steady false (recordPort code cls ps s) = steady false s := by
  unfold recordPort
  split <;> simp

@[simp] theorem violation_steady (i status) (s : State) : steady false (violation i status s) = steady false s := by
  simp [violation]

@[simp] theorem ringBell_steady (i) (s : State) : steady false (ringBell i s) = steady false s := by
  unfold ringBell
  dsimp only
  repeat' split
  all_goals simp

@[simp] theorem tagBusy_steady (i) (s : State) : steady false (tagBusy i s) = steady false s := by
  simp [tagBusy]
@[simp] theorem refuse_steady (i status check) (s : State) :
    steady false (refuse i status check s) = steady false s := by
  simp [refuse]
@[simp] theorem start_steady (i) (s : State) : steady all (start i s) = steady all s := by
  simp [start]
@[simp] theorem oneStep_steady (i op f) (s : State) (h : ∀ x0, steady false (f x0).2 = steady false x0) :
    steady false (oneStep i op f s) = steady false s := by
  simp [oneStep, h]
@[simp] theorem fieldStep_steady (i op f) (s : State) (h : ∀ x0, steady false (f x0).2 = steady false x0) :
    steady false (fieldStep i op f s) = steady false s := by
  simp [fieldStep, h]

@[simp] theorem longStep_steady (i op f) (s : State) (h : ∀ x, SelSum x (f x)) :
    steady false (longStep i op f s) = steady false s := by
  have begun := h (start i s)
  unfold longStep
  split
  · split
    all_goals
      next e =>
        rw [e] at begun
        simpa using begun
  · rfl

@[simp] theorem no_steady (st) (s : State) : steady all (no st s).2 = steady all s := by
  simp [no]
@[simp] theorem noD_steady (st d) (s : State) : steady false (noD st d s).2 = steady false s := by
  simp [noD]
@[simp] theorem yes_steady (s : State) : steady false (yes s).2 = steady false s := by
  simp [yes]

@[simp] theorem takeOne_steady (i) (s : State) : steady false (takeOne i s) = steady false s := by
  unfold takeOne
  dsimp only
  repeat' split
  all_goals simp

@[simp] theorem takeReply_steady (i) (s : State) : steady false (takeReply i s) = steady false s := by
  simp [takeReply]

/-! ### Params -/

@[simp] theorem saveDevice_steady (s : State) : steady false (saveDevice s) = steady false s := by
  simp [saveDevice]
@[simp] theorem setCarrier_steady (s : State) : steady false (setCarrier s) = steady false s := by
  simp [setCarrier]
@[simp] theorem sealLast_steady (s : State) : steady false (sealLast s) = steady false s := by
  simp [sealLast]
@[simp] theorem touchLast_steady (r) (s : State) : steady false (touchLast r s) = steady false s := by
  simp [touchLast]
@[simp] theorem commitTables_steady (s : State) : steady false (commitTables s) = steady false s := by
  simp [commitTables]
@[simp] theorem cutFilters_steady (w) (s : State) : steady false (cutFilters w s) = steady false s := by
  simp [cutFilters]
@[simp] theorem noteTable_steady (w) (s : State) : steady false (noteTable w s) = steady false s := by
  simp [noteTable]
@[simp] theorem noteShift_steady (w) (s : State) : steady false (noteShift w s) = steady false s := by
  simp [noteShift]
@[simp] theorem noteTriple_steady (w) (s : State) : steady false (noteTriple w s) = steady false s := by
  simp [noteTriple]
@[simp] theorem noteScrub_steady (w old) (s : State) : steady false (noteScrub w old s) = steady false s := by
  simp [noteScrub]
@[simp] theorem noteCarrier_steady (w old) (s : State) : steady false (noteCarrier w old s) = steady false s := by
  simp [noteCarrier]
@[simp] theorem applyWr_steady (w) (s : State) : steady false (applyWr s w) = steady false s := by
  unfold applyWr
  split <;> simp

@[simp] theorem writeAll_steady (ws) (s : State) : steady false (writeAll ws s).2 = steady false s := by
  unfold writeAll
  dsimp only
  repeat' split
  all_goals simp

@[simp] theorem bothBanks_steady (s : State) : steady false (bothBanks s) = steady false s := by
  simp [bothBanks]
@[simp] theorem restoreDefaults_steady (sel) (s : State) : steady false (restoreDefaults sel s) = steady false s := by
  simp [restoreDefaults]

/-! ### Commands -/

@[simp] theorem readHeader_steady (i) (s : State) : steady false (readHeader i s) = steady false s := by
  simp [readHeader]
@[simp] theorem admitCmd_steady (i) (s : State) : steady false (admitCmd i s) = steady false s := by
  simp [admitCmd]

@[simp] theorem selKept_execCommandAdmission (s : State) : SelKept s (execCommandAdmission s) := by
  unfold execCommandAdmission
  dsimp only
  repeat' split
  all_goals simp

@[simp] theorem selKept_execFieldSideReply (tag) (s : State) : SelKept s (execFieldSideReply tag s) := by
  simp [execFieldSideReply]
@[simp] theorem selKept_execIrqCoalescingTimeout (s : State) : SelKept s (execIrqCoalescingTimeout s) := by
  simp [execIrqCoalescingTimeout]

@[simp] theorem inStates_steady (l f) (s : State) (h : ∀ x0, steady false (f x0).2 = steady false x0) :
    steady false (inStates l f s).2 = steady false s := by
  unfold inStates
  split <;> simp [h]

@[simp] theorem selKept_execNop (tag) (s : State) : SelKept s (execNop tag s) := by
  simp [execNop]
@[simp] theorem paramRead_steady (i) (s : State) : steady false (paramRead i s).2 = steady false s := by
  unfold paramRead
  split <;> simp
@[simp] theorem stepWhere_steady (i op f) (s : State) (h : ∀ x0, steady false (f x0).2 = steady false x0) :
    steady false (stepWhere i op f s) = steady false s := by
  simp [stepWhere, h]
@[simp] theorem selKept_execParamRead (tag) (s : State) : SelKept s (execParamRead tag s) := by
  simp [execParamRead]
@[simp] theorem paramWrite_steady (i) (s : State) : steady false (paramWrite i s).2 = steady false s := by
  simp [paramWrite]
@[simp] theorem selKept_execParamWrite (tag) (s : State) : SelKept s (execParamWrite tag s) := by
  simp [execParamWrite]
@[simp] theorem blockWrite_steady (i) (s : State) : steady false (blockWrite i s).2 = steady false s := by
  unfold blockWrite
  split <;> simp
@[simp] theorem selKept_execBlockWrite (tag) (s : State) : SelKept s (execBlockWrite tag s) := by
  simp [execBlockWrite]
@[simp] theorem writeCmd_steady (i) (s : State) : steady false (writeCmd i s) = steady false s := by
  simp [writeCmd]
@[simp] theorem selKept_execLastConfirmWrite (tag) (s : State) : SelKept s (execLastConfirmWrite tag s) := by
  simp [execLastConfirmWrite]
@[simp] theorem selKept_execTableCommitWrite (tag) (s : State) : SelKept s (execTableCommitWrite tag s) := by
  simp [execTableCommitWrite]
@[simp] theorem selKept_execParamDesc (tag) (s : State) : SelKept s (execParamDesc tag s) := by
  simp [execParamDesc]

@[simp] theorem selKept_execBlockRead (tag) (s : State) : SelKept s (execBlockRead tag s) := by
  rw [execBlockRead, selKept_ok]
  refine stepWhere_steady _ _ _ _ fun s => ?_
  dsimp only
  repeat' split
  all_goals simp

@[simp] theorem selKept_execStore (tag) (s : State) : SelKept s (execStore tag s) := by
  rw [execStore, selKept_ok]
  refine longStep_steady _ _ _ _ fun s => ?_
  dsimp only
  repeat' split
  all_goals simp

@[simp] theorem storeHeader_steady (i) (s : State) : steady false (storeHeader i s) = steady false s := by
  unfold storeHeader
  split <;> simp

@[simp] theorem selKept_execRestoreDefaults (tag) (s : State) : SelKept s (execRestoreDefaults tag s) := by
  rw [execRestoreDefaults, selKept_ok]
  refine fieldStep_steady _ _ _ _ fun s => ?_
  repeat' split
  all_goals simp

@[simp] theorem selKept_execLastCompute (tag) (s : State) : SelKept s (execLastCompute tag s) := by
  rw [execLastCompute, selKept_ok]
  refine longStep_steady _ _ _ _ fun s => ?_
  dsimp only
  repeat' split
  all_goals simp

@[simp] theorem lastComputeDone_steady (i) (s : State) : steady false (lastComputeDone i s) = steady false s := by
  simp [lastComputeDone]

@[simp] theorem selKept_execLastImageRead (tag) (s : State) : SelKept s (execLastImageRead tag s) := by
  rw [execLastImageRead, selKept_ok]
  refine oneStep_steady _ _ _ _ fun s => ?_
  dsimp only
  repeat' split
  all_goals simp

@[simp] theorem selKept_execUnseal (tag) (s : State) : SelKept s (execUnseal tag s) := by
  rw [execUnseal, selKept_ok]
  refine fieldStep_steady _ _ _ _ fun s => ?_
  dsimp only
  repeat' split
  all_goals simp

@[simp] theorem setSlot_steady (b x) (s : State) : steady false (setSlot b x s) = steady false s := by
  simp [setSlot]

@[simp] theorem selKept_execFwStageBegin (tag) (s : State) : SelKept s (execFwStageBegin tag s) := by
  rw [execFwStageBegin, selKept_ok]
  refine longStep_steady _ _ _ _ fun s => ?_
  dsimp only
  repeat' split
  all_goals simp

@[simp] theorem selKept_execFwStageData (tag) (s : State) : SelKept s (execFwStageData tag s) := by
  rw [execFwStageData, selKept_ok]
  refine oneStep_steady _ _ _ _ fun s => ?_
  dsimp only
  repeat' split
  all_goals simp

@[simp] theorem selKept_execFwStageEnd (tag img) (s : State) : SelKept s (execFwStageEnd tag img s) := by
  rw [execFwStageEnd, selKept_ok]
  refine longStep_steady _ _ _ _ fun s => ?_
  dsimp only
  repeat' split
  all_goals simp

@[simp] theorem stageVerified_steady (i) (s : State) : steady false (stageVerified i s) = steady false s := by
  unfold stageVerified
  split <;> simp

@[simp] theorem selKept_execFwActivate (tag) (s : State) : SelKept s (execFwActivate tag s) := by
  rw [execFwActivate, selKept_ok]
  refine oneStep_steady _ _ _ _ fun s => ?_
  dsimp only
  repeat' split
  all_goals simp

@[simp] theorem setCur_steady (p n) (s : State) : steady false (setCur p n s) = steady false s := by
  simp [setCur]

@[simp] theorem selKept_execEventRead (tag) (s : State) : SelKept s (execEventRead tag s) := by
  rw [execEventRead, selKept_ok]
  refine oneStep_steady _ _ _ _ fun s => ?_
  dsimp only
  repeat' split
  all_goals simp

@[simp] theorem clearLog_steady (p) (s : State) : steady false (clearLog p s) = steady false s := by
  simp [clearLog]

@[simp] theorem selKept_execEventClear (tag) (s : State) : SelKept s (execEventClear tag s) := by
  rw [execEventClear, selKept_ok]
  refine oneStep_steady _ _ _ _ fun s => ?_
  repeat' split
  all_goals simp

@[simp] theorem selKept_execRecordArrival (s : State) : SelKept s (execRecordArrival s) := by
  unfold execRecordArrival
  repeat' split
  all_goals simp

@[simp] theorem selKept_execFcRecordQueueRoom (s : State) : SelKept s (execFcRecordQueueRoom s) := by
  simp [execFcRecordQueueRoom]
@[simp] theorem putP_steady (r) (s : State) : steady false (putP r s) = steady false s := by
  simp [putP]
@[simp] theorem countTail_steady (s : State) : steady false (countTail s) = steady false s := by
  unfold countTail
  split <;> simp

@[simp] theorem selKept_execPersistentLogWrite (cut) (s : State) : SelKept s (execPersistentLogWrite cut s) := by
  unfold execPersistentLogWrite
  dsimp only
  repeat' split
  all_goals simp

/-! ### Lockstep -/

@[simp] theorem setLe_steady (p x) (s : State) : steady false (setLe p x s) = steady false s := by
  simp [setLe]
@[simp] theorem leRestart_steady (p a) (s : State) : steady false (leRestart p a s) = steady false s := by
  simp [leRestart]
@[simp] theorem selKept_execLeLockstepMismatch (p a) (s : State) : SelKept s (execLeLockstepMismatch p a s) := by
  simp [execLeLockstepMismatch]
@[simp] theorem selKept_execLePairPersistent (p) (s : State) : SelKept s (execLePairPersistent p s) := by
  simp [execLePairPersistent]
@[simp] theorem selKept_execCpLockstepMismatch (s : State) : SelKept s (execCpLockstepMismatch s) := by
  simp [execCpLockstepMismatch]
@[simp] theorem moveHead_steady (v) (s : State) : steady false (moveHead v s) = steady false s := by
  simp [moveHead]
@[simp] theorem selKept_execCpRestartDone (s : State) : SelKept s (execCpRestartDone s) := by
  simp [execCpRestartDone]
@[simp] theorem selKept_execCpPairPersistent (s : State) : SelKept s (execCpPairPersistent s) := by
  simp [execCpPairPersistent]

@[simp] theorem dropTx_steady (status detail cancelStatus x) (s : State) :
    steady false (dropTx status detail cancelStatus s x) = steady false s := by
  unfold dropTx
  repeat' split
  all_goals simp

@[simp] theorem stopChannel_steady (c) (s : State) : steady false (stopChannel c s) = steady false s := by
  unfold stopChannel
  dsimp only
  repeat' split
  all_goals simp

@[simp] theorem selKept_execCrystalClockFault (s : State) : SelKept s (execCrystalClockFault s) := by
  simp [execCrystalClockFault]
@[simp] theorem selKept_execReferenceClockLost (s : State) : SelKept s (execReferenceClockLost s) := by
  simp [execReferenceClockLost]
@[simp] theorem selKept_execPllClockFault (d) (s : State) : SelKept s (execPllClockFault d s) := by
  simp [execPllClockFault]

/-! ### Jexlink -/

@[simp] theorem setLink_steady (d l) (s : State) : steady false (setLink d l s) = steady false s := by
  unfold setLink
  split <;> simp
@[simp] theorem preTimeout_steady (s : State) : steady false (preTimeout s) = steady false s := by
  simp [preTimeout]
@[simp] theorem linkReaction_steady (d) (s : State) : steady false (linkReaction d s) = steady false s := by
  unfold linkReaction
  split <;> simp
@[simp] theorem linkIsLost_steady (d) (s : State) : steady false (linkIsLost d s) = steady false s := by
  simp [linkIsLost]
@[simp] theorem selKept_execLinkLost (d) (s : State) : SelKept s (execLinkLost d s) := by
  simp [execLinkLost]
@[simp] theorem failOutstanding_steady (s : State) : steady false (failOutstanding s) = steady false s := by
  simp [failOutstanding]
@[simp] theorem selKept_execHbLinkLoss (s : State) : SelKept s (execHbLinkLoss s) := by
  simp [execHbLinkLoss]
@[simp] theorem countErrors_steady (d lane n) (s : State) :
    steady false (countErrors d lane n s) = steady false s := by
  simp [countErrors]
@[simp] theorem selKept_execLaneErrorLimit (d lane errs) (s : State) :
    SelKept s (execLaneErrorLimit d lane errs s) := by
  simp [execLaneErrorLimit]

@[simp] theorem selKept_execLaneTrainingDone (d lane pass) (s : State) :
    SelKept s (execLaneTrainingDone d lane pass s) := by
  unfold execLaneTrainingDone
  dsimp only
  repeat' split
  all_goals simp

@[simp] theorem setCopy_steady (d c) (s : State) : steady false (setCopy d c s) = steady false s := by
  unfold setCopy
  split <;> simp

@[simp] theorem selKept_execPtDisciplineExchange (d offset) (s : State) :
    SelKept s (execPtDisciplineExchange d offset s) := by
  unfold execPtDisciplineExchange
  split <;> simp

@[simp] theorem selKept_execPtOffsetWarning (d) (s : State) : SelKept s (execPtOffsetWarning d s) := by
  unfold execPtOffsetWarning
  split <;> simp
@[simp] theorem checkPeer_steady (n) (s : State) : steady false (checkPeer s n) = steady false s := by
  unfold checkPeer
  split <;> simp
@[simp] theorem selKept_execBarrierFailed (s : State) : SelKept s (execBarrierFailed s) := by
  unfold execBarrierFailed
  split <;> simp

@[simp] theorem selKept_execSnapshot (tag) (s : State) : SelKept s (execSnapshot tag s) := by
  rw [execSnapshot, selKept_ok]
  refine longStep_steady _ _ _ _ fun s => ?_
  dsimp only
  repeat' split
  all_goals simp

@[simp] theorem selKept_execVfPowerFailWarning (s : State) : SelKept s (execVfPowerFailWarning s) := by
  simp [execVfPowerFailWarning]

/-! ### SafetyFn -/

@[simp] theorem startAwl_steady (s : State) : steady false (startAwl s) = steady false s := by
  simp [startAwl]
@[simp] theorem endWinding_steady (s : State) : steady all (endWinding s) = steady all s := by
  unfold endWinding
  split <;> simp
@[simp] theorem issuePi_steady (s : State) : steady false (issuePi s) = steady false s := by
  simp [issuePi]
@[simp] theorem stoPi_steady (s : State) : steady false (stoPi s) = steady false s := by
  unfold stoPi
  split <;> simp
@[simp] theorem selKept_execStoInputChange (c active) (s : State) : SelKept s (execStoInputChange c active s) := by
  simp [execStoInputChange]
@[simp] theorem selKept_execStoFilterChange (c) (s : State) : SelKept s (execStoFilterChange c s) := by
  simp [execStoFilterChange]
@[simp] theorem selKept_execStoStatusPeriodic (s : State) : SelKept s (execStoStatusPeriodic s) := by
  simp [execStoStatusPeriodic]
@[simp] theorem selKept_execStoStatusReceived (s : State) : SelKept s (execStoStatusReceived s) := by
  unfold execStoStatusReceived
  split <;> simp
@[simp] theorem selKept_execStoDiscrepancy (s : State) : SelKept s (execStoDiscrepancy s) := by
  simp [execStoDiscrepancy]
@[simp] theorem selKept_execStoPathTestEnd (ta tb) (s : State) : SelKept s (execStoPathTestEnd ta tb s) := by
  unfold execStoPathTestEnd
  split <;> simp
@[simp] theorem selKept_execSdsPiReplacement (s : State) : SelKept s (execSdsPiReplacement s) := by
  simp [execSdsPiReplacement]
@[simp] theorem selKept_execSs1EnvelopeExceeded (s : State) : SelKept s (execSs1EnvelopeExceeded s) := by
  unfold execSs1EnvelopeExceeded
  split <;> simp
@[simp] theorem applyBrake_steady (s : State) : steady false (applyBrake s) = steady false s := by
  simp [applyBrake]
@[simp] theorem selKept_execSs1Standstill (s : State) : SelKept s (execSs1Standstill s) := by
  unfold execSs1Standstill
  split <;> simp
@[simp] theorem selKept_execSs1Timeout (s : State) : SelKept s (execSs1Timeout s) := by
  unfold execSs1Timeout
  split <;> simp
@[simp] theorem selKept_execSmsExceeded (s : State) : SelKept s (execSmsExceeded s) := by
  simp [execSmsExceeded]
@[simp] theorem selKept_execSlsExceeded (s : State) : SelKept s (execSlsExceeded s) := by
  simp [execSlsExceeded]
@[simp] theorem selKept_execBrakeReleaseDelay (s : State) : SelKept s (execBrakeReleaseDelay s) := by
  simp [execBrakeReleaseDelay]
@[simp] theorem selKept_execBrakeDemand (s : State) : SelKept s (execBrakeDemand s) := by
  simp [execBrakeDemand]
@[simp] theorem selKept_execBrakeTestPulse (hs) (s : State) : SelKept s (execBrakeTestPulse hs s) := by
  simp [execBrakeTestPulse]
@[simp] theorem selKept_execBrakeTestPulseEnd (fb) (s : State) : SelKept s (execBrakeTestPulseEnd fb s) := by
  unfold execBrakeTestPulseEnd
  split <;> simp
@[simp] theorem selKept_execBrakeFeedbackMismatch (fb ns) (s : State) :
    SelKept s (execBrakeFeedbackMismatch fb ns s) := by
  simp [execBrakeFeedbackMismatch]
@[simp] theorem startWinding_steady (s : State) : steady false (startWinding s) = steady false s := by
  unfold startWinding
  split <;> simp
@[simp] theorem leaveReady_steady (s : State) : steady false (leaveReady s) = steady false s := by
  simp [leaveReady]
@[simp] theorem beginDischarge_steady (tag windingOnly) (s : State) :
    steady false (beginDischarge tag windingOnly s) = steady false s := by
  simp [beginDischarge]
@[simp] theorem autoDischarge_steady (s : State) : steady false (autoDischarge s) = steady false s := by
  simp [autoDischarge]
@[simp] theorem posOpened_steady (k closed) (s : State) : steady false (posOpened k closed s) = steady false s := by
  simp [posOpened]

@[simp] theorem preStep_steady (s : State) : steady all (preStep s) = steady all s := by
  unfold preStep
  repeat' split
  all_goals simp

@[simp] theorem selKept_execContactorFeedbackChange (k closed) (s : State) :
    SelKept s (execContactorFeedbackChange k closed s) := by
  simp [execContactorFeedbackChange]
@[simp] theorem weldFound_steady (k) (s : State) : steady false (weldFound k s) = steady false s := by
  simp [weldFound]
@[simp] theorem contactorCheckStep_steady (t k closing) (s : State) :
    steady false (contactorCheckStep t k closing s) = steady false s := by
  simp [contactorCheckStep]

@[simp] theorem selKept_execContactorCheckDue (k) (s : State) : SelKept s (execContactorCheckDue k s) := by
  unfold execContactorCheckDue
  repeat' split
  all_goals simp

@[simp] theorem selKept_execFcLossHoldExpiry (s : State) : SelKept s (execFcLossHoldExpiry s) := by
  simp [execFcLossHoldExpiry]
@[simp] theorem startPrecharge_steady (tag) (s : State) : steady false (startPrecharge tag s) = steady false s := by
  simp [startPrecharge]
@[simp] theorem startDiag_steady (tag pre) (s : State) : steady false (startDiag tag pre s) = steady false s := by
  simp [startDiag]

@[simp] theorem selKept_execPrecharge (tag) (s : State) : SelKept s (execPrecharge tag s) := by
  rw [execPrecharge, selKept_ok]
  refine longStep_steady _ _ _ _ fun s => ?_
  repeat' split
  all_goals simp

@[simp] theorem selKept_execPrechargeWeldCheckEnd (s : State) : SelKept s (execPrechargeWeldCheckEnd s) := by
  unfold execPrechargeWeldCheckEnd
  split <;> simp
@[simp] theorem selKept_execPrechargeTargetReached (s : State) : SelKept s (execPrechargeTargetReached s) := by
  unfold execPrechargeTargetReached
  split <;> simp
@[simp] theorem selKept_execPrechargeTimeout (s : State) : SelKept s (execPrechargeTimeout s) := by
  unfold execPrechargeTimeout
  split <;> simp

@[simp] theorem selKept_execDischarge (tag) (s : State) : SelKept s (execDischarge tag s) := by
  rw [execDischarge, selKept_ok]
  refine longStep_steady _ _ _ _ fun s => ?_
  dsimp only
  repeat' split
  all_goals simp

@[simp] theorem selKept_execDischargeResistorFailed (s : State) : SelKept s (execDischargeResistorFailed s) := by
  unfold execDischargeResistorFailed
  split <;> simp
@[simp] theorem selKept_execDischargeWindingFailed (s : State) : SelKept s (execDischargeWindingFailed s) := by
  unfold execDischargeWindingFailed
  split <;> simp

@[simp] theorem selKept_execDischargeComplete (s : State) : SelKept s (execDischargeComplete s) := by
  unfold execDischargeComplete
  repeat' split
  all_goals simp

@[simp] theorem acceptMsg_steady (m) (s : State) : steady false (acceptMsg m s) = steady false s := by
  simp [acceptMsg]
@[simp] theorem single_steady (m) (s : State) : steady false (single m s) = steady false s := by
  simp [single]

@[simp] theorem pairCopy_steady (c m) (s : State) : steady false (pairCopy c m s) = steady false s := by
  unfold pairCopy
  dsimp only
  repeat' split
  all_goals simp

@[simp] theorem selKept_execSafeMessageReceived (c bytes) (s : State) :
    SelKept s (execSafeMessageReceived c bytes s) := by
  simp [execSafeMessageReceived]
@[simp] theorem selKept_execSafeMessageDeadline (s : State) : SelKept s (execSafeMessageDeadline s) := by
  simp [execSafeMessageDeadline]
@[simp] theorem releaseOrders_steady (s : State) : steady false (releaseOrders s) = steady false s := by
  simp [releaseOrders]

@[simp] theorem selKept_execFaultAck (tag) (s : State) : SelKept s (execFaultAck tag s) := by
  rw [execFaultAck, selKept_ok]
  refine fieldStep_steady _ _ _ _ fun s => ?_
  dsimp only
  repeat' split
  all_goals simp

@[simp] theorem selKept_execShutdown (tag) (s : State) : SelKept s (execShutdown tag s) := by
  rw [execShutdown, selKept_ok]
  refine fieldStep_steady _ _ _ _ fun s => ?_
  dsimp only
  repeat' split
  all_goals simp

@[simp] theorem selKept_execContactorCheck (tag) (s : State) : SelKept s (execContactorCheck tag s) := by
  rw [execContactorCheck, selKept_ok]
  refine longStep_steady _ _ _ _ fun s => ?_
  dsimp only
  repeat' split
  all_goals simp

/-! ### Sensing -/

@[simp] theorem markLosses_steady (a b) (s : State) : steady all (markLosses a b s) = steady all s := by
  simp [markLosses]
@[simp] theorem setLosses_steady (a b) (s : State) : steady all (setLosses a b s) = steady all s := by
  simp [setLosses]
@[simp] theorem lose_steady (a b) (s : State) : steady all (lose a b s) = steady all s := by
  simp [lose]
@[simp] theorem selectSources_steady (s : State) : steady all (selectSources s) = steady all s := by
  simp [selectSources]
@[simp] theorem feedClk_steady (c t k) (s : State) : steady all (feedClk c t k s) = steady all s := by
  simp [feedClk]

@[simp] theorem feedClks_steady (c t l) (s : State) : steady all (feedClks c t l s) = steady all s := by
  induction l generalizing s with
  | nil => rfl
  | cons k r ih => rw [feedClks, ih, feedClk_steady]

@[simp] theorem convert_steady (c code) (s : State) : steady all (convert c code s) = steady all s := by
  simp [convert]
@[simp] theorem addTerminal_steady (c) (s : State) : steady false (addTerminal c s) = steady false s := by
  simp [addTerminal]
@[simp] theorem selKept_execPathAConversion (ch uv) (s : State) : SelKept s (execPathAConversion ch uv s) := by
  simp [execPathAConversion]
@[simp] theorem selKept_execOvercurrentTrip (ch) (s : State) : SelKept s (execOvercurrentTrip ch s) := by
  simp [execOvercurrentTrip]
@[simp] theorem selKept_execOvervoltageTrip (ch) (s : State) : SelKept s (execOvervoltageTrip ch s) := by
  simp [execOvervoltageTrip]
@[simp] theorem compareSets_steady (dist p) (s : State) : steady all (compareSets dist p s) = steady all s := by
  simp [compareSets]
@[simp] theorem sumCheck_steady (dist st) (s : State) : steady all (sumCheck dist st s) = steady all s := by
  simp [sumCheck]

@[simp] theorem vdcUnattributable_steady (s : State) : steady all (vdcUnattributable s) = steady all s := by
  unfold vdcUnattributable
  dsimp only
  repeat' split
  all_goals simp

@[simp] theorem arbitrate_steady (s : State) : steady all (arbitrate s) = steady all s := by
  simp [arbitrate]
@[simp] theorem vdcCheck_steady (dist allHigh) (s : State) : steady all (vdcCheck dist allHigh s) = steady all s := by
  unfold vdcCheck
  split <;> simp

@[simp] theorem terminalCheck_steady (dist p on) (s : State) :
    steady all (terminalCheck dist p on s) = steady all s := by
  unfold terminalCheck
  split <;> simp

@[simp] theorem inputCheck_steady (c) (s : State) : steady all (inputCheck c s) = steady all s := by
  simp [inputCheck]
@[simp] theorem stuckHistory_steady (switching c) (s : State) :
    steady all (stuckHistory switching c s) = steady all s := by
  simp [stuckHistory]
@[simp] theorem linkCheck_steady (s : State) : steady all (linkCheck s) = steady all s := by
  simp [linkCheck]
@[simp] theorem senseUpdate_steady (uvA clkB dist switching allHigh on) (s : State) :
    steady false (senseUpdate uvA clkB dist switching allHigh on s) = steady false s := by
  simp [senseUpdate]
@[simp] theorem windowCheck_steady (c a b) (s : State) : steady false (windowCheck c a b s) = steady false s := by
  simp [windowCheck]

@[simp] theorem judgeWindow_steady (c) (s : State) : steady false (judgeWindow s c) = steady false s := by
  unfold judgeWindow
  dsimp only
  repeat' split
  all_goals simp

@[simp] theorem selKept_execPathComparisonWindow (s : State) : SelKept s (execPathComparisonWindow s) := by
  simp [execPathComparisonWindow]
@[simp] theorem selKept_execComparisonFailed (p) (s : State) : SelKept s (execComparisonFailed p s) := by
  simp [execComparisonFailed]

@[simp] theorem selKept_execCrossCheckVerdict (p) (s : State) : SelKept s (execCrossCheckVerdict p s) := by
  unfold execCrossCheckVerdict
  dsimp only
  repeat' split
  all_goals simp

@[simp] theorem selKept_execSumCheckFailed (set) (s : State) : SelKept s (execSumCheckFailed set s) := by
  simp [execSumCheckFailed]
@[simp] theorem selKept_execVdcDisagreement (s : State) : SelKept s (execVdcDisagreement s) := by
  simp [execVdcDisagreement]
@[simp] theorem selKept_execVdcArbitrationTimeout (s : State) : SelKept s (execVdcArbitrationTimeout s) := by
  unfold execVdcArbitrationTimeout
  split <;> simp
@[simp] theorem selKept_execTerminalImplausible (p) (s : State) : SelKept s (execTerminalImplausible p s) := by
  simp [execTerminalImplausible]
@[simp] theorem selKept_execOpenInput (ch) (s : State) : SelKept s (execOpenInput ch s) := by
  simp [execOpenInput]
@[simp] theorem selKept_execStuckChannel (ch) (s : State) : SelKept s (execStuckChannel ch s) := by
  simp [execStuckChannel]
@[simp] theorem selKept_execPathBOverload (ch) (s : State) : SelKept s (execPathBOverload ch s) := by
  simp [execPathBOverload]
@[simp] theorem selKept_execOvervoltageWarning (s : State) : SelKept s (execOvervoltageWarning s) := by
  simp [execOvervoltageWarning]
@[simp] theorem selKept_execOvervoltageWarningClear (s : State) : SelKept s (execOvervoltageWarningClear s) := by
  simp [execOvervoltageWarningClear]
@[simp] theorem selKept_execUndervoltage (s : State) : SelKept s (execUndervoltage s) := by
  unfold execUndervoltage
  split <;> simp
@[simp] theorem selKept_execReferenceOutOfTolerance (ref) (s : State) :
    SelKept s (execReferenceOutOfTolerance ref s) := by
  simp [execReferenceOutOfTolerance]
@[simp] theorem selKept_execBandgapDisagreement (s : State) : SelKept s (execBandgapDisagreement s) := by
  simp [execBandgapDisagreement]
@[simp] theorem selKept_execTransducerSupplyFault (set) (s : State) :
    SelKept s (execTransducerSupplyFault set s) := by
  simp [execTransducerSupplyFault]
@[simp] theorem selKept_execHkAdcSuspect (input) (s : State) : SelKept s (execHkAdcSuspect input s) := by
  simp [execHkAdcSuspect]

@[simp] theorem selKept_execSenseCal (tag) (s : State) : SelKept s (execSenseCal tag s) := by
  rw [execSenseCal, selKept_ok]
  refine longStep_steady _ _ _ _ fun s => ?_
  dsimp only
  repeat' split
  all_goals simp

@[simp] theorem calRecord_steady (m path c) (s : State) : steady false (calRecord m path s c) = steady false s := by
  unfold calRecord
  split <;> simp
@[simp] theorem calStore_steady (m path c) (s : State) : steady false (calStore m path s c) = steady false s := by
  simp [calStore]

theorem ite_steady {c : Prop} [Decidable c] {t u : State} {x : Steady} (ht : steady all t = x) (hu : steady all u = x) :
    steady all (if c then t else u) = x := by
  rw [steady_ite, ht, hu, ite_self]

@[simp] theorem calEvaluate_steady (m) (s : State) : steady false (calEvaluate m s) = steady false s := by
  unfold calEvaluate
  extract_lets chans src s₁ a b s₂ s₃ mask s₄ s₅ src₅ s₆
  have kept₃ : steady false s₃ = steady false s := by simp [s₃, s₂, s₁]
  have kept₄ : steady false s₄ = steady false s := ite_steady kept₃ (by rw [record_steady, kept₃])
  have kept₅ : steady false s₅ = steady false s := (saveDevice_steady s₄).trans kept₄
  clear_value s₅
  have kept₆ : steady false s₆ = steady false s := ite_steady kept₅ kept₅
  clear_value s₆
  exact ite_steady kept₆ kept₆

@[simp] theorem selKept_execCalibrationComplete (m) (s : State) : SelKept s (execCalibrationComplete m s) := by
  rw [execCalibrationComplete, selKept_ok]
  split
  · rfl
  · dsimp only
    repeat' split
    all_goals simp

/-! ### Feedback -/

@[simp] theorem roleLost_steady (src) (s : State) : steady false (roleLost src s) = steady false s := by
  simp [roleLost]
@[simp] theorem loseSrc_steady (src) (s : State) : steady false (loseSrc src s) = steady false s := by
  simp [loseSrc]
@[simp] theorem moveCount_steady (d) (s : State) : steady false (moveCount d s) = steady false s := by
  simp [moveCount]
@[simp] theorem watchIndex_steady (s : State) : steady false (watchIndex s) = steady false s := by
  unfold watchIndex
  split <;> simp
@[simp] theorem illegalOf_steady (src) (s : State) : steady false (illegalOf src s) = steady false s := by
  simp [illegalOf]
@[simp] theorem selKept_execQuadratureTransition (a b na nb) (s : State) :
    SelKept s (execQuadratureTransition a b na nb s) := by
  simp [execQuadratureTransition]
@[simp] theorem selKept_execIllegalLimitExceeded (src) (s : State) : SelKept s (execIllegalLimitExceeded src s) := by
  simp [execIllegalLimitExceeded]
@[simp] theorem idxGood_steady (d) (s : State) : steady false (idxGood d s) = steady false s := by
  simp [idxGood]

@[simp] theorem selKept_execIndexLatch (illegal) (s : State) : SelKept s (execIndexLatch illegal s) := by
  unfold execIndexLatch
  repeat' split
  all_goals simp

@[simp] theorem selKept_execIndexFaultCheck (s : State) : SelKept s (execIndexFaultCheck s) := by
  unfold execIndexFaultCheck
  split <;> simp
@[simp] theorem selKept_execHallStateChange (st ns) (s : State) : SelKept s (execHallStateChange st ns s) := by
  simp [execHallStateChange]
@[simp] theorem selKept_execHallStateInvalid (ns) (s : State) : SelKept s (execHallStateInvalid ns s) := by
  simp [execHallStateInvalid]
@[simp] theorem selKept_execResolverAmplitudeFault (s : State) : SelKept s (execResolverAmplitudeFault s) := by
  simp [execResolverAmplitudeFault]
@[simp] theorem selKept_execResolverTrackingLost (s : State) : SelKept s (execResolverTrackingLost s) := by
  simp [execResolverTrackingLost]
@[simp] theorem selKept_execResolverExcitationFault (s : State) : SelKept s (execResolverExcitationFault s) := by
  simp [execResolverExcitationFault]
@[simp] theorem ssiStale_steady (cause) (s : State) : steady all (ssiStale cause s) = steady all s := by
  simp [ssiStale]
@[simp] theorem crossCompare_steady (p q) (s : State) : steady all (crossCompare p q s) = steady all s := by
  simp [crossCompare]
@[simp] theorem ssiReceived_steady (raw) (s : State) : steady false (ssiReceived raw s) = steady false s := by
  simp [ssiReceived]

@[simp] theorem selKept_execSsiFrameDecoded (f) (s : State) : SelKept s (execSsiFrameDecoded f s) := by
  unfold execSsiFrameDecoded
  dsimp only
  repeat' split
  all_goals simp

@[simp] theorem selKept_execSsiFrameAbort (badNs) (s : State) : SelKept s (execSsiFrameAbort badNs s) := by
  simp [execSsiFrameAbort]
@[simp] theorem selKept_execSsiStaleLimit (s : State) : SelKept s (execSsiStaleLimit s) := by
  simp [execSsiStaleLimit]
@[simp] theorem ssiSchedule_steady (ready) (s : State) : steady all (ssiSchedule ready s) = steady all s := by
  simp [ssiSchedule]
@[simp] theorem wireFault_steady (i) (s : State) : steady false (wireFault i s) = steady false s := by
  simp [wireFault]
@[simp] theorem selKept_execWireFault (input ns) (s : State) : SelKept s (execWireFault input ns s) := by
  simp [execWireFault]
@[simp] theorem selKept_execEncoderSupplyFault (s : State) : SelKept s (execEncoderSupplyFault s) := by
  simp [execEncoderSupplyFault]
@[simp] theorem selKept_execSourceDisagreement (s : State) : SelKept s (execSourceDisagreement s) := by
  simp [execSourceDisagreement]
@[simp] theorem selKept_execFrozenSource (src) (s : State) : SelKept s (execFrozenSource src s) := by
  simp [execFrozenSource]
@[simp] theorem speedOf_steady (i ce te) (s : State) : steady all (speedOf i ce te s) = steady all s := by
  simp [speedOf]
@[simp] theorem frozenCheck_steady (i) (s : State) : steady all (frozenCheck i s) = steady all s := by
  simp [frozenCheck]
@[simp] theorem applyCorr_steady (s : State) : steady all (applyCorr s) = steady all s := by
  unfold applyCorr
  split <;> simp
@[simp] theorem positionUpdate_steady (s : State) : steady all (positionUpdate s) = steady all s := by
  simp [positionUpdate]
@[simp] theorem resolverUpdate_steady (smp) (s : State) : steady all (resolverUpdate smp s) = steady all s := by
  simp [resolverUpdate]
@[simp] theorem resCompare_steady (s : State) : steady all (resCompare s) = steady all s := by
  simp [resCompare]
@[simp] theorem fbUpdate_steady (smp) (s : State) : steady all (fbUpdate smp s) = steady all s := by
  simp [fbUpdate]
@[simp] theorem fbClear_steady (r) (s : State) : steady false (fbClear r s) = steady false s := by
  simp [fbClear]
@[simp] theorem fbWires_steady (r) (s : State) : steady false (fbWires r s) = steady false s := by
  simp [fbWires]
@[simp] theorem fbHall_steady (r) (s : State) : steady false (fbHall r s) = steady false s := by
  simp [fbHall]
@[simp] theorem ssiTake_steady (rate trt pos) (s : State) :
    steady false (ssiTake rate trt pos s) = steady false s := by
  simp [ssiTake]

@[simp] theorem fbSsi_steady (atLast r) (s : State) : steady false (fbSsi atLast r s) = steady false s := by
  unfold fbSsi
  dsimp only
  repeat' split
  all_goals simp

@[simp] theorem fbBegin_steady (abs) (s : State) : steady false (fbBegin abs s) = steady false s := by
  simp [fbBegin]
@[simp] theorem fbHomed_steady (abs) (s : State) : steady false (fbHomed abs s) = steady false s := by
  simp [fbHomed]
@[simp] theorem fbStartEnd_steady (atLast r) (s : State) : steady false (fbStartEnd atLast r s) = steady false s := by
  simp [fbStartEnd]

@[simp] theorem selKept_execFbRestart (tag r) (s : State) : SelKept s (execFbRestart tag r s) := by
  rw [execFbRestart, selKept_ok]
  refine longStep_steady _ _ _ _ fun s => ?_
  dsimp only
  repeat' split
  all_goals simp

@[simp] theorem fbRestartDone_steady (i) (s : State) : steady false (fbRestartDone i s) = steady false s := by
  unfold fbRestartDone
  split <;> simp

/-! ### Loops -/

@[simp] theorem putFlag_steady (i b) (s : State) : steady all (putFlag i b s) = steady all s := by
  simp [putFlag]

@[simp] theorem torqueStar_steady (s : State) : steady all (torqueStar s) = steady all s := by
  unfold torqueStar
  dsimp only
  repeat' split
  all_goals simp

@[simp] theorem references_steady (s : State) : steady all (references s) = steady all s := by
  unfold references
  split <;> simp
@[simp] theorem currentLoop_steady (s : State) : steady all (currentLoop s) = steady all s := by
  simp [currentLoop]
@[simp] theorem speedLoop_steady (s : State) : steady all (speedLoop s) = steady all s := by
  simp [speedLoop]
@[simp] theorem fieldWeakening_steady (s : State) : steady all (fieldWeakening s) = steady all s := by
  simp [fieldWeakening]
@[simp] theorem positionLoop_steady (s : State) : steady all (positionLoop s) = steady all s := by
  simp [positionLoop]
@[simp] theorem damping_steady (s : State) : steady all (damping s) = steady all s := by
  simp [damping]
@[simp] theorem measureIdq_steady (s : State) : steady all (measureIdq s) = steady all s := by
  simp [measureIdq]
@[simp] theorem loopsIdle_steady (s : State) : steady all (loopsIdle s) = steady all s := by
  simp [loopsIdle]
@[simp] theorem loopsHeld_steady (s : State) : steady all (loopsHeld s) = steady all s := by
  simp [loopsHeld]
@[simp] theorem enterControl_steady (xd xq) (s : State) : steady false (enterControl xd xq s) = steady false s := by
  simp [enterControl]
@[simp] theorem restore01_steady (o) (s : State) : steady all (restore01 o s) = steady all s := by
  simp [restore01]
@[simp] theorem restore23_steady (o) (s : State) : steady all (restore23 o s) = steady all s := by
  simp [restore23]
@[simp] theorem restore45_steady (o) (s : State) : steady all (restore45 o s) = steady all s := by
  simp [restore45]

@[simp] theorem pairRun_steady (x f restore) (s : State) (hf : ∀ x, steady all (f x) = steady all x)
    (hr : ∀ o x, steady all (restore o x) = steady all x) : steady all (pairRun x f restore s) = steady all s := by
  unfold pairRun
  repeat' split
  all_goals simp [hf, hr]

@[simp] theorem loopUpdate_steady (s : State) : steady all (loopUpdate s) = steady all s := by
  simp [loopUpdate]
@[simp] theorem selKept_execTableCommitCopy (table) (s : State) : SelKept s (execTableCommitCopy table s) := by
  simp [execTableCommitCopy]
@[simp] theorem selKept_execCurrentDeviation (s : State) : SelKept s (execCurrentDeviation s) := by
  simp [execCurrentDeviation]
@[simp] theorem selKept_execVoltageLimitHeld (s : State) : SelKept s (execVoltageLimitHeld s) := by
  simp [execVoltageLimitHeld]
@[simp] theorem selKept_execDisturbedPredictionLimit (s : State) : SelKept s (execDisturbedPredictionLimit s) := by
  simp [execDisturbedPredictionLimit]
@[simp] theorem selKept_execSpeedDeviation (s : State) : SelKept s (execSpeedDeviation s) := by
  simp [execSpeedDeviation]
@[simp] theorem selKept_execOverspeed (s : State) : SelKept s (execOverspeed s) := by
  simp [execOverspeed]
@[simp] theorem selKept_execFollowingError (s : State) : SelKept s (execFollowingError s) := by
  simp [execFollowingError]
@[simp] theorem selKept_execDampingClamped (s : State) : SelKept s (execDampingClamped s) := by
  simp [execDampingClamped]

/-! ### Modulator -/

@[simp] theorem carrierTurn_steady (s : State) : steady false (carrierTurn s).1 = steady false s := by
  simp [carrierTurn]
@[simp] theorem chooseMethod_steady (va vb vdc a) (s : State) :
    steady all (chooseMethod va vb vdc a s) = steady all s := by
  simp [chooseMethod]
@[simp] theorem putLegs_steady (legs) (s : State) : steady all (putLegs legs s) = steady all s := by
  simp [putLegs]
@[simp] theorem sendCmp_steady (c) (s : State) : steady all (sendCmp c s) = steady all s := by
  simp [sendCmp]
@[simp] theorem twoLegs_steady (v vdc) (s : State) : steady all (twoLegs v vdc s) = steady all s := by
  simp [twoLegs]

@[simp] theorem sineSet_steady (s : State) : steady all (sineSet s) = steady all s := by
  unfold sineSet
  dsimp only
  repeat' split
  all_goals simp

@[simp] theorem blockSet_steady (s : State) : steady all (blockSet s) = steady all s := by
  simp [blockSet]
@[simp] theorem sixSet_steady (s : State) : steady all (sixSet s) = steady all s := by
  simp [sixSet]
@[simp] theorem maskFaulted_steady (s : State) : steady all (maskFaulted s) = steady all s := by
  simp [maskFaulted]
@[simp] theorem refreshCount_steady (s : State) : steady all (refreshCount s) = steady all s := by
  simp [refreshCount]
@[simp] theorem refreshEnd_steady (s : State) : steady all (refreshEnd s) = steady all s := by
  simp [refreshEnd]

@[simp] theorem modUpdate_steady (s : State) : steady all (modUpdate s) = steady all s := by
  unfold modUpdate
  dsimp only
  repeat' split
  all_goals simp

@[simp] theorem selKept_execCompareSetsMissedTwice (p) (s : State) : SelKept s (execCompareSetsMissedTwice p s) := by
  simp [execCompareSetsMissedTwice]
@[simp] theorem selKept_execEchoReceived (p hi lo) (s : State) : SelKept s (execEchoReceived p hi lo s) := by
  simp [execEchoReceived]
@[simp] theorem selKept_execDelayLineCalibration (d span) (s : State) :
    SelKept s (execDelayLineCalibration d span s) := by
  simp [execDelayLineCalibration]
@[simp] theorem selKept_execBootstrapRefresh (p) (s : State) : SelKept s (execBootstrapRefresh p s) := by
  simp [execBootstrapRefresh]
@[simp] theorem endLegLoss_steady (s : State) : steady all (endLegLoss s) = steady all s := by
  simp [endLegLoss]
@[simp] theorem selKept_execLegLossRampEnd (s : State) : SelKept s (execLegLossRampEnd s) := by
  simp [execLegLossRampEnd]
@[simp] theorem legLossCheck_steady (s : State) : steady all (legLossCheck s) = steady all s := by
  simp [legLossCheck]

/-! ### GateDrive -/

@[simp] theorem putDie_steady (p g) (s : State) : steady false (putDie p g s) = steady false s := by
  simp [putDie]
@[simp] theorem selectBands_steady (s : State) : steady all (selectBands s) = steady all s := by
  simp [selectBands]
@[simp] theorem selKept_execCompareSetReceived (p half) (s : State) :
    SelKept s (execCompareSetReceived p half s) := by
  simp [execCompareSetReceived]
@[simp] theorem selKept_execLegEdgeDecision (p) (s : State) : SelKept s (execLegEdgeDecision p s) := by
  simp [execLegEdgeDecision]
@[simp] theorem selKept_execGateEdge (p) (s : State) : SelKept s (execGateEdge p s) := by
  simp [execGateEdge]

@[simp] theorem selKept_execProfileEnd (p) (s : State) : SelKept s (execProfileEnd p s) := by
  unfold execProfileEnd
  dsimp only
  repeat' split
  all_goals simp

@[simp] theorem selKept_execSoftTurnOffEnd (p) (s : State) : SelKept s (execSoftTurnOffEnd p s) := by
  simp [execSoftTurnOffEnd]
@[simp] theorem dieTrip_steady (p cause code ps) (s : State) :
    steady false (dieTrip p cause code ps s) = steady false s := by
  simp [dieTrip]
@[simp] theorem selKept_execDidtTrip (p mv ns) (s : State) : SelKept s (execDidtTrip p mv ns s) := by
  simp [execDidtTrip]
@[simp] theorem selKept_execDesatTrip (p mv ns) (s : State) : SelKept s (execDesatTrip p mv ns s) := by
  simp [execDesatTrip]

@[simp] theorem selKept_execGateVoltageFault (p pair mv ns) (s : State) :
    SelKept s (execGateVoltageFault p pair mv ns s) := by
  unfold execGateVoltageFault
  dsimp only
  repeat' split
  all_goals simp

@[simp] theorem selKept_execHeelReceived (d o) (s : State) : SelKept s (execHeelReceived d o s) := by
  unfold execHeelReceived
  split <;> simp

@[simp] theorem selKept_execHeldOrderRelease (d) (s : State) : SelKept s (execHeldOrderRelease d s) := by
  unfold execHeldOrderRelease
  repeat' split
  all_goals simp

@[simp] theorem selKept_execGdLinkLost (p) (s : State) : SelKept s (execGdLinkLost p s) := by
  simp [execGdLinkLost]
@[simp] theorem selKept_execGdLogicPowerLost (p) (s : State) : SelKept s (execGdLogicPowerLost p s) := by
  simp [execGdLogicPowerLost]
@[simp] theorem reportLeg_steady (p code) (s : State) : steady false (reportLeg p code s) = steady false s := by
  simp [reportLeg]

@[simp] theorem reportLegs_steady (code) (s : State) (l) : steady false (reportLegs code s l) = steady false s := by
  induction l generalizing s with
  | nil => simp [reportLegs]
  | cons p r ih => cases r <;> simp [reportLegs, ih]

@[simp] theorem noteReport_steady (p r) (s : State) : steady false (noteReport p r s) = steady false s := by
  unfold noteReport
  repeat' split
  all_goals simp

@[simp] theorem selKept_execHeelReport (p r also_) (s : State) : SelKept s (execHeelReport p r also_ s) := by
  unfold execHeelReport
  dsimp only
  repeat' split
  all_goals simp

@[simp] theorem selKept_execNtcConversion (p code) (s : State) : SelKept s (execNtcConversion p code s) := by
  simp [execNtcConversion]

@[simp] theorem selKept_execGdDiag (tag) (s : State) : SelKept s (execGdDiag tag s) := by
  rw [execGdDiag, selKept_ok]
  refine longStep_steady _ _ _ _ fun s => ?_
  repeat' split
  all_goals simp

@[simp] theorem diagRecords_steady (p m) (s : State) : steady false (diagRecords p m s) = steady false s := by
  simp [diagRecords]
@[simp] theorem selKept_execDiagnosticComplete (m) (s : State) : SelKept s (execDiagnosticComplete m s) := by
  unfold execDiagnosticComplete
  split <;> simp

/-! ### Motion -/

@[simp] theorem setPlan_steady (src l goal vg) (s : State) : steady all (setPlan src l goal vg s) = steady all s := by
  simp [setPlan]
@[simp] theorem planFromMeasured_steady (s : State) : steady false (planFromMeasured s) = steady false s := by
  simp [planFromMeasured]
@[simp] theorem planStop_steady (src dec jerk) (s : State) : steady all (planStop src dec jerk s) = steady all s := by
  simp [planStop]
@[simp] theorem setShift_steady (shift) (s : State) : steady all (setShift shift s) = steady all s := by
  simp [setShift]

@[simp] theorem homeEnd_steady (status code) (s : State) : steady all (homeEnd status code s) = steady all s := by
  unfold homeEnd
  repeat' split
  all_goals simp

@[simp] theorem segEnd_steady (status code) (s : State) : steady all (segEnd status code s) = steady all s := by
  unfold segEnd
  split <;> simp
@[simp] theorem endSource_steady (status code) (s : State) : steady all (endSource status code s) = steady all s := by
  simp [endSource]
@[simp] theorem limitStopAt_steady (up lim) (s : State) : steady all (limitStopAt up lim s) = steady all s := by
  simp [limitStopAt]
@[simp] theorem limitJudge_steady (s : State) : steady all (limitJudge s) = steady all s := by
  simp [limitJudge]
@[simp] theorem limitCheck_steady (s : State) : steady all (limitCheck s) = steady all s := by
  simp [limitCheck]
@[simp] theorem limitsArrive_steady (s : State) : steady all (limitsArrive s) = steady all s := by
  simp [limitsArrive]
@[simp] theorem overrunCheck_steady (s : State) : steady all (overrunCheck s) = steady all s := by
  simp [overrunCheck]
@[simp] theorem swPut_steady (i x) (s : State) : steady false (swPut i x s) = steady false s := by
  unfold swPut
  split <;> simp
@[simp] theorem switchStop_steady (s : State) : steady false (switchStop s) = steady false s := by
  simp [switchStop]
@[simp] theorem homeVel_steady (v) (s : State) : steady all (homeVel v s) = steady all s := by
  simp [homeVel]
@[simp] theorem homeFail_steady (cause) (s : State) : steady all (homeFail cause s) = steady all s := by
  simp [homeFail]
@[simp] theorem homeEvent_steady (p) (s : State) : steady all (homeEvent p s) = steady all s := by
  simp [homeEvent]
@[simp] theorem homeDone_steady (s : State) : steady all (homeDone s) = steady all s := by
  unfold homeDone
  split <;> simp
@[simp] theorem homeAfterSwitch_steady (edge) (s : State) : steady all (homeAfterSwitch edge s) = steady all s := by
  simp [homeAfterSwitch]
@[simp] theorem homeSwitch_steady (i) (s : State) : steady false (homeSwitch i s) = steady false s := by
  simp [homeSwitch]

@[simp] theorem homeUpdate_steady (s : State) : steady all (homeUpdate s) = steady all s := by
  unfold homeUpdate
  repeat' split
  all_goals simp

@[simp] theorem homeBegin_steady (t) (s : State) : steady false (homeBegin t s) = steady false s := by
  simp [homeBegin]
@[simp] theorem selKept_execHomingTimeout (s : State) : SelKept s (execHomingTimeout s) := by
  simp [execHomingTimeout]
@[simp] theorem selKept_execSwitchInputChange (i high) (s : State) : SelKept s (execSwitchInputChange i high s) := by
  simp [execSwitchInputChange]
@[simp] theorem limitSwitch_steady (i) (s : State) : steady false (limitSwitch i s) = steady false s := by
  simp [limitSwitch]
@[simp] theorem selKept_execSwitchDebounced (i) (s : State) : SelKept s (execSwitchDebounced i s) := by
  simp [execSwitchDebounced]
@[simp] theorem selKept_execSwitchChatter (i) (s : State) : SelKept s (execSwitchChatter i s) := by
  simp [execSwitchChatter]
@[simp] theorem selKept_execSwitchChatterEnd (i) (s : State) : SelKept s (execSwitchChatterEnd i s) := by
  simp [execSwitchChatterEnd]

@[simp] theorem motionCmd_steady (i op modes f) (s : State) :
    steady false (motionCmd i op modes f s) = steady false s := by
  unfold motionCmd
  dsimp only
  repeat' split
  all_goals simp

@[simp] theorem selKept_execMoveAbs (tag) (s : State) : SelKept s (execMoveAbs tag s) := by
  simp [execMoveAbs]
@[simp] theorem selKept_execMoveRel (tag) (s : State) : SelKept s (execMoveRel tag s) := by
  simp [execMoveRel]
@[simp] theorem selKept_execVelTarget (tag) (s : State) : SelKept s (execVelTarget tag s) := by
  simp [execVelTarget]
@[simp] theorem selKept_execTorqueTarget (tag) (s : State) : SelKept s (execTorqueTarget tag s) := by
  simp [execTorqueTarget]
@[simp] theorem motionLong_steady (i op modes f) (s : State) :
    steady false (motionLong i op modes f s) = steady false s := by
  simp [motionLong]
@[simp] theorem selKept_execHome (tag) (s : State) : SelKept s (execHome tag s) := by
  simp [execHome]
@[simp] theorem selKept_execSegExec (tag) (s : State) : SelKept s (execSegExec tag s) := by
  simp [execSegExec]

@[simp] theorem segLoad_steady (i) (s : State) : steady false (segLoad i s).2 = steady false s := by
  unfold segLoad
  dsimp only
  repeat' split
  all_goals simp

@[simp] theorem selKept_execSegLoad (tag) (s : State) : SelKept s (execSegLoad tag s) := by
  simp [execSegLoad]

@[simp] theorem segAdvance_steady (n tau) (s : State) : steady all (segAdvance n tau s) = steady all s := by
  induction n generalizing tau s with
  | zero => rfl
  | succ n ih =>
    unfold segAdvance
    repeat' split
    all_goals simp [apply_ite (steady all), ih]
    split <;> simp

@[simp] theorem startMeasure_steady (s : State) : steady all (startMeasure s) = steady all s := by
  simp [startMeasure]
@[simp] theorem unpark_steady (s : State) : steady false (unpark s) = steady false s := by
  simp [unpark]
@[simp] theorem replaceSource_steady (moves) (s : State) : steady false (replaceSource moves s) = steady false s := by
  simp [replaceSource]
@[simp] theorem planTarget_steady (src tgt) (s : State) : steady false (planTarget src tgt s) = steady false s := by
  simp [planTarget]
@[simp] theorem planVel_steady (v) (s : State) : steady all (planVel v s) = steady all s := by
  simp [planVel]
@[simp] theorem replan_steady (s : State) : steady all (replan s) = steady all s := by
  simp [replan]
@[simp] theorem takeTarget_steady (t tgt) (s : State) : steady false (takeTarget t tgt s) = steady false s := by
  unfold takeTarget
  split <;> simp
@[simp] theorem stopPlan_steady (s : State) : steady false (stopPlan s) = steady false s := by
  simp [stopPlan]

@[simp] theorem takeMotion_steady (m) (s : State) : steady false (takeMotion m s) = steady false s := by
  unfold takeMotion
  repeat' split
  all_goals simp

@[simp] theorem selKept_execPePlan (s : State) : SelKept s (execPePlan s) := by
  unfold execPePlan
  repeat' split
  all_goals simp

@[simp] theorem planAdvance_steady (n t) (s : State) : steady all (planAdvance n t s) = steady all s := by
  induction n generalizing t s with
  | zero => rfl
  | succ n ih =>
    unfold planAdvance
    split
    · rfl
    · simp [apply_ite (steady all), ih]

@[simp] theorem setPoint_steady (s : State) : steady all (setPoint s) = steady all s := by
  simp [setPoint]
@[simp] theorem windows_steady (s : State) : steady all (windows s) = steady all s := by
  simp [windows]
@[simp] theorem peUpdate_steady (s : State) : steady all (peUpdate s) = steady all s := by
  simp [peUpdate]
@[simp] theorem selKept_execTargetReached (s : State) : SelKept s (execTargetReached s) := by
  simp [execTargetReached]

@[simp] theorem stopNow_steady (s : State) : steady false (stopNow s) = steady false s := by
  unfold stopNow
  simp [apply_ite (steady false)]
  rw [foldl_steady _ _ fun s m => by split <;> simp, endSource_steady]

@[simp] theorem selKept_execStop (tag) (s : State) : SelKept s (execStop tag s) := by
  simp [execStop]
@[simp] theorem selKept_execStandstill (s : State) : SelKept s (execStandstill s) := by
  simp [execStandstill]
@[simp] theorem selKept_execStandstillAction (s : State) : SelKept s (execStandstillAction s) := by
  simp [execStandstillAction]
@[simp] theorem selKept_execLoopModeChange (s : State) : SelKept s (execLoopModeChange s) := by
  simp [execLoopModeChange]

/-! ### Observer -/

@[simp] theorem followSector_steady (src) (s : State) : steady all (followSector src s) = steady all s := by
  simp [followSector]
@[simp] theorem selectAngle_steady (s : State) : steady all (selectAngle s) = steady all s := by
  simp [selectAngle]
@[simp] theorem oe1Step_steady (vt) (s : State) : steady all (oe1Step vt s) = steady all s := by
  simp [oe1Step]
@[simp] theorem oe0Step_steady (s : State) : steady all (oe0Step s) = steady all s := by
  simp [oe0Step]
@[simp] theorem oe0Idle_steady (s : State) : steady all (oe0Idle s) = steady all s := by
  simp [oe0Idle]
@[simp] theorem selKept_execOe0Valid (s : State) : SelKept s (execOe0Valid s) := by
  simp [execOe0Valid]
@[simp] theorem selKept_execOe1Valid (s : State) : SelKept s (execOe1Valid s) := by
  simp [execOe1Valid]
@[simp] theorem holdPattern_steady (pat) (s : State) : steady all (holdPattern pat s) = steady all s := by
  simp [holdPattern]
@[simp] theorem lossOfRotor_steady (s : State) : steady all (lossOfRotor s) = steady all s := by
  unfold lossOfRotor
  split <;> simp
@[simp] theorem selKept_execReacquisitionTimeout (s : State) : SelKept s (execReacquisitionTimeout s) := by
  simp [execReacquisitionTimeout]
@[simp] theorem residualTest_steady (th0) (s : State) : steady all (residualTest th0 s) = steady all s := by
  simp [residualTest]
@[simp] theorem voteOut0_steady (s : State) : steady false (voteOut0 s) = steady false s := by
  simp [voteOut0]
@[simp] theorem voteOut1_steady (s : State) : steady false (voteOut1 s) = steady false s := by
  simp [voteOut1]
@[simp] theorem lossOfSync_steady (s : State) : steady false (lossOfSync s) = steady false s := by
  simp [lossOfSync]
@[simp] theorem selKept_execResidualDisagreement (s : State) : SelKept s (execResidualDisagreement s) := by
  simp [execResidualDisagreement]
@[simp] theorem selKept_execObserverRejoin (oe1) (s : State) : SelKept s (execObserverRejoin oe1 s) := by
  simp [execObserverRejoin]
@[simp] theorem oe0Check_steady (s : State) : steady all (oe0Check s) = steady all s := by
  simp [oe0Check]
@[simp] theorem fallbackCheck_steady (s : State) : steady all (fallbackCheck s) = steady all s := by
  simp [fallbackCheck]
@[simp] theorem observersEnd_steady (s : State) : steady all (observersEnd s) = steady all s := by
  simp [observersEnd]
@[simp] theorem runDown_steady (s : State) : steady all (runDown s) = steady all s := by
  simp [runDown]
@[simp] theorem blockSample_steady (s : State) : steady all (blockSample s) = steady all s := by
  simp [blockSample]
@[simp] theorem measAdd_steady (v near) (s : State) : steady all (measAdd v near s) = steady all s := by
  simp [measAdd]
@[simp] theorem startUpdate_steady (s : State) : steady all (startUpdate s) = steady all s := by
  unfold startUpdate
  split <;> simp
@[simp] theorem obsUpdate_steady (s : State) : steady all (obsUpdate s) = steady all s := by
  simp [obsUpdate]
@[simp] theorem enabled_steady (s : State) : steady false (enabled s) = steady false s := by
  unfold enabled
  split <;> simp
@[simp] theorem reacquired_steady (s : State) : steady false (reacquired s) = steady false s := by
  simp [reacquired]
@[simp] theorem setOffset_steady (theta) (s : State) : steady false (setOffset theta s) = steady false s := by
  simp [setOffset]

@[simp] theorem planAtRest_steady (s : State) : steady false (planAtRest s) = steady false s := by
  unfold planAtRest
  dsimp only
  repeat' split
  all_goals simp

@[simp] theorem beginAtRest_steady (method) (s : State) : steady false (beginAtRest method s) = steady false s := by
  simp [beginAtRest]
@[simp] theorem standstill_steady (s : State) : steady false (standstill s) = steady false s := by
  simp [standstill]

@[simp] theorem catchPlan_steady (w) (s : State) : steady false (catchPlan w s) = steady false s := by
  unfold catchPlan
  dsimp only
  repeat' split
  all_goals simp

@[simp] theorem seedOe0_steady (theta w) (s : State) : steady false (seedOe0 theta w s) = steady false s := by
  simp [seedOe0]
@[simp] theorem catchAt_steady (method asc m) (s : State) :
    steady false (catchAt method asc m s) = steady false s := by
  simp [catchAt]
@[simp] theorem selKept_execStartMeasurementEnd (s : State) : SelKept s (execStartMeasurementEnd s) := by
  simp [execStartMeasurementEnd]
@[simp] theorem selKept_execAscSettleEnd (s : State) : SelKept s (execAscSettleEnd s) := by
  simp [execAscSettleEnd]
@[simp] theorem selKept_execCatchLockCheck (s : State) : SelKept s (execCatchLockCheck s) := by
  simp [execCatchLockCheck]
@[simp] theorem selKept_execAwlSequenceEnd (r) (s : State) : SelKept s (execAwlSequenceEnd r s) := by
  simp [execAwlSequenceEnd]
@[simp] theorem commutate_steady (off) (s : State) : steady false (commutate off s) = steady false s := by
  simp [commutate]
@[simp] theorem selKept_execBlockCommutation (s : State) : SelKept s (execBlockCommutation s) := by
  simp [execBlockCommutation]
@[simp] theorem selKept_execCrossingMissed (s : State) : SelKept s (execCrossingMissed s) := by
  simp [execCrossingMissed]
@[simp] theorem selKept_execBlockStartTimeout (s : State) : SelKept s (execBlockStartTimeout s) := by
  simp [execBlockStartTimeout]
@[simp] theorem selKept_execSixStepChange (s : State) : SelKept s (execSixStepChange s) := by
  simp [execSixStepChange]

/-! ### SafetyMonitor -/

@[simp] theorem setCopy3_steady (k c) (s : State) : steady false (setCopy3 k c s) = steady false s := by
  unfold setCopy3
  split <;> simp
@[simp] theorem markResync_steady (s : State) : steady false (markResync s) = steady false s := by
  simp [markResync]
@[simp] theorem noMajority_steady (code ps) (s : State) : steady false (noMajority code ps s) = steady false s := by
  simp [noMajority]
@[simp] theorem degradedStop_steady (s : State) : steady false (degradedStop s) = steady false s := by
  simp [degradedStop]

@[simp] theorem noTolerance_steady (kind code ps) (s : State) :
    steady false (noTolerance kind code ps s) = steady false s := by
  unfold noTolerance
  dsimp only
  repeat' split
  all_goals simp

@[simp] theorem minority_steady (k code ps latent) (s : State) :
    steady false (minority k code ps latent s) = steady false s := by
  simp [minority]

@[simp] theorem selKept_execOutputSlotVote (w0 w1 w2 addr) (s : State) :
    SelKept s (execOutputSlotVote w0 w1 w2 addr s) := by
  unfold execOutputSlotVote
  repeat' split
  all_goals simp

@[simp] theorem selKept_execHashSlot (h0 h1 h2) (s : State) : SelKept s (execHashSlot h0 h1 h2 s) := by
  unfold execHashSlot
  dsimp only
  repeat' split
  all_goals simp

@[simp] theorem selKept_execResyncCopyDone (k) (s : State) : SelKept s (execResyncCopyDone k s) := by
  simp [execResyncCopyDone]
@[simp] theorem selKept_execResyncRendezvous (k h) (s : State) : SelKept s (execResyncRendezvous k h s) := by
  simp [execResyncRendezvous]

@[simp] theorem selKept_execLaneFault (k) (s : State) : SelKept s (execLaneFault k s) := by
  unfold execLaneFault
  dsimp only
  repeat' split
  all_goals simp

@[simp] theorem weltResult_steady (a b c) (s : State) : steady false (weltResult a b c s) = steady false s := by
  simp [weltResult]
@[simp] theorem selKept_execWeltSelfTest (a b flag7 flag8) (s : State) :
    SelKept s (execWeltSelfTest a b flag7 flag8 s) := by
  simp [execWeltSelfTest]
@[simp] theorem selKept_execCheckerDisagreement (a b) (s : State) : SelKept s (execCheckerDisagreement a b s) := by
  simp [execCheckerDisagreement]
@[simp] theorem selKept_execDegradedGraceExpiry (s : State) : SelKept s (execDegradedGraceExpiry s) := by
  unfold execDegradedGraceExpiry
  split <;> simp
@[simp] theorem crossover_steady (s : State) : steady all (crossover s) = steady all s := by
  simp [crossover]
@[simp] theorem torqueRefs_steady (s : State) : steady all (torqueRefs s) = steady all s := by
  simp [torqueRefs]
@[simp] theorem takeMode_steady (s : State) : steady all (takeMode s) = steady all s := by
  simp [takeMode]
@[simp] theorem takeEst_steady (s : State) : steady all (takeEst s) = steady all s := by
  simp [takeEst]
@[simp] theorem judgeMagnitude_steady (s : State) : steady all (judgeMagnitude s) = steady all s := by
  simp [judgeMagnitude]
@[simp] theorem judgeTorque_steady (e) (s : State) : steady all (judgeTorque e s) = steady all s := by
  simp [judgeTorque]
@[simp] theorem torqueCompare_steady (flagged) (s : State) : steady all (torqueCompare flagged s) = steady all s := by
  simp [torqueCompare]
@[simp] theorem selKept_execUnintendedTorque (s : State) : SelKept s (execUnintendedTorque s) := by
  simp [execUnintendedTorque]
@[simp] theorem selKept_execCurrentBoundExceeded (s : State) : SelKept s (execCurrentBoundExceeded s) := by
  simp [execCurrentBoundExceeded]
@[simp] theorem selKept_execTorqueDeficit (s : State) : SelKept s (execTorqueDeficit s) := by
  simp [execTorqueDeficit]
@[simp] theorem setpointCheck_steady (s : State) : steady all (setpointCheck s) = steady all s := by
  simp [setpointCheck]
@[simp] theorem selKept_execSetpointOutOfBound (s : State) : SelKept s (execSetpointOutOfBound s) := by
  simp [execSetpointOutOfBound]
@[simp] theorem hkReset_steady (s : State) : steady false (hkReset s) = steady false s := by
  simp [hkReset]
@[simp] theorem selKept_execHkWatchdogExpiry (s : State) : SelKept s (execHkWatchdogExpiry s) := by
  simp [execHkWatchdogExpiry]
@[simp] theorem stopUpdate_steady (s : State) : steady all (stopUpdate s) = steady all s := by
  unfold stopUpdate
  split <;> simp
@[simp] theorem speedLimits_steady (s : State) : steady all (speedLimits s) = steady all s := by
  unfold speedLimits
  split <;> simp
@[simp] theorem sdsCount_steady (s : State) : steady all (sdsCount s) = steady all s := by
  simp [sdsCount]
@[simp] theorem smUpdate_steady (flagged) (s : State) : steady all (smUpdate flagged s) = steady all s := by
  simp [smUpdate]

/-! ### Trigger -/

@[simp] theorem pairsCycle_steady (s : State) : steady all (pairsCycle s) = steady all s := by
  simp [pairsCycle]
@[simp] theorem runLoops_steady (s : State) : steady all (runLoops s) = steady all s := by
  simp [runLoops]
@[simp] theorem runProfile_steady (s : State) : steady all (runProfile s) = steady all s := by
  simp [runProfile]
@[simp] theorem diesTurn_steady (s : State) : steady all (diesTurn s) = steady all s := by
  simp [diesTurn]
@[simp] theorem selKept_execSamplingTrigger (smp) (s : State) : SelKept s (execSamplingTrigger smp s) := by
  simp [execSamplingTrigger]
@[simp] theorem enterRun_steady (tag) (s : State) : steady false (enterRun tag s) = steady false s := by
  simp [enterRun]

@[simp] theorem selKept_execEnable (tag) (s : State) : SelKept s (execEnable tag s) := by
  rw [execEnable, selKept_ok]
  refine longStep_steady _ _ _ _ fun s => ?_
  dsimp only
  repeat' split
  all_goals simp

@[simp] theorem selKept_execBootstrapChargePulse (s : State) : SelKept s (execBootstrapChargePulse s) := by
  unfold execBootstrapChargePulse
  repeat' split
  all_goals simp

/-! ### Memory -/

@[simp] theorem setCtl_steady (c m) (s : State) : steady false (setCtl c m s) = steady false s := by
  simp [setCtl]

@[simp] theorem enter_steady (c a syn k) (s : State) : steady false (enter c a syn k s) = steady false s := by
  unfold enter
  dsimp only
  repeat' split
  all_goals simp

@[simp] theorem hardFault_steady (c a) (s : State) : steady false (hardFault c a s) = steady false s := by
  simp [hardFault]
@[simp] theorem migrateRow_steady (c a) (s : State) : steady false (migrateRow c a s) = steady false s := by
  simp [migrateRow]
@[simp] theorem cancelBack_steady (c a) (s : State) : steady false (cancelBack c a s) = steady false s := by
  simp [cancelBack]

@[simp] theorem countOne_steady (c a syn) (s : State) : steady false (countOne c a syn s) = steady false s := by
  unfold countOne
  dsimp only
  repeat' split
  all_goals simp

@[simp] theorem correct1_steady (c a syn) (s : State) : steady false (correct1 c a syn s) = steady false s := by
  simp [correct1]

@[simp] theorem selKept_execEccCorrection (d mem addr syndrome) (s : State) :
    SelKept s (execEccCorrection d mem addr syndrome s) := by
  unfold execEccCorrection
  split <;> simp

@[simp] theorem poison_steady (c a k) (s : State) : steady false (poison c a k s) = steady false s := by
  simp [poison]
@[simp] theorem unpoison_steady (c a) (s : State) : steady false (unpoison c a s) = steady false s := by
  simp [unpoison]
@[simp] theorem reload_steady (c a srcOk) (s : State) : steady false (reload c a srcOk s) = steady false s := by
  simp [reload]
@[simp] theorem cpRestart_steady (s : State) : steady false (Machine.cpRestart s) = steady false s := by
  simp [Machine.cpRestart]
@[simp] theorem oeInvalid_steady (second) (s : State) : steady false (oeInvalid second s) = steady false s := by
  simp [oeInvalid]
@[simp] theorem smResync_steady (k) (s : State) : steady false (smResync k s) = steady false s := by
  simp [smResync]

@[simp] theorem demandOutcome_steady (c a r okay) (s : State) :
    steady false (demandOutcome c a r okay s) = steady false s := by
  unfold demandOutcome
  split <;> simp

@[simp] theorem scrubOutcome_steady (c a r okay) (s : State) :
    steady false (scrubOutcome c a r okay s) = steady false s := by
  unfold scrubOutcome
  split <;> simp

@[simp] theorem countBad_steady (c) (s : State) : steady false (countBad c s) = steady false s := by
  simp [countBad]

@[simp] theorem demandBad_steady (c a r okay) (s : State) :
    steady false (demandBad c a r okay s) = steady false s := by
  unfold demandBad
  repeat' split
  all_goals simp

@[simp] theorem selKept_execEccUncorrectable (d mem addr region reloadOk) (s : State) :
    SelKept s (execEccUncorrectable d mem addr region reloadOk s) := by
  unfold execEccUncorrectable
  split <;> simp

@[simp] theorem writeEntry_steady (c e bad) (s : State) : steady false (writeEntry c e bad s) = steady false s := by
  unfold writeEntry
  dsimp only
  repeat' split
  all_goals simp

@[simp] theorem writeEntries_steady (c f) (s : State) : steady false (writeEntries c f s) = steady false s := by
  simp [writeEntries]

@[simp] theorem mergeWrite_steady (c a mask) (s : State) : steady false (mergeWrite c a mask s) = steady false s := by
  unfold mergeWrite
  dsimp only
  repeat' split
  all_goals simp

@[simp] theorem selKept_execMergeBufferFlush (d mem addr mask bad) (s : State) :
    SelKept s (execMergeBufferFlush d mem addr mask bad s) := by
  unfold execMergeBufferFlush
  split <;> simp

@[simp] theorem selKept_execCpCheckpoint (s : State) : SelKept s (execCpCheckpoint s) := by
  simp [execCpCheckpoint]
@[simp] theorem passOn_steady (c) (s : State) : steady false (passOn c s) = steady false s := by
  simp [passOn]
@[simp] theorem scrubFound_steady (c a w) (s : State) : steady false (scrubFound c a w s) = steady false s := by
  unfold scrubFound
  split <;> simp
@[simp] theorem selKept_execScrubRead (d mem addr w) (s : State) : SelKept s (execScrubRead d mem addr w s) := by
  unfold execScrubRead
  split <;> simp
@[simp] theorem selKept_execScrubPassLate (d mem) (s : State) : SelKept s (execScrubPassLate d mem s) := by
  unfold execScrubPassLate
  split <;> simp
@[simp] theorem selKept_execRowMigration (d mem addr) (s : State) : SelKept s (execRowMigration d mem addr s) := by
  unfold execRowMigration
  split <;> simp
@[simp] theorem latchDiffers_steady (p reloadOk latch) (s : State) :
    steady false (latchDiffers p reloadOk s latch) = steady false s := by
  simp [latchDiffers]
@[simp] theorem selKept_execGdLatchCheck (p latches reloadOk) (s : State) :
    SelKept s (execGdLatchCheck p latches reloadOk s) := by
  simp [execGdLatchCheck]

@[simp] theorem selKept_execScrubRange (tag) (s : State) : SelKept s (execScrubRange tag s) := by
  rw [execScrubRange, selKept_ok]
  refine longStep_steady _ _ _ _ fun s => ?_
  dsimp only
  repeat' split
  all_goals simp

@[simp] theorem scrubStep_steady (i) (s : State) : steady false (scrubStep i s) = steady false s := by
  unfold scrubStep
  split <;> simp

@[simp] theorem selKept_execMemTest (tag) (s : State) : SelKept s (execMemTest tag s) := by
  rw [execMemTest, selKept_ok]
  refine longStep_steady _ _ _ _ fun s => ?_
  dsimp only
  repeat' split
  all_goals simp

@[simp] theorem selKept_execPeriodicMemoryTest (s : State) : SelKept s (execPeriodicMemoryTest s) := by
  simp [execPeriodicMemoryTest]
@[simp] theorem cellRepair_steady (job x) (s : State) : steady false (cellRepair job s x) = steady false s := by
  simp [cellRepair]
@[simp] theorem testBlock_steady (j cells) (s : State) : steady false (testBlock j cells s) = steady false s := by
  simp [testBlock]

@[simp] theorem blockVerdict_steady (job cells) (s : State) :
    steady false (blockVerdict job cells s) = steady false s := by
  unfold blockVerdict
  split <;> simp

@[simp] theorem jobEnd_steady (j) (s : State) : steady false (jobEnd j s) = steady false s := by
  unfold jobEnd
  repeat' split
  all_goals simp

@[simp] theorem keepUnrep_steady (before) (s : State) : steady false (keepUnrep before s) = steady false s := by
  simp [keepUnrep]
@[simp] theorem jobGoes_steady (s : State) : steady false (jobGoes s) = steady false s := by
  unfold jobGoes
  split <;> simp

@[simp] theorem selKept_execMemoryTestBlock (fails bad) (s : State) :
    SelKept s (execMemoryTestBlock fails bad s) := by
  unfold execMemoryTestBlock
  repeat' split
  all_goals simp

/-! ### Thermal -/

@[simp] theorem setSensor_steady (i f) (s : State) : steady all (setSensor i f s) = steady all s := by
  simp [setSensor]
@[simp] theorem noEstimate_steady (i) (s : State) : steady all (noEstimate i s) = steady all s := by
  simp [noEstimate]
@[simp] theorem thermalRound_steady (r) (s : State) : steady all (thermalRound r s) = steady all s := by
  simp [thermalRound]

@[simp] theorem shutdownSensors_steady (r) (s : State) : steady all (shutdownSensors r s) = steady all s := by
  refine foldl_steady _ _ fun s a => ?_
  dsimp only
  repeat' split
  all_goals simp

@[simp] theorem trims_steady (s : State) : steady all (trims s) = steady all s := by
  simp [trims]
@[simp] theorem hkInputs_steady (r) (s : State) : steady false (hkInputs r s) = steady false s := by
  simp [hkInputs]
@[simp] theorem resistorCheck_steady (r) (s : State) : steady all (resistorCheck r s) = steady all s := by
  unfold resistorCheck
  split <;> simp
@[simp] theorem selKept_execHousekeepingRound (r) (s : State) : SelKept s (execHousekeepingRound r s) := by
  simp [execHousekeepingRound]
@[simp] theorem selKept_execSensorBroken (i) (s : State) : SelKept s (execSensorBroken i s) := by
  unfold execSensorBroken
  split <;> simp
@[simp] theorem selKept_execTemperatureWarning (i) (s : State) : SelKept s (execTemperatureWarning i s) := by
  simp [execTemperatureWarning]
@[simp] theorem selKept_execTemperatureWarningClear (i) (s : State) :
    SelKept s (execTemperatureWarningClear i s) := by
  simp [execTemperatureWarningClear]
@[simp] theorem selKept_execTemperatureStopLevel (i) (s : State) : SelKept s (execTemperatureStopLevel i s) := by
  simp [execTemperatureStopLevel]
@[simp] theorem selKept_execModuleTempWarning (p) (s : State) : SelKept s (execModuleTempWarning p s) := by
  simp [execModuleTempWarning]
@[simp] theorem selKept_execModuleOvertemperature (p) (s : State) : SelKept s (execModuleOvertemperature p s) := by
  simp [execModuleOvertemperature]
@[simp] theorem selKept_execShutdownSensorDisagree (d) (s : State) : SelKept s (execShutdownSensorDisagree d s) := by
  simp [execShutdownSensorDisagree]

/-! ### Can -/

@[simp] theorem setCh_steady (c x) (s : State) : steady false (setCh c x s) = steady false s := by
  simp [setCh]
@[simp] theorem setCounters_steady (c tec rec_) (s : State) :
    steady false (setCounters c tec rec_ s) = steady false s := by
  simp [setCounters]
@[simp] theorem recDown_steady (c) (s : State) : steady false (recDown c s) = steady false s := by
  simp [recDown]

@[simp] theorem nowOn_steady (c) (s : State) : steady false (nowOn c s) = steady false s := by
  unfold nowOn
  dsimp only
  repeat' split
  all_goals simp

@[simp] theorem beginJoin_steady (c tag) (s : State) : steady false (beginJoin c tag s) = steady false s := by
  simp [beginJoin]

@[simp] theorem selKept_execCanBusOn (tag) (s : State) : SelKept s (execCanBusOn tag s) := by
  rw [execCanBusOn, selKept_ok]
  refine longStep_steady _ _ _ _ fun s => ?_
  dsimp only
  repeat' split
  all_goals simp

@[simp] theorem startupJoin_steady (c) (s : State) : steady false (startupJoin c s) = steady false s := by
  unfold startupJoin
  dsimp only
  repeat' split
  all_goals simp

@[simp] theorem selKept_execCanRecessiveIdle (c) (s : State) : SelKept s (execCanRecessiveIdle c s) := by
  unfold execCanRecessiveIdle
  dsimp only
  repeat' split
  all_goals simp

@[simp] theorem selKept_execCanRecoveryDone (c) (s : State) : SelKept s (execCanRecoveryDone c s) := by
  simp [execCanRecoveryDone]

@[simp] theorem selKept_execCanOnTimeout (c) (s : State) : SelKept s (execCanOnTimeout c s) := by
  unfold execCanOnTimeout
  dsimp only
  repeat' split
  all_goals simp

@[simp] theorem selKept_execCanRateDetect (tag) (s : State) : SelKept s (execCanRateDetect tag s) := by
  rw [execCanRateDetect, selKept_ok]
  refine longStep_steady _ _ _ _ fun s => ?_
  dsimp only
  repeat' split
  all_goals simp

@[simp] theorem candFails_steady (c d) (s : State) : steady false (candFails c d s) = steady false s := by
  simp [candFails]

@[simp] theorem candHit_steady (c d) (s : State) : steady false (candHit c d s) = steady false s := by
  unfold candHit
  dsimp only
  repeat' split
  all_goals simp

@[simp] theorem selKept_execCanDetectWindowEnd (c) (s : State) : SelKept s (execCanDetectWindowEnd c s) := by
  unfold execCanDetectWindowEnd
  split <;> simp
@[simp] theorem countFlag_steady (c kind) (s : State) : steady false (countFlag c kind s) = steady false s := by
  simp [countFlag]

@[simp] theorem selKept_execCanErrorFlag (c kind asTx) (s : State) : SelKept s (execCanErrorFlag c kind asTx s) := by
  unfold execCanErrorFlag
  dsimp only
  repeat' split
  all_goals simp

@[simp] theorem fifoLost_steady (c) (s : State) : steady false (fifoLost c s) = steady false s := by
  simp [fifoLost]

@[simp] theorem selKept_execCanFrameReceived (c f) (s : State) : SelKept s (execCanFrameReceived c f s) := by
  unfold execCanFrameReceived
  dsimp only
  repeat' split
  all_goals simp

@[simp] theorem selKept_execCanFrameFiltering (c) (s : State) : SelKept s (execCanFrameFiltering c s) := by
  unfold execCanFrameFiltering
  dsimp only
  repeat' split
  all_goals simp

@[simp] theorem selKept_execCanFilterLoad (tag) (s : State) : SelKept s (execCanFilterLoad tag s) := by
  rw [execCanFilterLoad, selKept_ok]
  refine oneStep_steady _ _ _ _ fun s => ?_
  dsimp only
  repeat' split
  all_goals simp

@[simp] theorem selKept_execCanRxRead (tag) (s : State) : SelKept s (execCanRxRead tag s) := by
  rw [execCanRxRead, selKept_ok]
  refine oneStep_steady _ _ _ _ fun s => ?_
  dsimp only
  repeat' split
  all_goals simp

@[simp] theorem setTx_steady (c b t) (s : State) : steady false (setTx c b t s) = steady false s := by
  simp [setTx]
@[simp] theorem addTx_steady (c b t) (s : State) : steady false (addTx c b t s) = steady false s := by
  simp [addTx]

@[simp] theorem selKept_execCanTx (tag) (s : State) : SelKept s (execCanTx tag s) := by
  rw [execCanTx, selKept_ok]
  refine longStep_steady _ _ _ _ fun s => ?_
  dsimp only
  repeat' split
  all_goals simp

@[simp] theorem selKept_execCanBufWrite (tag) (s : State) : SelKept s (execCanBufWrite tag s) := by
  rw [execCanBufWrite, selKept_ok]
  refine oneStep_steady _ _ _ _ fun s => ?_
  dsimp only
  repeat' split
  all_goals simp

@[simp] theorem busOff_steady (c) (s : State) : steady false (busOff c s) = steady false s := by
  simp [busOff]

@[simp] theorem attemptSent_steady (c b t stamp) (s : State) :
    steady false (attemptSent c b t stamp s) = steady false s := by
  unfold attemptSent
  repeat' split
  all_goals simp

@[simp] theorem attemptFailed_steady (c b t cause) (s : State) :
    steady false (attemptFailed c b t cause s) = steady false s := by
  unfold attemptFailed
  repeat' split
  all_goals simp

@[simp] theorem noAckCount_steady (c t) (s : State) : steady false (noAckCount c t s) = steady false s := by
  simp [noAckCount]
@[simp] theorem attemptErred_steady (c b t) (s : State) : steady false (attemptErred c b t s) = steady false s := by
  simp [attemptErred]

@[simp] theorem selKept_execCanAttemptEnd (c b o) (s : State) : SelKept s (execCanAttemptEnd c b o s) := by
  unfold execCanAttemptEnd
  dsimp only
  repeat' split
  all_goals simp

@[simp] theorem selKept_execCanTxDeadline (c b running) (s : State) :
    SelKept s (execCanTxDeadline c b running s) := by
  unfold execCanTxDeadline
  split <;> simp

@[simp] theorem queueStatus_steady (c attempt f) (s : State) :
    steady false (queueStatus c attempt f s) = steady false s := by
  unfold queueStatus
  repeat' split
  all_goals simp

@[simp] theorem selKept_execSafeStatusTransmit (runA runB) (s : State) :
    SelKept s (execSafeStatusTransmit runA runB s) := by
  simp [execSafeStatusTransmit]
@[simp] theorem selKept_execReferenceMessageDue (s : State) : SelKept s (execReferenceMessageDue s) := by
  simp [execReferenceMessageDue]
@[simp] theorem changeRole_steady (master) (s : State) : steady false (changeRole master s) = steady false s := by
  simp [changeRole]
@[simp] theorem selKept_execTimeMasterTimeout (s : State) : SelKept s (execTimeMasterTimeout s) := by
  simp [execTimeMasterTimeout]
@[simp] theorem selKept_execNetworkTimeLost (s : State) : SelKept s (execNetworkTimeLost s) := by
  simp [execNetworkTimeLost]

@[simp] theorem stepPt_steady (d) (s : State) : steady false (stepPt d s) = steady false s := by
  unfold stepPt
  dsimp only
  repeat' split
  all_goals simp

@[simp] theorem driftCheck_steady (f) (s : State) : steady false (driftCheck f s) = steady false s := by
  simp [driftCheck]
@[simp] theorem align_steady (nt pt) (s : State) : steady false (align nt pt s) = steady false s := by
  simp [align]

@[simp] theorem selKept_execReferenceMessageReceived (f) (s : State) :
    SelKept s (execReferenceMessageReceived f s) := by
  unfold execReferenceMessageReceived
  dsimp only
  repeat' split
  all_goals simp

/-! ### Reset -/

@[simp] theorem resetCtls_steady (cs) (s : State) : steady false (resetCtls cs s) = steady false s := by
  simp [resetCtls]
@[simp] theorem fcReset_steady (s : State) : steady false (fcReset s) = steady false s := by
  simp [fcReset]
@[simp] theorem gdReset_steady (p) (s : State) : steady false (gdReset p s) = steady false s := by
  simp [gdReset]
@[simp] theorem intoBoot_steady (s : State) : steady false (intoBoot s) = steady false s := by
  simp [intoBoot]
@[simp] theorem endFuse_steady (valid) (s : State) : steady false (endFuse valid s) = steady false s := by
  unfold endFuse
  split <;> simp
@[simp] theorem setLocked_steady (d b) (s : State) : steady false (setLocked d b s) = steady false s := by
  simp [setLocked]
@[simp] theorem addCause_steady (bit) (s : State) : steady false (addCause bit s) = steady false s := by
  simp [addCause]
@[simp] theorem gdHold_steady (p therm) (s : State) : steady false (gdHold p therm s) = steady false s := by
  simp [gdHold]
@[simp] theorem reportUv_steady (p code) (s : State) : steady false (reportUv p code s) = steady false s := by
  simp [reportUv]
@[simp] theorem fcDown_steady (s : State) : steady false (fcDown s) = steady false s := by
  simp [fcDown]

@[simp] theorem hbUp_steady (vio33) (s : State) : steady false (hbUp vio33 s) = steady false s := by
  unfold hbUp
  dsimp only
  repeat' split
  all_goals simp

@[simp] theorem fcUp_steady (s : State) : steady false (fcUp s) = steady false s := by
  simp [fcUp]
@[simp] theorem fcFirst_steady (code ps) (s : State) : steady false (fcFirst code ps s) = steady false s := by
  simp [fcFirst]
@[simp] theorem gdUp_steady (p lanes cmp note) (s : State) (h : ∀ x0, steady false (note x0) = steady false x0) :
    steady false (gdUp p lanes cmp note s) = steady false s := by
  simp [gdUp, h]

@[simp] theorem selKept_execLockoutLeave (d trained cmp vio33 mv) (s : State) :
    SelKept s (execLockoutLeave d trained cmp vio33 mv s) := by
  unfold execLockoutLeave
  repeat' split
  all_goals simp

@[simp] theorem selKept_execThermalShutdownLeave (d trained cmp hot ns) (s : State) :
    SelKept s (execThermalShutdownLeave d trained cmp hot ns s) := by
  unfold execThermalShutdownLeave
  repeat' split
  all_goals simp

@[simp] theorem selKept_execNresetRelease (s : State) : SelKept s (execNresetRelease s) := by
  simp [execNresetRelease]

/-! ### Boot -/

@[simp] theorem ruleEvent_steady (step detail) (s : State) :
    steady false (ruleEvent step detail s) = steady false s := by
  simp [ruleEvent]
@[simp] theorem setHold_steady (step detail) (s : State) : steady false (setHold step detail s) = steady false s := by
  simp [setHold]
@[simp] theorem ruleWhen_steady (c step detail) (s : State) :
    steady false (ruleWhen c step detail s) = steady false s := by
  simp [ruleWhen]
@[simp] theorem lateShutdown_steady (c shut) (s : State) : steady false (lateShutdown c shut s) = steady false s := by
  simp [lateShutdown]
@[simp] theorem insoleEvents_steady (j) (s : State) : steady false (insoleEvents j s) = steady false s := by
  simp [insoleEvents]
@[simp] theorem noteRepeat_steady (rep n) (s : State) : steady false (noteRepeat rep n s) = steady false s := by
  unfold noteRepeat
  split <;> simp
@[simp] theorem insolePlan_steady (j rep) (s : State) : steady false (insolePlan j rep s) = steady false s := by
  simp [insolePlan]

@[simp] theorem insoleRules_steady (trial hist) (s : State) :
    steady false (insoleRules trial hist s) = steady false s := by
  unfold insoleRules
  dsimp only
  repeat' split
  all_goals simp

@[simp] theorem bistReport_steady (kind fails duration coverage) (s : State) :
    steady false (bistReport kind fails duration coverage s) = steady false s := by
  simp [bistReport]
@[simp] theorem bistBegins_steady (s : State) : steady false (bistBegins s) = steady false s := by
  simp [bistBegins]
@[simp] theorem openBoot_steady (k rot) (s : State) : steady false (openBoot k rot s) = steady false s := by
  simp [openBoot]
@[simp] theorem bootChange_steady (s : State) : steady false (bootChange s) = steady false s := by
  unfold bootChange
  split <;> simp
@[simp] theorem logScan_steady (bad) (s : State) : steady false (logScan bad s) = steady false s := by
  unfold logScan
  split <;> simp
@[simp] theorem step01_steady (i hist) (s : State) : steady false (step01 i hist s).2 = steady false s := by
  simp [step01]
@[simp] theorem slotTried_steady (b) (s : State) : steady false (slotTried b s) = steady false s := by
  simp [slotTried]
@[simp] theorem enterRecovery_steady (s : State) : steady false (enterRecovery s) = steady false s := by
  simp [enterRecovery]
@[simp] theorem startImage_steady (b) (s : State) : steady false (startImage b s) = steady false s := by
  simp [startImage]

@[simp] theorem trainLink_steady (i step d) (s : State) : steady false (trainLink i step d s) = steady false s := by
  unfold trainLink
  extract_lets k n r s₁ s₂
  have kept : steady false s₂ = steady false s := by
    refine (foldl_steady _ _ fun s x => ?_).trans (setLink_steady _ _ _)
    dsimp only
    repeat' split
    all_goals simp
  split
  · rw [linkReaction_steady, kept]
  · exact kept

@[simp] theorem startWait_steady (fc) (s : State) : steady false (startWait fc s) = steady false s := by
  simp [startWait]
@[simp] theorem endWait_steady (s : State) : steady false (endWait s) = steady false s := by
  simp [endWait]
@[simp] theorem step03_steady (i) (s : State) : steady false (step03 i s).2 = steady false s := by
  unfold step03
  split <;> simp
@[simp] theorem trainDie_steady (i p) (s : State) : steady false (trainDie i s p) = steady false s := by
  simp [trainDie]

@[simp] theorem step04_steady (i expired) (s : State) : steady false (step04 i expired s).2 = steady false s := by
  unfold step04
  dsimp only
  repeat' split
  all_goals simp

@[simp] theorem carrierOrigin_steady (s : State) : steady false (carrierOrigin s) = steady false s := by
  simp [carrierOrigin]
@[simp] theorem step05_steady (i) (s : State) : steady false (step05 i s).2 = steady false s := by
  unfold step05
  split <;> simp

@[simp] theorem step06_steady (s : State) : steady false (step06 s).2 = steady false s := by
  unfold step06
  dsimp only
  repeat' split
  all_goals simp

@[simp] theorem repairMacro_steady (c k cells) (s : State) :
    steady false (repairMacro c k cells s).2 = steady false s := by
  simp [repairMacro]

@[simp] theorem testTcm_steady (fails) (r : Bool × State) (mem) : steady false (testTcm fails r mem).2 = steady false r.2 := by
  unfold testTcm
  dsimp only
  split
  · simp
  · split <;> simp

@[simp] theorem step07_steady (i) (s : State) : steady false (step07 i s).2 = steady false s := by
  simp [step07]

@[simp] theorem step08_steady (i) (s : State) : steady false (step08 i s).2 = steady false s := by
  unfold step08
  dsimp only
  repeat' split
  all_goals simp

@[simp] theorem step09_steady (s : State) : steady false (step09 s).2 = steady false s := by
  unfold step09
  repeat' split
  all_goals simp

@[simp] theorem checkCopies_steady (i) (s : State) : steady false (checkCopies i s) = steady false s := by
  simp [checkCopies]

@[simp] theorem step0A_steady (i) (s : State) : steady false (step0A i s).2 = steady false s := by
  unfold step0A
  dsimp only
  repeat' split
  all_goals simp

@[simp] theorem step0B_steady (i) (s : State) : steady false (step0B i s).2 = steady false s := by
  unfold step0B
  repeat' split
  all_goals simp

@[simp] theorem step0C_steady (i) (s : State) : steady false (step0C i s).2 = steady false s := by
  simp [step0C]

@[simp] theorem step0D_steady (i) (s : State) : steady false (step0D i s).2 = steady false s := by
  unfold step0D
  dsimp only
  repeat' split
  all_goals simp

@[simp] theorem step0E_steady (i) (s : State) : steady false (step0E i s).2 = steady false s := by
  unfold step0E
  dsimp only
  repeat' split
  all_goals simp

@[simp] theorem joinBoth_steady (s : State) : steady false (joinBoth s) = steady false s := by
  simp [joinBoth]
@[simp] theorem trialPassed_steady (s : State) : steady false (trialPassed s) = steady false s := by
  simp [trialPassed]
@[simp] theorem raiseDue_steady (s : State) : steady false (raiseDue s) = steady false s := by
  simp [raiseDue]
@[simp] theorem bootEnd_steady (s : State) : steady false (bootEnd s) = steady false s := by
  simp [bootEnd]
@[simp] theorem rejoinEnd_steady (s : State) : steady false (rejoinEnd s) = steady false s := by
  simp [rejoinEnd]
@[simp] theorem selKept_execHighSideTrainTimeout (s : State) : SelKept s (execHighSideTrainTimeout s) := by
  unfold execHighSideTrainTimeout
  split <;> simp
@[simp] theorem cancelOpen_steady (s : State) : steady false (cancelOpen s) = steady false s := by
  simp [cancelOpen]
@[simp] theorem retestBlock_steady (bad b) (s : State) : steady false (retestBlock bad s b) = steady false s := by
  simp [retestBlock]
@[simp] theorem drainLog_steady (s : State) : steady false (drainLog s) = steady false s := by
  simp [drainLog]
@[simp] theorem scrubOff_steady (s : State) : steady false (scrubOff s) = steady false s := by
  simp [scrubOff]
@[simp] theorem step22_steady (bad) (s : State) : steady false (step22 bad s) = steady false s := by
  simp [step22]
@[simp] theorem burnNext_steady (bad) (s : State) : steady false (burnNext bad s) = steady false s := by
  unfold burnNext
  split <;> simp
@[simp] theorem burnUpTo_steady (bad upto) (s : State) : steady false (burnUpTo bad upto s) = steady false s := by
  simp [burnUpTo]
@[simp] theorem shutBist_steady (fails) (s : State) : steady false (shutBist fails s) = steady false s := by
  simp [shutBist]
@[simp] theorem shutEnd_steady (s : State) : steady false (shutEnd s) = steady false s := by
  simp [shutEnd]
@[simp] theorem shutFrom24_steady (fails stop) (s : State) :
    steady false (shutFrom24 fails stop s) = steady false s := by
  simp [shutFrom24]
@[simp] theorem selKept_execShutdownDrainEnd (bistFails burnFails mramFails cut) (s : State) :
    SelKept s (execShutdownDrainEnd bistFails burnFails mramFails cut s) := by
  simp [execShutdownDrainEnd]

/-! ### CommandStep -/

@[simp] theorem longBody_steady (i) (s : State) : steady false (longBody i s) = steady false s := by
  unfold longBody
  split <;> simp
@[simp] theorem selKept_execCommandStep (i) (s : State) : SelKept s (execCommandStep i s) := by
  simp [execCommandStep]
@[simp] theorem bothEnd_steady (t i) (s : State) : steady false (bothEnd t i s) = steady false s := by
  simp [bothEnd]

@[simp] theorem cancelTx_steady (t i sof) (s : State) : steady false (cancelTx t i sof s) = steady false s := by
  unfold cancelTx
  repeat' split
  all_goals simp

@[simp] theorem cancelMotion_steady (t) (s : State) : steady false (cancelMotion t s) = steady false s := by
  simp [cancelMotion]

@[simp] theorem cancelRunning_steady (t i sof) (s : State) :
    steady false (cancelRunning t i sof s) = steady false s := by
  unfold cancelRunning
  dsimp only
  repeat' split
  all_goals simp

@[simp] theorem selKept_execCancel (i sof) (s : State) : SelKept s (execCancel i sof s) := by
  unfold execCancel
  dsimp only
  repeat' split
  all_goals simp

/-! ### Tap -/

@[simp] theorem loadIr_steady (code) (s : State) : steady false (loadIr code s) = steady false s := by
  simp [loadIr]
@[simp] theorem shiftsOut_steady (v) (s : State) : steady false (shiftsOut v s) = steady false s := by
  simp [shiftsOut]
@[simp] theorem replaced_steady (s : State) : steady false (replaced s) = steady false s := by
  simp [replaced]
@[simp] theorem tapOp_steady (f) (s : State) (h : ∀ x0, steady false (f x0) = steady false x0) :
    steady false (tapOp f s) = steady false s := by
  simp [tapOp, h]
@[simp] theorem unlockedOp_steady (code) (s : State) : steady false (unlockedOp code s) = steady false s := by
  simp [unlockedOp]
@[simp] theorem selKept_execTapBypass (s : State) : SelKept s (execTapBypass s) := by
  simp [execTapBypass]
@[simp] theorem selKept_execTapIdcode (s : State) : SelKept s (execTapIdcode s) := by
  simp [execTapIdcode]
@[simp] theorem selKept_execTapSamplePreload (s : State) : SelKept s (execTapSamplePreload s) := by
  simp [execTapSamplePreload]
@[simp] theorem selKept_execTapExtest (s : State) : SelKept s (execTapExtest s) := by
  simp [execTapExtest]
@[simp] theorem selKept_execDbgChal (s : State) : SelKept s (execDbgChal s) := by
  simp [execDbgChal]
@[simp] theorem selKept_execDbgResp (verifies) (s : State) : SelKept s (execDbgResp verifies s) := by
  simp [execDbgResp]
@[simp] theorem selKept_execDbgAccess (s : State) : SelKept s (execDbgAccess s) := by
  simp [execDbgAccess]
@[simp] theorem selKept_execTapReset (s : State) : SelKept s (execTapReset s) := by
  simp [execTapReset]

/-! ### Regs -/

@[simp] theorem readLatch_steady (a) (s : State) : steady false (readLatch a s) = steady false s := by
  unfold readLatch
  split <;> simp

@[simp] theorem readDone_steady (a) (s : State) : steady false (readDone a s) = steady false s := by
  unfold readDone
  split
  case h_7 | h_8 => split <;> rfl
  case h_9 =>
    dsimp only
    split <;> rfl
  all_goals rfl

@[simp] theorem doorbell_steady (i) (s : State) : steady false (doorbell i s).2 = steady false s := by
  unfold doorbell
  repeat' split
  all_goals simp

@[simp] theorem headWrite_steady (w) (s : State) : steady false (headWrite w s).2 = steady false s := by
  unfold headWrite
  extract_lets h head
  split
  · simp
  · split <;> rfl

@[simp] theorem irqWrite_steady (w) (s : State) : steady false (irqWrite w s) = steady false s := by
  simp [irqWrite]
@[simp] theorem cursorWrite_steady (w) (s : State) : steady false (cursorWrite w s) = steady false s := by
  simp [cursorWrite]

@[simp] theorem writeFc_steady (a w) (s : State) : steady false (writeFc a w s) = steady false s := by
  unfold writeFc
  repeat' split
  all_goals simp

@[simp] theorem selKept_execSnapshotLatch (s : State) : SelKept s (execSnapshotLatch s) := by
  unfold execSnapshotLatch
  split <;> simp

/-! ### Port -/

@[simp] theorem beginFrame_steady (f) (s : State) : steady false (beginFrame f s) = steady false s := by
  simp [beginFrame]
@[simp] theorem setSticky_steady (b) (s : State) : steady false (setSticky b s) = steady false s := by
  simp [setSticky]
@[simp] theorem badHeader_steady (f code) (s : State) : steady false (badHeader f code s) = steady false s := by
  simp [badHeader]
@[simp] theorem respond_steady (code words) (s : State) : steady false (respond code words s) = steady false s := by
  simp [respond]
@[simp] theorem refuseFrame_steady (kind addr code) (s : State) :
    steady false (refuseFrame kind addr code s) = steady false s := by
  simp [refuseFrame]
@[simp] theorem frame_steady (f kind addr data addrOk act) (s : State) (h : ∀ x0, steady false (act x0) = steady false x0) :
    steady false (frame f kind addr data addrOk act s) = steady false s := by
  simp [frame, h]

@[simp] theorem readWords_steady (p l) (s : State) : steady false (readWords p l s).2 = steady false s := by
  induction l generalizing s with
  | nil => rfl
  | cons a r ih => simp [readWords, ih]

@[simp] theorem readsDone_steady (clocked l) (s : State) : steady false (readsDone clocked l s) = steady false s := by
  simp [readsDone]
@[simp] theorem answerRead_steady (clocked busErr p addr count) (s : State) :
    steady false (answerRead clocked busErr p addr count s) = steady false s := by
  simp [answerRead]

@[simp] theorem writeFcWords_steady (a l) (s : State) : steady false (writeFcWords a l s) = steady false s := by
  induction l generalizing a s with
  | nil => rfl
  | cons w r ih => simp [writeFcWords, ih]

@[simp] theorem serve_steady (a) (s : State) : steady false (serve a s).2 = steady false s := by
  unfold serve
  split <;> simp

@[simp] theorem beginAccess_steady (write addr count data) (s : State) :
    steady false (beginAccess write addr count data s) = steady false s := by
  unfold beginAccess
  repeat' split
  all_goals simp

@[simp] theorem doRead_steady (f addr count) (s : State) : steady false (doRead f addr count s) = steady false s := by
  simp [doRead]
@[simp] theorem regRead_steady (f addr count) (s : State) :
    steady false (regRead f addr count s) = steady false s := by
  simp [regRead]
@[simp] theorem selKept_execRegRead (f addr count) (s : State) : SelKept s (execRegRead f addr count s) := by
  simp [execRegRead]
@[simp] theorem selKept_execRcRegisterRead (f addr) (s : State) : SelKept s (execRcRegisterRead f addr s) := by
  simp [execRcRegisterRead]
@[simp] theorem selKept_execPtLoRead (f) (s : State) : SelKept s (execPtLoRead f s) := by
  simp [execPtLoRead]
@[simp] theorem selKept_execSetposLoRead (f) (s : State) : SelKept s (execSetposLoRead f s) := by
  simp [execSetposLoRead]
@[simp] theorem selKept_execEvtDataRead (f) (s : State) : SelKept s (execEvtDataRead f s) := by
  simp [execEvtDataRead]

@[simp] theorem selKept_execFieldAccessReply (clocked busErr) (s : State) :
    SelKept s (execFieldAccessReply clocked busErr s) := by
  rw [execFieldAccessReply, selKept_ok]
  split
  · rfl
  · dsimp only
    repeat' split
    all_goals simp

@[simp] theorem selKept_execWaitTimeout (s : State) : SelKept s (execWaitTimeout s) := by
  unfold execWaitTimeout
  split <;> simp

@[simp] theorem putWords_steady (a l) (s : State) : steady false (putWords a l s) = steady false s := by
  induction l generalizing a s with
  | nil => rfl
  | cons w r ih => simp [putWords, ih]

@[simp] theorem doEyeletWrite_steady (db addr data) (s : State) :
    steady false (doEyeletWrite db addr data s) = steady false s := by
  simp [doEyeletWrite]
@[simp] theorem selKept_execEyeletWrite (f db addr data) (s : State) :
    SelKept s (execEyeletWrite f db addr data s) := by
  simp [execEyeletWrite]
@[simp] theorem selKept_execEyeletRead (f addr count) (s : State) : SelKept s (execEyeletRead f addr count s) := by
  simp [execEyeletRead]
@[simp] theorem selKept_execCqRead (f addr count) (s : State) : SelKept s (execCqRead f addr count s) := by
  simp [execCqRead]
@[simp] theorem doHello_steady (cap) (s : State) : steady false (doHello cap s) = steady false s := by
  simp [doHello]
@[simp] theorem selKept_execHello (f addr data) (s : State) : SelKept s (execHello f addr data s) := by
  simp [execHello]
@[simp] theorem selKept_execPortFallback (s : State) : SelKept s (execPortFallback s) := by
  simp [execPortFallback]
@[simp] theorem abandon_steady (sticky code f kind addr bytes) (s : State) :
    steady false (abandon sticky code f kind addr bytes s) = steady false s := by
  simp [abandon]
@[simp] theorem selKept_execFrameStall (f kind addr bytes ns) (s : State) :
    SelKept s (execFrameStall f kind addr bytes ns s) := by
  simp [execFrameStall]
@[simp] theorem selKept_execFrameTruncated (f kind addr bytes) (s : State) :
    SelKept s (execFrameTruncated f kind addr bytes s) := by
  simp [execFrameTruncated]

end Sys2Proof.Laws
end

section
/-! What the shared operations leave alone, beyond the layer of Keep.lean: an answer to a command touches the tags and the
journal, the brake touches its switches. -/

namespace Sys2Proof.Laws
open Sys2Proof Sys2Proof.Machine

/-! ## Answers -/

/-- `t` is `s` but for the tags and the journal that follows them. -/
def Answered (s t : State) : Prop :=
  ∃ tags journal, t = { s with mbx := { s.mbx with tags := tags }, cp := { s.cp with journal := journal } }

theorem Answered.refl (s : State) : Answered s s := ⟨s.mbx.tags, s.cp.journal, rfl⟩

theorem Answered.trans {s t u : State} (h : Answered s t) (k : Answered t u) : Answered s u := by
  obtain ⟨a, b, rfl⟩ := h
  obtain ⟨a', b', rfl⟩ := k
  exact ⟨a', b', rfl⟩

theorem answered_setTag (i : Nat) (f : TagInfo → TagInfo) (s : State) : Answered s (setTag i f s) := ⟨_, _, rfl⟩

theorem answered_answer (i : Nat) (r : Result) (s : State) : Answered s (answer i r s) := by
  unfold answer
  split
  · exact answered_setTag _ _ _
  · exact Answered.refl s

theorem answered_foldl {α : Type} {f : State → α → State} (hf : ∀ s a, Answered s (f s a)) (l : List α) (s : State) :
    Answered s (l.foldl f s) := by
  induction l generalizing s with
  | nil => exact Answered.refl s
  | cons a l ih => exact (hf s a).trans (ih (f s a))

theorem answered_endOpcodes (ops : List Nat) (status detail : Nat) (s : State) :
    Answered s (endOpcodes ops status detail s) := by
  refine answered_foldl (fun s o => ?_) ops s
  split
  · exact answered_answer _ _ _
  · exact Answered.refl s

theorem answered_failOutstanding (s : State) : Answered s (failOutstanding s) :=
  answered_foldl (fun s i => answered_answer i _ s) _ s

section
variable (i : Nat) (r : Result) (s : State)

@[simp] theorem answer_op : (answer i r s).op = s.op := by
  obtain ⟨tags, journal, e⟩ := answered_answer i r s; rw [e]
@[simp] theorem answer_snap : (answer i r s).snap = s.snap := by
  obtain ⟨tags, journal, e⟩ := answered_answer i r s; rw [e]
@[simp] theorem answer_heel : (answer i r s).heel = s.heel := by
  obtain ⟨tags, journal, e⟩ := answered_answer i r s; rw [e]
@[simp] theorem answer_saf : (answer i r s).saf = s.saf := by
  obtain ⟨tags, journal, e⟩ := answered_answer i r s; rw [e]
@[simp] theorem answer_mod : (answer i r s).mod = s.mod := by
  obtain ⟨tags, journal, e⟩ := answered_answer i r s; rw [e]
@[simp] theorem answer_pt : (answer i r s).pt = s.pt := by
  obtain ⟨tags, journal, e⟩ := answered_answer i r s; rw [e]
@[simp] theorem answer_sense : (answer i r s).sense = s.sense := by
  obtain ⟨tags, journal, e⟩ := answered_answer i r s; rw [e]
@[simp] theorem answer_supply : (answer i r s).supply = s.supply := by
  obtain ⟨tags, journal, e⟩ := answered_answer i r s; rw [e]
@[simp] theorem answer_sm : (answer i r s).sm = s.sm := by
  obtain ⟨tags, journal, e⟩ := answered_answer i r s; rw [e]
@[simp] theorem answer_par : (answer i r s).par = s.par := by
  obtain ⟨tags, journal, e⟩ := answered_answer i r s; rw [e]
@[simp] theorem answer_gd : (answer i r s).gd = s.gd := by
  obtain ⟨tags, journal, e⟩ := answered_answer i r s; rw [e]
@[simp] theorem answer_jx : (answer i r s).jx = s.jx := by
  obtain ⟨tags, journal, e⟩ := answered_answer i r s; rw [e]

end

/-! ## Commands that may start -/

/-- A long command that starts without a refusal joins the long commands that run. -/
theorem longStep_inl {i op : Nat} {f : State → State ⊕ (Result × State)} {s u : State} (may : canStart s i op = true)
    (runs : f (start i s) = .inl u) : longStep i op f s = { u with mbx := { u.mbx with rr := u.mbx.rr ++ [i] } } := by
  unfold longStep
  rw [if_pos may, runs]

theorem fieldStep_of {i op : Nat} {f : State → Result × State} {s : State} (may : canStart s i op = true) :
    fieldStep i op f s = setTag i (fun t => { t with reply := some (f (start i s)).1 }) (f (start i s)).2 :=
  if_pos may

/-! ## A die's entry -/

@[simp] theorem six_get_set {α : Type} (t : Six α) (p : GdPos) (x : α) : (t.set p x).get p = x := by
  cases p <;> rfl

@[simp] theorem tri_get_set {α : Type} (t : Tri α) (p : Phase) (x : α) : (t.set p x).get p = x := by
  cases p <;> rfl

theorem tri_get_set_of_ne {α : Type} (t : Tri α) {p q : Phase} (h : p ≠ q) (x : α) : (t.set p x).get q = t.get q := by
  cases p <;> cases q <;> simp_all [Tri.get, Tri.set]

variable (s : State)

/-! ## The brake and the contactors -/

/-- `t` is `s` but for the two brake switches, their test and the time of the last demand. -/
def Braked (s t : State) : Prop :=
  ∃ rel hs ls test at_, t = { s with saf := { s.saf with brkRel := rel, brkHs := hs, brkLs := ls, brkTest := test, brkAt := at_ } }

theorem braked_brake : Braked s (brake s) := by
  unfold brake
  split
  · exact ⟨_, _, _, _, _, rfl⟩
  · exact ⟨s.saf.brkRel, s.saf.brkHs, s.saf.brkLs, s.saf.brkTest, s.saf.brkAt, rfl⟩

@[simp] theorem brake_op : (brake s).op = s.op := by
  obtain ⟨rel, hs, ls, test, at_, e⟩ := braked_brake s; rw [e]
@[simp] theorem brake_heel : (brake s).heel = s.heel := by
  obtain ⟨rel, hs, ls, test, at_, e⟩ := braked_brake s; rw [e]
@[simp] theorem brake_mod : (brake s).mod = s.mod := by
  obtain ⟨rel, hs, ls, test, at_, e⟩ := braked_brake s; rw [e]
@[simp] theorem brake_pt : (brake s).pt = s.pt := by
  obtain ⟨rel, hs, ls, test, at_, e⟩ := braked_brake s; rw [e]
@[simp] theorem brake_jx : (brake s).jx = s.jx := by
  obtain ⟨rel, hs, ls, test, at_, e⟩ := braked_brake s; rw [e]
@[simp] theorem brake_sense : (brake s).sense = s.sense := by
  obtain ⟨rel, hs, ls, test, at_, e⟩ := braked_brake s; rw [e]
@[simp] theorem brake_supply : (brake s).supply = s.supply := by
  obtain ⟨rel, hs, ls, test, at_, e⟩ := braked_brake s; rw [e]
@[simp] theorem brake_boot : (brake s).boot = s.boot := by
  obtain ⟨rel, hs, ls, test, at_, e⟩ := braked_brake s; rw [e]
@[simp] theorem brake_gd : (brake s).gd = s.gd := by
  obtain ⟨rel, hs, ls, test, at_, e⟩ := braked_brake s; rw [e]
@[simp] theorem brake_mbx : (brake s).mbx = s.mbx := by
  obtain ⟨rel, hs, ls, test, at_, e⟩ := braked_brake s; rw [e]
@[simp] theorem brake_saf_held : (brake s).saf.held = s.saf.held := by
  obtain ⟨rel, hs, ls, test, at_, e⟩ := braked_brake s; rw [e]
@[simp] theorem brake_saf_kFb : (brake s).saf.kFb = s.saf.kFb := by
  obtain ⟨rel, hs, ls, test, at_, e⟩ := braked_brake s; rw [e]
@[simp] theorem brake_saf_fcLoss : (brake s).saf.fcLoss = s.saf.fcLoss := by
  obtain ⟨rel, hs, ls, test, at_, e⟩ := braked_brake s; rw [e]
@[simp] theorem brake_saf_dis : (brake s).saf.dis = s.saf.dis := by
  obtain ⟨rel, hs, ls, test, at_, e⟩ := braked_brake s; rw [e]
@[simp] theorem brake_saf_pre : (brake s).saf.pre = s.saf.pre := by
  obtain ⟨rel, hs, ls, test, at_, e⟩ := braked_brake s; rw [e]

/-- `t` is `s` but for the contactors' commands and their times. -/
def Commanded (s t : State) : Prop := ∃ cmd at_, t = { s with saf := { s.saf with kCmd := cmd, kAt := at_ } }

theorem Commanded.refl : Commanded s s := ⟨s.saf.kCmd, s.saf.kAt, rfl⟩

theorem commanded_cmdK (neg pre pos : Bool) : Commanded s (cmdK neg pre pos s) := ⟨_, _, rfl⟩

/-- A contactor takes the level it is commanded. -/
@[simp] theorem cmdOne_fst (t : Nat) (want cmd : Bool) (at_ : Option Nat) : (cmdOne t want cmd at_).1 = want := by
  unfold cmdOne
  split
  · next h => exact (beq_iff_eq.1 h).symm
  · rfl

@[simp] theorem cmdK_kCmd (neg pre pos : Bool) : (cmdK neg pre pos s).saf.kCmd = ⟨neg, pre, pos⟩ := by
  simp [cmdK]

theorem commanded_contactors : Commanded s (contactors s) := by
  unfold contactors
  split
  · exact Commanded.refl s
  · split
    case h_1 => exact Commanded.refl s
    case h_5 =>
      split
      case h_4 => exact commanded_cmdK s _ _ _
      all_goals
        split
        · exact commanded_cmdK s _ _ _
        · exact commanded_cmdK s _ _ _
    all_goals exact commanded_cmdK s _ _ _

@[simp] theorem contactors_op : (contactors s).op = s.op := by
  obtain ⟨cmd, at_, e⟩ := commanded_contactors s; rw [e]
@[simp] theorem contactors_heel : (contactors s).heel = s.heel := by
  obtain ⟨cmd, at_, e⟩ := commanded_contactors s; rw [e]
@[simp] theorem contactors_mod : (contactors s).mod = s.mod := by
  obtain ⟨cmd, at_, e⟩ := commanded_contactors s; rw [e]
@[simp] theorem contactors_pt : (contactors s).pt = s.pt := by
  obtain ⟨cmd, at_, e⟩ := commanded_contactors s; rw [e]
@[simp] theorem contactors_jx : (contactors s).jx = s.jx := by
  obtain ⟨cmd, at_, e⟩ := commanded_contactors s; rw [e]
@[simp] theorem contactors_sense : (contactors s).sense = s.sense := by
  obtain ⟨cmd, at_, e⟩ := commanded_contactors s; rw [e]
@[simp] theorem contactors_supply : (contactors s).supply = s.supply := by
  obtain ⟨cmd, at_, e⟩ := commanded_contactors s; rw [e]
@[simp] theorem contactors_boot : (contactors s).boot = s.boot := by
  obtain ⟨cmd, at_, e⟩ := commanded_contactors s; rw [e]
@[simp] theorem contactors_gd : (contactors s).gd = s.gd := by
  obtain ⟨cmd, at_, e⟩ := commanded_contactors s; rw [e]
@[simp] theorem contactors_mbx : (contactors s).mbx = s.mbx := by
  obtain ⟨cmd, at_, e⟩ := commanded_contactors s; rw [e]
@[simp] theorem contactors_saf_held : (contactors s).saf.held = s.saf.held := by
  obtain ⟨cmd, at_, e⟩ := commanded_contactors s; rw [e]
@[simp] theorem contactors_saf_kFb : (contactors s).saf.kFb = s.saf.kFb := by
  obtain ⟨cmd, at_, e⟩ := commanded_contactors s; rw [e]
@[simp] theorem contactors_saf_fcLoss : (contactors s).saf.fcLoss = s.saf.fcLoss := by
  obtain ⟨cmd, at_, e⟩ := commanded_contactors s; rw [e]
@[simp] theorem contactors_saf_dis : (contactors s).saf.dis = s.saf.dis := by
  obtain ⟨cmd, at_, e⟩ := commanded_contactors s; rw [e]
@[simp] theorem contactors_saf_pre : (contactors s).saf.pre = s.saf.pre := by
  obtain ⟨cmd, at_, e⟩ := commanded_contactors s; rw [e]

/-! ## A change of the operating state -/

/-- The state that `new` is entered with, before its record, the brake and the contactors (R53, R57). -/
def entering (new : OpState) (s : State) : State :=
  { s with
    op := { s.op with state := new, prev := s.op.state,
                      holdFrom := if new == .safeHold then s.op.state else s.op.holdFrom,
                      f2Stop := s.op.f2Stop && new == .stopping
                      runClass := if new == .stopping || new == .safeHold then s.op.runClass else 0 }
    sm := { s.sm with graceSince := if new == .ready || new == .standby || new == .safeHold then none else s.sm.graceSince }
    obs := { s.obs with reacq := if new == .run then s.obs.reacq else none }
    loop := { s.loop with restarts := if new == .ready then 0 else s.loop.restarts }
    mod := { s.mod with missed := if new == .ready then 0 else s.mod.missed }
    mbx := { s.mbx with irq := s.mbx.irq ||| 8 } }

/-- The tests that READY and RUN set up: the brake's and STO's (R446, R456). -/
def settle (new : OpState) (u : State) : State :=
  if new == .ready then
    startStoTest false { u with saf := { u.saf with brkDue := if parOn u P.safetyBrkEnable then [true, false] else [] } }
  else if new == .run then { u with saf := { u.saf with brkTestAt := now u } }
  else u

theorem changeState_eq_settle (new : OpState) (cause : Nat) : changeState new cause s = settle new
    (brake (contactors (record .fc 0x1001 0 [(new.code : Int), (s.op.state.code : Int), (cause : Int)] (entering new s)))) := by
  delta changeState settle entering
  rfl

/-- The set up tests are entries of the safety functions' block. -/
theorem settle_eq (new : OpState) (u : State) : ∃ due at_ test testAt,
    settle new u = { u with saf := { u.saf with brkDue := due, brkTestAt := at_, stoTest := test, stoTestAt := testAt } } := by
  unfold settle
  split
  · exact ⟨_, _, _, _, rfl⟩
  · split
    · exact ⟨_, _, _, _, rfl⟩
    · exact ⟨u.saf.brkDue, u.saf.brkTestAt, u.saf.stoTest, u.saf.stoTestAt, rfl⟩

@[simp] theorem settle_op (new : OpState) (u : State) : (settle new u).op = u.op := by
  obtain ⟨due, at_, test, testAt, e⟩ := settle_eq new u; rw [e]
@[simp] theorem settle_pt (new : OpState) (u : State) : (settle new u).pt = u.pt := by
  obtain ⟨due, at_, test, testAt, e⟩ := settle_eq new u; rw [e]
@[simp] theorem settle_jx (new : OpState) (u : State) : (settle new u).jx = u.jx := by
  obtain ⟨due, at_, test, testAt, e⟩ := settle_eq new u; rw [e]
@[simp] theorem settle_sense (new : OpState) (u : State) : (settle new u).sense = u.sense := by
  obtain ⟨due, at_, test, testAt, e⟩ := settle_eq new u; rw [e]
@[simp] theorem settle_supply (new : OpState) (u : State) : (settle new u).supply = u.supply := by
  obtain ⟨due, at_, test, testAt, e⟩ := settle_eq new u; rw [e]
@[simp] theorem settle_boot (new : OpState) (u : State) : (settle new u).boot = u.boot := by
  obtain ⟨due, at_, test, testAt, e⟩ := settle_eq new u; rw [e]
@[simp] theorem settle_gd (new : OpState) (u : State) : (settle new u).gd = u.gd := by
  obtain ⟨due, at_, test, testAt, e⟩ := settle_eq new u; rw [e]
@[simp] theorem settle_heel (new : OpState) (u : State) : (settle new u).heel = u.heel := by
  obtain ⟨due, at_, test, testAt, e⟩ := settle_eq new u; rw [e]
@[simp] theorem settle_mod (new : OpState) (u : State) : (settle new u).mod = u.mod := by
  obtain ⟨due, at_, test, testAt, e⟩ := settle_eq new u; rw [e]
@[simp] theorem settle_mbx (new : OpState) (u : State) : (settle new u).mbx = u.mbx := by
  obtain ⟨due, at_, test, testAt, e⟩ := settle_eq new u; rw [e]
@[simp] theorem settle_saf_held (new : OpState) (u : State) : (settle new u).saf.held = u.saf.held := by
  obtain ⟨due, at_, test, testAt, e⟩ := settle_eq new u; rw [e]
@[simp] theorem settle_saf_kFb (new : OpState) (u : State) : (settle new u).saf.kFb = u.saf.kFb := by
  obtain ⟨due, at_, test, testAt, e⟩ := settle_eq new u; rw [e]
@[simp] theorem settle_saf_fcLoss (new : OpState) (u : State) : (settle new u).saf.fcLoss = u.saf.fcLoss := by
  obtain ⟨due, at_, test, testAt, e⟩ := settle_eq new u; rw [e]
@[simp] theorem settle_saf_dis (new : OpState) (u : State) : (settle new u).saf.dis = u.saf.dis := by
  obtain ⟨due, at_, test, testAt, e⟩ := settle_eq new u; rw [e]
@[simp] theorem settle_saf_pre (new : OpState) (u : State) : (settle new u).saf.pre = u.saf.pre := by
  obtain ⟨due, at_, test, testAt, e⟩ := settle_eq new u; rw [e]

section
variable (new : OpState) (cause : Nat)

@[simp] theorem changeState_op_state : (changeState new cause s).op.state = new := by
  rw [changeState_eq_settle]; simp [entering]
@[simp] theorem changeState_op_prev : (changeState new cause s).op.prev = s.op.state := by
  rw [changeState_eq_settle]; simp [entering]
@[simp] theorem changeState_op_stoActive : (changeState new cause s).op.stoActive = s.op.stoActive := by
  rw [changeState_eq_settle]; simp [entering]
@[simp] theorem changeState_heel : (changeState new cause s).heel = s.heel := by
  rw [changeState_eq_settle]; simp [entering]
@[simp] theorem changeState_pt : (changeState new cause s).pt = s.pt := by
  rw [changeState_eq_settle]; simp [entering]
@[simp] theorem changeState_jx : (changeState new cause s).jx = s.jx := by
  rw [changeState_eq_settle]; simp [entering]
@[simp] theorem changeState_sense : (changeState new cause s).sense = s.sense := by
  rw [changeState_eq_settle]; simp [entering]
@[simp] theorem changeState_supply : (changeState new cause s).supply = s.supply := by
  rw [changeState_eq_settle]; simp [entering]
@[simp] theorem changeState_boot : (changeState new cause s).boot = s.boot := by
  rw [changeState_eq_settle]; simp [entering]
@[simp] theorem changeState_gd : (changeState new cause s).gd = s.gd := by
  rw [changeState_eq_settle]; simp [entering]
@[simp] theorem changeState_mod_running : (changeState new cause s).mod.running = s.mod.running := by
  rw [changeState_eq_settle]; simp [entering]
@[simp] theorem changeState_saf_held : (changeState new cause s).saf.held = s.saf.held := by
  rw [changeState_eq_settle]; simp [entering]
@[simp] theorem changeState_saf_kFb : (changeState new cause s).saf.kFb = s.saf.kFb := by
  rw [changeState_eq_settle]; simp [entering]
@[simp] theorem changeState_saf_fcLoss : (changeState new cause s).saf.fcLoss = s.saf.fcLoss := by
  rw [changeState_eq_settle]; simp [entering]
@[simp] theorem changeState_saf_dis : (changeState new cause s).saf.dis = s.saf.dis := by
  rw [changeState_eq_settle]; simp [entering]
@[simp] theorem changeState_saf_pre : (changeState new cause s).saf.pre = s.saf.pre := by
  rw [changeState_eq_settle]; simp [entering]
@[simp] theorem changeState_mbx_tags : (changeState new cause s).mbx.tags = s.mbx.tags := by
  rw [changeState_eq_settle]; simp [entering]
@[simp] theorem changeState_mbx_rr : (changeState new cause s).mbx.rr = s.mbx.rr := by
  rw [changeState_eq_settle]; simp [entering]

end

theorem changeState_safeHold_holdFrom (cause : Nat) : (changeState .safeHold cause s).op.holdFrom = s.op.state := by
  rw [changeState_eq_settle]; simp [entering]

theorem changeState_ready_stoTest (cause : Nat) : (changeState .ready cause s).saf.stoTest = some false := by
  rw [changeState_eq_settle]; rfl

/-! ## What a fault ends -/

/-- `t` is `s` but for the blocks of motion, observers, loops and modulator, the discharge and the precharge, the tags and
the journal: what leaving a state because of a fault touches (R55, R309, R548). -/
def Left (s t : State) : Prop :=
  ∃ mbx cp par obs pe mod loop pre dis disOn stop, t = { s with
    mbx := mbx, cp := cp, par := par, obs := obs, pe := pe, mod := mod, loop := loop,
    saf := { s.saf with pre := pre, dis := dis, disOn := disOn, stop := stop } }

theorem Left.refl : Left s s := ⟨_, _, _, _, _, _, _, _, _, _, _, rfl⟩

theorem Left.trans {s t u : State} (h : Left s t) (k : Left t u) : Left s u := by
  obtain ⟨a, b, c, d, e, f, g, i, j, l, m, rfl⟩ := h
  obtain ⟨a', b', c', d', e', f', g', i', j', l', m', rfl⟩ := k
  exact ⟨a', b', c', d', e', f', g', i', j', l', m', rfl⟩

theorem Answered.left {s t : State} (h : Answered s t) : Left s t := by
  obtain ⟨tags, journal, rfl⟩ := h
  exact ⟨_, _, _, _, _, _, _, _, _, _, _, rfl⟩

theorem left_endMotion (status code : Nat) : Left s (endMotion status code s) := by
  unfold endMotion
  extract_lets s1 s2 homing s3
  have h1 : Left s s1 := (answered_endOpcodes _ _ _ s).left
  have h2 : Left s1 s2 := by
    refine (answered_foldl (fun s m => ?_) _ s1).left
    split
    · exact answered_answer _ _ s
    · exact Answered.refl s
  have h3 : Left s2 s3 := by
    unfold s3
    split
    · exact ⟨_, _, _, _, _, _, _, _, _, _, _, rfl⟩
    · exact Left.refl s2
  exact h1.trans (h2.trans (h3.trans ⟨_, _, _, _, _, _, _, _, _, _, _, rfl⟩))

theorem left_dropStart (keepLock : Bool) : Left s (dropStart keepLock s) := ⟨_, _, _, _, _, _, _, _, _, _, _, rfl⟩

theorem left_endControl : Left s (endControl s) := (left_dropStart s false).trans ⟨_, _, _, _, _, _, _, _, _, _, _, rfl⟩

theorem left_leaveByFault (code : Nat) : Left s (leaveByFault code s) := by
  unfold leaveByFault
  split
  case h_1 => exact (answered_endOpcodes _ _ _ s).left.trans ⟨_, _, _, _, _, _, _, _, _, _, _, rfl⟩
  case h_2 => exact (answered_endOpcodes _ _ _ s).left.trans ((left_dropStart _ _).trans ⟨_, _, _, _, _, _, _, _, _, _, _, rfl⟩)
  case h_3 | h_4 => exact (answered_endOpcodes _ _ _ s).left.trans ((left_endMotion _ _ _).trans (left_endControl _))
  case h_5 =>
    have ended := (answered_endOpcodes [0x24] stFault code s).left
    exact (ended.trans ⟨_, _, _, _, _, _, _, _, _, _, _, rfl⟩).trans (left_endControl _)
  case h_6 => exact Left.refl s

@[simp] theorem leaveByFault_op (code : Nat) : (leaveByFault code s).op = s.op := by
  obtain ⟨a, b, c, d, e, f, g, i, j, k, l, h⟩ := left_leaveByFault s code; rw [h]
@[simp] theorem leaveByFault_heel (code : Nat) : (leaveByFault code s).heel = s.heel := by
  obtain ⟨a, b, c, d, e, f, g, i, j, k, l, h⟩ := left_leaveByFault s code; rw [h]
@[simp] theorem leaveByFault_gd (code : Nat) : (leaveByFault code s).gd = s.gd := by
  obtain ⟨a, b, c, d, e, f, g, i, j, k, l, h⟩ := left_leaveByFault s code; rw [h]
@[simp] theorem leaveByFault_saf_held (code : Nat) : (leaveByFault code s).saf.held = s.saf.held := by
  obtain ⟨a, b, c, d, e, f, g, i, j, k, l, h⟩ := left_leaveByFault s code; rw [h]

theorem leaveByFault_running {s : State} (h : s.op.state = .run) (code : Nat) : (leaveByFault code s).mod.running = false := by
  unfold leaveByFault
  rw [h]
  rfl

/-! ## SAFE_HOLD and package orders -/

/-- The states that a fault leads to SAFE_HOLD (R54). -/
def holdable (o : OpState) : Bool :=
  match o with
  | .boot | .shutdown | .safeHold => false
  | _ => true

theorem toSafeHold_of_holdable {s : State} (h : holdable s.op.state = true) (code : Nat) :
    toSafeHold code s = changeState .safeHold code (leaveByFault code s) := by
  unfold toSafeHold
  split
  case h_4 => rfl
  all_goals
    next e => exact absurd h (by rw [e]; nofun)

/-- An aborted diagnostic is a record and an answer besides the dies' entries. -/
theorem abortDiag_eq (code : Nat) : abortDiag code s = s ∨ ∃ d gd, abortDiag code s =
    answer d ⟨stFault, code, []⟩ (record .fc 0x4C25 0 [(code : Int)] { s with diag := none, gd := gd }) := by
  unfold abortDiag
  split
  · exact .inl rfl
  · exact .inr ⟨_, _, rfl⟩

@[simp] theorem abortDiag_op_state (code : Nat) : (abortDiag code s).op.state = s.op.state := by
  obtain e | ⟨d, gd, e⟩ := abortDiag_eq s code <;> simp [e]
@[simp] theorem abortDiag_op_stoActive (code : Nat) : (abortDiag code s).op.stoActive = s.op.stoActive := by
  obtain e | ⟨d, gd, e⟩ := abortDiag_eq s code <;> simp [e]
@[simp] theorem abortDiag_op_speedDependent (code : Nat) : (abortDiag code s).op.speedDependent = s.op.speedDependent := by
  obtain e | ⟨d, gd, e⟩ := abortDiag_eq s code <;> simp [e]
@[simp] theorem abortDiag_heel (code : Nat) : (abortDiag code s).heel = s.heel := by
  obtain e | ⟨d, gd, e⟩ := abortDiag_eq s code <;> simp [e]
@[simp] theorem abortDiag_pt (code : Nat) : (abortDiag code s).pt = s.pt := by
  obtain e | ⟨d, gd, e⟩ := abortDiag_eq s code <;> simp [e]
@[simp] theorem abortDiag_jx (code : Nat) : (abortDiag code s).jx = s.jx := by
  obtain e | ⟨d, gd, e⟩ := abortDiag_eq s code <;> simp [e]
@[simp] theorem abortDiag_sense (code : Nat) : (abortDiag code s).sense = s.sense := by
  obtain e | ⟨d, gd, e⟩ := abortDiag_eq s code <;> simp [e]
@[simp] theorem abortDiag_supply (code : Nat) : (abortDiag code s).supply = s.supply := by
  obtain e | ⟨d, gd, e⟩ := abortDiag_eq s code <;> simp [e]
@[simp] theorem abortDiag_saf (code : Nat) : (abortDiag code s).saf = s.saf := by
  obtain e | ⟨d, gd, e⟩ := abortDiag_eq s code <;> simp [e]
@[simp] theorem abortDiag_mod (code : Nat) : (abortDiag code s).mod = s.mod := by
  obtain e | ⟨d, gd, e⟩ := abortDiag_eq s code <;> simp [e]
@[simp] theorem abortDiag_sm (code : Nat) : (abortDiag code s).sm = s.sm := by
  obtain e | ⟨d, gd, e⟩ := abortDiag_eq s code <;> simp [e]
@[simp] theorem abortDiag_par (code : Nat) : (abortDiag code s).par = s.par := by
  obtain e | ⟨d, gd, e⟩ := abortDiag_eq s code <;> simp [e]

@[simp] theorem toSafeHold_heel (code : Nat) : (toSafeHold code s).heel = s.heel := by
  unfold toSafeHold; split <;> simp
@[simp] theorem toSafeHold_op_stoActive (code : Nat) : (toSafeHold code s).op.stoActive = s.op.stoActive := by
  unfold toSafeHold; split <;> simp
@[simp] theorem toSafeHold_saf_held (code : Nat) : (toSafeHold code s).saf.held = s.saf.held := by
  unfold toSafeHold; split <;> simp

/-- FC has issued an order and not yet entered SAFE_HOLD. -/
def ordering (o : HeelOrder) (code : Nat) (s : State) : State :=
  let s := broadcast o (abortDiag code s)
  let held := takeOrder s.heel.fc o
  { s with
    heel := { s.heel with fc := held, behind := if held == some o then code else s.heel.behind }
    saf := { s.saf with held := heldCode held }
    op := { s.op with speedDependent := s.op.speedDependent && held != some o } }

theorem issuePackage_eq (o : HeelOrder) (code : Nat) : issuePackage o code s = brake (toSafeHold code (ordering o code s)) := by
  delta issuePackage ordering
  rfl

section
variable (o : HeelOrder) (code : Nat)

@[simp] theorem ordering_heel_fc : (ordering o code s).heel.fc = takeOrder s.heel.fc o := by simp [ordering, broadcast]
@[simp] theorem ordering_heel_legs : (ordering o code s).heel.legs = s.heel.legs := by simp [ordering, broadcast]
@[simp] theorem ordering_saf_held : (ordering o code s).saf.held = heldCode (takeOrder s.heel.fc o) := by
  simp [ordering, broadcast]
@[simp] theorem ordering_op_state : (ordering o code s).op.state = s.op.state := by simp [ordering, broadcast]
@[simp] theorem ordering_op_stoActive : (ordering o code s).op.stoActive = s.op.stoActive := by simp [ordering, broadcast]

@[simp] theorem issuePackage_heel_fc : (issuePackage o code s).heel.fc = takeOrder s.heel.fc o := by
  simp [issuePackage_eq]
@[simp] theorem issuePackage_heel_legs : (issuePackage o code s).heel.legs = s.heel.legs := by
  simp [issuePackage_eq]
@[simp] theorem issuePackage_saf_held : (issuePackage o code s).saf.held = heldCode (takeOrder s.heel.fc o) := by
  simp [issuePackage_eq]
@[simp] theorem issuePackage_op_stoActive : (issuePackage o code s).op.stoActive = s.op.stoActive := by
  simp [issuePackage_eq]

end

variable {s}

theorem issuePackage_of_holdable (h : holdable s.op.state = true) (o : HeelOrder) (code : Nat) :
    issuePackage o code s = brake (changeState .safeHold code (leaveByFault code (ordering o code s))) := by
  rw [issuePackage_eq, toSafeHold_of_holdable (by rwa [ordering_op_state])]

theorem issuePackage_op_state (h : holdable s.op.state = true) (o : HeelOrder) (code : Nat) :
    (issuePackage o code s).op.state = .safeHold := by
  simp [issuePackage_of_holdable h]

theorem issuePackage_op_holdFrom (h : holdable s.op.state = true) (o : HeelOrder) (code : Nat) :
    (issuePackage o code s).op.holdFrom = s.op.state := by
  simp [issuePackage_of_holdable h, changeState_safeHold_holdFrom]

theorem issuePackage_running (h : s.op.state = .run) (o : HeelOrder) (code : Nat) :
    (issuePackage o code s).mod.running = false := by
  have run : (ordering o code s).op.state = .run := by rw [ordering_op_state, h]
  simp [issuePackage_of_holdable (s := s) (by rw [h]; rfl), leaveByFault_running run]

end Sys2Proof.Laws
end

section
/-! Jexlink lanes and links, package time, barriers and snapshots (R32 to R52). -/

namespace Sys2Proof.Laws
open Sys2Proof Sys2Proof.Machine Sys2Proof.Safety

/-! ## Lanes and links -/

/-- Lane errors are counted beside the links. -/
@[simp] theorem link_countErrors (d x : Die) (lane n : Nat) (s : State) : link (countErrors x lane n s) d = link s d := by
  cases d <;> rfl

/-- Changing a lane that is not at full rate leaves every full-rate lane of the link. -/
theorem any_full_upd {l : List Lane} {i : Nat} (x : Lane) (h : nth l i .untrained ≠ .full) (any : l.any (· == .full) = true) :
    (upd l i (fun _ => x)).any (· == .full) = true := by
  obtain ⟨y, hy, full⟩ := List.any_eq_true.1 any
  obtain ⟨j, hj, rfl⟩ := List.getElem_of_mem hy
  have ne : i ≠ j := by
    rintro rfl
    exact h (by simpa [nth, hj] using full)
  refine List.any_eq_true.2 ⟨(upd l i (fun _ => x))[j]'(by simpa [upd] using hj), List.getElem_mem _, ?_⟩
  simpa [upd, List.getElem_modify, ne] using full

theorem fullLanes_pos {l : LinkState} (h : l.lanes.any (· == .full) = true) : fullLanes l ≠ 0 := by
  obtain ⟨y, hy, full⟩ := List.any_eq_true.1 h
  exact (List.length_pos_of_mem (List.mem_filter.2 ⟨hy, full⟩)).ne'

/-- HB's link with a lane left at half rate (R40). -/
def atHalfRate (lane : Nat) (s : State) : State :=
  record .fc 0x1802 1 [] (degrade
    (setLink .hb { s.jx.hb with lanes := upd s.jx.hb.lanes lane (fun _ => .half) } s))

/-- A pass of the fourth attempt leaves half rate; another full-rate lane keeps the link for control. -/
theorem exec_laneTrainingDone_half {lane : Nat} {s : State} (training : nth s.jx.hb.lanes lane .untrained = .training 4)
    (full : s.jx.hb.lanes.any (· == .full) = true) :
    exec (.laneTrainingDone .hb lane true) s = .next (atHalfRate lane s) := by
  have notFull : nth s.jx.hb.lanes lane .untrained ≠ .full := by rw [training]; nofun
  have kept := fullLanes_pos (l := ⟨upd s.jx.hb.lanes lane (fun _ => .half), s.jx.hb.lost⟩) (any_full_upd .half notFull full)
  have trained : ¬(fullLanes (link (atHalfRate lane s) .hb) == 0) = true := by
    simpa [atHalfRate, link, degrade, setLink] using kept
  change execLaneTrainingDone .hb lane true s = _
  simp only [execLaneTrainingDone, link, training, if_true]
  exact congrArg Host.Outcome.next (if_neg trained)

/-- Settles O15: each row by its guard; a lane left at half rate leaves the link's other full-rate lane. -/
theorem lanesAndLinks : Obligations.LanesAndLinks := by
  unfold Obligations.LanesAndLinks
  refine ⟨?_, ?_, ?_, ?_, ?_⟩
  · intro d s hd up powered
    have guard : ¬((link s d).lost || s.supply.fcLock || d == .fc) = true := by simp [up, powered, hd]
    exact congrArg Host.Outcome.next (if_neg guard)
  · intro d lane errs s powered limit trained others
    have guard : ¬s.supply.fcLock = true := by simp [powered]
    have reached : (decide (parN (countErrors d lane errs s) P.jxLaneErrLimit ≤ laneErrors d lane (countErrors d lane errs s)) &&
        laneUp (nth (link (countErrors d lane errs s) d).lanes lane .untrained) &&
        ((link (countErrors d lane errs s) d).lanes.eraseIdx lane).any (· == .full)) = true := by
      rw [link_countErrors, trained, others, Bool.and_true, Bool.and_true]
      exact decide_eq_true limit
    refine congrArg Host.Outcome.next ((if_neg guard).trans ((if_pos reached).trans ?_))
    rw [link_countErrors]
    rfl
  · intro d lane errs s powered below
    have guard : ¬s.supply.fcLock = true := by simp [powered]
    have short : ¬(decide (parN (countErrors d lane errs s) P.jxLaneErrLimit ≤ laneErrors d lane (countErrors d lane errs s)) &&
        laneUp (nth (link (countErrors d lane errs s) d).lanes lane .untrained) &&
        ((link (countErrors d lane errs s) d).lanes.eraseIdx lane).any (· == .full)) = true := by
      have limit : ¬parN (countErrors d lane errs s) P.jxLaneErrLimit ≤ laneErrors d lane (countErrors d lane errs s) :=
        Nat.not_le.2 below
      simp [limit]
    exact congrArg Host.Outcome.next ((if_neg guard).trans (if_neg short))
  · intro d lane n s hd hn training
    constructor <;>
    · change execLaneTrainingDone d lane _ s = _
      simp only [execLaneTrainingDone, training, hn, if_true]
      rfl
  · intro lane s training full
    exact ⟨atHalfRate lane s, exec_laneTrainingDone_half training full, by simp [atHalfRate, degrade, setLink]⟩

/-! ## HB without its link -/

theorem hbLinked_of_loss {s : State} {u : Nat} (h : s.saf.fcLoss = some u) : hbLinked s = false := by
  unfold hbLinked
  rw [h]
  rfl

theorem readyOut_of_loss {s : State} {u : Nat} (h : s.saf.fcLoss = some u) : readyOut s = false := by
  unfold readyOut
  rw [hbLinked_of_loss h, Bool.and_false, Bool.false_and]

theorem faultOut_of_loss {s : State} {u : Nat} (h : s.saf.fcLoss = some u) : faultOut s = true := by
  unfold faultOut
  rw [hbLinked_of_loss h, Bool.not_false, Bool.or_true, Bool.true_or]

@[simp] theorem orderOff_hiZ (s : State) (p : GdPos) (g : GdDie) : (orderOff s p g).hiZ = g.hiZ := by
  unfold orderOff
  split <;> rfl

/-- Settles O16: the brake and the ended transactions leave the stamp of the loss, which the outputs follow. -/
theorem hbLosesItsLink : Obligations.HbLosesItsLink := by
  unfold Obligations.HbLosesItsLink
  refine ⟨?_, ?_, ?_⟩
  · intro s linked powered
    have guard : ¬(s.saf.fcLoss.isSome || s.supply.hbLock) = true := by simp [linked, powered]
    have lost : (failOutstanding (brake { s with saf := { s.saf with fcLoss := some (now s) } })).saf.fcLoss = some s.pt.ns := by
      obtain ⟨tags, journal, answered⟩ := answered_failOutstanding (brake { s with saf := { s.saf with fcLoss := some (now s) } })
      obtain ⟨rel, hs, ls, test, at_, braked⟩ := braked_brake { s with saf := { s.saf with fcLoss := some (now s) } }
      rw [answered, braked]
      rfl
    exact ⟨_, congrArg Host.Outcome.next (if_neg guard), lost, readyOut_of_loss lost, faultOut_of_loss lost⟩
  · intro p s powered unlocked trained
    have guard : dieUp s p = true := by simp [dieUp, die, powered, unlocked]
    exact ⟨_, congrArg Host.Outcome.next (if_pos guard), by simp [putDie, toHiZ]⟩
  · intro s powered
    have guard : ¬s.supply.fcLock = true := by simp [powered]
    exact congrArg Host.Outcome.next (if_neg guard)

/-! ## Package time -/

/-- Settles O17: an exchange writes one copy's entry; a warning and a failed barrier are their guards. -/
theorem packageTime : Obligations.PackageTime := by
  unfold Obligations.PackageTime
  refine ⟨?_, ?_, ?_, ?_⟩
  · intro o s powered trained near
    have guard : ¬(s.supply.fcLock || fullLanes (link s .hb) == 0) = true := by simp [powered, trained]
    have within : ¬10000 < o.natAbs := Nat.not_lt.2 near
    refine ⟨_, congrArg Host.Outcome.next ((if_neg guard).trans (if_neg within)), rfl, ?_, ?_, ?_, rfl⟩
    · change (((Config.freeNat s.free % 201 : Nat) : Int) - 100).natAbs ≤ 100
      omega
    · intro inside
      have out : ¬300 < o.natAbs := Nat.not_lt.2 inside
      simp [setCopy, out]
    · intro outside first
      simp [setCopy, outside, first, now]
  · intro o s powered trained far
    have guard : ¬(s.supply.fcLock || fullLanes (link s .hb) == 0) = true := by simp [powered, trained]
    exact ⟨_, rfl, congrArg Host.Outcome.next ((if_neg guard).trans (if_pos far))⟩
  · intro t s since late fresh
    have guard : (heldFor s.pt.hb.outSince 1000000 s && !s.pt.hb.warned) = true := by
      rw [heldFor_of_le since late, fresh]
      rfl
    exact congrArg Host.Outcome.next (if_pos guard)
  · intro b r s barriers
    change execBarrierFailed s = _
    unfold execBarrierFailed
    rw [barriers]
    simp only [beq_iff_eq]
    rfl

/-- Settles O18: a snapshot that may start is pending; its latch reads FC's window as it stands. -/
theorem snapshots : Obligations.Snapshots := by
  unfold Obligations.Snapshots
  constructor
  · intro i s may free ahead
    have none : ¬(start i s).snap.pending.isSome = true := by simp [start, free]
    have far : ¬beNat (payload (start i s) i) < ptNow (start i s) + 2000 := Nat.not_lt.2 ahead
    exact ⟨_, congrArg Host.Outcome.next (longStep_inl may ((if_neg none).trans (if_neg far))), rfl, rfl, rfl⟩
  · intro n i s pending powered
    have guard : ¬s.supply.fcLock = true := by simp [powered]
    change ∃ t, execSnapshotLatch s = .next t ∧ _
    unfold execSnapshotLatch
    rw [pending]
    refine ⟨_, congrArg Host.Outcome.next (if_neg guard), ?_⟩
    simp only [answerOk, answer_op, answer_snap]
    refine ⟨trivial, by simp, fun k hk => ?_, trivial⟩
    simp [nth, hk]

end Sys2Proof.Laws
end

section
/-! The safety functions (11): STO, the stop ramp, precharge, and the commands that move the operating state. -/

namespace Sys2Proof.Laws
open Sys2Proof Sys2Proof.Machine Sys2Proof.Safety

/-! ## Safe Torque Off -/

theorem stoPi_of_run {s : State} (h : s.op.state = .run) : stoPi s = issuePackage .pi 0x5301 s := by
  unfold stoPi
  rw [h]

/-- Channel A's filtered level rises to active; the demand is new when B is inactive (R439, R440). -/
def stoRaised (s : State) : State :=
  let f := s.saf.stoFilt.set .a true
  let u := { s with
    op := { s.op with stoActive := f.a || f.b }
    saf := { s.saf with
      stoFilt := f
      stoDiff := if f.a != f.b then some (now s) else none
      stoBoth := s.saf.stoBoth || (f.a && f.b) } }
  if !stoNow s && true then record .hb 0x5301 0 [(stoMask u : Int), (u.op.state.code : Int)] u else u

theorem exec_stoFilterChange_a {s : State} (powered : s.supply.hbLock = false) (noTest : s.saf.stoTest = none)
    (inactive : s.saf.stoFilt.a = false) (raw : s.saf.stoRaw.a = true)
    (held : s.saf.stoSince.a + parN s P.safetyStoFilter * 100000 ≤ now s) :
    exec (.stoFilterChange .a) s = .next (brake (stoPi (stoRaised s))) := by
  have guard : ¬(s.supply.hbLock || s.saf.stoTest.isSome || s.saf.stoFilt.get .a == true ||
      decide (now s < s.saf.stoSince.get .a + parN s P.safetyStoFilter * 100000)) = true := by
    have late : decide (now s < s.saf.stoSince.get .a + parN s P.safetyStoFilter * 100000) = false :=
      decide_eq_false (Nat.not_lt.2 held)
    rw [late, powered, noTest]
    simp [Two.get, inactive]
  have level : s.saf.stoRaw.get .a = true := raw
  change execStoFilterChange .a s = _
  delta execStoFilterChange
  dsimp only
  rw [level]
  exact congrArg Host.Outcome.next (if_neg guard)

/-- Settles O20: the rise of channel A in RUN is a package order. -/
theorem stoOrdersPi : Obligations.StoOrdersPi := by
  unfold Obligations.StoOrdersPi
  intro s run powered noTest inactive raw held free
  have raised : (stoRaised s).op.state = .run := by
    unfold stoRaised
    dsimp only
    split <;> simp [run]
  have order : (stoRaised s).heel.fc = none := by
    unfold stoRaised
    dsimp only
    split <;> simp [free]
  have active : (stoRaised s).op.stoActive = true := by
    unfold stoRaised
    dsimp only
    split <;> simp [Two.set]
  have may : holdable (stoRaised s).op.state = true := by rw [raised]; rfl
  refine ⟨_, exec_stoFilterChange_a powered noTest inactive raw held, ?_⟩
  rw [stoPi_of_run raised]
  simp [issuePackage_op_state may, issuePackage_op_holdFrom may, issuePackage_running raised, raised, order, active,
    takeOrder, heldCode]

/-! ## The stop ramp and safe speed -/

/-- A brake that has been applied for its time is not released (R454). -/
theorem brkRel_of_held {s : State} (h : brakeHeld s = true) : s.saf.brkRel = false := by
  unfold brakeHeld at h
  split at h
  · rw [Bool.and_eq_true, Bool.not_eq_true'] at h
    exact h.1
  · rwa [Bool.not_eq_true'] at h

/-- An order received leaves some order held. -/
theorem takeOrder_isSome (held : Option HeelOrder) (o : HeelOrder) : (takeOrder held o).isSome = true := by
  unfold takeOrder
  split
  · rfl
  · split <;> rfl

/-- The standstill that takes the configured safe state (R449). -/
theorem exec_ss1Standstill_order {r : Ss1Run} {s : State} (stop : s.saf.stop = some r) (stopping : s.op.state = .stopping)
    (still : heldFor r.zeroSince 10000000 s = true) (braked : (parOn s P.safetyBrkEnable && s.saf.brkRel) = false)
    (applied : (parOn s P.safetyBrkEnable && !brakeHeld s) = false) :
    ∃ o t, exec .ss1Standstill s = .next t ∧ t.op.state = (issuePackage o 0 (record .fc 0x5313 0 [] s)).op.state ∧
      t.heel = (issuePackage o 0 (record .fc 0x5313 0 [] s)).heel := by
  have guard : ¬(s.op.state != .stopping || !heldFor r.zeroSince 10000000 s) = true := by simp [stopping, still]
  change ∃ o t, execSs1Standstill s = .next t ∧ _
  delta execSs1Standstill
  dsimp only
  rw [stop]
  dsimp only
  rw [if_neg guard, braked, applied]
  exact ⟨_, _, rfl, rfl, rfl⟩

/-- Settles O21: each limit by its guard; the order of a standstill and the replacement of ASC by what FC holds after. -/
theorem safeSpeedLimits : Obligations.SafeSpeedLimits := by
  unfold Obligations.SafeSpeedLimits
  refine ⟨?_, ?_, ?_, ?_, ?_, ?_, ?_⟩
  · intro r s stop above
    change execSs1EnvelopeExceeded s = _
    delta execSs1EnvelopeExceeded
    rw [stop]
    exact congrArg Host.Outcome.next (if_pos above)
  · intro r s stop stopping late
    have guard : (s.op.state == .stopping && decide (r.t0 + parN s P.safetySs1Time * 1000000 ≤ now s)) = true := by
      rw [stopping, decide_eq_true (show r.t0 + parN s P.safetySs1Time * 1000000 ≤ now s from late)]
      rfl
    change execSs1Timeout s = _
    delta execSs1Timeout
    rw [stop]
    exact congrArg Host.Outcome.next (if_pos guard)
  · intro r z s stop stopping since late enabled released
    have guard : ¬(s.op.state != .stopping || !heldFor r.zeroSince 10000000 s) = true := by
      simp [stopping, heldFor_of_le since late]
    have release : (parOn s P.safetyBrkEnable && s.saf.brkRel) = true := by rw [parOn_of_eq enabled, released]; rfl
    change execSs1Standstill s = _
    delta execSs1Standstill
    conv_lhs => rw [stop]
    exact congrArg Host.Outcome.next ((if_neg guard).trans (if_pos release))
  · intro r z s stop stopping since late quiet
    have braked : (parOn s P.safetyBrkEnable && s.saf.brkRel) = false := by
      obtain disabled | applied := quiet
      · rw [parOn_of_ne disabled, Bool.false_and]
      · rw [brkRel_of_held applied, Bool.and_false]
    have applied : (parOn s P.safetyBrkEnable && !brakeHeld s) = false := by
      obtain disabled | applied := quiet
      · rw [parOn_of_ne disabled, Bool.false_and]
      · rw [applied, Bool.not_true, Bool.and_false]
    obtain ⟨o, t, e, state, heel⟩ := exec_ss1Standstill_order stop stopping (heldFor_of_le since late) braked applied
    have may : holdable (record .fc 0x5313 0 [] s).op.state = true := by rw [record_op_state, stopping]; rfl
    refine ⟨t, e, state.trans (issuePackage_op_state may _ _), ?_⟩
    rw [heel, issuePackage_heel_fc, takeOrder_isSome]
  · intro s run
    exact congrArg Host.Outcome.next (if_pos run)
  · intro s sls run
    have guard : (s.saf.sls && decide (2 ≤ s.saf.slsRun)) = true := by rw [sls, decide_eq_true run]; rfl
    exact congrArg Host.Outcome.next (if_pos guard)
  · intro u s hold dependent since late asc
    have guard : (s.op.state == .safeHold && s.op.speedDependent && heldFor s.saf.sdsSince 100000000 s) = true := by
      rw [hold, dependent, heldFor_of_le since late]
      rfl
    refine ⟨_, congrArg Host.Outcome.next (if_pos guard), ?_⟩
    simp [issuePi, broadcast, asc, takeOrder, sev, heldCode, hold]

/-! ## Precharge -/

/-- In PRECHARGE the contactors are left to the sequence, which commands K_NEG alone. -/
theorem startPrecharge_saf (i : Nat) (s : State) : (startPrecharge i s).saf.kCmd = ⟨true, false, false⟩ ∧
    (startPrecharge i s).saf.pre = some ⟨i, .weld, s.pt.ns, if s.saf.kFb.neg then some s.pt.ns else none, vdcSel s, none, false⟩ := by
  simp [startPrecharge, cmdK, now, vdcSel]

theorem startPrecharge_op (i : Nat) (s : State) : (startPrecharge i s).op.state = .precharge ∧
    (startPrecharge i s).op.prev = s.op.state := by
  simp [startPrecharge, cmdK]

theorem autoDischarge_of_ready {s : State} (h : s.op.state = .ready) : autoDischarge s = s := by
  have guard : ¬(s.op.state == .safeHold && parOn s P.safetyDisOnSafe && parOn s P.safetyContOnSafe && !konClosed s.saf.kFb &&
      !konClosed s.saf.kCmd && (s.op.holdFrom == .ready || s.op.holdFrom == .run || s.op.holdFrom == .stopping)) = true := by
    simp [h]
  exact if_neg guard

theorem startWinding_of_none {s : State} (h : s.saf.dis = none) : startWinding s = s := by
  unfold startWinding
  rw [h]

/-- The highest selected VDC of the weld check stays below a tenth of the source voltage, or below 60 V without one (R464). -/
def weldCheckPasses (vmax : Int) (s : State) : Bool :=
  match vSrc s with
  | some v => decide (10 * vmax < v)
  | none => decide (vmax < 60 * 65536)

/-- PRECHARGE without a refusal, a fault or an ordered diagnostic (R54, R464). -/
theorem exec_precharge_starts {i : Nat} {s : State} (may : canStart s i 0x20 = true) (standby : s.op.state = .standby)
    (trained : ∀ p, requiredDie s p = true → (s.gd.get p).trained = true) (normal : s.op.commissioning = false)
    (sealed : s.last.sealed = true) (locked : s.tap.unlocked = false) (noCal : s.sense.cal = none) (noDiag : s.diag = none)
    (cool : s.saf.coolUntil ≤ now s) (noCheck : s.saf.check = none) (noFault : s.op.maxClass < 3) (noWeld : anyWeld s = false)
    (passed : diagFailed s = false) (links : linksFull s = true) (agree : s.sense.vdcSuspect = 0)
    (notOrdered : diagOrdered s = false) :
    exec (.precharge i) s = .next { startPrecharge i (start i s) with
      mbx := { (startPrecharge i (start i s)).mbx with rr := (startPrecharge i (start i s)).mbx.rr ++ [i] } } := by
  refine congrArg Host.Outcome.next (longStep_inl may (u := startPrecharge i (start i s)) ?_)
  have inStandby : ¬(s.op.state != .standby) = true := by simp [standby]
  have allTrained : ¬GdPos.all.any (fun p => requiredDie s p && !(s.gd.get p).trained) = true := by
    simpa using fun p _ => trained p
  have admitted : ¬(s.op.commissioning || !s.last.sealed || s.tap.unlocked) = true := by simp [normal, sealed, locked]
  have idle : ¬(s.sense.cal.isSome || s.diag.isSome || decide (now s < s.saf.coolUntil) || s.saf.check.isSome) = true := by
    rw [noCal, noDiag, noCheck, decide_eq_false (Nat.not_lt.2 cool)]
    exact Bool.false_ne_true
  have sound : ¬(decide (3 ≤ s.op.maxClass) || anyWeld s || diagFailed s || !linksFull s || s.sense.vdcSuspect != 0) = true := by
    rw [decide_eq_false (Nat.not_le.2 noFault), noWeld, passed, links, agree]
    exact Bool.false_ne_true
  have noDiagnostic : ¬diagOrdered s = true := by rw [notOrdered]; exact Bool.false_ne_true
  exact (if_neg inStandby).trans ((if_neg allTrained).trans ((if_neg admitted).trans ((if_neg idle).trans
    ((if_neg sound).trans (if_neg noDiagnostic)))))

/-- K_PRE's own feedback opens: READY (R464). -/
theorem preStep_opening {r : PreRun} {s : State} (pre : s.saf.pre = some r) (opening : r.phase = .opening)
    (opened : s.saf.kFb.pre = false) :
    preStep s = answerOk r.tag (changeState .ready 0 { s with saf := { s.saf with pre := none } }) := by
  unfold preStep
  simp only [pre, opening, opened]
  rfl

/-- READY reached from a precharge without a discharge waits for nothing more. -/
theorem preStep_leaves_ready {i : Nat} {s u : State} (step : preStep s = answerOk i (changeState .ready 0 u))
    (still : u.saf.dis = none) : autoDischarge (startWinding (preStep s)) = answerOk i (changeState .ready 0 u) := by
  have ready : (preStep s).op.state = .ready := by simp [step, answerOk]
  have noDischarge : (preStep s).saf.dis = none := by simp [step, answerOk, still]
  rw [startWinding_of_none noDischarge, autoDischarge_of_ready ready, step]

/-- Settles O24: a PRECHARGE without a refusal starts its sequence, whose steps are their guards. -/
theorem prechargeSequence : Obligations.PrechargeSequence := by
  unfold Obligations.PrechargeSequence
  refine ⟨?_, ?_, ?_, ?_, ?_, ?_⟩
  · intro i s may standby trained normal sealed locked noCal noDiag cool noCheck noFault noWeld passed links agree notOrdered
    obtain ⟨cmd, pre⟩ := startPrecharge_saf i (start i s)
    obtain ⟨state, prev⟩ := startPrecharge_op i (start i s)
    exact ⟨_, exec_precharge_starts may standby trained normal sealed locked noCal noDiag cool noCheck noFault noWeld passed
      links agree notOrdered, state, prev.trans standby, cmd, pre⟩
  · intro r u s pre weld since late low
    have pass : weldCheckPasses (max r.vmax (vdcSel s)) s = true := by
      unfold weldCheckPasses
      split at low <;> simp_all
    have guard : ¬(r.phase != .weld || !heldFor r.at_ 20000000 s) = true := by simp [weld, heldFor_of_le since late]
    change ∃ t, execPrechargeWeldCheckEnd s = .next t ∧ _
    delta execPrechargeWeldCheckEnd
    rw [pre]
    refine ⟨_, congrArg Host.Outcome.next ((if_neg guard).trans (if_pos pass)), by simp, rfl, rfl⟩
  · intro r u s pre weld since late high
    have fail : ¬weldCheckPasses (max r.vmax (vdcSel s)) s = true := by
      unfold weldCheckPasses
      split at high
      · simp_all
      · simp_all
        omega
    have guard : ¬(r.phase != .weld || !heldFor r.at_ 20000000 s) = true := by simp [weld, heldFor_of_le since late]
    change execPrechargeWeldCheckEnd s = _
    delta execPrechargeWeldCheckEnd
    conv_lhs => rw [pre]
    exact congrArg Host.Outcome.next ((if_neg guard).trans (if_neg fail))
  · intro r s pre charge reached
    have guard : ¬(r.phase != .charge || !chargeReached r s) = true := by simp [charge, reached]
    change ∃ t, execPrechargeTargetReached s = .next t ∧ _
    delta execPrechargeTargetReached
    rw [pre]
    exact ⟨_, congrArg Host.Outcome.next (if_neg guard), by simp, rfl, rfl⟩
  · intro r s pre opening closed powered noDischarge
    have guard : ¬(konGet s.saf.kFb .pre == false || s.supply.hbLock) = true := by simp [konGet, closed, powered]
    have last := preStep_opening (s := { s with saf := { s.saf with kFb := konSet s.saf.kFb .pre false } }) pre opening rfl
    refine ⟨_, congrArg Host.Outcome.next ((if_neg guard).trans (preStep_leaves_ready last noDischarge)), ?_, ?_, ?_⟩
    · simp [answerOk]
    · simp [answerOk]
    · rw [answerOk, answer_saf, changeState_ready_stoTest]
  · intro r s pre closed phase late
    have guard : ¬(s.saf.kFb.pos || r.phase == .opening || decide (now s < r.start + parN s P.safetyPreTime * 1000000)) = true := by
      have due : decide (now s < r.start + parN s P.safetyPreTime * 1000000) = false := decide_eq_false (Nat.not_lt.2 late)
      simp [closed, phase, due]
    change execPrechargeTimeout s = _
    delta execPrechargeTimeout
    conv_lhs => rw [pre]
    exact congrArg Host.Outcome.next (if_neg guard)

/-! ## FAULT_ACK and SHUTDOWN -/

theorem tag_setTag {i : Nat} {s : State} (h : i < s.mbx.tags.length) (f : TagInfo → TagInfo) :
    tag (setTag i f s) i = f (tag s i) := by
  simp [tag, setTag, nth, upd, h]

/-- FAULT_ACK in SAFE_HOLD with its cause gone: the orders are released, and the state follows the link (R54, R549). -/
theorem exec_faultAck_released {i : Nat} {s : State} (may : canStart s i 0x23 = true) (hold : s.op.state = .safeHold)
    (gone : causeStands s = false) : ∃ u, exec (.faultAck i) s = .next (setTag i (fun t => { t with reply := some ⟨0, 0, []⟩ })
      (changeState (if charged s then .ready else .standby) 0 u)) ∧ u.heel = (releaseOrders s).heel ∧ u.saf.held = 0 ∧
      u.op.state = .safeHold := by
  have none : ¬causeStands (start i s) = true := by
    change ¬causeStands s = true
    simp [gone]
  have held : (start i s).op.state = .safeHold := hold
  change ∃ u, execFaultAck i s = _ ∧ _
  delta execFaultAck
  rw [fieldStep_of may]
  simp only [held]
  rw [if_neg none]
  exact ⟨_, rfl, rfl, rfl, rfl⟩

theorem exec_faultAck_refused {i : Nat} {s : State} (may : canStart s i 0x23 = true) (hold : s.op.state = .safeHold)
    (stands : causeStands s = true) :
    exec (.faultAck i) s = .next (setTag i (fun t => { t with reply := some ⟨0x20, 0, []⟩ }) (start i s)) := by
  have cause : causeStands (start i s) = true := stands
  have held : (start i s).op.state = .safeHold := hold
  change execFaultAck i s = _
  delta execFaultAck
  rw [fieldStep_of may]
  simp only [held]
  rw [if_pos cause]
  rfl

/-- `t` is `s` but for the journals of the Insole (R88). -/
def Journalled (s t : State) : Prop := ∃ insole, t = { s with boot := { s.boot with insole := insole } }

theorem Journalled.trans {s t u : State} (h : Journalled s t) (k : Journalled t u) : Journalled s u := by
  obtain ⟨a, rfl⟩ := h
  obtain ⟨b, rfl⟩ := k
  exact ⟨b, rfl⟩

theorem journalled_onJournal (f : List InsoleEntry → List InsoleEntry) (s : State) : Journalled s (onJournal f s) := by
  unfold onJournal
  split
  · exact ⟨s.boot.insole, rfl⟩
  · exact ⟨_, rfl⟩

theorem journalled_journalSet (step status detail : Nat) (s : State) : Journalled s (journalSet step status detail s) := by
  unfold journalSet journalWord
  have entered : Journalled s (journalPt step s) := journalled_onJournal _ s
  exact entered.trans (journalled_onJournal _ _)

/-- SHUTDOWN in STANDBY with the link low begins the drain (R94, R95). -/
theorem exec_shutdown_drains {i : Nat} {s : State} (may : canStart s i 0x25 = true) (standby : s.op.state = .standby)
    (low : vdcBelow60 s = true) : ∃ u insole, exec (.shutdown i) s = .next (setTag i (fun t => { t with reply := some ⟨0, 0, []⟩ })
      { changeState .shutdown 0 u with boot := { (changeState .shutdown 0 u).boot with insole := insole } }) ∧
      u.boot.drain = true ∧ u.boot.step = 0x21 ∧ u.mbx.tags = (start i s).mbx.tags := by
  have guard : ¬((start i s).op.state != .standby || !vdcBelow60 (start i s)) = true := by
    change ¬(s.op.state != .standby || !vdcBelow60 s) = true
    simp [standby, low]
  obtain ⟨insole, journal⟩ := journalled_journalSet 0x21 1 0 (changeState .shutdown 0 { start i s with
    boot := { (start i s).boot with drain := true, drainAt := now s, step := 0x21 } })
  change ∃ u insole, execShutdown i s = _ ∧ _
  delta execShutdown
  rw [fieldStep_of may]
  dsimp only
  rw [if_neg guard]
  exact ⟨_, insole, congrArg (fun u => Host.Outcome.next (setTag i (fun t => { t with reply := some ⟨0, 0, []⟩ }) u)) journal, rfl, rfl, rfl⟩

/-- Settles O27: FAULT_ACK answers by the standing causes, SHUTDOWN by the state and the link. -/
theorem ackAndShutdown : Obligations.AckAndShutdown := by
  unfold Obligations.AckAndShutdown
  refine ⟨?_, ?_, ?_⟩
  · intro i s may hold gone powered linked
    obtain ⟨u, e, heel, held, state⟩ := exec_faultAck_released may hold gone
    exact ⟨_, e, by simp [heel, releaseOrders], by simp [held], by simp, by simp [state], by simp [heel, releaseOrders]⟩
  · intro i s may hold stands inTable
    refine ⟨_, exec_faultAck_refused may hold stands, rfl, rfl, ?_⟩
    rw [tag_setTag (by simpa [start, setTag, upd] using inTable)]
  · intro i s may standby low inTable
    obtain ⟨u, insole, e, drain, step, tags⟩ := exec_shutdown_drains may standby low
    refine ⟨_, e, by simp, by simp [drain], by simp [step], ?_⟩
    rw [tag_setTag (by simpa [tags, start, setTag, upd] using inTable)]

end Sys2Proof.Laws
end

section
/-! Where the operating state can be led by a discharge entered beside it (R466). -/

namespace Sys2Proof.Laws
open Sys2Proof Sys2Proof.Machine Sys2Proof.Safety

/-- READY with K_POS closed alone and, beside it, a discharge whose resistor has failed and whose winding path waits for the
feedbacks. -/
def readyWithDischarge : State := { State.reset with
  op := { State.reset.op with state := .ready }
  par := { State.reset.par with work := [(P.safetyContOnSafe.1, 1), (P.safetyDisR.1, 100), (P.safetyDisOnSafe.1, 1)] }
  saf := { State.reset.saf with
    kFb := ⟨false, false, true⟩
    dis := some ⟨none, 0, false, true, none, 0, true, 0, 0, 0, none⟩ } }

/-- K_POS opens: the winding path may not run, so event 0x5353 leads to SAFE_HOLD from READY (R58, R469), and its opened
contactors let safety.dis.on_safe begin a discharge within the same command (R466). -/
theorem exec_contactorFeedbackChange_discharges :
    ∃ t, exec (.contactorFeedbackChange .pos false) readyWithDischarge = .next t ∧ t.op.state = .discharge :=
  ⟨_, rfl, by decide +kernel⟩

/-- Refutes O60: in a state that holds a discharge beside READY, a contactor's feedback leads from READY through SAFE_HOLD to
DISCHARGE in one command, so the state it started from is not SAFE_HOLD. -/
theorem not_stateOnlyByItsCommand : ¬Obligations.StateOnlyByItsCommand := by
  unfold Obligations.StateOnlyByItsCommand
  intro only
  obtain ⟨t, e, discharge⟩ := exec_contactorFeedbackChange_discharges
  have changed : t.op.state ≠ readyWithDischarge.op.state := by rw [discharge]; nofun
  obtain ⟨-, -, -, entered⟩ := only _ _ t e changed
  obtain ⟨-, ⟨i, command⟩ | ⟨hold, -⟩⟩ := entered discharge
  · exact absurd command nofun
  · exact absurd hold nofun

end Sys2Proof.Laws
end

section
/-! Edges at the gate driver dies (R326 to R328, R363). -/

namespace Sys2Proof.Laws
open Sys2Proof Sys2Proof.Machine Sys2Proof.Safety

/-- A die whose turn-on is due at 1 ns on its own count, while PT has not reached 1 ns. -/
def turnOnBeforePt : State := { State.reset with
  pt := { State.reset.pt with ns := 1, off := -1 }
  gd := State.reset.gd.set .uh { State.reset.gd.uh with
    powered := true, hiZ := false, gate := .offHold, edges := [⟨true, 8, 0⟩] } }

theorem exec_gateEdge_waits : exec (.gateEdge .uh) turnOnBeforePt = .next turnOnBeforePt := by
  have early : ¬(dieUp turnOnBeforePt .uh &&
      (die turnOnBeforePt .uh).edges.any (fun e => decide (e.at_ ≤ now125 turnOnBeforePt))) = true := by decide +kernel
  exact congrArg Host.Outcome.next (if_neg early)

/-- Refutes O38: an edge is due by PT (R363), which is the count of ns and its forward steps; in a state whose PT lies behind
the count of ns, an edge that the count has reached is not yet due, and the die keeps it. -/
theorem not_gateEdges : ¬Obligations.GateEdges := by
  unfold Obligations.GateEdges
  rintro ⟨-, -, -, -, -, -, -, edge, -⟩
  have started := edge .uh ⟨true, 8, 0⟩ [] turnOnBeforePt (by decide +kernel) rfl rfl (by decide) (by decide +kernel) rfl
  have kept := Host.Outcome.next.inj (exec_gateEdge_waits.symm.trans started)
  exact absurd (congrArg (fun s : State => (s.gd.get .uh).edges) kept) (by decide +kernel)

/-! ## Trips (R367 to R373, R378) -/

/-- The entry of a die that trips from on-hold: the trip is latched, its edges are dropped and soft turn-off begins. -/
def trippedDie (s : State) (p : GdPos) (cause : Nat) : GdDie :=
  startSoft s p { die s p with
    trip := true, cause := cause, tripBand := (die s p).bandOn, inTurnOn := false, count := satInc 255 (die s p).count
    tEdge := min 65535 (now s - (die s p).onAt), edges := [], gchk := (die s p).gchk || cause == 4 }

section
variable (s : State) (p : GdPos) (cause : Nat)

@[simp] theorem trippedDie_trip : (trippedDie s p cause).trip = true := rfl
@[simp] theorem trippedDie_cause : (trippedDie s p cause).cause = cause := rfl
@[simp] theorem trippedDie_gate : (trippedDie s p cause).gate = .soft := rfl
@[simp] theorem trippedDie_edges : (trippedDie s p cause).edges = [] := rfl
@[simp] theorem trippedDie_tEdge : (trippedDie s p cause).tEdge = min 65535 (s.pt.ns - (s.gd.get p).onAt) := rfl
@[simp] theorem trippedDie_gchk : (trippedDie s p cause).gchk = ((s.gd.get p).gchk || cause == 4) := rfl

end

/-- A trip from on-hold is the die's new entry and its record, by default with band, T_EDGE and held order (R397). -/
theorem dieTrip_of_onHold {s : State} {p : GdPos} (hold : (s.gd.get p).gate = .onHold) (fresh : (s.gd.get p).trip = false)
    (cause code : Nat) (ps : Option (List Int)) : dieTrip p cause code ps s = record (.gd p) code 4
      (ps.getD [(p.id : Int), ((s.gd.get p).bandOn : Int), ((min 65535 (s.pt.ns - (s.gd.get p).onAt) : Nat) : Int),
        (dieCode (s.gd.get p) : Int)]) (putDie p (trippedDie s p cause) s) := by
  have untripped : ¬(die s p).trip = true := by simp [die, fresh]
  have gate : (die s p).gate = .onHold := hold
  delta dieTrip
  dsimp only
  rw [if_neg untripped]
  simp only [gate]
  cases ps <;> rfl

@[simp] theorem putDie_get (p : GdPos) (g : GdDie) (s : State) : (putDie p g s).gd.get p = g := six_get_set _ _ _

/-- A die in on-hold that is up is watched for trips (R367, R370). -/
theorem watched {s : State} {p : GdPos} (up : dieUp s p = true) (hold : (s.gd.get p).gate = .onHold) :
    (!dieUp s p || !(armed (die s p) || tripping (die s p))) = false := by
  simp [up, die, armed, hold]

/-! ## Reports (R36, R374 to R376) -/

/-- A report of a short circuit without a recent one of the partner is noted alone. -/
theorem noteReport_sc {s : State} {p : GdPos} (first : s.heel.reports.get p.partner = none)
    (sound : s.heel.legs.get p.phase = false) :
    noteReport p .sc s = { s with heel := { s.heel with
      reports := s.heel.reports.set p (some s.pt.ns), shoot := false } } := by
  unfold noteReport
  simp only [first, sound]
  rfl

/-- The half-bridges newly faulted by reports, in phase order (R374). -/
theorem filter_phase_one (legs : Phase → Bool) {a : Phase} (ha : legs a = false) :
    Phase.all.filter (fun q => !legs q && a == q) = [a] := by
  cases a <;> simp [Phase.all, ha]

theorem filter_phase_two (legs : Phase → Bool) {a b : Phase} (other : a ≠ b) (ha : legs a = false) (hb : legs b = false) :
    ∃ x y, Phase.all.filter (fun q => !legs q && (a == q || b == q)) = [x, y] ∧ x ≠ y ∧ legs y = false ∧
      (a = x ∧ b = y ∨ a = y ∧ b = x) := by
  cases a <;> cases b
  case u.u | v.v | w.w => exact absurd rfl other
  case u.v | u.w | v.w => exact ⟨_, _, by simp [Phase.all, ha, hb], other, hb, .inl ⟨rfl, rfl⟩⟩
  case v.u | w.u | w.v => exact ⟨_, _, by simp [Phase.all, ha, hb], other.symm, ha, .inr ⟨rfl, rfl⟩⟩

/-- What notes and records of reports leave: the legs and the order that FC holds. -/
theorem noteReport_heel (p : GdPos) (r : HeelRep) (s : State) :
    (noteReport p r s).heel.legs = s.heel.legs ∧ (noteReport p r s).heel.fc = s.heel.fc := by
  unfold noteReport
  dsimp only
  constructor
  · rw [apply_ite (fun u : State => u.heel.legs)]
    cases r <;> simp
  · rw [apply_ite (fun u : State => u.heel.fc)]
    cases r <;> simp

/-- A half-bridge faulted beside another is marked, and PI_SOFT is issued (R36, R375). -/
theorem faultLeg_second {p : Phase} {s : State} (sound : s.heel.legs.get p = false) (another : anyLeg s = true) (code : Nat) :
    (faultLeg p code s).heel.legs = s.heel.legs.set p true ∧ (faultLeg p code s).heel.fc = takeOrder s.heel.fc .piSoft := by
  have unmarked : ¬(abortDiag code s).heel.legs.get p = true := by simp [sound]
  have other : anyLeg (abortDiag code s) = true := by simpa [anyLeg] using another
  unfold faultLeg
  dsimp only
  rw [if_neg unmarked, if_pos other]
  simp

/-- Two half-bridges reported in one decision step are both marked, and FC holds PI_SOFT (R374). -/
theorem reportLegs_two {x y : Phase} (other : x ≠ y) (code : Nat) {s : State} (sound : s.heel.legs.get y = false)
    (free : s.heel.fc = none) : (reportLegs code s [x, y]).heel.legs.get x = true ∧
      (reportLegs code s [x, y]).heel.legs.get y = true ∧ (reportLegs code s [x, y]).heel.fc = some .piSoft := by
  have noAsc : ¬(holdsAsc { s with heel := { s.heel with legs := s.heel.legs.set x true } } &&
      !anyLeg { s with heel := { s.heel with legs := s.heel.legs.set x true } }) = true := by simp [holdsAsc, free]
  have second : reportLegs code s [x, y] = faultLeg y code { s with heel := { s.heel with legs := s.heel.legs.set x true } } :=
    if_neg noAsc
  have kept : (s.heel.legs.set x true).get y = false := by rw [tri_get_set_of_ne _ other, sound]
  have marked : anyLeg { s with heel := { s.heel with legs := s.heel.legs.set x true } } = true := by
    cases x <;> simp [anyLeg, Tri.set]
  obtain ⟨legs, order⟩ := faultLeg_second kept marked code
  rw [second, legs, order]
  refine ⟨?_, tri_get_set _ _ _, by simp [free, takeOrder]⟩
  rw [tri_get_set_of_ne _ other.symm, tri_get_set]

theorem legLoss_rampOver {s : State} {x : Int} {t0 : Nat} (ramp : s.loop.rampT = some (x, t0))
    (late : t0 + parN s P.modLegRamp * 1000000 ≤ s.pt.ns) : rampOver s = true := by
  unfold rampOver
  rw [ramp, Bool.or_eq_true]
  exact .inl (decide_eq_true late)

/-- Settles O39: each row by its guard; a trip is the die's new entry and its record, two half-bridges reported together are
both marked before PI_SOFT is issued. -/
theorem gateTrips : Obligations.GateTrips := by
  unfold Obligations.GateTrips
  refine ⟨?_, ?_, ?_, ?_, ?_, ?_, ?_, ?_, ?_, ?_, ?_, ?_⟩
  · intro p mv ns s up hold fresh blanked qualified above
    have guard : ¬(!dieUp s p || !(armed (die s p) || tripping (die s p)) || decide (ns < parN s (P.gdDidtQual (p.id - 1)))) = true := by
      rw [watched up hold, decide_eq_false (Nat.not_lt.2 qualified)]
      exact Bool.false_ne_true
    have trip : exec (.didtTrip p mv ns) s = .next (dieTrip p 1 0x4C01 none s) :=
      congrArg Host.Outcome.next ((if_neg guard).trans ((if_neg (Nat.not_lt.2 blanked)).trans (if_pos above)))
    rw [trip, dieTrip_of_onHold hold fresh]
    exact ⟨putDie p (trippedDie s p 1) s, by simp, by simp, by simp, by simp, by simp, rfl, rfl, by simp⟩
  · intro p mv ns s up hold fresh blanking qualified above
    have guard : ¬(!dieUp s p || !(armed (die s p) || tripping (die s p)) || decide (ns < parN s (P.gdDidtQual (p.id - 1)))) = true := by
      rw [watched up hold, decide_eq_false (Nat.not_lt.2 qualified)]
      exact Bool.false_ne_true
    have trip : exec (.didtTrip p mv ns) s = .next (dieTrip p 2 0x4C02 none s) :=
      congrArg Host.Outcome.next ((if_neg guard).trans ((if_pos blanking).trans (if_pos above)))
    rw [trip, dieTrip_of_onHold hold fresh]
    exact ⟨putDie p (trippedDie s p 2) s, by simp, by simp, by simp, rfl, by simp⟩
  · intro p mv ns s up hold fresh blanked above filtered
    have guard : ¬(!dieUp s p || !(armed (die s p) || tripping (die s p)) || decide (mv ≤ parN s (P.gdDesatVth (p.id - 1))) ||
        decide (ns < parN s (P.gdDesatFilt (p.id - 1))) || decide (now s < (die s p).onAt + parN s (P.gdDesatBlank (p.id - 1)) +
          parN s (P.gdDesatFilt (p.id - 1)))) = true := by
      have late : ¬now s < (die s p).onAt + parN s (P.gdDesatBlank (p.id - 1)) + parN s (P.gdDesatFilt (p.id - 1)) :=
        Nat.not_lt.2 blanked
      rw [watched up hold, decide_eq_false (Nat.not_le.2 above), decide_eq_false (Nat.not_lt.2 filtered), decide_eq_false late]
      exact Bool.false_ne_true
    have trip : exec (.desatTrip p mv ns) s = .next (dieTrip p 3 0x4C03 none s) := congrArg Host.Outcome.next (if_neg guard)
    rw [trip, dieTrip_of_onHold hold fresh]
    exact ⟨putDie p (trippedDie s p 3) s, by simp, by simp, by simp, rfl, rfl⟩
  · intro p n mv ns s up hold fresh used lasting settled below
    have guard : ¬(!dieUp s p || !pairUsed s p n || decide (ns < 200) || decide (now s < (die s p).holdAt + 1200)) = true := by
      have late : ¬now s < (die s p).holdAt + 1200 := Nat.not_lt.2 settled
      rw [up, used, decide_eq_false (Nat.not_lt.2 lasting), decide_eq_false late]
      exact Bool.false_ne_true
    have out : outOfHold s p (die s p) mv = some 1 := by
      have gate : (die s p).gate = .onHold := hold
      unfold outOfHold
      rw [gate]
      exact if_pos below
    have trip : exec (.gateVoltageFault p n mv ns) s = .next (dieTrip p 4 0x4C06 (some [(n : Int), 1]) s) := by
      refine congrArg Host.Outcome.next ((if_neg guard).trans ?_)
      rw [out]
      rfl
    rw [trip, dieTrip_of_onHold hold fresh]
    exact ⟨putDie p (trippedDie s p 4) s, by simp, by simp, by simp, by simp, rfl⟩
  · intro p o s up linked
    have guard : ¬(!dieUp s p || !linkUp (s.jx.gd.get p)) = true := by simp [up, linked]
    exact congrArg Host.Outcome.next (if_neg guard)
  · intro p o s unlinked
    have guard : (!dieUp s p || !linkUp (s.jx.gd.get p)) = true := by simp [unlinked]
    exact congrArg Host.Outcome.next (if_pos guard)
  · intro o s powered linked
    have guard : ¬(s.supply.hbLock || !linkUp s.jx.hb) = true := by simp [powered, linked]
    exact congrArg Host.Outcome.next (if_neg guard)
  · intro p s powered linked first sound noAsc
    have guard : ¬s.supply.fcLock = true := by simp [powered]
    have heard : [(p, HeelRep.sc)].filter (fun x => linkUp (s.jx.gd.get x.1)) = [(p, .sc)] := by simp [linked]
    have new : Phase.all.filter (fun q => !s.heel.legs.get q && [(p, HeelRep.sc)].any (fun y => y.1.phase == q)) = [p.phase] := by
      simpa using filter_phase_one s.heel.legs.get sound
    have noted : ¬(holdsAsc (noteReport p .sc s) && !anyLeg (noteReport p .sc s)) = true := by
      have held : holdsAsc (noteReport p .sc s) = false := by
        rw [← noAsc]
        unfold holdsAsc
        rw [(noteReport_heel p .sc s).2]
      rw [held]
      exact Bool.false_ne_true
    change execHeelReport p .sc [] s = _
    delta execHeelReport
    dsimp only
    rw [heard]
    refine congrArg Host.Outcome.next ((if_neg guard).trans ?_)
    dsimp only
    rw [new]
    refine (if_neg noted).trans ?_
    rw [List.foldl_cons, List.foldl_nil, noteReport_sc first sound]
  · intro p q s powered linked linked' other sound sound' free
    have guard : ¬s.supply.fcLock = true := by simp [powered]
    have heard : [(p, HeelRep.sc), (q, HeelRep.sc)].filter (fun x => linkUp (s.jx.gd.get x.1)) = [(p, .sc), (q, .sc)] := by
      simp [linked, linked']
    obtain ⟨x, y, new, ne, unmarked, pair⟩ := filter_phase_two s.heel.legs.get other sound sound'
    have reported : exec (.heelReport p .sc [(q, .sc)]) s = .next
        (reportLegs (reportCode s p .sc) (noteReport q .sc (noteReport p .sc s)) [x, y]) := by
      change execHeelReport p .sc [(q, .sc)] s = _
      delta execHeelReport
      dsimp only
      rw [heard]
      refine congrArg Host.Outcome.next ((if_neg guard).trans ?_)
      dsimp only
      rw [← new]
      simp
    obtain ⟨legs, order⟩ := noteReport_heel q .sc (noteReport p .sc s)
    obtain ⟨legs', order'⟩ := noteReport_heel p .sc s
    obtain ⟨first, second, soft⟩ := reportLegs_two ne (reportCode s p .sc) (s := noteReport q .sc (noteReport p .sc s))
      (by rw [legs, legs', unmarked]) (by rw [order, order', free])
    refine ⟨_, reported, ?_, ?_, soft⟩
    · obtain ⟨rfl, rfl⟩ | ⟨rfl, rfl⟩ := pair
      · exact first
      · exact second
    · obtain ⟨rfl, rfl⟩ | ⟨rfl, rfl⟩ := pair
      · exact second
      · exact first
  · intro p l s releasing waits up trained more
    have guard : ¬(!l.contains p.id || dieDown s (.gd p) || !(link s (.gd p)).lanes.any laneUp) = true := by
      simp only [link, waits, up, trained]
      exact Bool.false_ne_true
    have left : (l.filter (· != p.id)).isEmpty = false := by rwa [List.isEmpty_eq_false_iff]
    change execHeldOrderRelease (.gd p) s = _
    delta execHeldOrderRelease
    conv_lhs => rw [releasing]
    refine congrArg Host.Outcome.next ((if_neg guard).trans ?_)
    simp only [Die.id, left]
    rfl
  · intro p s
    rfl
  · intro x t0 s loss ramp late run
    have guard : (s.mod.legLoss && rampOver s && (s.op.state == .run || s.op.state == .stopping)) = true := by
      rw [loss, legLoss_rampOver ramp late, run]
      rfl
    exact congrArg Host.Outcome.next (if_pos guard)

end Sys2Proof.Laws
end

section
/-! Lock-out, thermal shutdown and nRESET (R65, R71, R74, R637, R638). -/

namespace Sys2Proof.Laws
open Sys2Proof Sys2Proof.Machine Sys2Proof.Safety

/-! ## What the pieces of a reset leave -/

/-- The controllers lie in the memory block alone. -/
theorem resetCtls_eq (cs : List Nat) (s : State) : ∃ mem, resetCtls cs s = { s with mem := mem } := by
  unfold resetCtls
  induction cs generalizing s with
  | nil => exact ⟨s.mem, rfl⟩
  | cons c cs ih =>
    obtain ⟨mem, e⟩ := ih (setCtl c (ctlAfterReset s c) s)
    exact ⟨mem, e⟩

/-- A fuse entry lies in the boot and memory blocks. -/
theorem endFuse_eq (valid : Bool) (s : State) : ∃ boot mem, endFuse valid s = { s with boot := boot, mem := mem } := by
  unfold endFuse
  split
  · exact ⟨s.boot, s.mem, rfl⟩
  · split
    · exact ⟨_, s.mem, rfl⟩
    · exact ⟨_, s.mem, rfl⟩
  · exact ⟨_, _, rfl⟩

/-- A barrier lies in the block of the links. -/
theorem closeBarrier_eq (op : Nat) (s : State) : ∃ jx, closeBarrier op s = { s with jx := jx } := by
  unfold closeBarrier
  split
  · exact ⟨s.jx, rfl⟩
  · exact ⟨_, rfl⟩

/-- HB in reset: its mailbox, port and contactors at their reset values, its lock set, the Last's image kept (R463, R545). -/
theorem hbDown_spec (s : State) : (hbDown s).supply = { s.supply with hbLock := true } ∧ (hbDown s).mbx = State.reset.mbx ∧
    (hbDown s).saf.kCmd = ⟨false, false, false⟩ ∧ (hbDown s).port = State.reset.port ∧ (hbDown s).last.image = s.last.image ∧
    (hbDown s).thm = s.thm ∧ (hbDown s).op.state = s.op.state := by
  obtain ⟨boot, mem, fuse⟩ := endFuse_eq false s
  unfold hbDown
  rw [fuse]
  unfold hbReset
  dsimp only
  rw [(resetCtls_eq _ _).choose_spec]
  exact ⟨rfl, rfl, rfl, rfl, rfl, rfl, rfl⟩

/-- FC's reset: its engines and orders at their reset values, HB's own order, the dies and the state code kept (R71). -/
theorem fcReset_spec (s : State) : (fcReset s).supply = { s.supply with vfWarn := false } ∧
    (fcReset s).op.state = s.op.state ∧ (fcReset s).pe = State.reset.pe ∧
    (fcReset s).heel = { HeelBlock.reset with hb := s.heel.hb } ∧ (fcReset s).gd = s.gd ∧ (fcReset s).mbx = s.mbx := by
  unfold fcReset
  dsimp only
  rw [(resetCtls_eq _ _).choose_spec]
  exact ⟨rfl, rfl, rfl, rfl, rfl, rfl⟩

/-- FC in reset: BOOT, its lock set, its engines at reset, every die untrained and HB's own order kept (R65, R71, R101). -/
theorem fcDown_spec (s : State) : (fcDown s).supply = { s.supply with fcLock := true, vfWarn := false } ∧
    (fcDown s).op.state = .boot ∧ (∀ p, ((fcDown s).gd.get p).trained = false) ∧ (fcDown s).pe = State.reset.pe ∧
    (fcDown s).heel.hb = s.heel.hb ∧ (fcDown s).heel.fc = none := by
  obtain ⟨u, entered, supply, hb⟩ : ∃ u, (if s.supply.hbLock then s else addCause 1 s) = u ∧ u.supply = s.supply ∧
      u.heel.hb = s.heel.hb := by
    split
    · exact ⟨_, rfl, rfl, rfl⟩
    · exact ⟨_, rfl, rfl, rfl⟩
  obtain ⟨supply', state, pe, heel, gd, -⟩ := fcReset_spec (intoBoot u)
  unfold fcDown
  dsimp only
  rw [entered]
  refine ⟨?_, state, fun p => ?_, pe, ?_, ?_⟩
  · change { (fcReset (intoBoot u)).supply with fcLock := true } = _
    rw [supply']
    change { u.supply with fcLock := true, vfWarn := false } = _
    rw [supply]
  · cases p <;> rfl
  · change (fcReset (intoBoot u)).heel.hb = _
    rw [heel]
    exact hb
  · change (fcReset (intoBoot u)).heel.fc = _
    rw [heel]
    rfl

/-! ## A gate driver die that is down -/

/-- `t` has the outputs of `s`: at every die the same high impedance and the same side. -/
def SameOutputs (s t : State) : Prop := ∀ p, (t.gd.get p).hiZ = (s.gd.get p).hiZ ∧ (t.gd.get p).on = (s.gd.get p).on

theorem SameOutputs.of_gd {s t : State} (h : t.gd = s.gd) : SameOutputs s t := fun p => by rw [h]; exact ⟨rfl, rfl⟩

theorem SameOutputs.trans {s t u : State} (h : SameOutputs s t) (k : SameOutputs t u) : SameOutputs s u :=
  fun p => ⟨(k p).1.trans (h p).1, (k p).2.trans (h p).2⟩

theorem SameOutputs.refl (s : State) : SameOutputs s s := .of_gd rfl

@[simp] theorem six_get_map {α β : Type} (f : α → β) (t : Six α) (p : GdPos) : (t.map f).get p = f (t.get p) := by
  cases p <;> rfl

theorem sameOutputs_abortDiag (code : Nat) (s : State) : SameOutputs s (abortDiag code s) := by
  intro p
  unfold abortDiag
  split
  · exact ⟨rfl, rfl⟩
  · simp only [answer_gd, record_gd, six_get_map, abortPairs]
    split <;> exact ⟨rfl, rfl⟩

theorem gd_toSafeHold (code : Nat) (s : State) : (toSafeHold code s).gd = s.gd := by
  unfold toSafeHold
  split <;> simp

theorem sameOutputs_issuePackage (o : HeelOrder) (code : Nat) (s : State) : SameOutputs s (issuePackage o code s) := by
  rw [issuePackage_eq]
  refine (sameOutputs_abortDiag code s).trans (.of_gd ?_)
  rw [brake_gd, gd_toSafeHold]
  rfl

theorem sameOutputs_faultLeg (p : Phase) (code : Nat) (s : State) : SameOutputs s (faultLeg p code s) := by
  have aborted := sameOutputs_abortDiag code s
  unfold faultLeg
  dsimp only
  split
  · exact aborted
  · split
    · refine (aborted.trans ?_).trans (sameOutputs_issuePackage _ _ _)
      exact .of_gd (record_gd _ _ _ _ _)
    · refine aborted.trans (.of_gd ?_)
      split
      case h_1 | h_2 => exact record_gd _ _ _ _ _
      case h_3 => exact gd_toSafeHold _ _

theorem sameOutputs_reportUv (p : GdPos) (code : Nat) (s : State) : SameOutputs s (reportUv p code s) := by
  unfold reportUv
  split
  · exact .refl s
  · unfold reportLeg
    split
    · exact sameOutputs_abortDiag code _
    · exact sameOutputs_faultLeg _ _ _

/-! ## A package reset -/

theorem gdReset_eq (p : GdPos) (s : State) :
    ∃ clk mem, gdReset p s = { s with clk := clk, mem := mem, gd := s.gd.set p GdDie.reset } := by
  unfold gdReset
  rw [(resetCtls_eq _ _).choose_spec]
  exact ⟨_, _, rfl⟩

/-- `t` is `s` with the dies' entries `g`, but for the clocks and the memories. -/
def DiesAt (g : Six GdDie) (s t : State) : Prop := ∃ clk mem, t = { s with clk := clk, mem := mem, gd := g }

theorem DiesAt.gdReset {g : Six GdDie} {s t : State} (h : DiesAt g s t) (p : GdPos) :
    DiesAt (g.set p GdDie.reset) s (gdReset p t) := by
  obtain ⟨clk, mem, rfl⟩ := h
  obtain ⟨clk', mem', e⟩ := gdReset_eq p { s with clk := clk, mem := mem, gd := g }
  exact ⟨clk', mem', e⟩

/-- With all six dies reset one after the other, every die holds its reset entry. -/
theorem diesAt_gdResets (s : State) : DiesAt (.rep GdDie.reset) s (GdPos.all.foldl (fun s p => gdReset p s) s) := by
  have start : DiesAt s.gd s s := ⟨s.clk, s.mem, rfl⟩
  exact (((((start.gdReset .uh).gdReset .ul).gdReset .vh).gdReset .vl).gdReset .wh).gdReset .wl

/-- HB's reset leaves FC's engines and orders, the dies and the state code (R463). -/
theorem hbReset_spec (s : State) : (hbReset s).op.state = s.op.state ∧ (hbReset s).mbx = State.reset.mbx ∧
    (hbReset s).pe = s.pe ∧ (hbReset s).heel.fc = s.heel.fc ∧ (hbReset s).gd = s.gd := by
  unfold hbReset
  dsimp only
  rw [(resetCtls_eq _ _).choose_spec]
  exact ⟨rfl, rfl, rfl, rfl, rfl⟩

/-- A package reset shows BOOT, resets the mailbox, the engines and the dies, and keeps the links trained (R50, R71). -/
theorem packageReset_spec (kind : ResetKind) (s : State) : (packageReset kind s).op.state = .boot ∧
    (packageReset kind s).mbx = State.reset.mbx ∧ (packageReset kind s).pe = State.reset.pe ∧
    (packageReset kind s).heel.fc = none ∧ (∀ p, ((packageReset kind s).gd.get p).held = none ∧
      ((packageReset kind s).gd.get p).trained = (s.gd.get p).trained) := by
  obtain ⟨boot, mem, fuse⟩ := endFuse_eq true s
  obtain ⟨clk, mem', dies⟩ := diesAt_gdResets (intoBoot (endFuse true s))
  obtain ⟨-, state, pe, heel, gd, -⟩ := fcReset_spec (GdPos.all.foldl (fun s p => gdReset p s) (intoBoot (endFuse true s)))
  obtain ⟨state', mbx, pe', heel', gd'⟩ := hbReset_spec (fcReset (GdPos.all.foldl (fun s p => gdReset p s) (intoBoot (endFuse true s))))
  unfold packageReset
  dsimp only
  rw [(closeBarrier_eq _ _).choose_spec]
  refine ⟨?_, mbx, pe'.trans pe, ?_, fun p => ?_⟩
  · rw [state', state, dies]
    rfl
  · rw [heel', heel]
    rfl
  · rw [gd', gd, dies, fuse]
    cases p <;> exact ⟨rfl, rfl⟩

/-- FC's queue lies in the recorder. -/
theorem fcPush_eq (r : EventRec) (s : State) : ∃ evt, fcPush r s = { s with evt := evt } := by
  unfold fcPush
  split
  · exact ⟨_, rfl⟩
  · exact ⟨_, rfl⟩

theorem fcPushes_eq (l : List Retained) (s : State) :
    ∃ evt, l.foldl (fun s r => fcPush (lateRec .fc r) s) s = { s with evt := evt } := by
  induction l generalizing s with
  | nil => exact ⟨s.evt, rfl⟩
  | cons r l ih =>
    obtain ⟨evt, e⟩ := fcPush_eq (lateRec .fc r) s
    obtain ⟨evt', e'⟩ := ih (fcPush (lateRec .fc r) s)
    exact ⟨evt', e'.trans (by rw [e])⟩

/-- A reset cause noted on a condition leaves what is due. -/
theorem addCause_or (b : Bool) (bit : Nat) (s : State) : ∃ rst, (if b then s else addCause bit s) = { s with rst := rst } ∧
    rst.due = s.rst.due ∧ rst.nresetLow = s.rst.nresetLow := by
  cases b
  · exact ⟨_, rfl, rfl, rfl⟩
  · exact ⟨s.rst, rfl, rfl, rfl⟩

/-- FC out of reset: unlocked with its retained records handed on, the field-side boot due if no other boot is, none is
waited for and HB may boot it (R72). -/
theorem fcUp_spec (s : State) : (fcUp s).supply = { s.supply with fcLock := false, fcRet := [] } ∧ (fcUp s).op = s.op ∧
    (fcUp s).thm = s.thm ∧ (fcUp s).rst.due = s.rst.due.or
      (if s.boot.waitFc || s.supply.hbLock || s.rst.nresetLow then none else some .fieldSide) := by
  unfold fcUp
  dsimp only
  rw [(fcPushes_eq _ _).choose_spec]
  obtain ⟨rst, noted, due, low⟩ := addCause_or s.supply.hbLock 1 (setLocked .fc false { s with pt := { s.pt with
    fcEpoch := now s, stepDue := s.pt.hb.disciplined && !s.supply.hbLock,
    off := if (s.pt.hb.disciplined && !s.supply.hbLock) = true then s.pt.off else -(now s : Int) } })
  erw [noted]
  refine ⟨rfl, rfl, rfl, ?_⟩
  have sameDue : rst.due = s.rst.due := due
  have sameLow : rst.nresetLow = s.rst.nresetLow := low
  rw [← sameDue, ← sameLow]
  cases rst.due <;> rfl

theorem fcFirst_spec (code : Nat) (ps : List Int) (s : State) : (fcFirst code ps s).supply = s.supply ∧
    (fcFirst code ps s).op.state = s.op.state ∧ (fcFirst code ps s).thm = s.thm ∧
    (fcFirst code ps s).rst = s.rst := by
  unfold fcFirst
  rw [(fcPush_eq _ _).choose_spec]
  exact ⟨rfl, rfl, rfl, rfl⟩

@[simp] theorem six_get_mapPos {α : Type} (f : GdPos → α → α) (t : Six α) (p : GdPos) :
    (t.mapPos f).get p = f p (t.get p) := by
  cases p <;> rfl

theorem orderOff_trained (s : State) (p : GdPos) (g : GdDie) : (orderOff s p g).trained = g.trained := by
  unfold orderOff
  repeat' split
  all_goals rfl

/-- A PI order leaves a die's link as it was (R35). -/
theorem dieOrder_pi_trained (s : State) (p : GdPos) (g : GdDie) : (dieOrder s .pi p g).trained = g.trained := by
  unfold dieOrder
  dsimp only
  split
  · rfl
  · exact orderOff_trained _ _ _

/-! ## The rows -/

theorem hbDown_of_lockout {mv : Int} {s : State} (low : mv < 2800) (powered : s.supply.hbLock = false) :
    ∃ u, exec (.lockoutEnter .hb 0 mv false) s = .next { hbDown u with
      supply := { (hbDown u).supply with hbRet := some ⟨0x1301, 0, [0, 0, mv], 0⟩ } } ∧ u.last.image = s.last.image := by
  have guard : ¬(!railOf s .hb 0 || !railOut 0 mv || (locked s .hb && !(nth s.thm.shd Die.hb.id none).isSome)) = true := by
    have out : railOut 0 mv = true := decide_eq_true low
    rw [out]
    simp [railOf, locked, powered]
  exact ⟨addCause 0 { s with thm := { s.thm with shd := upd s.thm.shd 0 (fun _ => none) } },
    congrArg Host.Outcome.next (if_neg guard), rfl⟩

theorem fcDown_of_lockout {mv : Int} {s : State} (low : mv < 4400) (powered : s.supply.fcLock = false) :
    ∃ u, exec (.lockoutEnter .fc 3 mv false) s = .next { fcDown u with
      supply := { (fcDown u).supply with fcRet := (fcDown u).supply.fcRet ++ [⟨0x1301, 0, [1, 3, mv], 4⟩] } } ∧
      u.supply = s.supply ∧ u.heel = s.heel := by
  have guard : ¬(!railOf s .fc 3 || !railOut 3 mv || (locked s .fc && !(nth s.thm.shd Die.fc.id none).isSome)) = true := by
    have out : railOut 3 mv = true := decide_eq_true low
    rw [out]
    simp [railOf, locked, powered]
  exact ⟨{ s with thm := { s.thm with shd := upd s.thm.shd 1 (fun _ => none) } },
    congrArg Host.Outcome.next (if_neg guard), rfl, rfl⟩

theorem gdDown_of_lockout {p : GdPos} {mv : Int} (b : Bool) {s : State} (out : mv < 13000 ∨ 23500 < mv)
    (powered : s.supply.gdLock.get p = false) : ∃ u, exec (.lockoutEnter (.gd p) 4 mv b) s = .next
      (setLocked (.gd p) true (reportUv p 0x1301 (gdHold p false u))) := by
  have guard : ¬(!railOf s (.gd p) 4 || !railOut 4 mv ||
      (locked s (.gd p) && !(nth s.thm.shd (Die.gd p).id none).isSome)) = true := by
    have beyond : railOut 4 mv = true := by
      change (decide (mv < 13000) || decide (23500 < mv)) = true
      rw [Bool.or_eq_true, decide_eq_true_iff, decide_eq_true_iff]
      exact out
    rw [beyond]
    simp [railOf, locked, powered]
  exact ⟨_, (congrArg Host.Outcome.next (if_neg guard)).trans rfl⟩

/-- FC returns from a lock-out once its rail is back above the leave threshold (R65). -/
theorem fcUp_of_railsIn {mv : Int} (l : List Nat) (k : List (Bool × Bool)) (b : Bool) {s : State} (inside : 4550 < mv)
    (down : s.supply.fcLock = true) (cool : nth s.thm.shd 1 none = none) :
    exec (.lockoutLeave .fc l k b [mv]) s = .next (fcFirst 0x1302 [1] (fcUp s)) := by
  have guard : ¬(!locked s .fc || !railsIn b .fc [mv] || (nth s.thm.shd Die.fc.id none).isSome) = true := by
    have back : railsIn b .fc [mv] = true := decide_eq_true inside
    have noShutdown : (nth s.thm.shd Die.fc.id none).isSome = false := congrArg Option.isSome cool
    rw [back, noShutdown]
    simp [locked, down]
  exact congrArg Host.Outcome.next (if_neg guard)

/-- FC returns from a thermal shutdown 2 s after it, cool for 10 ms (R638). -/
theorem fcUp_of_cool {x : Int} {ns t : Nat} (l : List Nat) (c : List (Bool × Bool)) {s : State} (cool : x < 140)
    (lasting : 10000000 ≤ ns) (since : nth s.thm.shd 1 none = some t) (long : t + 2000000000 ≤ s.pt.ns)
    (down : s.supply.fcLock = true) : ∃ ps u, exec (.thermalShutdownLeave .fc l c x ns) s =
      .next (fcFirst 0x5E22 ps (addCause 4 (fcUp u))) ∧ u.thm.shd = upd s.thm.shd 1 (fun _ => none) := by
  have guard : ¬(now s < t + 2000000000 || (140 : Int) ≤ x || ns < 10000000 || !locked s .fc) = true := by
    have waited : ¬now s < t + 2000000000 := Nat.not_lt.2 long
    simp [locked, down, waited, Int.not_le.2 cool, Nat.not_lt.2 lasting]
  refine ⟨[(Die.fc.id : Int), (((now s - t) / 1000000 : Nat) : Int)],
    { s with thm := { s.thm with shd := upd s.thm.shd 1 (fun _ => none) } }, ?_, rfl⟩
  change execThermalShutdownLeave .fc l c x ns s = _
  delta execThermalShutdownLeave
  conv_lhs => rw [show nth s.thm.shd Die.fc.id none = some t from since]
  exact (congrArg Host.Outcome.next (if_neg guard)).trans rfl

/-- Settles O47: the rows' guards, and what each reset leaves. -/
theorem lockoutAndReset : Obligations.LockoutAndReset := by
  unfold Obligations.LockoutAndReset
  refine ⟨?_, ?_, ?_, ?_, ?_, ?_, ?_, ?_⟩
  · intro mv s low powered cool
    obtain ⟨u, e, image⟩ := hbDown_of_lockout low powered
    obtain ⟨supply, mbx, cmd, port, image', -, -⟩ := hbDown_spec u
    refine ⟨_, e, ?_, rfl, mbx, cmd, port, image'.trans image⟩
    rw [supply]
  · intro mv s low powered cool
    obtain ⟨u, e, supply, heel⟩ := fcDown_of_lockout low powered
    obtain ⟨supply', state, untrained, pe, hb, order⟩ := fcDown_spec u
    refine ⟨_, e, ?_, state, ?_, untrained, pe, ?_, order⟩
    · rw [supply']
    · rw [supply', supply]
    · rw [← heel]
      exact hb
  · intro p mv b s out powered cool
    obtain ⟨u, e⟩ := gdDown_of_lockout b out powered
    obtain ⟨hiZ, on⟩ := sameOutputs_reportUv p 0x1301 (gdHold p false u) p
    refine ⟨_, e, six_get_set _ _ _, ?_, ?_⟩
    · exact hiZ.trans (by simp [gdHold, putDie])
    · exact on.trans (by simp [gdHold, putDie])
  · intro mv l k b s inside down cool noBoot notWaiting powered high
    obtain ⟨supply, op, -, due⟩ := fcUp_spec s
    obtain ⟨supply', state', -, rst'⟩ := fcFirst_spec 0x1302 [1] (fcUp s)
    refine ⟨_, fcUp_of_railsIn l k b inside down cool, ?_, ?_, ?_, ?_⟩
    · rw [supply', supply]
    · rw [rst', due, noBoot, notWaiting, powered, high]
      rfl
    · rw [supply', supply]
    · rw [state', op]
  · intro x s powered high hot
    have guard : ¬(locked s .hb || dieDown s .hb || decide (x ≤ 165)) = true := by
      rw [decide_eq_false (Int.not_le.2 hot)]
      simp [locked, dieDown, powered, high]
    have e : exec (.thermalShutdownEnter .hb x) s = .next (hbDown
        { record .fc 0x5E21 3 [(0 : Int), x] s with thm := { (record .fc 0x5E21 3 [(0 : Int), x] s).thm with
            shd := upd (record .fc 0x5E21 3 [(0 : Int), x] s).thm.shd 0
              (fun _ => some (now (record .fc 0x5E21 3 [(0 : Int), x] s))) } }) :=
      congrArg Host.Outcome.next (if_neg guard)
    refine ⟨_, e, ?_, ?_, ?_⟩
    · rw [(hbDown_spec _).1]
    · simp [(hbDown_spec _).2.2.2.2.2.1, now]
    · simp [(hbDown_spec _).2.2.2.2.2.2]
  · intro x ns t l c s cool lasting since long down
    obtain ⟨ps, u, e, shd⟩ := fcUp_of_cool l c cool lasting since long down
    obtain ⟨supply, -, thm, -⟩ := fcUp_spec u
    obtain ⟨supply', -, thm', -⟩ := fcFirst_spec 0x5E22 ps (addCause 4 (fcUp u))
    refine ⟨_, e, ?_, ?_⟩
    · rw [supply']
      exact congrArg SupplyBlock.fcLock supply
    · rw [thm', ← shd]
      exact congrArg ThmBlock.shd thm
  · intro s high powered
    have guard : ¬(s.rst.nresetLow || s.supply.hbLock) = true := by simp [high, powered]
    obtain ⟨state, mbx, pe, order, dies⟩ := packageReset_spec .plain { s with gd := s.gd.mapPos (dieOrder s .pi) }
    refine ⟨_, congrArg Host.Outcome.next (if_neg guard), rfl, rfl, state, mbx, pe, order, fun p => ⟨(dies p).1, ?_⟩⟩
    refine (dies p).2.trans ?_
    rw [six_get_mapPos]
    exact dieOrder_pi_trained s p _
  · intro s low
    have guard : ¬(!s.rst.nresetLow) = true := by simp [low]
    exact congrArg Host.Outcome.next (if_neg guard)

end Sys2Proof.Laws
end

section
/-! The direct register window at the host port (R493 to R505). -/

namespace Sys2Proof.Laws
open Sys2Proof Sys2Proof.Machine

/-! ## A frame that passes its checks -/

/-- The state in which a frame acts that has passed its header. -/
def framed (f : Frame) (s : State) : State :=
  { beginFrame f s with port := { (beginFrame f s).port with badRun := 0 } }

theorem framed_but_port (f : Frame) (s : State) : { framed f s with port := s.port } = s := rfl

theorem frame_passed {f : Frame} {s : State} (kind addr : Nat) {data : List Word} (act : State → State)
    (up : portUp s = true) (head : headOk f = true) (known : kindOk f = true) (sound : data = [] ∨ dataOk f data = true) :
    frame f kind addr data true act s = act (framed f s) := by
  have checked : (!data.isEmpty && !dataOk f data) = false := by
    rcases sound with rfl | sound
    · rfl
    · simp [sound]
  simp [frame, up, head, known, checked, framed]

/-- The one word of a write, and its code. -/
theorem writeWords_one (addr : Nat) (w : Word) (s : State) : writeWords addr [w] s = writeHb addr w.toNat s := by
  simp only [writeWords]
  split
  · rfl
  · next zero => exact Prod.ext (by simpa using (eq_of_beq (by simpa using zero)).symm) rfl

theorem inRom_framed (f : Frame) (s : State) : inRom (framed f s) = inRom s := rfl

theorem noReg_one {addr : Nat} {s : State} (hb : (rangeOf addr).1 = .hb) (registered : (readHb s addr).isSome = true) :
    noReg s addr 1 = false := by
  have word : (readReg s (selGd s) addr).isNone = false := by
    rw [readReg, hb, ← Option.not_isSome, registered]
    rfl
  simp [noReg, addrsFrom, word]

/-- A sound write of one HB register, writable in the state at hand. -/
theorem regWrite_hb {f : Frame} {w : Word} {s : State} {addr : Nat} (up : portUp s = true) (head : headOk f = true)
    (known : kindOk f = true) (sound : dataOk f [w] = true) (inWindow : windowOk addr 1 = true) (hb : (rangeOf addr).1 = .hb)
    (registered : (readHb (framed f s) addr).isSome = true) (writable : inRom s = false ∨ romWritable addr = true) :
    regWrite f addr [w] s = if ordersReset (framed f s) addr [w] then (writeHb addr w.toNat (framed f s)).2
      else respond (writeHb addr w.toNat (framed f s)).1 [] (writeHb addr w.toNat (framed f s)).2 := by
  have allowed : (inRom (framed f s) && !(addrsFrom addr 1).all romWritable) = false := by
    rcases writable with rom | rom
    · rw [inRom_framed, rom]
      rfl
    · simp [addrsFrom, rom]
  calc regWrite f addr [w] s
    _ = doWrite addr [w] (framed f s) := by
      rw [regWrite, List.length_singleton, inWindow]
      exact frame_passed _ _ _ up head known (.inr sound)
    _ = _ := by
      simp [doWrite, noReg_one hb registered, allowed, hb, writeWords_one]

/-- A read of an HB register. -/
theorem doRead_one {f : Frame} {s : State} {addr : Nat} (hb : (rangeOf addr).1 = .hb)
    (registered : (readHb s addr).isSome = true) :
    doRead f addr 1 s = answerRead f.clocked f.busErr (selGd s) addr 1 s := by
  simp [doRead, noReg_one hb registered, hb]

/-- One word read and answered: the read's own latch, then what its end does. -/
theorem answerRead_one (clocked : Bool) (p : GdPos) (addr : Nat) (s : State) : answerRead clocked false p addr 1 s =
    readsDone clocked [addr] (respond 0 [BitVec.ofNat 32 ((readReg s p addr).getD 0)] (readLatch addr s)) := rfl

/-- A sound read of registers. -/
theorem regRead_passed {f : Frame} {s : State} {addr count : Nat} (up : portUp s = true) (head : headOk f = true)
    (known : kindOk f = true) (inWindow : windowOk addr count = true) :
    regRead f addr count s = doRead f addr count (framed f s) := by
  rw [regRead, inWindow]
  exact frame_passed _ _ _ up head known (.inl rfl)

/-! ## What reports leave -/

/-- `t` is `s` but for the recorder, MAX_CLASS, the interrupt causes and the port's record times. -/
def Noted (s t : State) : Prop := ∃ e m i l, t = { s with
  evt := e, op := { s.op with maxClass := m }, mbx := { s.mbx with irq := i }, port := { s.port with lastRec := l } }

theorem Recorded.noted {s t : State} (h : Recorded s t) : Noted s t := by
  obtain ⟨e, m, i, rfl⟩ := h
  exact ⟨e, m, i, s.port.lastRec, rfl⟩

theorem noted_recordPort (code cls : Nat) (ps : List Int) (s : State) : Noted s (recordPort code cls ps s) := by
  unfold recordPort
  split
  · split
    · exact (recorded_noteClass _ _).noted
    · obtain ⟨e, m, i, h⟩ := recorded_record .hb code cls ps { s with port := { s.port with
        lastRec := (code, now s) :: s.port.lastRec.filter (fun e => e.1 != code) } }
      exact ⟨e, m, i, _, h⟩
  · obtain ⟨e, m, i, h⟩ := recorded_record .hb code cls ps { s with port := { s.port with
      lastRec := (code, now s) :: s.port.lastRec } }
    exact ⟨e, m, i, _, h⟩

/-- A violation report leaves the tags and the doorbells. -/
theorem violation_tags (i status : Nat) (s : State) :
    (violation i status s).mbx.tags = s.mbx.tags ∧ (violation i status s).mbx.bells = s.mbx.bells := by
  unfold violation
  split
  · simp only [postEntry, writeMem, and_self]
  · obtain ⟨e, m, i', l, h⟩ := noted_recordPort 0x1408 1 [(i : Int), (status : Int)]
      { s with mbx := { s.mbx with irq := s.mbx.irq ||| 64, violLost := satInc 255 s.mbx.violLost } }
    exact ⟨congrArg (·.mbx.tags) h, congrArg (·.mbx.bells) h⟩

theorem tagBusy_tags (i : Nat) (s : State) : (tagBusy i s).mbx.tags = s.mbx.tags ∧ (tagBusy i s).mbx.bells = s.mbx.bells := by
  obtain ⟨e, m, i', l, h⟩ := noted_recordPort 0x1413 0 [(i : Int)] { s with mbx := { s.mbx with errBusy := satInc 255 s.mbx.errBusy } }
  obtain ⟨tags, bells⟩ := violation_tags i 0x17
    (recordPort 0x1413 0 [(i : Int)] { s with mbx := { s.mbx with errBusy := satInc 255 s.mbx.errBusy } })
  unfold tagBusy
  rw [tags, bells, h]
  exact ⟨rfl, rfl⟩

/-! ## Writes of the mailbox registers -/

/-- A doorbell on a FREE tag, the Command Processor running. -/
theorem doorbell_free {i : Nat} {s : State} (free : (tag s i).st = .free) (up : cpDown s = false) :
    doorbell i s = (0, ringBell i s) := by
  simp [doorbell, free, up]

theorem doorbell_busy {i : Nat} {s : State} (busy : (tag s i).st ≠ .free) : doorbell i s = (9, tagBusy i s) := by
  simp [doorbell, busy]

theorem ringBell_running {i : Nat} {s : State} (running : s.pairs.cp.restarting = false) (inRange : i < s.mbx.tags.length) :
    (ringBell i s).mbx.bells = s.mbx.bells ++ [i] ∧ (tag (ringBell i s) i).st = .queued ∧
      (ringBell i s).mbx.mem = s.mbx.mem ∧ (ringBell i s).op = s.op ∧ (ringBell i s).evt = s.evt := by
  unfold ringBell
  dsimp only
  rw [if_neg (by simp [running])]
  refine ⟨rfl, ?_, rfl, rfl, rfl⟩
  simp [tag, setTag, nth, upd, inRange]

/-- A head within the tail, with no restart of the Command Processor under way (R518). -/
theorem headWrite_within {w : Nat} {s : State} (running : s.pairs.cp.restarting = false) (none_ : s.cp.heldHead = [])
    (within : (w % 1024 + 1024 - s.mbx.head) % 1024 ≤ (s.mbx.tail + 1024 - s.mbx.head) % 1024) :
    headWrite w s = (0, moveHead (w % 1024) s) := by
  simp [headWrite, running, none_, Nat.not_lt.2 within]

/-- A head beyond the tail: OVERRUN, with the head and the tags left (R518). -/
theorem headWrite_beyond {w : Nat} {s : State} (none_ : s.cp.heldHead = [])
    (beyond : (s.mbx.tail + 1024 - s.mbx.head) % 1024 < (w % 1024 + 1024 - s.mbx.head) % 1024) :
    (headWrite w s).1 = 10 ∧ (headWrite w s).2.mbx.head = s.mbx.head ∧ (headWrite w s).2.mbx.tags = s.mbx.tags ∧
      (headWrite w s).2.port.sticky = s.port.sticky ||| 8 := by
  obtain ⟨e, m, i, l, h⟩ := noted_recordPort 0x1407 1 [((w % 1024 : Nat) : Int), (s.mbx.tail : Int)] { s with
    port := { s.port with sticky := s.port.sticky ||| 8 }, mbx := { s.mbx with irq := s.mbx.irq ||| 16 } }
  have guard : (s.mbx.tail + 1024 - ((s.cp.heldHead.getLast?).getD s.mbx.head)) % 1024 <
      (w % 1024 + 1024 - ((s.cp.heldHead.getLast?).getD s.mbx.head)) % 1024 := by
    rw [none_]
    exact beyond
  unfold headWrite
  dsimp only
  rw [if_pos guard, h]
  exact ⟨rfl, rfl, rfl, rfl⟩

/-! ## The recorder window -/

theorem setCur_cursors (p : Bool) (n : Nat) (s : State) : curOf (setCur p n s) p = n ∧
    curOf (setCur p n s) (!p) = curOf s (!p) ∧ (setCur p n s).evt.vlog = s.evt.vlog ∧
    (setCur p n s).evt.plog = s.evt.plog := by
  cases p <;> exact ⟨rfl, rfl, rfl, rfl⟩

theorem readDone_data7 (s : State) : readDone 0x122C s =
    if curOf s s.evt.logSel < (logOf s s.evt.logSel).length then setCur s.evt.logSel (curOf s s.evt.logSel + 1) s else s := rfl

/-- DATA7 read to its end: the cursor moves on within its log, the port as it was (R667). -/
theorem readDone_data7_cursor (s : State) : (readDone 0x122C s).port = s.port ∧ curOf (readDone 0x122C s) s.evt.logSel =
    if curOf s s.evt.logSel < (logOf s s.evt.logSel).length then curOf s s.evt.logSel + 1 else curOf s s.evt.logSel := by
  rw [readDone_data7]
  split
  · exact ⟨rfl, (setCur_cursors _ _ _).1⟩
  · exact ⟨rfl, rfl⟩

/-! ## HB_RESET_CTRL (R76, R77) -/

/-- KEY and the REJECTED bit of a reset word. -/
theorem resetWord_fields {k n : Nat} (hk : k < 256) (hn : n < 3) : bitsOf (resetWord k false n).toNat 24 8 = k ∧
    bitOf (resetWord k false n).toNat 8 = false ∧ (resetWord k false n).toNat % 4 = n := by
  have value : (resetWord k false n).toNat = k * 2 ^ 24 + n := by
    simp only [resetWord, bit1, BitVec.toNat_ofNat, Bool.false_eq_true, if_false]
    have : k % 256 = k := Nat.mod_eq_of_lt hk
    omega
  rw [value]
  refine ⟨?_, ?_, by omega⟩
  · simp only [bitsOf]
    omega
  · simp only [bitOf, beq_eq_false_iff_ne]
    omega

/-- A reset kind's number in the register (R76). -/
def kindNo : ResetKind → Nat
  | .plain => 0
  | .bist => 1
  | .recovery => 2

/-- The KEY in a state that admits it orders its reset; in RUN it orders none, and another KEY never does. -/
theorem resetOrdered_standby {n : Nat} {k : ResetKind} {s : State} (standby : s.op.state = .standby)
    (numbered : n = kindNo k) : resetOrdered (resetWord 0x5C false n).toNat s = some k := by
  subst numbered
  have lt : kindNo k < 3 := by cases k <;> decide
  obtain ⟨key, -, kind⟩ := resetWord_fields (k := 0x5C) (by decide) lt
  simp only [resetOrdered, standby, key, kind]
  cases k <;> rfl

theorem resetOrdered_other {k n : Nat} (s : State) (hk : k < 256) (hn : n < 3) (other : k ≠ 0x5C) :
    resetOrdered (resetWord k false n).toNat s = none := by
  obtain ⟨key, -, -⟩ := resetWord_fields hk hn
  unfold resetOrdered
  split
  any_goals rfl
  all_goals rw [key, if_pos (by simpa using other)]

theorem resetOrdered_run {s : State} (w : Nat) (run : s.op.state = .run) : resetOrdered w s = none := by
  simp [resetOrdered, run]

theorem resetCtrl_ordered {w : Nat} {kind : ResetKind} {s : State} (clear : bitOf w 8 = false)
    (ordered : resetOrdered w s = some kind) : resetCtrl w s = addCause 3 (packageReset kind s) := by
  simp [resetCtrl, clear, ordered]

theorem resetCtrl_refused {w : Nat} {s : State} (clear : bitOf w 8 = false) (refused : resetOrdered w s = none) :
    resetCtrl w s = if bitsOf w 24 8 ≠ 0x5C then s
      else record .hb 0x1355 0 [] { s with rst := { s.rst with rejected := true } } := by
  simp [resetCtrl, clear, refused]

section
variable {f : Frame} {s : State} (up : portUp s = true) (head : headOk f = true) (known : kindOk f = true)
include up head known

theorem resetWrite_ordered {n : Nat} {kind : ResetKind} (standby : s.op.state = .standby) (numbered : n = kindNo kind)
    (sound : dataOk f [resetWord 0x5C false n] = true) :
    regWrite f 0x0024 [resetWord 0x5C false n] s = addCause 3 (packageReset kind (framed f s)) := by
  have ordered : resetOrdered (resetWord 0x5C false n).toNat (framed f s) = some kind :=
    resetOrdered_standby standby numbered
  have lt : n < 3 := by subst numbered; cases kind <;> decide
  have acts : ordersReset (framed f s) 0x0024 [resetWord 0x5C false n] = true := congrArg Option.isSome ordered
  obtain ⟨-, clear, -⟩ := resetWord_fields (k := 0x5C) (by decide) lt
  rw [regWrite_hb up head known sound rfl rfl rfl (.inr rfl), if_pos acts]
  exact resetCtrl_ordered clear ordered

theorem resetWrite_refused {k n : Nat} (hk : k < 256) (hn : n < 3)
    (refused : resetOrdered (resetWord k false n).toNat (framed f s) = none)
    (sound : dataOk f [resetWord k false n] = true) :
    regWrite f 0x0024 [resetWord k false n] s = respond 0 [] (if k ≠ 0x5C then framed f s
      else record .hb 0x1355 0 [] { framed f s with rst := { s.rst with rejected := true } }) := by
  have stays : ordersReset (framed f s) 0x0024 [resetWord k false n] = false := congrArg Option.isSome refused
  obtain ⟨key, clear, -⟩ := resetWord_fields hk hn
  rw [regWrite_hb up head known sound rfl rfl rfl (.inr rfl), if_neg (Bool.eq_false_iff.1 stays)]
  refine congrArg (respond 0 []) ((resetCtrl_refused clear refused).trans ?_)
  rw [key]
  rfl

end

/-! ## The claim, register by register -/

section
variable {f : Frame} {s : State} (up : portUp s = true) (head : headOk f = true) (known : kindOk f = true)
include up head known

theorem doorbellWrite {w : Word} (sound : dataOk f [w] = true) : exec (.doorbell f w) s = .next
    (respond (doorbell (w.toNat % 128) (framed f s)).1 [] (doorbell (w.toNat % 128) (framed f s)).2) :=
  congrArg Host.Outcome.next (regWrite_hb up head known sound rfl rfl rfl (.inr rfl))

theorem cqHeadWrite_eq {w : Word} (sound : dataOk f [w] = true) : exec (.cqHeadWrite f w) s = .next
    (respond (headWrite w.toNat (framed f s)).1 [] (headWrite w.toNat (framed f s)).2) :=
  congrArg Host.Outcome.next (regWrite_hb up head known sound rfl rfl rfl (.inr rfl))

theorem irqStatusClear_eq {w : Word} (sound : dataOk f [w] = true) : exec (.irqStatusClear f w) s = .next
    (respond 0 [] (irqWrite w.toNat (framed f s))) :=
  congrArg Host.Outcome.next (regWrite_hb up head known sound rfl rfl rfl (.inr rfl))

theorem evtCursorWrite_eq {w : Word} (sound : dataOk f [w] = true) (running : inRom s = false) :
    exec (.evtCursorWrite f w) s = .next (respond 0 [] (cursorWrite w.toNat (framed f s))) :=
  congrArg Host.Outcome.next (regWrite_hb up head known sound rfl rfl rfl (.inl running))

end

/-- Each of the three reset commands is the write of its word. -/
theorem resetCommand_eq {f : Frame} {k n : Nat} {c : Instr} (s : State)
    (command : n = 0 ∧ c = .resetCtrlPackageReset f k false ∨ n = 1 ∧ c = .resetCtrlBistReset f k false ∨
      n = 2 ∧ c = .resetCtrlRecoveryReset f k false) :
    n < 3 ∧ exec c s = .next (regWrite f 0x0024 [resetWord k false n] s) := by
  rcases command with ⟨rfl, rfl⟩ | ⟨rfl, rfl⟩ | ⟨rfl, rfl⟩ <;> exact ⟨by decide, rfl⟩

/-- An access begins, none being in flight, with the die selected now (R20, R497). -/
theorem beginAccess_idle {addr count : Nat} {s : State} (idle : s.port.access = none)
    (reached : fieldDown s (rangeOf addr).1 (selGd s) = false) : beginAccess false addr count [] s = { s with
      port := { s.port with access := some ⟨false, addr, count, [], selGd s, now s⟩, dropAccess := false } } := by
  unfold beginAccess
  rw [if_neg (by rw [reached]; decide), idle]

section
variable {f : Frame} {s : State} (up : portUp s = true) (head : headOk f = true) (known : kindOk f = true)
include up head known

/-- A read of one RC register, its bus in order. -/
theorem rcRegisterRead_eq {addr : Nat} (noErr : f.busErr = false) (listed : rcAddrs.contains addr = true)
    (inWindow : windowOk addr 1 = true) (hb : (rangeOf addr).1 = .hb)
    (registered : (readHb (framed f s) addr).isSome = true) : exec (.rcRegisterRead f addr) s = .next
      (answerRead f.clocked false (selGd s) addr 1 (framed f s)) := by
  refine congrArg Host.Outcome.next ((if_pos listed).trans ?_)
  rw [regRead_passed up head known inWindow, doRead_one hb registered, noErr]
  rfl

theorem ptLoRead_eq (noErr : f.busErr = false) : exec (.ptLoRead f) s = .next
    (answerRead f.clocked false (selGd s) 0x0018 1 (framed f s)) := by
  refine congrArg Host.Outcome.next ((regRead_passed up head known rfl).trans ?_)
  rw [doRead_one rfl rfl, noErr]
  rfl

theorem evtDataRead_eq (noErr : f.busErr = false) (clocked : f.clocked = true) : exec (.evtDataRead f) s = .next
    (readDone 0x122C (respond 0 ((List.range 8).map (fun k => BitVec.ofNat 32 (evtDataWord s k))) (framed f s))) := by
  refine congrArg Host.Outcome.next ((regRead_passed up head known rfl).trans ?_)
  calc doRead f 0x1210 8 (framed f s)
    _ = answerRead f.clocked f.busErr (selGd s) 0x1210 8 (framed f s) := rfl
    _ = _ := by
      rw [clocked, noErr]
      rfl

/-- A read of a field-side word begins an access, none being in flight (R497). -/
theorem setposLoRead_eq (idle : s.port.access = none) (reached : fieldDown s .fc (selGd s) = false) :
    exec (.setposLoRead f) s = .next { framed f s with port := { (framed f s).port with
      access := some ⟨false, 0x0604, 1, [], selGd s, now s⟩, dropAccess := false } } := by
  refine congrArg Host.Outcome.next ((regRead_passed up head known rfl).trans ?_)
  exact beginAccess_idle (s := framed f s) idle reached

/-- HB_MBX_ERRCNT read to its end clears its counts; cut short of its last CRC byte it clears nothing (R495). -/
theorem errCntRead (noErr : f.busErr = false) : exec (.rcRegisterRead f 0x005C) s = .next (readsDone f.clocked [0x005C]
    (respond 0 [BitVec.ofNat 32 (errCntWord s)] (framed f s))) :=
  (rcRegisterRead_eq up head known noErr rfl rfl rfl rfl).trans (congrArg Host.Outcome.next (answerRead_one _ _ _ _))

theorem portStatusRead (noErr : f.busErr = false) : exec (.rcRegisterRead f 0x0044) s = .next (readsDone f.clocked [0x0044]
    (respond 0 [BitVec.ofNat 32 (portStatusWord (framed f s))] (framed f s))) :=
  (rcRegisterRead_eq up head known noErr rfl rfl rfl rfl).trans (congrArg Host.Outcome.next (answerRead_one _ _ _ _))

/-- HB_PT_LO latches PT's high word as it is read (R49). -/
theorem ptLoRead_latched (noErr : f.busErr = false) : exec (.ptLoRead f) s = .next (readsDone f.clocked [0x0018]
    (respond 0 [BitVec.ofNat 32 (hbPt s % 2 ^ 32)]
      { framed f s with pt := { s.pt with hbHi := hbPt s / 2 ^ 32 % 2 ^ 32 } })) :=
  (ptLoRead_eq up head known noErr).trans (congrArg Host.Outcome.next (answerRead_one _ _ _ _))

end

theorem readsDone_ptLo (clocked : Bool) (s : State) : readsDone clocked [0x0018] s = s := by
  cases clocked <;> rfl

/-- Settles O55: each command is the frame of its register, and the frame acts on `framed`. -/
theorem registerEffects : Obligations.RegisterEffects := by
  unfold Obligations.RegisterEffects
  refine ⟨?_, ?_, ?_, ?_⟩
  · intro f w s up head known sound
    refine ⟨?_, ?_, ?_, ?_, ?_, ?_⟩
    · intro free tags cp running
      refine ⟨_, doorbellWrite up head known sound, ?_⟩
      have inRange : w.toNat % 128 < (framed f s).mbx.tags.length := by
        rw [show (framed f s).mbx.tags.length = 128 from tags]
        exact Nat.mod_lt _ (by decide)
      obtain ⟨bells, queued, mem, op, evt⟩ := ringBell_running (s := framed f s) running inRange
      rw [doorbell_free (s := framed f s) free cp]
      exact ⟨rfl, bells, queued, mem, op, evt⟩
    · intro busy
      obtain ⟨tags, bells⟩ := tagBusy_tags (w.toNat % 128) (framed f s)
      refine ⟨_, doorbellWrite up head known sound, ?_⟩
      rw [doorbell_busy (s := framed f s) busy]
      exact ⟨rfl, tags, bells⟩
    · intro running none_ within
      refine ⟨framed f s, rfl, ?_⟩
      rw [cqHeadWrite_eq up head known sound, headWrite_within (s := framed f s) running none_ within]
    · intro none_ beyond
      obtain ⟨code, kept, tags, sticky⟩ := headWrite_beyond (s := framed f s) none_ beyond
      refine ⟨_, cqHeadWrite_eq up head known sound, ?_, kept, tags, sticky⟩
      rw [code]
      rfl
    · refine ⟨_, irqStatusClear_eq up head known sound, ?_⟩
      exact ⟨rfl, rfl, rfl, rfl, rfl, rfl⟩
    · intro running
      obtain ⟨cur, other, vlog, plog⟩ := setCur_cursors s.evt.logSel
        (min (w.toNat % 65536) (logOf s s.evt.logSel).length) (framed f s)
      refine ⟨_, evtCursorWrite_eq up head known sound running, ?_⟩
      exact ⟨cur, other, rfl, vlog, plog⟩
  · intro f s up head known noErr
    refine ⟨?_, ?_, ?_, ?_, ?_, ?_⟩
    · intro clocked
      refine ⟨_, errCntRead up head known noErr, ?_⟩
      rw [clocked]
      exact ⟨rfl, rfl, rfl⟩
    · intro clocked
      refine ⟨_, portStatusRead up head known noErr, ?_⟩
      rw [clocked]
      exact ⟨rfl, rfl, rfl, rfl⟩
    · intro cut
      refine ⟨_, errCntRead up head known noErr, ?_⟩
      rw [cut]
      exact framed_but_port f s
    · refine ⟨_, ptLoRead_latched up head known noErr, ?_⟩
      rw [readsDone_ptLo]
      exact ⟨rfl, rfl, rfl, rfl⟩
    · intro clocked
      obtain ⟨port, cursor⟩ := readDone_data7_cursor
        (respond 0 ((List.range 8).map (fun k => BitVec.ofNat 32 (evtDataWord s k))) (framed f s))
      refine ⟨_, evtDataRead_eq up head known noErr clocked, ?_, cursor⟩
      rw [port]
      rfl
    · intro idle reached
      refine ⟨_, setposLoRead_eq up head known idle reached, ?_⟩
      exact ⟨rfl, rfl⟩
  · intro p k s
    rfl
  · intro f s up head known
    refine ⟨?_, ?_, ?_⟩
    · intro standby
      exact ⟨framed f s, rfl,
        fun sound => congrArg Host.Outcome.next (resetWrite_ordered (kind := .plain) up head known standby rfl sound),
        fun sound => congrArg Host.Outcome.next (resetWrite_ordered (kind := .bist) up head known standby rfl sound),
        fun sound => congrArg Host.Outcome.next (resetWrite_ordered (kind := .recovery) up head known standby rfl sound)⟩
    · intro k n c hk other sound command
      obtain ⟨hn, e⟩ := resetCommand_eq s command
      rw [resetWrite_refused up head known hk hn (resetOrdered_other _ hk hn other) sound, if_pos other] at e
      exact ⟨respond 0 [] (framed f s), e, framed_but_port f s, rfl⟩
    · intro n c run sound command
      obtain ⟨hn, e⟩ := resetCommand_eq s command
      rw [resetWrite_refused up head known (by decide) hn (resetOrdered_run _ run) sound, if_neg (by decide)] at e
      refine ⟨_, e, ?_, ?_, ?_, rfl⟩
      · simp [framed]
      · simpa [framed] using run
      · simp [framed]

end Sys2Proof.Laws
end

section
/-! HB_GD_SELECT always names a die (R20), and what an access to the registers of the selected die does. -/

namespace Sys2Proof.Laws
open Sys2Proof Sys2Proof.Machine Sys2Proof.Safety

variable {s t : State}

/-! ## The resets of HB and the writes of the selector -/

/-- HB_GD_SELECT names a die. -/
def Selected (s : State) : Prop := 2 ≤ s.gdSelect ∧ s.gdSelect < 8

/-- A command after which HB_GD_SELECT names a die. -/
def Selects (o : Host.Outcome State Fault Refusal) : Prop := ∀ t, o = .next t → Selected t

theorem selects_ok (h : Selected s) : Selects (ok s) := fun t e => by cases e; exact h

theorem Selected.of_steady (h : Selected s) (e : steady false t = steady false s) : Selected t := by
  have same : t.gdSelect = s.gdSelect := congrArg Steady.sel e
  rw [Selected, same]
  exact h

theorem SelKept.selects {o : Host.Outcome State Fault Refusal} (k : SelKept s o) (h : Selected s) : Selects o :=
  fun t e => h.of_steady (k t e)

/-- HB's reset selects the first die. -/
theorem selected_hbReset (s : State) : Selected (hbReset s) := by
  unfold hbReset
  refine Selected.of_steady ?_ (resetCtls_steady _ _)
  change 2 ≤ 2 ∧ 2 < 8
  decide

theorem selected_packageReset (kind : ResetKind) (s : State) : Selected (packageReset kind s) :=
  (selected_hbReset (fcReset (GdPos.all.foldl (fun s p => gdReset p s) (intoBoot (endFuse true s))))).of_steady
    (by simp [packageReset])

theorem selected_insoleRetry (s : State) : Selected (insoleRetry s) := selected_packageReset _ _

theorem selected_hbDown (s : State) : Selected (hbDown s) :=
  (selected_hbReset (endFuse false s)).of_steady (by simp [hbDown])

theorem selects_execLockoutEnter {d rail mv retained} (h : Selected s) : Selects (execLockoutEnter d rail mv retained s) := by
  refine selects_ok ?_
  dsimp only
  split
  · exact h
  · cases d with
    | hb =>
      exact (selected_hbDown (addCause 0
        { s with thm := { s.thm with shd := upd s.thm.shd Die.hb.id (fun _ => none) } })).of_steady (by simp)
    | fc => exact h.of_steady (by simp)
    | gd p => exact h.of_steady (by simp)

theorem selects_execThermalShutdownEnter {d temp} (h : Selected s) : Selects (execThermalShutdownEnter d temp s) := by
  cases d
  all_goals
    refine selects_ok ?_
    dsimp only
    split
    · exact h
  case hb => exact selected_hbDown _
  all_goals exact h.of_steady (by simp)

theorem selects_execNresetAssert (h : Selected s) : Selects (execNresetAssert s) := by
  refine selects_ok ?_
  split
  · exact h
  · exact (selected_packageReset .plain { s with gd := s.gd.mapPos (dieOrder s .pi) }).of_steady (by simp)

/-! ## The boot -/

theorem selected_failStep {n detail} (h : Selected s) : Selected (failStep n detail s) := by
  unfold failStep
  split
  · exact selected_insoleRetry s
  · exact h.of_steady (by simp)

/-- A boot step selects as its own part does. -/
theorem selected_bootStep {i n f} {r : Bool × State} (hf : ∀ s, Selected s → Selected (f s).2) (h : Selected r.2) :
    Selected (bootStep i n f r).2 := by
  have begun : ∀ s, steady false s = steady false r.2 → Selected (f s).2 := fun s e => hf s (h.of_steady e)
  unfold bootStep
  dsimp only
  split
  · exact h
  · split
    · exact h.of_steady (by simp)
    · split
      · exact h.of_steady (by simp)
      · have done := begun (journalSet n 1 0 { r.2 with boot := { r.2.boot with step := n } }) (by simp)
        split
        case h_5 => exact selected_failStep done
        case h_6 | h_7 => exact done
        all_goals exact done.of_steady (by simp)

/-- A boot step whose part leaves the selector. -/
theorem selected_bootStep_of_steady {i n f} {r : Bool × State} (hf : ∀ s, steady false (f s).2 = steady false s)
    (h : Selected r.2) : Selected (bootStep i n f r).2 :=
  selected_bootStep (fun s hs => hs.of_steady (hf s)) h

theorem selected_step02 (h : Selected s) : Selected (step02 s).2 := by
  unfold step02
  extract_lets trial boot s₁ first s₂ s₃ s₄ boot₄ s₅
  split
  · exact h.of_steady (by simp)
  · have h₂ : Selected s₂ := h.of_steady (by simp [s₂, s₁])
    have h₃ : Selected s₃ := h₂.of_steady (by simp [s₃])
    have h₄ : Selected s₄ := h₃.of_steady (by simp [s₄])
    split
    · exact h₂.of_steady (by simp)
    · split
      · exact h₄.of_steady (by simp)
      · split
        · exact selected_insoleRetry _
        · exact h₃.of_steady (by simp [s₅])

theorem selected_bootRest {i k links expired} {r : Bool × State} (h : Selected r.2) :
    Selected (bootRest i k links expired r).2 := by
  unfold bootRest
  extract_lets r₅ r₇ r₉ rB rD rE
  have h₅ : Selected r₅.2 := by
    simp only [r₅]
    split
    · exact selected_bootStep_of_steady (step05_steady i) (selected_bootStep_of_steady (step04_steady i expired) h)
    · exact selected_bootStep_of_steady (by simp) (selected_bootStep_of_steady (fun _ => rfl) h)
  have h₇ : Selected r₇.2 :=
    selected_bootStep_of_steady (step07_steady i) (selected_bootStep_of_steady step06_steady h₅)
  have h₉ : Selected r₉.2 :=
    selected_bootStep_of_steady step09_steady (selected_bootStep_of_steady (step08_steady i) h₇)
  have hB : Selected rB.2 :=
    selected_bootStep_of_steady (step0B_steady i) (selected_bootStep_of_steady (step0A_steady i) h₉)
  have hD : Selected rD.2 :=
    selected_bootStep_of_steady (step0D_steady i) (selected_bootStep_of_steady (step0C_steady i) hB)
  have hE : Selected rE.2 := selected_bootStep_of_steady (step0E_steady i) hD
  split
  · exact hE.of_steady (by simp)
  · exact hE

theorem selected_bootFrom03 {i k} {r : Bool × State} (h : Selected r.2) : Selected (bootFrom03 i k r).2 := by
  unfold bootFrom03
  extract_lets links r₃
  have h₃ : Selected r₃.2 := by
    refine selected_bootStep_of_steady (fun s => ?_) h
    split
    · exact step03_steady i s
    · rfl
  split
  · split
    · exact h₃.of_steady (by simp)
    · exact h₃
  · exact selected_bootRest h₃

theorem selected_bootFrom01 {i k} (h : Selected s) : Selected (bootFrom01 i k s).2 := by
  unfold bootFrom01
  extract_lets hist r₁ r₂
  have h₁ : Selected r₁.2 :=
    selected_bootStep_of_steady (step01_steady i hist) (h.of_steady (openBoot_steady k i.rot s))
  have h₂ : Selected r₂.2 := selected_bootStep (fun _ => selected_step02) h₁
  split
  · exact h₂
  · exact selected_bootFrom03 h₂

theorem selected_bootField {i} (h : Selected s) : Selected (bootField i s).2 :=
  selected_bootFrom03 (h.of_steady (by simp))

theorem selects_execBoot {i} (h : Selected s) : Selects (execBoot i s) := by
  refine selects_ok ?_
  split
  · exact h
  · split
    · dsimp only
      split
      · exact selected_bootField h
      · exact selected_bootFrom01 h
    · split
      · exact h
      · split
        · exact selected_bootFrom03 h
        · split
          · exact selected_bootRest h
          · exact h

theorem selects_execGdWaitTimeout {i} (h : Selected s) : Selects (execGdWaitTimeout i s) := by
  refine selects_ok ?_
  split
  · exact h
  · split
    · exact selected_bootRest h
    · exact h

theorem selects_execTrialBootTimeout (h : Selected s) : Selects (execTrialBootTimeout s) := by
  refine selects_ok ?_
  split
  · exact selected_insoleRetry s
  · exact h

/-! ## The host port -/

theorem selected_gdSelectWrite {w} (h : Selected s) : Selected (gdSelectWrite w s) := by
  unfold gdSelectWrite
  split
  · exact h
  · next named => exact ⟨Nat.not_lt.1 named, Nat.mod_lt _ (by decide)⟩

theorem selected_resetCtrl {w} (h : Selected s) : Selected (resetCtrl w s) := by
  unfold resetCtrl
  extract_lets rst s₁
  have h₁ : Selected s₁ := h.of_steady (by simp [s₁])
  split
  · exact (selected_packageReset _ s₁).of_steady (addCause_steady _ _)
  · exact h₁.of_steady (by simp)

theorem selected_writeHb {a w} (h : Selected s) : Selected (writeHb a w s).2 := by
  unfold writeHb
  split
  case h_1 => exact selected_gdSelectWrite h
  case h_3 => exact selected_resetCtrl h
  case h_16 =>
    dsimp only
    split
    · exact h.of_steady (by simp)
    · exact h
  all_goals exact h.of_steady (by simp)

theorem selected_writeWords {a l} (h : Selected s) : Selected (writeWords a l s).2 := by
  induction l generalizing a s with
  | nil => exact h
  | cons w r ih => exact ih (selected_writeHb h)

theorem selected_doWrite {addr data} (h : Selected s) : Selected (doWrite addr data s) := by
  have written := selected_writeWords (a := addr) (l := data) h
  unfold doWrite
  split
  · exact h.of_steady (by simp)
  · split
    · exact h.of_steady (by simp)
    · split
      · exact h.of_steady (by simp)
      · split
        · dsimp only
          split
          · exact written
          · exact written.of_steady (by simp)
        · exact h.of_steady (by simp)

/-- A write frame selects as what it writes does. -/
theorem selected_regWrite (f addr data) (h : Selected s) : Selected (regWrite f addr data s) := by
  unfold regWrite frame
  split
  · exact h
  · extract_lets s₁ port s₂
    have h₁ : Selected s₁ := h.of_steady (by simp [s₁])
    have h₂ : Selected s₂ := h₁.of_steady (by simp [s₂])
    split
    · exact h₁.of_steady (by simp)
    · split
      · exact h₁.of_steady (by simp)
      · split
        · exact h₂.of_steady (by simp)
        · split
          · exact h₂.of_steady (by simp)
          · exact selected_doWrite h₂

/-! ## Every command and every step -/

/-- Every command leaves HB_GD_SELECT at a die: the writes of the register and the resets of HB choose one, and the rest
leave it. -/
theorem selects_exec (c : Instr) (h : Selected s) : Selects (exec c s) := by
  cases c with
  | regRead => exact (selKept_execRegRead _ _ _ _).selects h
  | regWrite => exact selects_ok (selected_regWrite _ _ _ h)
  | eyeletWrite => exact (selKept_execEyeletWrite _ _ _ _ _).selects h
  | eyeletRead => exact (selKept_execEyeletRead _ _ _ _).selects h
  | cqRead => exact (selKept_execCqRead _ _ _ _).selects h
  | hello => exact (selKept_execHello _ _ _ _).selects h
  | portFallback => exact (selKept_execPortFallback _).selects h
  | frameStall => exact (selKept_execFrameStall _ _ _ _ _ _).selects h
  | frameTruncated => exact (selKept_execFrameTruncated _ _ _ _ _).selects h
  | fieldAccessReply => exact (selKept_execFieldAccessReply _ _ _).selects h
  | waitTimeout => exact (selKept_execWaitTimeout _).selects h
  | doorbell => exact selects_ok (selected_regWrite _ _ _ h)
  | cqHeadWrite => exact selects_ok (selected_regWrite _ _ _ h)
  | irqStatusClear => exact selects_ok (selected_regWrite _ _ _ h)
  | rcRegisterRead => exact (selKept_execRcRegisterRead _ _ _).selects h
  | ptLoRead => exact (selKept_execPtLoRead _ _).selects h
  | setposLoRead => exact (selKept_execSetposLoRead _ _).selects h
  | evtDataRead => exact (selKept_execEvtDataRead _ _).selects h
  | evtCursorWrite => exact selects_ok (selected_regWrite _ _ _ h)
  | gdSelectWrite => exact selects_ok (selected_regWrite _ _ _ h)
  | resetCtrlPackageReset => exact selects_ok (selected_regWrite _ _ _ h)
  | resetCtrlBistReset => exact selects_ok (selected_regWrite _ _ _ h)
  | resetCtrlRecoveryReset => exact selects_ok (selected_regWrite _ _ _ h)
  | commandAdmission => exact (selKept_execCommandAdmission _).selects h
  | commandStep => exact (selKept_execCommandStep _ _).selects h
  | fieldSideReply => exact (selKept_execFieldSideReply _ _).selects h
  | irqCoalescingTimeout => exact (selKept_execIrqCoalescingTimeout _).selects h
  | nop => exact (selKept_execNop _ _).selects h
  | cancel => exact (selKept_execCancel _ _ _).selects h
  | paramRead => exact (selKept_execParamRead _ _).selects h
  | paramWrite => exact (selKept_execParamWrite _ _).selects h
  | lastConfirmWrite => exact (selKept_execLastConfirmWrite _ _).selects h
  | tableCommitWrite => exact (selKept_execTableCommitWrite _ _).selects h
  | paramDesc => exact (selKept_execParamDesc _ _).selects h
  | blockRead => exact (selKept_execBlockRead _ _).selects h
  | blockWrite => exact (selKept_execBlockWrite _ _).selects h
  | store => exact (selKept_execStore _ _).selects h
  | restoreDefaults => exact (selKept_execRestoreDefaults _ _).selects h
  | precharge => exact (selKept_execPrecharge _ _).selects h
  | enable => exact (selKept_execEnable _ _).selects h
  | stop => exact (selKept_execStop _ _).selects h
  | faultAck => exact (selKept_execFaultAck _ _).selects h
  | discharge => exact (selKept_execDischarge _ _).selects h
  | shutdown => exact (selKept_execShutdown _ _).selects h
  | senseCal => exact (selKept_execSenseCal _ _).selects h
  | fbRestart => exact (selKept_execFbRestart _ _ _).selects h
  | gdDiag => exact (selKept_execGdDiag _ _).selects h
  | contactorCheck => exact (selKept_execContactorCheck _ _).selects h
  | snapshot => exact (selKept_execSnapshot _ _).selects h
  | moveAbs => exact (selKept_execMoveAbs _ _).selects h
  | moveRel => exact (selKept_execMoveRel _ _).selects h
  | velTarget => exact (selKept_execVelTarget _ _).selects h
  | torqueTarget => exact (selKept_execTorqueTarget _ _).selects h
  | home => exact (selKept_execHome _ _).selects h
  | segLoad => exact (selKept_execSegLoad _ _).selects h
  | segExec => exact (selKept_execSegExec _ _).selects h
  | lastCompute => exact (selKept_execLastCompute _ _).selects h
  | lastImageRead => exact (selKept_execLastImageRead _ _).selects h
  | fwStageBegin => exact (selKept_execFwStageBegin _ _).selects h
  | fwStageData => exact (selKept_execFwStageData _ _).selects h
  | fwStageEnd => exact (selKept_execFwStageEnd _ _ _).selects h
  | fwActivate => exact (selKept_execFwActivate _ _).selects h
  | eventRead => exact (selKept_execEventRead _ _).selects h
  | eventClear => exact (selKept_execEventClear _ _).selects h
  | scrubRange => exact (selKept_execScrubRange _ _).selects h
  | memTest => exact (selKept_execMemTest _ _).selects h
  | canTx => exact (selKept_execCanTx _ _).selects h
  | canRxRead => exact (selKept_execCanRxRead _ _).selects h
  | canFilterLoad => exact (selKept_execCanFilterLoad _ _).selects h
  | canBusOn => exact (selKept_execCanBusOn _ _).selects h
  | canRateDetect => exact (selKept_execCanRateDetect _ _).selects h
  | canBufWrite => exact (selKept_execCanBufWrite _ _).selects h
  | leLockstepMismatch => exact (selKept_execLeLockstepMismatch _ _ _).selects h
  | lePairPersistent => exact (selKept_execLePairPersistent _ _).selects h
  | cpLockstepMismatch => exact (selKept_execCpLockstepMismatch _).selects h
  | cpRestartDone => exact (selKept_execCpRestartDone _).selects h
  | cpPairPersistent => exact (selKept_execCpPairPersistent _).selects h
  | crystalClockFault => exact (selKept_execCrystalClockFault _).selects h
  | referenceClockLost => exact (selKept_execReferenceClockLost _).selects h
  | pllClockFault => exact (selKept_execPllClockFault _ _).selects h
  | laneErrorLimit => exact (selKept_execLaneErrorLimit _ _ _ _).selects h
  | laneTrainingDone => exact (selKept_execLaneTrainingDone _ _ _ _).selects h
  | linkLost => exact (selKept_execLinkLost _ _).selects h
  | gdLinkLost => exact (selKept_execGdLinkLost _ _).selects h
  | hbLinkLoss => exact (selKept_execHbLinkLoss _).selects h
  | heelReceived => exact (selKept_execHeelReceived _ _ _).selects h
  | heelReport => exact (selKept_execHeelReport _ _ _ _).selects h
  | heldOrderRelease => exact (selKept_execHeldOrderRelease _ _).selects h
  | compareSetReceived => exact (selKept_execCompareSetReceived _ _ _).selects h
  | ptDisciplineExchange => exact (selKept_execPtDisciplineExchange _ _ _).selects h
  | ptOffsetWarning => exact (selKept_execPtOffsetWarning _ _).selects h
  | barrierFailed => exact (selKept_execBarrierFailed _).selects h
  | snapshotLatch => exact (selKept_execSnapshotLatch _).selects h
  | lockoutEnter => exact selects_execLockoutEnter h
  | lockoutLeave => exact (selKept_execLockoutLeave _ _ _ _ _ _).selects h
  | vfPowerFailWarning => exact (selKept_execVfPowerFailWarning _).selects h
  | nresetAssert => exact selects_execNresetAssert h
  | nresetRelease => exact (selKept_execNresetRelease _).selects h
  | boot => exact selects_execBoot h
  | gdWaitTimeout => exact selects_execGdWaitTimeout h
  | trialBootTimeout => exact selects_execTrialBootTimeout h
  | highSideTrainTimeout => exact (selKept_execHighSideTrainTimeout _).selects h
  | shutdownDrainEnd => exact (selKept_execShutdownDrainEnd _ _ _ _ _).selects h
  | samplingTrigger => exact (selKept_execSamplingTrigger _ _).selects h
  | pathAConversion => exact (selKept_execPathAConversion _ _ _).selects h
  | overcurrentTrip => exact (selKept_execOvercurrentTrip _ _).selects h
  | overvoltageTrip => exact (selKept_execOvervoltageTrip _ _).selects h
  | pathComparisonWindow => exact (selKept_execPathComparisonWindow _).selects h
  | comparisonFailed => exact (selKept_execComparisonFailed _ _).selects h
  | crossCheckVerdict => exact (selKept_execCrossCheckVerdict _ _).selects h
  | sumCheckFailed => exact (selKept_execSumCheckFailed _ _).selects h
  | vdcDisagreement => exact (selKept_execVdcDisagreement _).selects h
  | vdcArbitrationTimeout => exact (selKept_execVdcArbitrationTimeout _).selects h
  | terminalImplausible => exact (selKept_execTerminalImplausible _ _).selects h
  | openInput => exact (selKept_execOpenInput _ _).selects h
  | stuckChannel => exact (selKept_execStuckChannel _ _).selects h
  | pathBOverload => exact (selKept_execPathBOverload _ _).selects h
  | overvoltageWarning => exact (selKept_execOvervoltageWarning _).selects h
  | overvoltageWarningClear => exact (selKept_execOvervoltageWarningClear _).selects h
  | undervoltage => exact (selKept_execUndervoltage _).selects h
  | housekeepingRound => exact (selKept_execHousekeepingRound _ _).selects h
  | referenceOutOfTolerance => exact (selKept_execReferenceOutOfTolerance _ _).selects h
  | bandgapDisagreement => exact (selKept_execBandgapDisagreement _).selects h
  | transducerSupplyFault => exact (selKept_execTransducerSupplyFault _ _).selects h
  | hkAdcSuspect => exact (selKept_execHkAdcSuspect _ _).selects h
  | calibrationComplete => exact (selKept_execCalibrationComplete _ _).selects h
  | quadratureTransition => exact (selKept_execQuadratureTransition _ _ _ _ _).selects h
  | illegalLimitExceeded => exact (selKept_execIllegalLimitExceeded _ _).selects h
  | indexLatch => exact (selKept_execIndexLatch _ _).selects h
  | indexFaultCheck => exact (selKept_execIndexFaultCheck _).selects h
  | hallStateChange => exact (selKept_execHallStateChange _ _ _).selects h
  | hallStateInvalid => exact (selKept_execHallStateInvalid _ _).selects h
  | resolverAmplitudeFault => exact (selKept_execResolverAmplitudeFault _).selects h
  | resolverTrackingLost => exact (selKept_execResolverTrackingLost _).selects h
  | resolverExcitationFault => exact (selKept_execResolverExcitationFault _).selects h
  | ssiFrameDecoded => exact (selKept_execSsiFrameDecoded _ _).selects h
  | ssiFrameAbort => exact (selKept_execSsiFrameAbort _ _).selects h
  | ssiStaleLimit => exact (selKept_execSsiStaleLimit _).selects h
  | wireFault => exact (selKept_execWireFault _ _ _).selects h
  | encoderSupplyFault => exact (selKept_execEncoderSupplyFault _).selects h
  | sourceDisagreement => exact (selKept_execSourceDisagreement _).selects h
  | frozenSource => exact (selKept_execFrozenSource _ _).selects h
  | oe0Valid => exact (selKept_execOe0Valid _).selects h
  | oe1Valid => exact (selKept_execOe1Valid _).selects h
  | residualDisagreement => exact (selKept_execResidualDisagreement _).selects h
  | observerRejoin => exact (selKept_execObserverRejoin _ _).selects h
  | startMeasurementEnd => exact (selKept_execStartMeasurementEnd _).selects h
  | ascSettleEnd => exact (selKept_execAscSettleEnd _).selects h
  | catchLockCheck => exact (selKept_execCatchLockCheck _).selects h
  | reacquisitionTimeout => exact (selKept_execReacquisitionTimeout _).selects h
  | awlSequenceEnd => exact (selKept_execAwlSequenceEnd _ _).selects h
  | blockCommutation => exact (selKept_execBlockCommutation _).selects h
  | crossingMissed => exact (selKept_execCrossingMissed _).selects h
  | blockStartTimeout => exact (selKept_execBlockStartTimeout _).selects h
  | sixStepChange => exact (selKept_execSixStepChange _).selects h
  | tableCommitCopy => exact (selKept_execTableCommitCopy _ _).selects h
  | loopModeChange => exact (selKept_execLoopModeChange _).selects h
  | currentDeviation => exact (selKept_execCurrentDeviation _).selects h
  | voltageLimitHeld => exact (selKept_execVoltageLimitHeld _).selects h
  | disturbedPredictionLimit => exact (selKept_execDisturbedPredictionLimit _).selects h
  | speedDeviation => exact (selKept_execSpeedDeviation _).selects h
  | overspeed => exact (selKept_execOverspeed _).selects h
  | followingError => exact (selKept_execFollowingError _).selects h
  | dampingClamped => exact (selKept_execDampingClamped _).selects h
  | pePlan => exact (selKept_execPePlan _).selects h
  | targetReached => exact (selKept_execTargetReached _).selects h
  | switchInputChange => exact (selKept_execSwitchInputChange _ _ _).selects h
  | switchDebounced => exact (selKept_execSwitchDebounced _ _).selects h
  | switchChatter => exact (selKept_execSwitchChatter _ _).selects h
  | switchChatterEnd => exact (selKept_execSwitchChatterEnd _ _).selects h
  | homingTimeout => exact (selKept_execHomingTimeout _).selects h
  | standstill => exact (selKept_execStandstill _).selects h
  | standstillAction => exact (selKept_execStandstillAction _).selects h
  | legEdgeDecision => exact (selKept_execLegEdgeDecision _ _).selects h
  | compareSetsMissedTwice => exact (selKept_execCompareSetsMissedTwice _ _).selects h
  | echoReceived => exact (selKept_execEchoReceived _ _ _ _).selects h
  | delayLineCalibration => exact (selKept_execDelayLineCalibration _ _ _).selects h
  | bootstrapRefresh => exact (selKept_execBootstrapRefresh _ _).selects h
  | bootstrapChargePulse => exact (selKept_execBootstrapChargePulse _).selects h
  | legLossRampEnd => exact (selKept_execLegLossRampEnd _).selects h
  | gateEdge => exact (selKept_execGateEdge _ _).selects h
  | profileEnd => exact (selKept_execProfileEnd _ _).selects h
  | didtTrip => exact (selKept_execDidtTrip _ _ _ _).selects h
  | desatTrip => exact (selKept_execDesatTrip _ _ _ _).selects h
  | softTurnOffEnd => exact (selKept_execSoftTurnOffEnd _ _).selects h
  | gateVoltageFault => exact (selKept_execGateVoltageFault _ _ _ _ _).selects h
  | ntcConversion => exact (selKept_execNtcConversion _ _ _).selects h
  | moduleTempWarning => exact (selKept_execModuleTempWarning _ _).selects h
  | moduleOvertemperature => exact (selKept_execModuleOvertemperature _ _).selects h
  | diagnosticComplete => exact (selKept_execDiagnosticComplete _ _).selects h
  | outputSlotVote => exact (selKept_execOutputSlotVote _ _ _ _ _).selects h
  | resyncCopyDone => exact (selKept_execResyncCopyDone _ _).selects h
  | resyncRendezvous => exact (selKept_execResyncRendezvous _ _ _).selects h
  | weltSelfTest => exact (selKept_execWeltSelfTest _ _ _ _ _).selects h
  | checkerDisagreement => exact (selKept_execCheckerDisagreement _ _ _).selects h
  | hashSlot => exact (selKept_execHashSlot _ _ _ _).selects h
  | laneFault => exact (selKept_execLaneFault _ _).selects h
  | degradedGraceExpiry => exact (selKept_execDegradedGraceExpiry _).selects h
  | unintendedTorque => exact (selKept_execUnintendedTorque _).selects h
  | currentBoundExceeded => exact (selKept_execCurrentBoundExceeded _).selects h
  | torqueDeficit => exact (selKept_execTorqueDeficit _).selects h
  | setpointOutOfBound => exact (selKept_execSetpointOutOfBound _).selects h
  | hkWatchdogExpiry => exact (selKept_execHkWatchdogExpiry _).selects h
  | stoInputChange => exact (selKept_execStoInputChange _ _ _).selects h
  | stoFilterChange => exact (selKept_execStoFilterChange _ _).selects h
  | stoStatusPeriodic => exact (selKept_execStoStatusPeriodic _).selects h
  | stoStatusReceived => exact (selKept_execStoStatusReceived _).selects h
  | stoDiscrepancy => exact (selKept_execStoDiscrepancy _).selects h
  | sdsPiReplacement => exact (selKept_execSdsPiReplacement _).selects h
  | ss1EnvelopeExceeded => exact (selKept_execSs1EnvelopeExceeded _).selects h
  | ss1Standstill => exact (selKept_execSs1Standstill _).selects h
  | ss1Timeout => exact (selKept_execSs1Timeout _).selects h
  | smsExceeded => exact (selKept_execSmsExceeded _).selects h
  | slsExceeded => exact (selKept_execSlsExceeded _).selects h
  | brakeReleaseDelay => exact (selKept_execBrakeReleaseDelay _).selects h
  | brakeDemand => exact (selKept_execBrakeDemand _).selects h
  | brakeTestPulse => exact (selKept_execBrakeTestPulse _ _).selects h
  | brakeTestPulseEnd => exact (selKept_execBrakeTestPulseEnd _ _).selects h
  | brakeFeedbackMismatch => exact (selKept_execBrakeFeedbackMismatch _ _ _).selects h
  | contactorFeedbackChange => exact (selKept_execContactorFeedbackChange _ _ _).selects h
  | contactorCheckDue => exact (selKept_execContactorCheckDue _ _).selects h
  | prechargeWeldCheckEnd => exact (selKept_execPrechargeWeldCheckEnd _).selects h
  | prechargeTargetReached => exact (selKept_execPrechargeTargetReached _).selects h
  | prechargeTimeout => exact (selKept_execPrechargeTimeout _).selects h
  | fcLossHoldExpiry => exact (selKept_execFcLossHoldExpiry _).selects h
  | dischargeResistorFailed => exact (selKept_execDischargeResistorFailed _).selects h
  | dischargeWindingFailed => exact (selKept_execDischargeWindingFailed _).selects h
  | dischargeComplete => exact (selKept_execDischargeComplete _).selects h
  | safeMessageReceived => exact (selKept_execSafeMessageReceived _ _ _).selects h
  | safeMessageDeadline => exact (selKept_execSafeMessageDeadline _).selects h
  | safeStatusTransmit => exact (selKept_execSafeStatusTransmit _ _ _).selects h
  | canFrameReceived => exact (selKept_execCanFrameReceived _ _ _).selects h
  | canFrameFiltering => exact (selKept_execCanFrameFiltering _ _).selects h
  | canAttemptEnd => exact (selKept_execCanAttemptEnd _ _ _ _).selects h
  | canTxDeadline => exact (selKept_execCanTxDeadline _ _ _ _).selects h
  | canErrorFlag => exact (selKept_execCanErrorFlag _ _ _ _).selects h
  | canRecessiveIdle => exact (selKept_execCanRecessiveIdle _ _).selects h
  | canRecoveryDone => exact (selKept_execCanRecoveryDone _ _).selects h
  | canOnTimeout => exact (selKept_execCanOnTimeout _ _).selects h
  | canDetectWindowEnd => exact (selKept_execCanDetectWindowEnd _ _).selects h
  | referenceMessageDue => exact (selKept_execReferenceMessageDue _).selects h
  | referenceMessageReceived => exact (selKept_execReferenceMessageReceived _ _).selects h
  | timeMasterTimeout => exact (selKept_execTimeMasterTimeout _).selects h
  | networkTimeLost => exact (selKept_execNetworkTimeLost _).selects h
  | eccCorrection => exact (selKept_execEccCorrection _ _ _ _ _).selects h
  | eccUncorrectable => exact (selKept_execEccUncorrectable _ _ _ _ _ _).selects h
  | scrubRead => exact (selKept_execScrubRead _ _ _ _ _).selects h
  | scrubPassLate => exact (selKept_execScrubPassLate _ _ _).selects h
  | mergeBufferFlush => exact (selKept_execMergeBufferFlush _ _ _ _ _ _).selects h
  | rowMigration => exact (selKept_execRowMigration _ _ _ _).selects h
  | gdLatchCheck => exact (selKept_execGdLatchCheck _ _ _ _).selects h
  | periodicMemoryTest => exact (selKept_execPeriodicMemoryTest _).selects h
  | memoryTestBlock => exact (selKept_execMemoryTestBlock _ _ _).selects h
  | sensorBroken => exact (selKept_execSensorBroken _ _).selects h
  | temperatureWarning => exact (selKept_execTemperatureWarning _ _).selects h
  | temperatureWarningClear => exact (selKept_execTemperatureWarningClear _ _).selects h
  | temperatureStopLevel => exact (selKept_execTemperatureStopLevel _ _).selects h
  | thermalShutdownEnter => exact selects_execThermalShutdownEnter h
  | thermalShutdownLeave => exact (selKept_execThermalShutdownLeave _ _ _ _ _ _).selects h
  | shutdownSensorDisagree => exact (selKept_execShutdownSensorDisagree _ _).selects h
  | recordArrival => exact (selKept_execRecordArrival _).selects h
  | fcRecordQueueRoom => exact (selKept_execFcRecordQueueRoom _).selects h
  | persistentLogWrite => exact (selKept_execPersistentLogWrite _ _).selects h
  | tapBypass => exact (selKept_execTapBypass _).selects h
  | tapIdcode => exact (selKept_execTapIdcode _).selects h
  | tapSamplePreload => exact (selKept_execTapSamplePreload _).selects h
  | tapExtest => exact (selKept_execTapExtest _).selects h
  | dbgChal => exact (selKept_execDbgChal _).selects h
  | dbgResp => exact (selKept_execDbgResp _ _).selects h
  | dbgAccess => exact (selKept_execDbgAccess _).selects h
  | tapReset => exact (selKept_execTapReset _).selects h
  | cpCheckpoint => exact (selKept_execCpCheckpoint _).selects h
  | stoPathTestEnd => exact (selKept_execStoPathTestEnd _ _ _).selects h
  | gdLogicPowerLost => exact (selKept_execGdLogicPowerLost _ _).selects h
  -- UNSEAL (R480) alone is left: its constructor's name is a word of Lean's own.
  | _ => exact (selKept_execUnseal _ _).selects h

theorem selected_step (h : Selected s) (e : step s = .next t) : Selected t := by
  unfold step at e
  split at e
  case h_1 =>
    cases e
    exact h
  case h_2 c r _ => exact selects_exec c (s := { s with pending := r }) h t e

/-! ## Access to the selected die -/

/-- The write of HB_GD_SELECT (R20). -/
theorem gdSelectWrite_eq {f : Frame} {w : Word} (up : portUp s = true) (head : headOk f = true) (known : kindOk f = true)
    (sound : dataOk f [w] = true) (running : inRom s = false) :
    exec (.gdSelectWrite f w) s = .next (respond 0 [] (gdSelectWrite w.toNat (framed f s))) :=
  congrArg Host.Outcome.next (regWrite_hb up head known sound rfl rfl rfl (.inl running))

theorem gdSelectWrite_gdSelect (w : Nat) (s : State) :
    (gdSelectWrite w s).gdSelect = (if w % 8 < 2 then s.gdSelect else w % 8) ∧
      { gdSelectWrite w s with gdSelect := s.gdSelect } = s := by
  unfold gdSelectWrite
  split <;> exact ⟨rfl, rfl⟩

@[simp] theorem ofId_id (p : GdPos) : GdPos.ofId? p.id = some p := by
  cases p <;> rfl

/-- The die selected by its number. -/
theorem selGd_of_id {p : GdPos} (selected : s.gdSelect = p.id) : selGd s = p := by
  rw [selGd, selected, ofId_id]
  rfl

/-- A read of one register of the selected die begins an access to that die, none being in flight. -/
theorem regRead_gd {f : Frame} {p : GdPos} {addr : Nat} (up : portUp s = true) (head : headOk f = true)
    (known : kindOk f = true) (inWindow : windowOk addr 1 = true) (gd : (rangeOf addr).1 = .gd)
    (registered : (readGd s p addr).isSome = true) (selected : s.gdSelect = p.id) (reached : fieldDown s .gd p = false)
    (idle : s.port.access = none) : exec (.regRead f addr 1) s = .next { framed f s with
      port := { (framed f s).port with access := some ⟨false, addr, 1, [], p, now s⟩, dropAccess := false } } := by
  have die : selGd (framed f s) = p := selGd_of_id selected
  have listed : noReg (framed f s) addr 1 = false := by
    have word : (readReg (framed f s) p addr).isNone = false := by
      rw [readReg, gd, ← Option.not_isSome, show (readGd (framed f s) p addr).isSome = true from registered]
      rfl
    simp [noReg, addrsFrom, die, word]
  refine congrArg Host.Outcome.next ((regRead_passed up head known inWindow).trans ?_)
  calc doRead f addr 1 (framed f s)
    _ = beginAccess false addr 1 [] (framed f s) := by
      simp [doRead, listed, gd]
    _ = _ := by
      rw [beginAccess_idle (s := framed f s) idle (by rw [gd, die]; exact reached), die]
      rfl

theorem readLatch_gd (a : Nat) (s : State) : (readLatch a s).gd = s.gd := by
  unfold readLatch
  split <;> rfl

/-- What the end of a read does leaves the response and the dies. -/
theorem readDone_resp (a : Nat) (s : State) : (readDone a s).port.resp = s.port.resp ∧ (readDone a s).gd = s.gd := by
  unfold readDone
  split
  case h_7 | h_8 => split <;> exact ⟨rfl, rfl⟩
  case h_9 =>
    dsimp only
    split <;> exact ⟨rfl, rfl⟩
  all_goals exact ⟨rfl, rfl⟩

/-- An access to a die's register is answered with that die's word. -/
theorem fieldAccessReply_gd {p : GdPos} {addr k : Nat} (access : s.port.access = some ⟨false, addr, 1, [], p, k⟩)
    (waiting : s.port.dropAccess = false) (gd : (rangeOf addr).1 = .gd) (reached : fieldDown s .gd p = false) :
    ∃ u, u.gd = s.gd ∧ exec (.fieldAccessReply true false) s = .next (readDone addr
      (respond 0 [BitVec.ofNat 32 ((readGd s p addr).getD 0)] u)) := by
  refine ⟨readLatch addr { s with port := { s.port with access := none, dropAccess := false } }, readLatch_gd _ _, ?_⟩
  have up : ¬fieldDown { s with port := { s.port with access := none, dropAccess := false } } (rangeOf addr).1 p = true := by
    rw [gd, show fieldDown { s with port := { s.port with access := none, dropAccess := false } } .gd p = false from reached]
    decide
  have word : readReg { s with port := { s.port with access := none, dropAccess := false } } p addr = readGd s p addr := by
    rw [readReg, gd]
    rfl
  rw [← word]
  change execFieldAccessReply true false s = _
  unfold execFieldAccessReply
  rw [access]
  refine congrArg Host.Outcome.next ((if_neg up).trans ?_)
  rw [waiting]
  rfl

/-- Settles O57: the selector is left at a die by every command, and an access keeps the die it began with. -/
theorem dieSelector : Obligations.DieSelector := by
  unfold Obligations.DieSelector
  refine ⟨rfl, fun s => rfl, ?_, ?_, ofId_id, ?_, ?_⟩
  · intro f w s up head known sound running
    obtain ⟨select, rest⟩ := gdSelectWrite_gdSelect w.toNat (framed f s)
    exact ⟨_, gdSelectWrite_eq up head known sound running, select, rfl,
      congrArg (fun u : State => { u with port := s.port }) rest⟩
  · intro s t below above e
    exact (selected_step ⟨above, below⟩ e).symm
  · intro f p addr s up head known inWindow gd registered selected reached idle
    exact ⟨_, regRead_gd up head known inWindow gd registered selected reached idle, rfl, rfl⟩
  · intro p addr k s access waiting gd reached
    obtain ⟨u, dies, e⟩ := fieldAccessReply_gd access waiting gd reached
    obtain ⟨resp, kept⟩ := readDone_resp addr (respond 0 [BitVec.ofNat 32 ((readGd s p addr).getD 0)] u)
    exact ⟨_, e, resp, kept.trans dies⟩

end Sys2Proof.Laws
end

section
/-! The enable command, the charge pulses, the sampling trigger, the delay lines and the off-state diagnostic (R54, R106,
R335, R341, R342, R384, R427). -/

namespace Sys2Proof.Laws
open Sys2Proof Sys2Proof.Machine Sys2Proof.Safety

/-! ## Enabling -/

/-- The measurement before control keeps the operating state and the command. -/
theorem startMeasure_spec (s : State) : (startMeasure s).op = s.op ∧ (startMeasure s).obs.enableTag = s.obs.enableTag ∧
    (startMeasure s).mod.charging = s.mod.charging ∧ (startMeasure s).mbx = s.mbx := by
  unfold startMeasure
  split <;> exact ⟨rfl, rfl, rfl, rfl⟩

/-- RUN is entered for the command on `i` by the measurement (R54, R207). -/
theorem enterRun_spec (i : Nat) (s : State) : (enterRun i s).op.state = .run ∧ (enterRun i s).op.prev = s.op.state ∧
    (enterRun i s).obs.enableTag = some i ∧ (enterRun i s).mod.charging = false ∧ (enterRun i s).mbx.rr = s.mbx.rr := by
  unfold enterRun
  dsimp only
  obtain ⟨op, tag, charging, mbx⟩ := startMeasure_spec { changeState .run 0 s with
    mod := { (changeState .run 0 s).mod with charging := false, pattern := 0 }
    loop := { (changeState .run 0 s).loop with mode := parN (changeState .run 0 s) P.loopMode }
    obs := { (changeState .run 0 s).obs with enableTag := some i }
    pe := { (changeState .run 0 s).pe with reached := false, ended := false } }
  rw [op, tag, charging, mbx]
  exact ⟨changeState_op_state _ _ _, changeState_op_prev _ _ _, rfl, rfl, changeState_mbx_rr _ _ _⟩

section
variable {i : Nat} {s : State} (may : canStart s i 0x21 = true) (ready : s.op.state = .ready)
  (free : s.op.stoActive = false) (idle : enableBusy (start i s) = false) (sound : enableFault (start i s) = none)
  (inRange : enableRange (start i s) = none)
include may ready free idle sound inRange

theorem enable_charging (boots : (bootstrap (start i s) && !highTrained (start i s)) = true) :
    exec (.enable i) s = .next { start i s with
      mod := { s.mod with charging := true, pattern := 6, chargeAt := s.pt.ns, pulseAt := s.pt.ns }
      obs := { s.obs with enableTag := some i }
      mbx := { (start i s).mbx with rr := s.mbx.rr ++ [i] } } := by
  have state : ¬((start i s).op.state != .ready || (start i s).op.stoActive) = true := by
    simp [start, ready, free]
  refine congrArg Host.Outcome.next (longStep_inl (u := { start i s with
    mod := { s.mod with charging := true, pattern := 6, chargeAt := s.pt.ns, pulseAt := s.pt.ns }
    obs := { s.obs with enableTag := some i } }) may ?_)
  rw [if_neg state, if_neg (by simp [idle]), sound, inRange]
  exact if_pos boots

theorem enable_running (settled : (bootstrap (start i s) && !highTrained (start i s)) = false) :
    exec (.enable i) s = .next { enterRun i (start i s) with
      mbx := { (enterRun i (start i s)).mbx with rr := (enterRun i (start i s)).mbx.rr ++ [i] } } := by
  have state : ¬((start i s).op.state != .ready || (start i s).op.stoActive) = true := by
    simp [start, ready, free]
  refine congrArg Host.Outcome.next (longStep_inl may ?_)
  rw [if_neg state, if_neg (by simp [idle]), sound, inRange]
  exact if_neg (by simp [settled])

end

/-! ## Charge pulses and refresh -/

section
variable {i : Nat} {s : State} (charging : s.mod.charging = true) (ready : s.op.state = .ready)
  (powered : s.supply.fcLock = false) (tag : s.obs.enableTag = some i) (quiet : ∀ p : Phase, (s.gd.get p.hi).cmpFail = 0)
include charging ready powered tag quiet

/-- While the pulses run and every self-test passed, the start goes on or the low sides are pulsed (R342). -/
theorem bootstrapChargePulse_eq : exec .bootstrapChargePulse s = .next (if highTrained s then enterRun i s
    else if s.mod.pulseAt ≤ now s then { s with
      gd := s.gd.mapPos (fun p g => chargeDie s p g)
      mod := { s.mod with pulseAt := s.mod.pulseAt + parN s P.modBsChargePeriod * 1000 } }
    else s) := by
  have guard : ¬(!s.mod.charging || s.op.state != .ready || s.supply.fcLock) = true := by
    simp [charging, ready, powered]
  have passed : ¬(Phase.all.any (fun p => (s.gd.get p.hi).cmpFail != 0)) = true := by
    simp [quiet]
  change execBootstrapChargePulse s = _
  unfold execBootstrapChargePulse
  rw [if_neg guard, tag]
  exact congrArg Host.Outcome.next (if_neg passed)

end

/-- A refresh due again gives its pulse and records nothing (R341). -/
theorem bootstrapRefresh_again {p : Phase} {s : State} (boots : bootstrap s = true) (up : s.mod.up = true)
    (control : controlled s = true) (run : parN s P.modBsRefreshN ≤ s.mod.bsRun.get p) (leg : s.heel.legs.get p = false)
    (order : s.heel.fc = none) (again : s.mod.bsDue.get p = true) : exec (.bootstrapRefresh p) s = .next { s with
      mod := { s.mod with
        bsRun := s.mod.bsRun.set p 0, bsDue := s.mod.bsDue.set p true, refresh := 2
        refreshLeg := s.mod.refreshLeg.set p true
        legs := s.mod.legs.set p (.edge (some false) (s.mod.h - refreshHalf s - parN s P.modDt)) } } := by
  have guard : (bootstrap s && s.mod.up && controlled s && decide (parN s P.modBsRefreshN ≤ s.mod.bsRun.get p) &&
      !s.heel.legs.get p && s.heel.fc.isNone) = true := by
    simp [boots, up, control, run, leg, order]
  refine congrArg Host.Outcome.next ((if_pos guard).trans ?_)
  rw [again]
  rfl

/-! ## The sampling trigger -/

/-- What equal readings of both parts say. -/
theorem steady_true_iff {s t : State} : steady true t = steady true s ↔ t.gdSelect = s.gdSelect ∧ t.pt = s.pt ∧
    t.sense.seq = s.sense.seq ∧ t.sense.stamp = s.sense.stamp ∧ t.sense.codeA = s.sense.codeA ∧ t.sense.hk = s.sense.hk ∧
    t.mod.up = s.mod.up ∧ t.mod.half = s.mod.half := by
  simp [steady, steadyOf]

/-- The carrier turns: the half period counts on in the other direction, and the sample set is the one before. -/
theorem carrierTurn_spec (s : State) : (carrierTurn s).1.mod.up = !s.mod.up ∧
    (carrierTurn s).1.mod.half = s.mod.half + 1 ∧ (carrierTurn s).1.pt = s.pt ∧ (carrierTurn s).1.sense = s.sense := by
  unfold carrierTurn
  exact ⟨rfl, rfl, rfl, rfl⟩

theorem ptNow_of_pt {s t : State} (h : t.pt = s.pt) : ptNow t = ptNow s := by
  unfold ptNow
  rw [h]

/-- The sample set takes the next number, the present stamp and the codes of path A (R106). -/
theorem senseUpdate_spec (uvA clkB dist switching allHigh on) (s : State) :
    steady true (senseUpdate uvA clkB dist switching allHigh on s) = steady true { s with sense := { s.sense with
      seq := (s.sense.seq + 1) % 2 ^ 32, stamp := ptNow s
      codeA := (List.range 12).map (fun c => codeOfUv (nth uvA c 0)) } } := by
  have fed := foldl_steady (all := true) (List.range 12) s fun s c => feedClks_steady c (ptNow s) (nth clkB c []) s
  unfold senseUpdate
  dsimp only
  generalize (List.range 12).foldl (fun s c => feedClks c (ptNow s) (nth clkB c []) s) s = u at fed ⊢
  obtain ⟨sel, pt, seq, -, -, hk, up, half⟩ := steady_true_iff.1 fed
  simp [sel, pt, seq, hk, up, half, ptNow]

/-- After the sample set nothing of an update touches the clock of the next (R106). -/
theorem samplingTrigger_steady (x : Sample) {s : State} (powered : s.supply.fcLock = false) :
    ∃ t, exec (.samplingTrigger x) s = .next t ∧ t.sense.seq = (s.sense.seq + 1) % 2 ^ 32 ∧ t.sense.stamp = ptNow s ∧
      t.sense.codeA = (List.range 12).map (fun c => codeOfUv (nth x.uvA c 0)) ∧ t.mod.up = (!s.mod.up) ∧
      t.mod.half = s.mod.half + 1 ∧ t.pt = s.pt := by
  obtain ⟨turned, halves, pt, sense⟩ := carrierTurn_spec { s with thm := { s.thm with trims := s.thm.trimNext } }
  have off : ¬s.supply.fcLock = true := by simp [powered]
  refine ⟨_, congrArg Host.Outcome.next (if_neg off), ?_⟩
  dsimp only
  generalize carrierTurn { s with thm := { s.thm with trims := s.thm.trimNext } } = turn at turned halves pt sense ⊢
  obtain ⟨u, rep⟩ := turn
  dsimp only at turned halves pt sense ⊢
  have set := senseUpdate_spec x.uvA x.clkB rep.dist (controlled s) rep.allHigh rep.on u
  generalize senseUpdate x.uvA x.clkB rep.dist (controlled s) rep.allHigh rep.on u = v at set ⊢
  have whole : steady true (pairsCycle (smUpdate (flaggedUpdate (observersEnd (selectBands (modUpdate (legLossCheck
      (runLoops (obsUpdate (fbUpdate x (diesTurn v))))))))) (runProfile (observersEnd (selectBands (modUpdate (legLossCheck
      (runLoops (obsUpdate (fbUpdate x (diesTurn v))))))))))) = steady true v := by simp
  obtain ⟨-, samePt, seq, stamp, codeA, -, up, half⟩ := steady_true_iff.1 (whole.trans set)
  rw [samePt, seq, stamp, codeA, up, half]
  refine ⟨?_, ?_, rfl, turned, halves, pt⟩
  · rw [sense]
  · exact ptNow_of_pt pt

/-! ## Delay lines -/

/-- Clock periods that a delay line spans at `d`, in ps. -/
def linePeriod : Die → Nat
  | .fc => 4000
  | _ => 5000

/-- A span more than 3 % off the clock period is marked, and the F3 event 0x4821 once (R335). -/
theorem delayLineCalibration_beyond {d : Die} {n : Nat} {s : State} (notHb : d ≠ .hb) (up : dieDown s d = false)
    (off : 100 * n < 97 * linePeriod d ∨ 103 * linePeriod d < 100 * n) (first : bitOf s.mod.calFail d.id = false) :
    exec (.delayLineCalibration d n) s = .next (detect .fc 0x4821 3 [(d.id : Int), (n : Int)]
      { s with mod := { s.mod with calFail := s.mod.calFail ||| 2 ^ d.id } }) := by
  have guard : ¬(d == .hb || dieDown s d) = true := by simp [notHb, up]
  have beyond : 3 * linePeriod d < 100 * (n - linePeriod d + (linePeriod d - n)) := by omega
  refine congrArg Host.Outcome.next ((if_neg guard).trans ((if_pos beyond).trans ?_))
  rw [first]
  rfl

/-- A span within 3 % of the clock period clears the die's mark (R335). -/
theorem delayLineCalibration_within {d : Die} {n : Nat} {s : State} (notHb : d ≠ .hb) (up : dieDown s d = false)
    (low : 97 * linePeriod d ≤ 100 * n) (high : 100 * n ≤ 103 * linePeriod d) :
    exec (.delayLineCalibration d n) s = .next { s with mod := { s.mod with
      calFail := if bitOf s.mod.calFail d.id then s.mod.calFail - 2 ^ d.id else s.mod.calFail } } := by
  have guard : ¬(d == .hb || dieDown s d) = true := by simp [notHb, up]
  have within : ¬3 * linePeriod d < 100 * (n - linePeriod d + (linePeriod d - n)) := by omega
  exact congrArg Host.Outcome.next ((if_neg guard).trans (if_neg within))

/-! ## The off-state diagnostic -/

/-- GD_DIAG begins for the command on `i`; nothing but the dies and the recorder is touched (R384). -/
theorem startDiag_spec (i : Nat) (s : State) : (startDiag i false s).diag = some ⟨i, false, s.pt.ns⟩ ∧
    (startDiag i false s).op.state = s.op.state ∧ (startDiag i false s).mbx.rr = s.mbx.rr := by
  unfold startDiag
  dsimp only
  split
  · exact ⟨record_diag _ _ _ _ _, record_op_state _ _ _ _ _, record_mbx_rr _ _ _ _ _⟩
  · exact ⟨rfl, rfl, rfl⟩

theorem gdDiag_starts {i : Nat} {s : State} (may : canStart s i 0x32 = true) (standby : s.op.state = .standby)
    (idle : s.diag = none) : exec (.gdDiag i) s = .next { startDiag i false (start i s) with
      mbx := { (startDiag i false (start i s)).mbx with rr := (startDiag i false (start i s)).mbx.rr ++ [i] } } := by
  have state : ¬(!([OpState.standby, .ready, .safeHold].contains (start i s).op.state)) = true := by
    simp [start, standby]
  refine congrArg Host.Outcome.next (longStep_inl may ((if_neg state).trans (if_neg ?_)))
  simp [start, idle]

/-- A die outside the diagnostic that failed nothing. -/
def Clean (g : GdDie) : Prop := g.diagMode = 0 ∧ g.cmpFail = 0 ∧ g.pairs = [15, 15, 15, 15]

theorem judgeDie_of_clean {s : State} {p : GdPos} {m : DiagMeas} {g : GdDie} (h : Clean g) : judgeDie s p m g = g := by
  obtain ⟨mode, -, -⟩ := h
  simp [judgeDie, mode]

theorem diagNs_of_clean {s : State} {p : GdPos} {m : DiagMeas} (h : Clean (s.gd.get p)) : diagNs s p m = 0 := by
  obtain ⟨mode, -, -⟩ := h
  simp [diagNs, die, mode]

theorem diagRecords_of_clean {s : State} {p : GdPos} {m : DiagMeas} (h : Clean (s.gd.get p)) : diagRecords p m s = s := by
  obtain ⟨mode, -, pairs⟩ := h
  unfold diagRecords
  simp [die, mode, pairs, List.range, List.range.loop, nth]

theorem diagFailed_of_clean {s : State} (clean : ∀ p, Clean (s.gd.get p)) : diagFailed s = false := by
  have dies : s.gd.list = GdPos.all.map s.gd.get := rfl
  have quiet : ∀ p, ((s.gd.get p).cmpFail != 0 ||
      (s.gd.get p).pairs.any (fun x => decide (2 ≤ x) && decide (x ≤ 5))) = false := by
    intro p
    obtain ⟨-, fail, pairs⟩ := clean p
    rw [fail, pairs]
    rfl
  unfold diagFailed
  rw [dies, List.any_map]
  exact List.any_eq_false.2 fun p _ => Bool.eq_false_iff.1 (quiet p)

/-- The dies as the verdicts leave them, when every one is clean. -/
theorem judged_of_clean {s u : State} (m : GdPos → DiagMeas) (clean : ∀ p, Clean (s.gd.get p)) :
    s.gd.mapPos (fun p g => judgeDie u p (m p) g) = s.gd := by
  have same : ∀ p, judgeDie u p (m p) (s.gd.get p) = s.gd.get p := fun p => judgeDie_of_clean (clean p)
  change Six.mk (judgeDie u .uh (m .uh) (s.gd.get .uh)) (judgeDie u .ul (m .ul) (s.gd.get .ul))
    (judgeDie u .vh (m .vh) (s.gd.get .vh)) (judgeDie u .vl (m .vl) (s.gd.get .vl))
    (judgeDie u .wh (m .wh) (s.gd.get .wh)) (judgeDie u .wl (m .wl) (s.gd.get .wl)) = s.gd
  simp only [same]
  rfl

/-- The records of the verdicts, when every die is clean. -/
theorem recorded_of_clean {s : State} (m : GdPos → DiagMeas) (clean : ∀ p, Clean (s.gd.get p)) :
    GdPos.all.foldl (fun t p => diagRecords p (m p) t) s = s := by
  have same : ∀ p, diagRecords p (m p) s = s := fun p => diagRecords_of_clean (clean p)
  simp only [GdPos.all, List.foldl_cons, List.foldl_nil, same]

/-- The modes that a clean end reports, when every die is clean. -/
theorem diagMask_of_clean {s : State} (clean : ∀ p, Clean (s.gd.get p)) :
    GdPos.all.foldl (fun a p => a + (die s p).diagMode * 4 ^ (p.id - 2)) 0 = 0 := by
  have mode : ∀ p, (die s p).diagMode = 0 := fun p => (clean p).1
  simp only [GdPos.all, List.foldl_cons, List.foldl_nil, mode, Nat.zero_mul, Nat.add_zero]

/-- With every die clean a diagnostic that GD_DIAG began ends with event 0x4C21 and ST_OK (R384, R390). -/
theorem diagnosticComplete_clean {i k : Nat} {s : State} (running : s.diag = some ⟨i, false, k⟩) (begun : k ≤ s.pt.ns)
    (clean : ∀ p, Clean (s.gd.get p)) (m : List DiagMeas) :
    exec (.diagnosticComplete m) s = .next (answerOk i (record .fc 0x4C21 0 [0] { s with diag := none })) := by
  have ended : ¬(GdPos.all.any fun p => (!false || parOn s (P.gdDiagMode (p.id - 1))) &&
      decide (now s < k + diagNs s p (nth m (p.id - 2) ⟨[], [], [], []⟩))) = true := by
    simp [diagNs_of_clean (clean _), now, begun]
  have judged := judged_of_clean (u := s) (fun p => nth m (p.id - 2) ⟨[], [], [], []⟩) clean
  have rest : ∀ p, Clean (({ s with diag := none } : State).gd.get p) := clean
  change execDiagnosticComplete m s = _
  unfold execDiagnosticComplete
  rw [running]
  dsimp only
  rw [if_neg ended]
  simp only [Bool.not_false, Bool.true_or, if_true]
  rw [judged, recorded_of_clean _ rest, if_neg (Bool.eq_false_iff.1 (diagFailed_of_clean rest)), diagMask_of_clean rest]
  rfl

@[simp] theorem answerOk_gd (i : Nat) (s : State) : (answerOk i s).gd = s.gd :=
  answer_gd i _ s

@[simp] theorem answerOk_diag (i : Nat) (s : State) : (answerOk i s).diag = s.diag := by
  unfold answerOk answer setTag
  split <;> rfl

/-! ## The housekeeping round -/

/-- A new round keeps its codes, its number and the time of its report to the Safety Monitor (R427). -/
theorem housekeepingRound_new {r : HkRound} {s : State} (powered : s.supply.fcLock = false)
    (new : s.thm.round ≠ some (ptNow s / 10000000)) : ∃ t, exec (.housekeepingRound r) s = .next t ∧
      t.sm.hkLast = s.pt.ns ∧ t.sense.hk = (List.range 24).map (hkMean r) ∧ t.thm.round = some (ptNow s / 10000000) := by
  have guard : ¬(s.supply.fcLock || s.thm.round == some (roundNow s)) = true := by
    simp [powered, roundNow, new]
  have inputs : (hkInputs r s).pt = s.pt ∧ (hkInputs r s).sense.hk = (List.range 24).map (hkMean r) := by
    unfold hkInputs
    dsimp only
    split <;> exact ⟨rfl, rfl⟩
  have rest : steady true (trims (shutdownSensors r (thermalRound r (resistorCheck r (hkInputs r s))))) =
      steady true (hkInputs r s) := by
    simp
  obtain ⟨-, pt, -, -, -, hk, -, -⟩ := steady_true_iff.1 rest
  refine ⟨_, congrArg Host.Outcome.next (if_neg guard), ?_, hk.trans inputs.2, ?_⟩
  · exact congrArg (·.ns) (pt.trans inputs.1)
  · exact congrArg (fun n => some (n / 10000000)) (ptNow_of_pt (pt.trans inputs.1))

/-! ## The obligation -/

/-- Settles O40: each clause is the equation of its command under the clause's conditions. -/
theorem enableAndPulses : Obligations.EnableAndPulses := by
  unfold Obligations.EnableAndPulses
  refine ⟨?_, ?_, ?_, ?_, fun x s powered => samplingTrigger_steady x powered, ?_, ?_, ?_, ?_, ?_, ?_,
    fun r s powered new => housekeepingRound_new powered new⟩
  case refine_1 =>
    intro i s may ready free idle sound inRange noBoot
    obtain ⟨run, prev, tag, charging, rr⟩ := enterRun_spec i (start i s)
    have running := enable_running may ready free idle sound inRange (by simp [noBoot])
    exact ⟨_, running, run, prev.trans ready, tag, charging, congrArg (· ++ [i]) rr⟩
  case refine_2 =>
    intro i s may ready free idle sound inRange boot untrained
    exact ⟨_, enable_charging may ready free idle sound inRange (by simp [boot, untrained]), rfl, rfl, rfl⟩
  case refine_3 =>
    intro i s charging ready powered tag dies
    have trained : highTrained s = true := by
      unfold highTrained
      simp [dies]
    rw [bootstrapChargePulse_eq charging ready powered tag fun p => (dies p).1, if_pos trained]
  case refine_4 =>
    intro i s charging ready powered tag quiet untrained due
    rw [bootstrapChargePulse_eq charging ready powered tag quiet, if_neg (by simp [untrained])]
    exact congrArg Host.Outcome.next (if_pos due)
  case refine_5 =>
    intro p n s up off first
    exact delayLineCalibration_beyond (by simp) up off first
  case refine_6 =>
    intro p n s up low high
    exact delayLineCalibration_within (by simp) up low high
  case refine_7 =>
    intro n s up low high
    exact delayLineCalibration_within (by simp) up low high
  case refine_8 =>
    intro p s boots up control run leg order again
    exact ⟨_, bootstrapRefresh_again boots up control run leg order again, rfl, rfl, rfl, rfl⟩
  case refine_9 =>
    intro i s may standby idle
    obtain ⟨diag, op, rr⟩ := startDiag_spec i (start i s)
    exact ⟨_, gdDiag_starts may standby idle, diag, op.trans standby, congrArg (· ++ [i]) rr⟩
  case refine_10 =>
    intro i k s running begun clean
    refine ⟨_, diagnosticComplete_clean running begun clean [], ?_, ?_, rfl⟩
    · rw [answerOk_diag, record_diag]
    · rw [answerOk_gd, record_gd]

end Sys2Proof.Laws
end

section
/-! The fused anti-rollback count SEC_VER (R78, R82). -/

namespace Sys2Proof.Laws
open Sys2Proof Sys2Proof.Machine Sys2Proof.Safety

variable {s t : State}

/-- The fused SEC_VER, not below the present one, and its raise that waits are all that is asked. -/
def Kept.secVer (s : State) : Kept :=
  { queue := s.pending, fused := s.boot.fused, locked := false, rank := 0, mail := false, logs := false, sec := true,
    num := false }

theorem sound_secVer (h : ∀ v, s.boot.raise = some v → s.boot.fused ≤ v) : Sound (.secVer s) s where
  queue := rfl
  wf := nofun
  log := nofun
  count := nofun
  next := nofun
  vol := nofun
  waiting := nofun
  field := nofun
  per := nofun
  fuse _ := le_refl _
  toRaise _ := h
  number := nofun
  lock := nofun
  rank := Nat.zero_le _

/-- Settles O7: a lower bound of the fused SEC_VER, with a raise not below it, is one of the invariants that every step
keeps. -/
theorem secVerNeverFalls : Obligations.SecVerNeverFalls := by
  unfold Obligations.SecVerNeverFalls
  intro s t hs e
  obtain ⟨p, ht⟩ := sound_step (sound_secVer hs) rfl rfl e
  exact ⟨ht.fuse rfl, ht.toRaise rfl⟩

end Sys2Proof.Laws
end

section
/-! The Last and the staging of firmware (R82, R477, R478, R480, R552, R556, R557). -/

namespace Sys2Proof.Laws
open Sys2Proof Sys2Proof.Machine Sys2Proof.Safety

/-! ## One-step commands and their final completion -/

theorem oneStep_of {i op : Nat} {f : State → Result × State} {s : State} (may : canStart s i op = true) :
    oneStep i op f s = finish i (f (start i s)).1 (f (start i s)).2 :=
  if_pos may

/-- `t` is `s` but for the mailbox and the Command Processor's journal. -/
def Mailed (s t : State) : Prop := ∃ mbx cp, t = { s with mbx := mbx, cp := cp }

theorem Mailed.trans {s t u : State} (h : Mailed s t) (k : Mailed t u) : Mailed s u := by
  obtain ⟨mbx, cp, rfl⟩ := h
  obtain ⟨mbx', cp', rfl⟩ := k
  exact ⟨mbx', cp', rfl⟩

theorem mailed_mbx (s : State) (mbx : MbxBlock) : Mailed s { s with mbx := mbx } := ⟨mbx, s.cp, rfl⟩

theorem mailed_setTag (i : Nat) (f : TagInfo → TagInfo) (s : State) : Mailed s (setTag i f s) := ⟨_, _, rfl⟩

theorem mailed_countCq (noIrq : Bool) (s : State) : Mailed s (countCq noIrq s) := by
  unfold countCq
  split
  · exact mailed_mbx s s.mbx
  · exact mailed_mbx s _

/-- A final completion lies in the mailbox and the journal of its tags (R510, R516). -/
theorem mailed_finish (i : Nat) (r : Result) (s : State) : Mailed s (finish i r s) := by
  unfold finish postEntry writeMem
  exact ((((mailed_mbx _ _).trans (mailed_mbx _ _)).trans ((mailed_mbx _ _).trans (mailed_setTag _ _ _))).trans
    (mailed_mbx _ _)).trans (mailed_countCq _ _)

@[simp] theorem finish_boot (i : Nat) (r : Result) (s : State) : (finish i r s).boot = s.boot := by
  obtain ⟨mbx, cp, e⟩ := mailed_finish i r s
  rw [e]

@[simp] theorem countCq_mbx_tags (noIrq : Bool) (s : State) : (countCq noIrq s).mbx.tags = s.mbx.tags := by
  unfold countCq
  split <;> rfl

theorem finish_mbx_tags (i : Nat) (r : Result) (s : State) : (finish i r s).mbx.tags =
    upd s.mbx.tags i (fun t => { t with st := .done, final := some s.mbx.tail, reply := none }) := by
  simp [finish, postEntry, setTag, writeMem]

/-- After its final completion a command is DONE (R510). -/
theorem tag_finish_st {i : Nat} {s : State} (r : Result) (inTable : i < s.mbx.tags.length) :
    (tag (finish i r s) i).st = .done := by
  simp [tag, finish_mbx_tags, nth, upd, inTable]

theorem start_tags_length (i : Nat) (s : State) : (start i s).mbx.tags.length = s.mbx.tags.length := by
  simp [start, setTag, upd]

/-! ## The Last -/

theorem exec_lastCompute_starts {i : Nat} {s : State} (may : canStart s i 0x50 = true) (standby : s.op.state = .standby)
    (idle : s.last.computing = none) : exec (.lastCompute i) s = .next { start i s with
      last := { s.last with computing := some i, pending := 0 }
      mbx := { (start i s).mbx with rr := s.mbx.rr ++ [i] } } := by
  have state : ¬((start i s).op.state != .standby) = true := by simp [start, standby]
  have busy : ¬(start i s).last.computing.isSome = true := by simp [start, idle]
  exact congrArg Host.Outcome.next (longStep_inl (u := { start i s with
    last := { s.last with computing := some i, pending := 0 } }) may ((if_neg state).trans (if_neg busy)))

theorem exec_lastImageRead_inside {i o n : Nat} {s : State} (may : canStart s i 0x51 = true)
    (offset : o = beNat ((payload (start i s) i).take 4)) (length : n = beNat (((payload (start i s) i).drop 4).take 2))
    (short : n ≤ 1008) (inside : o + n ≤ (lastImage (start i s)).length) :
    exec (.lastImageRead i) s =
      .next (finish i ⟨0, 0, ((lastImage (start i s)).drop o).take n⟩ (start i s)) := by
  subst offset length
  have range : ¬(1008 < beNat (((payload (start i s) i).drop 4).take 2) || (lastImage (start i s)).length <
      beNat ((payload (start i s) i).take 4) + beNat (((payload (start i s) i).drop 4).take 2)) = true := by
    simp [short, inside]
  refine congrArg Host.Outcome.next ((oneStep_of may).trans ?_)
  dsimp only
  rw [if_neg range]

/-- UNSEAL with the sealed code in STANDBY below 60 V (R480). -/
theorem exec_unseal_opens {i : Nat} {s : State} (may : canStart s i 0x52 = true) (standby : s.op.state = .standby)
    (low : vdcBelow60 s = true) (idle : s.last.computing = none) (isSealed : s.last.sealed = true)
    (code : beNat (payload (start i s) i) = s.last.code) :
    exec (.unseal i) s = .next (setTag i (fun t => { t with reply := some ⟨0, 0, []⟩ }) (record .hb 0x5373 1 [] { start i s with
      last := { s.last with sealed := false, code := 0 }, op := { s.op with commissioning := true } })) := by
  have state : ¬((start i s).op.state != .standby || !vdcBelow60 (start i s)) = true := by
    change ¬(s.op.state != .standby || !vdcBelow60 s) = true
    simp [standby, low]
  have busy : ¬(start i s).last.computing.isSome = true := by simp [start, idle]
  have isOpen : ¬(!(start i s).last.sealed) = true := by simp [start, isSealed]
  have wrong : ¬(beNat (payload (start i s) i) != (start i s).last.code) = true := by
    change ¬(beNat (payload (start i s) i) != s.last.code) = true
    simp [code]
  refine congrArg Host.Outcome.next ((fieldStep_of may).trans ?_)
  dsimp only
  rw [if_neg state, if_neg busy, if_neg isOpen, if_neg wrong]
  rfl

/-! ## Firmware staging -/

/-- What FW_STAGE_BEGIN of `n` bytes leaves: the slot that is not active erased, staging open (R556). -/
def stageOpened (n : Nat) (s : State) : State :=
  let u := setSlot (!s.boot.active) none s
  { u with id := { u.id with staged := 0 }, boot := { u.boot with stage := some (n, 0), trial := none } }

/-- FW_STAGE_BEGIN of a legal length erases the slot that is not active and opens staging (R556). -/
theorem exec_fwStageBegin_opens {i n : Nat} {s : State} (may : canStart s i 0x60 = true)
    (idle : s.boot.stageVerify = none) (length : n = beNat (payload (start i s) i)) (low : 512 ≤ n) (high : n ≤ 3145728)
    (whole : n % 4 = 0) : exec (.fwStageBegin i) s = .next { stageOpened n (start i s) with
      mbx := { (start i s).mbx with rr := s.mbx.rr ++ [i] } } := by
  subst length
  have busy : ¬(start i s).boot.stageVerify.isSome = true := by simp [start, idle]
  have range : ¬(!between (beNat (payload (start i s) i)) 512 3145728 || beNat (payload (start i s) i) % 4 != 0) = true := by
    simp [between, low, high, whole]
  exact congrArg Host.Outcome.next (longStep_inl (u := stageOpened (beNat (payload (start i s) i)) (start i s)) may
    ((if_neg busy).trans (if_neg range)))

theorem slotOf_setSlot_same (b : Bool) (x : Option ImageHdr) (s : State) : slotOf (setSlot b x s) b = x := by
  cases b <;> rfl

theorem slotOf_setSlot_other (b : Bool) (x : Option ImageHdr) (s : State) :
    slotOf (setSlot (!b) x s) b = slotOf s b := by
  cases b <;> rfl

/-- FW_STAGE_DATA at the next offset is counted (R556). -/
theorem exec_fwStageData_counts {i n g : Nat} {s : State} (may : canStart s i 0x61 = true)
    (idle : s.boot.stageVerify = none) (staging : s.boot.stage = some (n, g))
    (offset : beNat ((payload (start i s) i).take 4) = g)
    (whole : ((payload (start i s) i).length - 4) % 4 = 0 ∨ g + ((payload (start i s) i).length - 4) = n)
    (inside : g + ((payload (start i s) i).length - 4) ≤ n) :
    exec (.fwStageData i) s = .next (finish i ⟨0, 0, []⟩ { start i s with boot := { s.boot with
      stage := some (n, g + ((payload (start i s) i).length - 4)) } }) := by
  have busy : ¬(start i s).boot.stageVerify.isSome = true := by simp [start, idle]
  have isOpen : (start i s).boot.stage = some (n, g) := staging
  have length : ¬(((payload (start i s) i).length - 4) % 4 != 0 && g + ((payload (start i s) i).length - 4) != n) = true := by
    rcases whole with h | h <;> simp [h]
  have next : ¬(g != g || decide (n < g + ((payload (start i s) i).length - 4))) = true := by
    simp [inside]
  refine congrArg Host.Outcome.next ((oneStep_of may).trans ?_)
  dsimp only
  rw [if_neg busy, isOpen]
  dsimp only
  rw [offset, if_neg length, if_neg next]
  rfl

theorem exec_fwStageEnd_verifies {i n : Nat} {h : ImageHdr} {s : State} (may : canStart s i 0x62 = true)
    (idle : s.boot.stageVerify = none) (complete : s.boot.stage = some (n, n)) :
    exec (.fwStageEnd i h) s = .next { start i s with
      boot := { s.boot with stageVerify := some h }
      mbx := { (start i s).mbx with rr := s.mbx.rr ++ [i] } } := by
  have busy : ¬(start i s).boot.stageVerify.isSome = true := by simp [start, idle]
  have isOpen : (start i s).boot.stage = some (n, n) := complete
  refine congrArg Host.Outcome.next (longStep_inl may (u := { start i s with
    boot := { s.boot with stageVerify := some h } }) ?_)
  rw [if_neg busy, isOpen]
  exact if_pos (beq_self_eq_true n)

theorem exec_fwActivate_records {i : Nat} {s : State} (may : canStart s i 0x63 = true) (standby : s.op.state = .standby)
    (staged : s.id.staged ≠ 0) : exec (.fwActivate i) s = .next (finish i ⟨0, 0, []⟩
      (record .hb 0x1033 0 [(bit1 (!s.boot.active) : Int)] { start i s with
        boot := { s.boot with trial := some (!s.boot.active), trialFails := 0 } })) := by
  have state : ¬(!((start i s).op.state == .standby || (start i s).boot.recovery)) = true := by simp [start, standby]
  have empty : ¬((start i s).id.staged == 0) = true := by simp [start, staged]
  refine congrArg Host.Outcome.next ((oneStep_of may).trans ?_)
  dsimp only
  rw [if_neg state, if_neg empty]
  rfl

/-! ## The obligation -/

/-- Settles O51: each command past its refusals, and what its next state holds. -/
theorem lastAndFirmware : Obligations.LastAndFirmware := by
  unfold Obligations.LastAndFirmware
  refine ⟨?_, fun i o n s => exec_lastImageRead_inside, ?_, ?_, fun i n g s => exec_fwStageData_counts, ?_, ?_⟩
  · intro i s may standby idle
    exact ⟨_, exec_lastCompute_starts may standby idle, rfl, rfl⟩
  · intro i s may inTable standby low idle isSealed code
    refine ⟨_, exec_unseal_opens may standby low idle isSealed code, by simp, by simp, ?_⟩
    rw [tag_setTag (by simpa [start_tags_length] using inTable)]
  · intro i n s may idle length low high whole
    exact ⟨_, exec_fwStageBegin_opens may idle length low high whole, rfl, rfl, rfl,
      slotOf_setSlot_same _ none (start i s), slotOf_setSlot_other _ none (start i s)⟩
  · intro i n h s may idle complete
    exact ⟨_, exec_fwStageEnd_verifies may idle complete, rfl, rfl⟩
  · intro i s may inTable standby staged
    refine ⟨_, exec_fwActivate_records may standby staged, ?_, ?_⟩
    · rw [finish_boot, record_boot]
    · exact tag_finish_st _ (by simpa [start_tags_length] using inTable)

end Sys2Proof.Laws
end

section
/-! The boot that is due and the time limits of a boot (R70 to R72, R83, R84, R90, R100). -/

namespace Sys2Proof.Laws
open Sys2Proof Sys2Proof.Machine Sys2Proof.Safety

/-! ## A boot that has stopped -/

/-- A boot that has stopped runs no further step. -/
theorem bootStep_stopped (i : BootIn) (n : Nat) (f : State → StepEnd × State) (s : State) :
    bootStep i n f (false, s) = (false, s) := rfl

theorem bootRest_stopped (i : BootIn) (k : BootKind) (links expired : Bool) (s : State) :
    bootRest i k links expired (false, s) = (false, s) := by
  simp [bootRest, bootStep_stopped]

theorem bootFrom03_stopped (i : BootIn) (k : BootKind) (s : State) : bootFrom03 i k (false, s) = (false, s) := by
  unfold bootFrom03
  dsimp only
  rw [bootStep_stopped, bootRest_stopped]
  exact ite_self _

/-- A boot cut short in a step: its entry started, or left between its two writes (R89). -/
def cutState (half : Bool) (n : Nat) (s : State) : State :=
  let u := { s with boot := { s.boot with step := n } }
  if half then journalPt n u else journalSet n 1 0 u

theorem bootStep_cut {i : BootIn} (f : State → StepEnd × State) (s : State) (cut : i.cut = some 1) :
    bootStep i 0x01 f (true, s) = (false, cutState i.half 0x01 s) := by
  unfold bootStep cutState
  rw [cut]
  cases i.half <;> rfl

/-- A boot cut short in its first step stops there. -/
theorem bootFrom01_cut {i : BootIn} (k : BootKind) (s : State) (cut : i.cut = some 1) :
    bootFrom01 i k s = (false, cutState i.half 0x01 (openBoot k i.rot s)) := by
  unfold bootFrom01
  dsimp only
  rw [bootStep_cut _ _ cut, bootStep_stopped, bootFrom03_stopped]
  exact ite_self _

theorem journalled_journalPt (step : Nat) (s : State) : Journalled s (journalPt step s) := by
  unfold journalPt
  exact journalled_onJournal _ s

theorem journalled_cutState (half : Bool) (n : Nat) (s : State) :
    Journalled { s with boot := { s.boot with step := n } } (cutState half n s) := by
  cases half
  · exact journalled_journalSet n 1 0 _
  · exact journalled_journalPt n _

/-- What a step cut short leaves of an empty journal. -/
theorem insole_cutState {s : State} {number : Nat} {rest : List Journal} (half : Bool) (n : Nat)
    (empty : s.boot.insole = ⟨number, []⟩ :: rest) : (cutState half n s).boot.insole =
      ⟨number, [⟨ptNow s, if half then 0 else n, if half then 0 else 1, 0⟩]⟩ :: rest := by
  cases half
  · simp [cutState, journalSet, journalWord, journalPt, onJournal, stepEntry, empty, upd, ptNow]
  · simp [cutState, journalPt, onJournal, stepEntry, empty, ptNow]

/-- A boot begins: it is counted and opens a journal (R84, R88). -/
theorem openBoot_spec (k : BootKind) (rot : Two Nat) (s : State) : (openBoot k rot s).boot.number = s.boot.number + 1 ∧
    (openBoot k rot s).boot.running = some k ∧ (openBoot k rot s).rst = s.rst ∧ (openBoot k rot s).pt = s.pt ∧
    (openBoot k rot s).op.state = s.op.state ∧
    (openBoot k rot s).boot.insole = ⟨s.boot.number + 1, []⟩ :: s.boot.insole.take 7 := by
  simp [openBoot]

/-- BOOT with a boot due that is not FC's own return (R84). -/
theorem exec_boot_due {k : BootKind} {s : State} (i : BootIn) (powered : s.supply.hbLock = false)
    (high : s.rst.nresetLow = false) (due : s.rst.due = some k) (whole : k ≠ .fieldSide) :
    exec (.boot i) s = .next (bootFrom01 i k { s with rst := { s.rst with due := none } }).2 := by
  have guard : ¬(s.supply.hbLock || s.rst.nresetLow) = true := by simp [powered, high]
  have notField : ¬(k == .fieldSide) = true := by simpa using whole
  change execBoot i s = _
  unfold execBoot
  rw [if_neg guard, due]
  dsimp only
  rw [if_neg notField]
  rfl

/-! ## Time limits of a boot -/

/-- GD_WAIT_TIMEOUT once sys.boot.gd_wait has passed (R84). -/
theorem exec_gdWaitTimeout_passed {k : BootKind} {s : State} (i : BootIn) (running : s.boot.running = some k)
    (waits : s.boot.waitGd = true) (powered : s.supply.hbLock = false)
    (passed : s.boot.waitAt + (bootVal s P.sysBootGdWait).toNat * 1000000 ≤ s.pt.ns) (fcPowered : s.supply.fcLock = false) :
    exec (.gdWaitTimeout i) s = .next (bootRest i k true true (true, s)).2 := by
  have guard : (s.boot.waitGd && decide (s.boot.waitAt + (bootVal s P.sysBootGdWait).toNat * 1000000 ≤ now s) &&
      !s.supply.hbLock && !s.supply.fcLock) = true := by
    simp [waits, powered, fcPowered, now, passed]
  change execGdWaitTimeout i s = _
  unfold execGdWaitTimeout
  rw [running]
  exact congrArg Host.Outcome.next (if_pos guard)

/-- The retry of a trial boot is a package reset after a journal entry (R83). -/
theorem exec_trialBootTimeout_late {s : State} (trial : s.boot.onTrial = true) (inBoot : s.op.state = .boot)
    (noFcWait : s.boot.waitFc = false) (noGdWait : s.boot.waitGd = false) (noBoot : s.rst.due = none)
    (powered : s.supply.hbLock = false) (late : s.boot.since + 2000000000 ≤ s.pt.ns) :
    exec .trialBootTimeout s = .next (insoleRetry s) := by
  have guard : (s.boot.onTrial && s.op.state == .boot && !s.boot.waitFc && !s.boot.waitGd && s.rst.due.isNone &&
      !s.supply.hbLock && decide (s.boot.since + 2000000000 ≤ now s)) = true := by
    simp [trial, inBoot, noFcWait, noGdWait, noBoot, powered, now, late]
  exact congrArg Host.Outcome.next (if_pos guard)

theorem endFuse_trialFails (valid : Bool) (s : State) : (endFuse valid s).boot.trialFails = s.boot.trialFails := by
  unfold endFuse
  split
  · rfl
  · split <;> rfl
  · rfl

/-- FC's reset leaves the count of failed trial boots. -/
theorem fcReset_trialFails (s : State) : (fcReset s).boot.trialFails = s.boot.trialFails := by
  unfold fcReset
  dsimp only
  rw [(resetCtls_eq _ _).choose_spec]

theorem hbReset_trialFails (s : State) : (hbReset s).boot.trialFails = s.boot.trialFails := by
  unfold hbReset
  dsimp only
  rw [(resetCtls_eq _ _).choose_spec]

/-- After a package reset its own boot is due, and the trial boots that failed stay counted (R71, R83). -/
theorem packageReset_boot (kind : ResetKind) (s : State) : (packageReset kind s).rst.due = some .package ∧
    (packageReset kind s).boot.trialFails = s.boot.trialFails := by
  obtain ⟨clk, mem, dies⟩ := diesAt_gdResets (intoBoot (endFuse true s))
  have fcKept := fcReset_trialFails (GdPos.all.foldl (fun s p => gdReset p s) (intoBoot (endFuse true s)))
  have hbKept := hbReset_trialFails (fcReset (GdPos.all.foldl (fun s p => gdReset p s) (intoBoot (endFuse true s))))
  unfold packageReset
  dsimp only
  rw [(closeBarrier_eq _ _).choose_spec]
  refine ⟨rfl, hbKept.trans (fcKept.trans ?_)⟩
  rw [dies]
  exact endFuse_trialFails true s

/-- HIGH_SIDE_TRAIN_TIMEOUT 50 ms after ENABLE with a high-side die untrained (R70). -/
theorem exec_highSideTrainTimeout_late {i : Nat} {s : State} (tag : s.obs.enableTag = some i)
    (charging : s.mod.charging = true) (ready : s.op.state = .ready) (untrained : highTrained s = false)
    (late : s.mod.chargeAt + 50000000 ≤ s.pt.ns) :
    exec .highSideTrainTimeout s = .next (answer i ⟨0x20, 0x1342, []⟩ (record .fc 0x1342 1 [] { s with
      mod := { s.mod with charging := false, pattern := 0 }, obs := { s.obs with enableTag := none } })) := by
  have guard : (s.mod.charging && s.op.state == .ready && !highTrained s &&
      decide (s.mod.chargeAt + 50000000 ≤ now s)) = true := by
    simp [charging, ready, untrained, now, late]
  change execHighSideTrainTimeout s = _
  unfold execHighSideTrainTimeout
  rw [tag]
  exact congrArg Host.Outcome.next (if_pos guard)

end Sys2Proof.Laws
end

section
/-! The end of an orderly shutdown, steps 0x22 to 0x25 (R95 to R97, R99, R100). -/

namespace Sys2Proof.Laws
open Sys2Proof Sys2Proof.Machine Sys2Proof.Safety

/-! ## What a shutdown reads and leaves -/

/-- The part of the state that the shutdown steps decide on. -/
structure ShutPart where
  done : Bool
  step : Nat
  drain : Bool
  raise : Option Nat
  burn : List (Option Repair)
  repairs : List Repair
  weak : List Nat
  work : List (Nat × Int)
  state : OpState

def shutPart (s : State) : ShutPart :=
  ⟨s.boot.shutdownDone, s.boot.step, s.boot.drain, s.boot.raise, s.boot.burn, s.mem.pendingList, s.mem.mramWeak,
    s.par.work, s.op.state⟩

theorem fields_of_shutPart {s : State} {p : ShutPart} (h : shutPart s = p) : s.boot.shutdownDone = p.done ∧
    s.boot.step = p.step ∧ s.boot.drain = p.drain ∧ s.boot.raise = p.raise ∧ s.boot.burn = p.burn ∧
    s.mem.pendingList = p.repairs ∧ s.mem.mramWeak = p.weak ∧ s.par.work = p.work ∧ s.op.state = p.state := by
  subst h
  exact ⟨rfl, rfl, rfl, rfl, rfl, rfl, rfl, rfl, rfl⟩

theorem Recorded.shutPart {s t : State} (h : Recorded s t) : shutPart t = shutPart s := by
  obtain ⟨evt, mc, irq, rfl⟩ := h
  rfl

theorem Journalled.shutPart {s t : State} (h : Journalled s t) : shutPart t = shutPart s := by
  obtain ⟨insole, rfl⟩ := h
  rfl

@[simp] theorem shutPart_record (d : Die) (code cls : Nat) (ps : List Int) (s : State) :
    shutPart (record d code cls ps s) = shutPart s :=
  (recorded_record d code cls ps s).shutPart

@[simp] theorem shutPart_journalSet (step status detail : Nat) (s : State) :
    shutPart (journalSet step status detail s) = shutPart s :=
  (journalled_journalSet step status detail s).shutPart

theorem shutPart_foldl {α : Type} {f : State → α → State} (hf : ∀ s a, shutPart (f s a) = shutPart s) (l : List α)
    (s : State) : shutPart (l.foldl f s) = shutPart s := by
  induction l generalizing s with
  | nil => rfl
  | cons a l ih => exact (ih (f s a)).trans (hf s a)

@[simp] theorem shutPart_finishSt (i status : Nat) (s : State) : shutPart (finishSt i status s) = shutPart s := by
  obtain ⟨mbx, cp, e⟩ := mailed_finish i ⟨status, 0, []⟩ s
  unfold finishSt
  rw [e]
  rfl

/-- Commands that are cancelled touch none of it (R95). -/
@[simp] theorem shutPart_cancelOpen (s : State) : shutPart (cancelOpen s) = shutPart s := by
  have ended := shutPart_foldl (fun s i => shutPart_finishSt i stCancelled s) (openTags s) s
  exact Eq.trans rfl ended

theorem recorded_putP (r : EventRec) (s : State) : Recorded s (putP r s) := by
  unfold putP
  dsimp only
  split
  · exact recorded_evt _ _
  · split
    · exact ((recorded_evt _ _).trans (recorded_noteClass _ _)).trans (recorded_putV _ _)
    · exact recorded_evt _ _

theorem recorded_countTail (s : State) : Recorded s (countTail s) := by
  unfold countTail
  split
  · split
    · exact recorded_evt _ _
    · exact .refl s
  · exact .refl s

/-- Writing the persistent queue is the recorder's own work (R663). -/
@[simp] theorem shutPart_drainLog (s : State) : shutPart (drainLog s) = shutPart s := by
  have counted := (recorded_countTail s).trans (recorded_evt _ { (countTail s).evt with pq := [] })
  exact (shutPart_foldl (fun s r => (recorded_putP r s).shutPart) _ _).trans counted.shutPart

theorem shutPart_retestBlock (bad : List Nat) (s : State) (b : Nat) :
    shutPart (retestBlock bad s b) = shutPart s := by
  unfold retestBlock
  split
  · rfl
  · split
    · exact shutPart_record _ _ _ _ _
    · exact shutPart_record _ _ _ _ _

/-- Step 0x22 leaves no MRAM word to retest (R650). -/
theorem shutPart_step22 (bad : List Nat) (s : State) : shutPart (step22 bad s) = { shutPart s with weak := [] } := by
  have retested := shutPart_foldl (shutPart_retestBlock bad)
    ((scrubOff (drainLog s)).mem.mramWeak.map (fun a => a / 64)).eraseDups (scrubOff (drainLog s))
  have logged : shutPart (scrubOff (drainLog s)) = shutPart s := Eq.trans rfl (shutPart_drainLog s)
  exact congrArg (fun p : ShutPart => { p with weak := [] }) (retested.trans logged)

/-! ## Step 0x23 -/

/-- A raise that is due is among the fuses to burn (R95). -/
theorem raise_in_fuseList (s : State) : s.boot.raise = none ∨ none ∈ fuseList s := by
  unfold fuseList
  cases s.boot.raise with
  | none => exact .inl rfl
  | some v => exact .inr (by simp)

theorem fuseList_length (s : State) : (fuseList s).length ≤ 16 := List.length_take_le _ _

theorem fuseList_congr {s t : State} (raise : t.boot.raise = s.boot.raise)
    (repairs : t.mem.pendingList = s.mem.pendingList) : fuseList t = fuseList s := by
  unfold fuseList
  rw [raise, repairs]

/-- Burning an entry takes it off the list; the entry of SEC_VER ends the raise (R97). -/
theorem shutPart_burnNext {x : Option Repair} {l : List (Option Repair)} (bad : Bool) {s : State}
    (burn : s.boot.burn = x :: l) : ∃ raise repairs, shutPart (burnNext bad s) =
      { shutPart s with burn := l, raise := raise, repairs := repairs } ∧
      (s.boot.raise = none ∨ x = none → raise = none) := by
  cases x with
  | none =>
    refine ⟨none, s.mem.pendingList, ?_, fun _ => rfl⟩
    simp [burnNext, endFuse, burn, shutPart]
  | some r =>
    cases bad with
    | true =>
      refine ⟨s.boot.raise, s.mem.pendingList, ?_, by simp⟩
      simp [burnNext, burn, shutPart]
    | false =>
      refine ⟨s.boot.raise, s.mem.pendingList.filter (· != r), ?_, by simp⟩
      simp [burnNext, endFuse, burn, shutPart]

/-- With every entry burned the list is empty and no raise waits. -/
theorem shutPart_burnAll (bad ks : List Nat) (s : State) (all : ks.length = s.boot.burn.length)
    (due : s.boot.raise = none ∨ none ∈ s.boot.burn) : ∃ repairs,
      shutPart (ks.foldl (fun s k => burnNext (bad.contains k) s) s) =
        { shutPart s with burn := [], raise := none, repairs := repairs } := by
  induction ks generalizing s with
  | nil =>
    have empty : s.boot.burn = [] := List.length_eq_zero_iff.1 all.symm
    have ended : s.boot.raise = none := by simpa [empty] using due
    exact ⟨s.mem.pendingList, by simp [shutPart, empty, ended]⟩
  | cons k ks ih =>
    obtain ⟨x, l, burn⟩ := List.exists_cons_of_length_eq_add_one all.symm
    obtain ⟨raise, repairs, burned, ends⟩ := shutPart_burnNext (bad.contains k) burn
    obtain ⟨-, -, -, raised, rest, -⟩ := fields_of_shutPart burned
    have due' : raise = none ∨ none ∈ l := by
      rw [burn, List.mem_cons] at due
      rcases due with h | h | h
      · exact .inl (ends (.inl h))
      · exact .inl (ends (.inr h.symm))
      · exact .inr h
    obtain ⟨repairs', done⟩ := ih (burnNext (bad.contains k) s) (by rw [rest]; simpa [burn] using all) (by rwa [rest, raised])
    exact ⟨repairs', done.trans (by rw [burned])⟩

theorem shutPart_burnUpTo_all {s : State} (bad : List Nat) (few : s.boot.burn.length ≤ 16)
    (due : s.boot.raise = none ∨ none ∈ s.boot.burn) : ∃ repairs, shutPart (burnUpTo bad 16 s) =
      { shutPart s with burn := [], raise := none, repairs := repairs } :=
  shutPart_burnAll bad _ s (by simp [few]) due

/-! ## Steps 0x24 and 0x25 -/

theorem parN_of_work {s t : State} (h : t.par.work = s.par.work) (k : Nat × Int) : parN t k = parN s k := by
  unfold parN par
  rw [h]

@[simp] theorem shutPart_bistReport (kind fails duration coverage : Nat) (s : State) :
    shutPart (bistReport kind fails duration coverage s) = shutPart s := rfl

@[simp] theorem shutPart_bistBegins (s : State) : shutPart (bistBegins s) = shutPart s := rfl

@[simp] theorem shutPart_shutBist (fails : Nat) (s : State) : shutPart (shutBist fails s) = shutPart s := by
  unfold shutBist
  dsimp only
  split
  · simp
  · rw [shutPart_journalSet, shutPart_foldl (fun s k => shutPart_record _ _ _ _ s), shutPart_bistReport]

theorem shutPart_shutEnd (s : State) : shutPart (shutEnd s) = { shutPart s with done := true, step := 0x25 } := by
  unfold shutEnd
  simp only [shutPart_journalSet, shutPart_drainLog, shutPart_record]
  rfl

/-- Step 0x24 stopped in: it stands there, its entry started. -/
theorem shutPart_shutFrom24_stop (fails : Nat) {s : State} (test : parN s P.sysShutdownBist ≠ 0) :
    shutPart (shutFrom24 fails true s) = { shutPart s with step := 0x24 } := by
  have guard : ¬(parN s P.sysShutdownBist == 0) = true := by simp [test]
  unfold shutFrom24
  rw [if_neg guard]
  exact shutPart_journalSet _ _ _ _

/-- Step 0x24, run or skipped, then the end. -/
theorem shutPart_shutFrom24_end (fails : Nat) (s : State) :
    shutPart (shutFrom24 fails false s) = { shutPart s with done := true, step := 0x25 } := by
  unfold shutFrom24
  split
  · rw [shutPart_shutEnd, shutPart_journalSet]
  · dsimp only
    rw [if_neg Bool.false_ne_true, shutPart_shutEnd, shutPart_shutBist, shutPart_journalSet, shutPart_bistBegins]
    rfl

/-! ## The end of the drain -/

/-- The end of step 0x22: commands cancelled, logs written, weak words retested (R95). -/
def afterRetest (bad : List Nat) (s : State) : State :=
  let u := journalSet 0x21 2 0 (cancelOpen { s with boot := { s.boot with drain := false } })
  journalSet 0x22 2 0 (step22 bad { u with boot := { u.boot with step := 0x22 } })

/-- The start of step 0x23: the fuses to burn are listed (R95). -/
def atFuses (bad : List Nat) (s : State) : State :=
  let u := afterRetest bad s
  journalSet 0x23 1 0 { u with boot := { u.boot with step := 0x23, burn := fuseList u, burnt := 0 } }

theorem shutPart_withStep (n : Nat) (s : State) :
    shutPart { s with boot := { s.boot with step := n } } = { shutPart s with step := n } := rfl

theorem shutPart_withFuses (l : List (Option Repair)) (s : State) :
    shutPart { s with boot := { s.boot with step := 0x23, burn := l, burnt := 0 } } =
      { shutPart s with step := 0x23, burn := l } := rfl

theorem shutPart_afterRetest (bad : List Nat) (s : State) : shutPart (afterRetest bad s) =
    { shutPart s with drain := false, step := 0x22, weak := [] } := by
  unfold afterRetest
  dsimp only
  rw [shutPart_journalSet, shutPart_step22, shutPart_withStep, shutPart_journalSet, shutPart_cancelOpen]
  rfl

theorem shutPart_atFuses (bad : List Nat) (s : State) : shutPart (atFuses bad s) =
    { shutPart s with drain := false, step := 0x23, weak := [], burn := fuseList s } := by
  have retested := shutPart_afterRetest bad s
  obtain ⟨-, -, -, raise, -, repairs, -⟩ := fields_of_shutPart retested
  have listed : fuseList (afterRetest bad s) = fuseList s := fuseList_congr raise repairs
  unfold atFuses
  dsimp only
  rw [shutPart_journalSet, shutPart_withFuses, listed, retested]

/-- The fuse entries burned by the time an operation that cuts the sequence short meets it. -/
def burnedBy (cut : Option (Nat × Nat)) : Nat :=
  match cut with
  | some c => if c.1 == 0x23 then c.2 else 16
  | none => 16

/-- The sequence is met in step 0x24. -/
def cutIn24 (cut : Option (Nat × Nat)) : Bool :=
  match cut with
  | some c => c.1 == 0x24
  | none => false

/-- The sequence from the start of step 0x23, as far as `cut` lets it go. -/
def fromFuses (fails : Nat) (bad : List Nat) (cut : Option (Nat × Nat)) (s : State) : State :=
  let u := burnUpTo bad (burnedBy cut) s
  if u.boot.burn.isEmpty then shutFrom24 fails (cutIn24 cut) (journalSet 0x23 2 0 u) else u

section
variable {s : State} (inShutdown : s.op.state = .shutdown) (notDone : s.boot.shutdownDone = false)
  (drain : s.boot.drain = true) (powered : s.supply.hbLock = false) (high : s.rst.nresetLow = false)
  (ended : draining s = false)
include inShutdown notDone drain powered high ended

/-- SHUTDOWN_DRAIN_END once the drain is over (R95). -/
theorem exec_shutdownDrainEnd_over (n : Nat) (a b : List Nat) (cut : Option (Nat × Nat)) :
    exec (.shutdownDrainEnd n a b cut) s = .next (fromFuses n a cut (atFuses b s)) := by
  have guard : ¬(s.op.state != .shutdown || s.boot.shutdownDone || dieDown s .hb || draining s) = true := by
    simp [inShutdown, notDone, dieDown, powered, high, ended]
  have first : ¬(!s.boot.drain) = true := by simp [drain]
  have step : ¬((atFuses b s).boot.step == 0x24) = true := by
    obtain ⟨-, reached, -⟩ := fields_of_shutPart (shutPart_atFuses b s)
    rw [reached]
    exact Bool.false_ne_true
  refine congrArg Host.Outcome.next ((if_neg guard).trans ?_)
  obtain ⟨u, reached⟩ : ∃ u, atFuses b s = u := ⟨_, rfl⟩
  have stage : (if (!s.boot.drain) = true then s else atFuses b s) = u := (if_neg first).trans reached
  rw [reached] at step ⊢
  delta atFuses afterRetest at stage
  rw [stage]
  refine (if_neg step).trans ?_
  cases cut <;> rfl

end

/-- Met in step 0x23 before the first entry is burned, the sequence stands there. -/
theorem fromFuses_cut23 (n : Nat) (a : List Nat) {u : State} (due : u.boot.burn ≠ []) :
    fromFuses n a (some (0x23, 0)) u = u :=
  if_neg (by simpa [burnUpTo, burnedBy] using due)

/-- With every entry burned the sequence goes on to step 0x24. -/
theorem fromFuses_burned {cut : Option (Nat × Nat)} {u : State} (n : Nat) (a : List Nat) (all : burnedBy cut = 16)
    (few : u.boot.burn.length ≤ 16) (due : u.boot.raise = none ∨ none ∈ u.boot.burn) : ∃ v repairs,
      fromFuses n a cut u = shutFrom24 n (cutIn24 cut) v ∧
      shutPart v = { shutPart u with burn := [], raise := none, repairs := repairs } := by
  obtain ⟨repairs, burned⟩ := shutPart_burnUpTo_all a few due
  obtain ⟨-, -, -, -, emptied, -⟩ := fields_of_shutPart burned
  have empty : (burnUpTo a (burnedBy cut) u).boot.burn.isEmpty = true := by
    rw [all, emptied]
    rfl
  refine ⟨_, repairs, if_pos empty, ?_⟩
  rw [shutPart_journalSet, all, burned]

/-- The whole list of fuses is burned from the end of a drain on. -/
theorem fromFuses_atFuses {cut : Option (Nat × Nat)} (n : Nat) (a b : List Nat) (s : State) (all : burnedBy cut = 16) :
    ∃ v repairs, fromFuses n a cut (atFuses b s) = shutFrom24 n (cutIn24 cut) v ∧
      shutPart v = { shutPart s with drain := false, step := 0x23, weak := [], burn := [], raise := none, repairs := repairs } := by
  have part := shutPart_atFuses b s
  obtain ⟨-, -, -, raise, burn, -⟩ := fields_of_shutPart part
  obtain ⟨v, repairs, runs, left⟩ := fromFuses_burned (u := atFuses b s) n a all (by rw [burn]; exact fuseList_length s)
    (by rw [raise, burn]; exact raise_in_fuseList s)
  exact ⟨v, repairs, runs, left.trans (by rw [part])⟩

/-! ## The obligation -/

/-- Settles O48: each row past its guard; a boot or a shutdown that is cut short stands in the step it has reached. -/
theorem bootAndShutdownEnd : Obligations.BootAndShutdownEnd := by
  unfold Obligations.BootAndShutdownEnd
  refine ⟨fun i k s => exec_boot_due i, ?_, fun i k s => exec_gdWaitTimeout_passed i, ?_,
    fun i s => exec_highSideTrainTimeout_late, ?_, ?_⟩
  case refine_1 =>
    intro i k s powered high due whole cut
    obtain ⟨number, running, rst, pt, state, insole⟩ := openBoot_spec k i.rot { s with rst := { s.rst with due := none } }
    obtain ⟨journals, left⟩ := journalled_cutState i.half 0x01 (openBoot k i.rot { s with rst := { s.rst with due := none } })
    have entry := insole_cutState i.half 0x01 insole
    refine ⟨_, (exec_boot_due i powered high due whole).trans (by rw [bootFrom01_cut k _ cut]), ?_⟩
    refine ⟨?_, ?_, ?_, ?_, ?_, ?_⟩
    · rw [left]
      exact number
    · rw [left]
    · rw [left]
      exact running
    · rw [left]
      exact congrArg RstBlock.due rst
    · rw [left]
      exact state
    · dsimp only
      rw [entry]
      simp [ptNow, pt]
  case refine_2 =>
    intro s trial inBoot noFcWait noGdWait noBoot powered late
    obtain ⟨state, mbx, -, -, -⟩ := packageReset_spec .plain (journalSet s.boot.step 3 0 s)
    obtain ⟨due, fails⟩ := packageReset_boot .plain (journalSet s.boot.step 3 0 s)
    obtain ⟨insole, journal⟩ := journalled_journalSet s.boot.step 3 0 s
    refine ⟨_, exec_trialBootTimeout_late trial inBoot noFcWait noGdWait noBoot powered late, due, state, mbx, fails.trans ?_⟩
    rw [journal]
  case refine_3 =>
    intro n k a b s inShutdown notDone drain powered high ended
    have runs := exec_shutdownDrainEnd_over inShutdown notDone drain powered high ended n a b
    constructor
    · intro due
      obtain ⟨done, step, drained, raise, burn, -⟩ := fields_of_shutPart (shutPart_atFuses b s)
      have stands := fromFuses_cut23 n a (by rwa [burn] : (atFuses b s).boot.burn ≠ [])
      exact ⟨_, (runs _).trans (congrArg _ stands), done.trans notDone, step, burn, drained, raise⟩
    · intro test
      obtain ⟨v, repairs, stands, left⟩ := fromFuses_atFuses (cut := some (0x24, k)) n a b s rfl
      obtain ⟨done, -, -, -, burn, -, -, work, -⟩ := fields_of_shutPart left
      have ordered : parN v P.sysShutdownBist ≠ 0 := by rwa [parN_of_work work]
      obtain ⟨done', step, -, -, burn', -⟩ := fields_of_shutPart (shutPart_shutFrom24_stop n ordered)
      exact ⟨_, (runs _).trans (congrArg _ stands), (done'.trans done).trans notDone, step, burn'.trans burn⟩
  case refine_4 =>
    intro n a b s inShutdown notDone drain powered high ended
    obtain ⟨v, repairs, goesOn, left⟩ := fromFuses_atFuses (cut := none) n a b s rfl
    have runs := exec_shutdownDrainEnd_over inShutdown notDone drain powered high ended n a b none
    obtain ⟨-, -, drained, raise, -, -, weak, -, state⟩ := fields_of_shutPart left
    obtain ⟨done, step, drained', raise', -, -, weak', -, state'⟩ := fields_of_shutPart (shutPart_shutFrom24_end n v)
    exact ⟨_, runs.trans (congrArg _ goesOn), done, step, drained'.trans drained, raise'.trans raise, weak'.trans weak,
      (state'.trans state).trans inShutdown⟩

end Sys2Proof.Laws
end

section
/-! The conversions of the fast channels at the trip logic, the hardware trips and the link warnings (R107, R128 to R132). -/

namespace Sys2Proof.Laws
open Sys2Proof Sys2Proof.Machine Sys2Proof.Safety

/-! ## Conversions -/

/-- What every conversion outside the test source does first: the reading stands and joins its window (R107, R118). -/
def takeReading (c : Nat) (y : Int) (s : State) : State :=
  { s with sense := { s.sense with
    convA := upd s.sense.convA c (fun _ => y)
    winA := upd s.sense.winA c (PathWin.add (ptNow s / 1000000) y) } }

theorem testSource_takeReading (c : Nat) (y : Int) (s : State) : testSource (takeReading c y s) = testSource s := rfl

section
variable {c : Nat} {s : State} (code : Nat) (noTest : testSource s = false)
include noTest

/-- A usable current channel with a trip limit counts a conversion beyond it and restarts on one within (R128, R129). -/
theorem convert_current (current : c < 6) (inUse : lostA s c = false) (limit : 0 < par s P.senseOcTrip)
    (gain : (gainA s c).1 ≠ 0) : convert c code s =
      (let y := scaleA s c (xOfCode code)
       let t := takeReading c y s
       if par s P.senseOcTrip * 65536 < (y.natAbs : Int) then
         { t with sense := { t.sense with ocRun := upd s.sense.ocRun c (fun n => n + 1) } }
       else { t with sense := { t.sense with
         ocRun := upd s.sense.ocRun c (fun _ => 0)
         ocTrip := if bitOf s.sense.ocTrip c then s.sense.ocTrip - 2 ^ c else s.sense.ocTrip } }) := by
  have judged : ¬(lostA s c || par s P.senseOcTrip * 65536 == 0 || (gainA s c).1 == 0) = true := by
    have : par s P.senseOcTrip * 65536 ≠ 0 := by omega
    simp [inUse, this, gain]
  exact (if_neg (by simp [noTest])).trans ((if_pos current).trans (if_neg judged))

/-- A usable link channel counts a conversion above the overvoltage trip (R130). -/
theorem convert_link_beyond (link : c = 6 ∨ c = 7) (inUse : lostA s c = false)
    (beyond : par s P.senseVdcOvTrip * 65536 < scaleA s c (xOfCode code)) : convert c code s =
      (let t := takeReading c (scaleA s c (xOfCode code)) s
       { t with sense := { t.sense with ovRun := upd s.sense.ovRun (c - 6) (fun n => n + 1) } }) := by
  have notCurrent : ¬c < 6 := by omega
  have isLink : c < 8 := by omega
  have judged : ¬lostA s c = true := by simp [inUse]
  exact (if_neg (by simp [noTest])).trans
    ((if_neg notCurrent).trans ((if_pos isLink).trans ((if_neg judged).trans (if_pos beyond))))

/-- A channel past the link channels meets no trip (R107). -/
theorem convert_untripped (other : 8 ≤ c) : convert c code s = takeReading c (scaleA s c (xOfCode code)) s :=
  (if_neg (by simp [noTest])).trans ((if_neg (by omega)).trans (if_neg (by omega)))

end

theorem addTerminal_of_lt {c : Nat} (h : c < 8) (s : State) : addTerminal c s = s :=
  if_neg (by simp [Nat.not_le.2 h])

/-- A reading of a terminal channel joins the mean of the update (R195). -/
theorem addTerminal_terminal (p : Phase) {s : State} (noTest : testSource s = false) :
    addTerminal (8 + p.idx) s = { s with sense := { s.sense with
      vtAcc := upd s.sense.vtAcc p.idx (fun a => (a.1 + nth s.sense.convA (8 + p.idx) 0, a.2 + 1)) } } := by
  cases p <;> exact if_pos (by simp [Phase.idx, noTest])

/-- With FC powered a conversion of a fast channel is taken (R107). -/
theorem exec_pathAConversion_powered {c : Nat} {s : State} (uv : Int) (fast : c < 12) (powered : s.supply.fcLock = false) :
    exec (.pathAConversion c uv) s = .next (addTerminal c (convert c (codeOfUv uv) s)) :=
  congrArg Host.Outcome.next (if_pos (by simp [fast, powered]))

/-! ## Trips -/

/-- Two conversions of a link channel beyond the trip: the order follows the crossover (R130). -/
theorem exec_overvoltageTrip_counted {c : Nat} {s : State} (link : c = 6 ∨ c = 7) (count : 2 ≤ nth s.sense.ovRun (c - 6) 0)
    (fresh : bitOf s.sense.ovTrip (c - 6) = false) (inUse : lostA s c = false) :
    exec (.overvoltageTrip c) s = .next
      (let o := if s.sm.xover then HeelOrder.ascLow else .piSoft
       f4React o 0x2002 (record .fc 0x2002 4 [((c + 1 : Nat) : Int), divRound (nth s.sense.convA c 0) 65536, (sev o : Int)]
        { s with sense := { s.sense with ovTrip := s.sense.ovTrip + 2 ^ (c - 6) } })) :=
  congrArg Host.Outcome.next (if_pos (by simp [link, count, fresh, inUse]))

/-- Settles O28: each conversion by the kind of its channel, each trip and warning by its guard. -/
theorem hardwareTrips : Obligations.HardwareTrips := by
  unfold Obligations.HardwareTrips
  refine ⟨?_, ?_, ?_, ?_, ?_, ?_, ?_, ?_, ?_, ?_⟩
  case refine_1 =>
    intro c uv s current powered noTest inUse limit gain beyond
    rw [exec_pathAConversion_powered uv (by omega) powered, addTerminal_of_lt (by omega),
      convert_current _ noTest current inUse limit gain]
    exact congrArg Host.Outcome.next (if_pos beyond)
  case refine_2 =>
    intro c uv s current powered noTest inUse limit gain within tripped
    rw [exec_pathAConversion_powered uv (by omega) powered, addTerminal_of_lt (by omega),
      convert_current _ noTest current inUse limit gain, if_pos tripped]
    exact congrArg Host.Outcome.next (if_neg (Int.not_lt.2 within))
  case refine_3 =>
    intro c uv s link powered noTest inUse beyond
    rw [exec_pathAConversion_powered uv (by omega) powered, addTerminal_of_lt (by omega),
      convert_link_beyond _ noTest link inUse beyond]
    rfl
  case refine_4 =>
    intro p uv s powered noTest
    have fast : 8 + p.idx < 12 := by cases p <;> decide
    refine ⟨_, exec_pathAConversion_powered uv fast powered, ?_⟩
    rw [convert_untripped _ noTest (Nat.le_add_right 8 _),
      addTerminal_terminal p ((testSource_takeReading _ _ _).trans noTest)]
    exact ⟨rfl, rfl, rfl, rfl, rfl, rfl⟩
  case refine_5 =>
    intro c s current count fresh inUse
    exact congrArg Host.Outcome.next (if_pos (by simp [current, count, fresh, inUse]))
  case refine_6 =>
    intro c s link count fresh inUse above
    rw [exec_overvoltageTrip_counted link count fresh inUse, if_pos above]
    rfl
  case refine_7 =>
    intro c s link count fresh inUse below
    rw [exec_overvoltageTrip_counted link count fresh inUse, if_neg (by simp [below])]
    rfl
  case refine_8 =>
    intro s count fresh
    exact congrArg Host.Outcome.next (if_pos (by simp [count, fresh]))
  case refine_9 =>
    intro s count warned
    exact congrArg Host.Outcome.next (if_pos (by simp [count, warned]))
  case refine_10 =>
    intro u s low stood fresh
    change execUndervoltage s = _
    unfold execUndervoltage
    rw [low]
    exact congrArg Host.Outcome.next (if_pos (by simp [now, stood, fresh]))

end Sys2Proof.Laws
end

section
/-! The comparisons of the fast channels and what they find (R118 to R125). -/

namespace Sys2Proof.Laws
open Sys2Proof Sys2Proof.Machine Sys2Proof.Safety

/-! ## Windows -/

/-- The windows of channel `c` become `a` and `b`. -/
def putWindows (c : Nat) (a b : PathWin) (s : State) : State :=
  { s with sense := { s.sense with winA := upd s.sense.winA c (fun _ => a), winB := upd s.sense.winB c (fun _ => b) } }

/-- A window is judged by its sums, the losses and the limits: what is kept of the windows does not matter (R118). -/
theorem windowCheck_putWindows_failed (c : Nat) (x y : WinAcc) (a b : PathWin) (s : State) :
    (windowCheck c x y (putWindows c a b s)).sense.failed = (windowCheck c x y s).sense.failed := by
  unfold windowCheck
  dsimp only
  rw [apply_ite (fun t : State => t.sense.failed), apply_ite (fun t : State => t.sense.failed)]
  rfl

/-- A channel's windows are judged when both paths have completed the same one (R118). -/
theorem judgeWindow_failed (c : Nat) (s : State) : (judgeWindow s c).sense.failed = s.sense.failed ∨
    ∃ x y, x.no = y.no ∧ ((nth s.sense.winA c .reset).roll (ptNow s / 1000000)).last = some x ∧
      ((nth s.sense.winB c .reset).roll ((ptNow s - groupDelay (parN s P.senseBOsr)) / 1000000)).last = some y ∧
      (judgeWindow s c).sense.failed = (windowCheck c x y s).sense.failed := by
  unfold judgeWindow
  dsimp only
  split
  next x y lastA lastB =>
    split
    next same =>
      exact .inr ⟨x, y, of_decide_eq_true same, lastA, lastB, windowCheck_putWindows_failed c x y _ _ s⟩
    next => exact .inl rfl
  next => exact .inl rfl

/-! ## The verdict -/

/-- What the verdict of a phase clears before it is read: the timer, the failed comparisons and their runs (R120, R122). -/
def clearVerdict (p : Phase) (s : State) : State :=
  { s with sense := { s.sense with
    verdict := upd s.sense.verdict p.idx (fun _ => none)
    failed := upd s.sense.failed p.idx (fun _ => 0)
    saRun := upd s.sense.saRun p.idx (fun _ => 0), sbRun := upd s.sense.sbRun p.idx (fun _ => 0)
    paRun := upd (upd s.sense.paRun p.idx (fun _ => 0)) (p.idx + 3) (fun _ => 0) } }

theorem verdictDue_of {p : Phase} {v : Nat} {s : State} (timer : nth s.sense.verdict p.idx none = some v)
    (passed : v + 3000000 ≤ s.pt.ns) : verdictDue s p = true := by
  unfold verdictDue
  rw [timer]
  exact decide_eq_true passed

section
variable {p : Phase} {s : State} (due : verdictDue s p = true)
include due

/-- The pattern sa and pa names the channel of set A on path A (R120). -/
theorem exec_crossCheckVerdict_setA (pattern : nth s.sense.failed p.idx 0 = 5) : exec (.crossCheckVerdict p) s =
    .next (lose [p.idx] [] (detect .fc 0x2011 1 [(p.idx : Int), 0, 0, 5] (clearVerdict p s))) := by
  refine congrArg Host.Outcome.next ((if_neg (by simp [due])).trans ?_)
  dsimp only
  rw [pattern]
  exact congrArg (fun c => lose [c] [] _) (Nat.zero_add p.idx)

/-- The pattern sb alone names no channel (R120). -/
theorem exec_crossCheckVerdict_unattributable (pattern : nth s.sense.failed p.idx 0 = 2) : exec (.crossCheckVerdict p) s =
    .next (detect .fc 0x2012 2 [(p.idx : Int), 2] (clearVerdict p s)) := by
  refine congrArg Host.Outcome.next ((if_neg (by simp [due])).trans ?_)
  dsimp only
  rw [pattern]
  rfl

end

/-! ## The sum check -/

/-- Eight updates beyond the limit mark the set; of the only usable set they are the event (R119, R122). -/
theorem exec_sumCheckFailed_counted {st : Nat} {s : State} (set : st < 2) (count : 8 ≤ nth s.sense.sumRun st 0)
    (fresh : bitOf s.sense.sumFail st = false) : exec (.sumCheckFailed st) s = .next
      (let t := { s with sense := { s.sense with sumFail := s.sense.sumFail + 2 ^ st } }
       if usable s.sense.lostA st && !usable s.sense.lostA (1 - st) then detect .fc 0x2013 3 [] t else t) :=
  congrArg Host.Outcome.next (if_pos (by simp [set, count, fresh]))

/-- Settles O29: the windows through `judgeWindow_failed`, the verdict by its pattern, each other row by its guard. -/
theorem crossChecks : Obligations.CrossChecks := by
  unfold Obligations.CrossChecks
  refine ⟨?_, fun c s _ => judgeWindow_failed c s, ?_, ?_, ?_, ?_, ?_, ?_, ?_, ?_⟩
  case refine_1 =>
    intro s noTest powered
    exact congrArg Host.Outcome.next (if_neg (by simp [noTest, powered]))
  case refine_2 =>
    intro p s failed untimed
    exact congrArg Host.Outcome.next (if_pos (by simp [failed, untimed]))
  case refine_3 =>
    intro p v s timer passed pattern
    exact ⟨clearVerdict p s, rfl, rfl, rfl, rfl, exec_crossCheckVerdict_setA (verdictDue_of timer passed) pattern⟩
  case refine_4 =>
    intro p v s timer passed pattern
    exact ⟨clearVerdict p s, rfl, rfl, rfl, rfl,
      exec_crossCheckVerdict_unattributable (verdictDue_of timer passed) pattern⟩
  case refine_5 =>
    intro st s set count fresh spare
    rw [exec_sumCheckFailed_counted set count fresh]
    exact congrArg Host.Outcome.next (if_neg (by rcases spare with h | h <;> simp [h]))
  case refine_6 =>
    intro st s set count fresh inUse alone
    rw [exec_sumCheckFailed_counted set count fresh]
    exact congrArg Host.Outcome.next (if_pos (by simp [inUse, alone]))
  case refine_7 =>
    intro s count idle
    exact congrArg Host.Outcome.next (if_pos (by simp [count, idle]))
  case refine_8 =>
    intro n s arbitrating late running
    change execVdcArbitrationTimeout s = _
    unfold execVdcArbitrationTimeout
    rw [arbitrating]
    refine congrArg Host.Outcome.next ((if_pos late).trans ?_)
    unfold vdcUnattributable
    dsimp only
    rw [running]
  case refine_9 =>
    intro p s count inUse
    exact congrArg Host.Outcome.next (if_pos (by simp [count, inUse]))

end Sys2Proof.Laws
end

section
/-! Lost channels, the checks of the references and supplies, and the calibration (R111, R113, R117, R121, R126, R127,
R134 to R136). -/

namespace Sys2Proof.Laws
open Sys2Proof Sys2Proof.Machine Sys2Proof.Safety

/-- A reference out of tolerance twice loses the channels it serves: path A by REFA or REFB, path B by REFDS (R102, R134). -/
theorem exec_referenceOutOfTolerance_twice {r : Nat} {s : State} (reference : r < 3) (count : 2 ≤ nth s.sense.hkFail (3 + r) 0)
    (sound : s.sense.bandgap = false) (trusted : s.sense.hkSuspect = false) :
    exec (.referenceOutOfTolerance r) s = .next
      (let u := detect .fc 0x2061 1 [(r : Int), ((nth s.sense.hk (3 + r) 0 : Nat) : Int)]
        { s with sense := { s.sense with hkFail := upd s.sense.hkFail (3 + r) (fun _ => 0) } }
       if r == 2 then lose [] (List.range 12) u else lose (refChans r) [] u) :=
  congrArg Host.Outcome.next (if_pos (by simp [reference, hkRun, count, sound, trusted]))

/-- SENSE_CAL in STANDBY or READY starts the calibration for its command (R113). -/
theorem exec_senseCal_starts {i : Nat} {s : State} (may : canStart s i 0x30 = true)
    (admits : s.op.state = .standby ∨ s.op.state = .ready) (idle : s.sense.cal = none) :
    exec (.senseCal i) s = .next { start i s with
      sense := { s.sense with cal := some ⟨s.pt.ns, some i⟩ }
      mbx := { (start i s).mbx with rr := s.mbx.rr ++ [i] } } := by
  have state : ¬(!([OpState.standby, .ready].contains (start i s).op.state)) = true := by
    rcases admits with h | h <;> simp [start, h]
  have busy : ¬(start i s).sense.cal.isSome = true := by simp [start, idle]
  exact congrArg Host.Outcome.next (longStep_inl (u := { start i s with
    sense := { s.sense with cal := some ⟨s.pt.ns, some i⟩ } }) may ((if_neg state).trans (if_neg busy)))

/-- After 20 ms the calibration of a command is evaluated and the command answered (R113, R117). -/
theorem exec_calibrationComplete_due {m : CalMeas} {r : CalRun} {i : Nat} {s : State} (running : s.sense.cal = some r)
    (command : r.tag = some i) (due : r.start + 20000000 ≤ s.pt.ns) : exec (.calibrationComplete m) s =
      .next (if calUsable (calEvaluate m s) then answer i ⟨0, 0, []⟩ (calEvaluate m s)
        else answer i ⟨0x20, 0x2063, []⟩ (calEvaluate m s)) := by
  change execCalibrationComplete m s = _
  unfold execCalibrationComplete
  rw [running]
  refine congrArg Host.Outcome.next ((if_neg (Nat.not_lt.2 due)).trans ?_)
  rw [command]
  rfl

/-- Settles O30: each loss and each check by its guard, the calibration by its start and its end. -/
theorem channelLosses : Obligations.ChannelLosses := by
  unfold Obligations.ChannelLosses
  refine ⟨?_, ?_, ?_, ?_, ?_, ?_, ?_, ?_, fun m r i s => exec_calibrationComplete_due⟩
  case refine_1 =>
    intro c s fast count inUse
    exact congrArg Host.Outcome.next (if_pos (by rw [inUse]; simp [fast, count]))
  case refine_2 =>
    intro c s current still inUse
    exact congrArg Host.Outcome.next (if_pos (by simp [current, still, inUse]))
  case refine_3 =>
    intro c s fast count inUse
    exact congrArg Host.Outcome.next (if_pos (by simp [fast, count, inUse]))
  case refine_4 =>
    intro r s reference count sound trusted
    rw [exec_referenceOutOfTolerance_twice reference count sound trusted]
    match r, reference with
    | 0, _ | 1, _ | 2, _ => rfl
  case refine_5 =>
    intro s count sound trusted
    exact congrArg Host.Outcome.next (if_pos (by simp [hkRun, count, sound, trusted]))
  case refine_6 =>
    intro st s set count trusted
    exact congrArg Host.Outcome.next (if_pos (by simp [set, hkRun, count, trusted]))
  case refine_7 =>
    intro n s first last count trusted
    exact congrArg Host.Outcome.next (if_pos (by simp [first, last, hkRun, count, trusted]))
  case refine_8 =>
    intro i s may admits idle
    exact ⟨_, exec_senseCal_starts may admits idle, rfl, rfl, rfl⟩

end Sys2Proof.Laws
end

section
/-! Incremental encoder, index, Hall states and the supply of the sources (R147 to R158, R174, R179). -/

namespace Sys2Proof.Laws
open Sys2Proof Sys2Proof.Machine Sys2Proof.Safety

/-! ## The quadrature pair -/

/-- An illegal transition is counted and marks the position uncertain; the counts stand still (R148). -/
theorem illegalOf_fb (src : Nat) (s : State) : (illegalOf src s).fb.a = s.fb.a ∧ (illegalOf src s).fb.b = s.fb.b ∧
    (illegalOf src s).fb.c = s.fb.c ∧ (illegalOf src s).fb.p = s.fb.p ∧ (illegalOf src s).fb.posUncertain = true ∧
    (illegalOf src s).fb.errIllegal = satInc 65535 s.fb.errIllegal := by
  unfold illegalOf
  dsimp only
  rw [apply_ite State.fb, record_fb, ite_self]
  exact ⟨rfl, rfl, rfl, rfl, rfl, rfl⟩

/-- The filtered levels `x` and `y` follow the lines after fb.inc.filter samples: one change counts, two are illegal
(R147 to R149). -/
theorem exec_quadratureTransition_filtered {a b x y : Bool} {na nb : Nat} {s : State} (powered : s.supply.fcLock = false)
    (lineA : (if parN s P.fbIncFilter ≤ na then a else s.fb.a) = x)
    (lineB : (if parN s P.fbIncFilter ≤ nb then b else s.fb.b) = y) (moved : (x == s.fb.a && y == s.fb.b) = false) :
    exec (.quadratureTransition a b na nb) s = .next
      (let t := { s with fb := { s.fb with a := x, b := y } }
       if x != s.fb.a && y != s.fb.b then illegalOf 1 t
       else watchIndex (moveCount (if par s P.fbIncDir = 1 then -quadStep s.fb.a s.fb.b x y else quadStep s.fb.a s.fb.b x y) t)) := by
  change execQuadratureTransition a b na nb s = _
  unfold execQuadratureTransition
  rw [lineA, lineB]
  refine congrArg Host.Outcome.next ((if_neg (by simp [powered, moved])).trans ?_)
  simp only [parOn, beq_iff_eq]
  rfl

/-! ## The index -/

/-- A Z edge is qualified: the latch is on, FC runs, and in mode 1 both lines are high (R151). -/
theorem index_qualified {s : State} (mode : parN s P.fbIdxMode ≠ 0) (powered : s.supply.fcLock = false)
    (gate : parN s P.fbIdxMode = 1 → s.fb.a = true ∧ s.fb.b = true) :
    ¬(parN s P.fbIdxMode == 0 || s.supply.fcLock || (parN s P.fbIdxMode == 1 && !(s.fb.a && s.fb.b))) = true := by
  by_cases gated : parN s P.fbIdxMode = 1
  · obtain ⟨highA, highB⟩ := gate gated
    simp [mode, powered, highA, highB]
  · simp [mode, powered, gated]

/-- No deviation is a good index check (R156). -/
theorem idxGood_zero (s : State) : idxGood 0 s = { s with fb := { s.fb with posUncertain := false } } :=
  if_pos (Nat.zero_le _)

section
variable {s : State} (mode : parN s P.fbIdxMode ≠ 0) (powered : s.supply.fcLock = false)
  (gate : parN s P.fbIdxMode = 1 → s.fb.a = true ∧ s.fb.b = true) (checks : s.fb.idxOff = false)
include mode powered gate checks

/-- The first qualified index is the reference (R152). -/
theorem exec_indexLatch_first (first : s.fb.cref = none) : ∃ t, exec (.indexLatch false) s = .next t ∧
    t.fb.cref = some s.fb.c ∧ t.fb.indexNo = 0 ∧ t.fb.c = s.fb.c ∧ t.evt = s.evt := by
  refine ⟨_, congrArg Host.Outcome.next ((if_neg (index_qualified mode powered gate)).trans
    (if_neg (by simp [checks]))), ?_⟩
  rw [first]
  exact ⟨rfl, rfl, rfl, rfl⟩

/-- An index exactly on the grid is counted and nothing is corrected (R152, R156). -/
theorem exec_indexLatch_onGrid {r : Int} (reference : s.fb.cref = some r) (onGrid : idxDev (incN s) (s.fb.c - r) = 0) :
    ∃ t, exec (.indexLatch false) s = .next t ∧ t.fb.indexNo = satInc 65535 s.fb.indexNo ∧ t.fb.idxReg = s.fb.c ∧
      t.fb.posUncertain = false ∧ t.fb.cref = some r ∧ t.fb.c = s.fb.c ∧ t.evt = s.evt := by
  refine ⟨_, congrArg Host.Outcome.next ((if_neg (index_qualified mode powered gate)).trans
    (if_neg (by simp [checks]))), ?_⟩
  rw [reference]
  dsimp only
  rw [onGrid, if_pos (beq_self_eq_true _), idxGood_zero]
  exact ⟨rfl, rfl, rfl, reference, rfl, rfl⟩

end

/-- A pending deviation is judged by the absolute secondary: confirmed, it ends the index checks, else the encoder is lost
(R154). -/
theorem exec_indexFaultCheck_pending {d : Int} {s : State} (pending : s.fb.idxPending = some d) :
    exec .indexFaultCheck s = .next
      (let t := { s with fb := { s.fb with idxPending := none } }
       if absSecondary s && decide
           (((s.fb.c * 65536 - convCounts s (srcPos s (secondary s)) (secondary s) 1).natAbs : Int) ≤ par s P.fbXchkLim * 65536)
       then detect .fc 0x2805 1 [] { t with fb := { t.fb with idxOff := true } }
       else loseSrc 1 (detect .fc 0x2804 1 [d] t)) := by
  change execIndexFaultCheck s = _
  unfold execIndexFaultCheck
  rw [pending]
  rfl

/-! ## Hall -/

/-- The next sector forward counts one (R157). -/
theorem exec_hallStateChange_forward {n ns : Nat} {s : State} (first : 1 ≤ n) (last : n ≤ 6)
    (stood : parN s P.fbHallFilter ≤ ns) (powered : s.supply.fcLock = false) (known : s.fb.hallKnown = true)
    (next : (parN s (P.fbHallMap n) + 6 - s.fb.hallSector) % 6 = 1) :
    exec (.hallStateChange n ns) s = .next { s with fb := { s.fb with
      hallSector := parN s (P.fbHallMap n), hallKnown := true, hallCount := s.fb.hallCount + 1, hallAt := s.pt.ns } } := by
  have state : ¬(n == 0 || decide (7 ≤ n) || decide (ns < parN s P.fbHallFilter) || s.supply.fcLock) = true := by
    simp [powered]; omega
  refine congrArg Host.Outcome.next ((if_neg state).trans ?_)
  dsimp only
  rw [known, next]
  rfl

/-- Settles O31: a legal and an illegal transition, the index and the Hall state by their lemmas, each other row by its
guard. -/
theorem countingSources : Obligations.CountingSources := by
  unfold Obligations.CountingSources
  refine ⟨?legal, ?illegal, ?limit, fun s => exec_indexLatch_first,
    fun r s mode powered gate checks => exec_indexLatch_onGrid mode powered gate checks, ?unconfirmed, ?confirmed,
    fun n ns s => exec_hallStateChange_forward, ?hallInvalid, ?supply⟩
  case legal =>
    intro a b na nb s x y powered single
    have moved : (x == s.fb.a && y == s.fb.b) = false := by
      rcases single with ⟨ha, hb⟩ | ⟨ha, hb⟩ <;> simp [ha, hb]
    rw [exec_quadratureTransition_filtered powered rfl rfl moved]
    refine congrArg Host.Outcome.next (if_neg ?_)
    rcases single with ⟨-, hb⟩ | ⟨ha, -⟩
    · simp [y, hb]
    · simp [x, ha]
  case illegal =>
    intro a b na nb s powered stoodA stoodB ha hb
    rw [exec_quadratureTransition_filtered powered (if_pos stoodA) (if_pos stoodB) (by simp [ha])]
    exact ⟨_, congrArg Host.Outcome.next (if_pos (by simp [ha, hb])), illegalOf_fb 1 _⟩
  case limit =>
    intro src s counts inUse many
    have source : (src == 1 || src == 4) = true := by simpa using counts
    change execIllegalLimitExceeded src s = _
    simp only [execIllegalLimitExceeded, beq_iff_eq]
    exact congrArg Host.Outcome.next (if_pos (by
      rw [source, inUse, Bool.true_and, Bool.not_false, Bool.and_true]
      exact decide_eq_true many))
  case unconfirmed =>
    intro d s pending noSecondary
    rw [exec_indexFaultCheck_pending pending]
    exact congrArg Host.Outcome.next (if_neg (by simp [noSecondary]))
  case confirmed =>
    intro d s pending usable near
    rw [exec_indexFaultCheck_pending pending]
    exact congrArg Host.Outcome.next (if_pos (by rw [usable, Bool.true_and]; exact decide_eq_true near))
  case hallInvalid =>
    intro ns s stood inUse powered
    exact congrArg Host.Outcome.next (if_neg (by simp [stood, inUse, powered]))
  case supply =>
    intro s count trusted
    exact ⟨_, rfl, congrArg Host.Outcome.next (if_pos (by simp [hkRun, count, trusted]))⟩

end Sys2Proof.Laws
end

section
/-! Resolver, SSI, wires, disagreement and the restart of the sources (R160 to R177, R179). -/

namespace Sys2Proof.Laws
open Sys2Proof Sys2Proof.Machine Sys2Proof.Safety

/-! ## The comparison of both sources -/

/-- `t` is `s` but for the comparison of both sources and the uncertainty that its agreement ends (R156, R176). -/
def Compared (s t : State) : Prop := ∃ bad diff agree uncertain, t = { s with fb := { s.fb with
  xchkRun := bad, xchkDiff := diff, agreeRun := agree, posUncertain := uncertain } }

theorem compared_refl (s : State) : Compared s s :=
  ⟨s.fb.xchkRun, s.fb.xchkDiff, s.fb.agreeRun, s.fb.posUncertain, rfl⟩

theorem compared_crossCompare (p q : Int) (s : State) : Compared s (crossCompare p q s) := by
  unfold crossCompare
  split
  · exact compared_refl s
  · exact ⟨_, _, _, _, rfl⟩

/-! ## The position of an SSI sample -/

/-- The turn from the last raw position to `raw`, at most half the single-turn range either way (R144). -/
def ssiTurn (raw : Nat) (s : State) : Int :=
  let d : Int := ((raw : Int) - s.fb.ssiRaw) % ((2 ^ parN s P.fbSsiStBits : Nat) : Int)
  if ((2 ^ parN s P.fbSsiStBits : Nat) : Int) ≤ 2 * d then d - ((2 ^ parN s P.fbSsiStBits : Nat) : Int) else d

/-- The residue nearest to zero is the only one in its half-open range. -/
theorem nearest_residue_unique {a d m : Int} (same : (a - d) % m = 0) (low : -m ≤ 2 * d) (high : 2 * d < m) :
    (if m ≤ 2 * (a % m) then a % m - m else a % m) = d := by
  rw [Int.emod_eq_emod_iff_emod_sub_eq_zero.2 same]
  rcases lt_or_ge d 0 with negative | positive
  · have residue : d % m = d + m := by
      rw [← Int.add_emod_right]
      exact Int.emod_eq_of_lt (by omega) (by omega)
    rw [residue, if_pos (by omega), Int.add_sub_cancel]
  · rw [Int.emod_eq_of_lt positive (by omega), if_neg (by omega)]

theorem ssiTurn_unique {raw : Nat} {d : Int} {s : State}
    (same : ((raw : Int) - s.fb.ssiRaw - d) % 2 ^ parN s P.fbSsiStBits = 0)
    (low : -(2 ^ parN s P.fbSsiStBits) ≤ 2 * d) (high : 2 * d < 2 ^ parN s P.fbSsiStBits) : ssiTurn raw s = d := by
  unfold ssiTurn
  push_cast
  exact nearest_residue_unique same low high

/-- The position at which `raw` is taken: the turn from the last one, or `raw` itself for the first (R144). -/
def ssiNext (raw : Nat) (s : State) : Int := if s.fb.ssiKnown then s.fb.ssiPos + ssiTurn raw s else (raw : Int)

/-- When the sample of the frame was taken (R167). -/
def ssiTaken (s : State) : Nat := s.fb.ssiT0 + s.fb.ssiTrt / 2

/-- The sample has its position and time, and the run of stale samples ends (R166, R167). -/
def ssiSampled (raw : Nat) (s : State) : State := { s with fb := { s.fb with
  ssiPos := ssiNext raw s, ssiRaw := raw, ssiAt := ssiTaken s, ssiKnown := true, ssiRun := 0
  ssiChgAt := if !s.fb.ssiKnown || ssiNext raw s != s.fb.ssiPos then ssiTaken s else s.fb.ssiChgAt } }

/-- The sample jumps by more than fb.ssi.jump from the prediction (R165). -/
def ssiJumps (raw : Nat) (s : State) : Bool :=
  s.fb.ssiKnown && decide (par s P.fbSsiJump < ((ssiNext raw s - divr (ssiAtPt s (ssiTaken s)) 65536).natAbs : Int))

theorem ssiReceived_eq (raw : Nat) (s : State) : ssiReceived raw s = if ssiJumps raw s then ssiStale 5 s
    else if secondary s == 2 then crossCompare s.fb.ssiPri (ssiNext raw s * 65536) (ssiSampled raw s)
    else if primary s == 2 then crossCompare (ssiNext raw s * 65536) s.fb.ssiPri (ssiSampled raw s)
    else ssiSampled raw s := rfl

/-- A jump is a stale sample of cause 5; another sample is taken and both sources are compared (R165, R176). -/
theorem ssiReceived_cases (raw : Nat) (s : State) :
    (ssiJumps raw s = true ∧ ssiReceived raw s = ssiStale 5 s) ∨
    (ssiJumps raw s = false ∧ Compared (ssiSampled raw s) (ssiReceived raw s)) := by
  rw [ssiReceived_eq]
  split
  next jump => exact .inl ⟨jump, rfl⟩
  next near =>
    refine .inr ⟨Bool.eq_false_iff.2 near, ?_⟩
    split
    · exact compared_crossCompare _ _ _
    · split
      · exact compared_crossCompare _ _ _
      · exact compared_refl _

/-- What is received leaves the frame's end, the lost sources and the state. -/
theorem ssiReceived_frame (raw : Nat) (s : State) : (ssiReceived raw s).fb.ssiRunning = s.fb.ssiRunning ∧
    (ssiReceived raw s).fb.ssiEnd = s.fb.ssiEnd ∧ (ssiReceived raw s).op.state = s.op.state ∧
    (ssiReceived raw s).fb.lost = s.fb.lost := by
  rcases ssiReceived_cases raw s with ⟨-, stale⟩ | ⟨-, bad, diff, agree, uncertain, taken⟩
  · rw [stale, ssiStale, record_fb, record_op_state]
    exact ⟨rfl, rfl, rfl, rfl⟩
  · rw [taken]
    exact ⟨rfl, rfl, rfl, rfl⟩

/-- A sample that does not jump is the SSI position, with no stale run (R165, R166). -/
theorem ssiReceived_taken {raw : Nat} {s : State} (near : ssiJumps raw s = false) :
    (ssiReceived raw s).fb.ssiKnown = true ∧ (ssiReceived raw s).fb.ssiPos = ssiNext raw s ∧
    (ssiReceived raw s).fb.ssiRaw = raw ∧ (ssiReceived raw s).fb.ssiAt = ssiTaken s ∧
    (ssiReceived raw s).fb.ssiRun = 0 ∧ (ssiReceived raw s).evt = s.evt := by
  rcases ssiReceived_cases raw s with ⟨jump, -⟩ | ⟨-, bad, diff, agree, uncertain, taken⟩
  · exact absurd jump (Bool.eq_false_iff.1 near)
  · rw [taken]
    exact ⟨rfl, rfl, rfl, rfl, rfl, rfl⟩

/-- The first sample has no prediction and is taken as it is. -/
theorem ssi_first {raw : Nat} {s : State} (first : s.fb.ssiKnown = false) :
    ssiJumps raw s = false ∧ ssiNext raw s = raw := by
  simp [ssiJumps, ssiNext, first]

/-- A later sample within fb.ssi.jump of the prediction moves the position by its turn (R144, R165). -/
theorem ssi_later {raw : Nat} {d : Int} {s : State} (known : s.fb.ssiKnown = true) (turn : ssiTurn raw s = d)
    (near : ((s.fb.ssiPos + d - divr (ssiAtPt s (ssiTaken s)) 65536).natAbs : Int) ≤ par s P.fbSsiJump) :
    ssiJumps raw s = false ∧ ssiNext raw s = s.fb.ssiPos + d := by
  have next : ssiNext raw s = s.fb.ssiPos + d := by rw [ssiNext, if_pos known, turn]
  refine ⟨?_, next⟩
  rw [ssiJumps, known, next, Bool.true_and]
  exact decide_eq_false (not_lt.2 near)

/-! ## The end of a frame -/

/-- The frame ends now (R162). -/
def ssiEnded (s : State) : State := { s with fb := { s.fb with ssiRunning := false, ssiEnd := s.pt.ns } }

/-- D after its start a frame ends: it is received, or a stale sample of its cause (R162, R163). -/
theorem exec_ssiFrameDecoded_ends {f : SsiFrame} {s : State} (running : s.fb.ssiRunning = true)
    (powered : s.supply.fcLock = false) (due : s.fb.ssiT0 + ssiFrameNs s ≤ s.pt.ns) : exec (.ssiFrameDecoded f) s =
      .next ((frameCause s f).elim (ssiReceived (framePos s f) (ssiEnded s)) (fun c => ssiStale c (ssiEnded s))) := by
  have ended : ¬now s < s.fb.ssiT0 + ssiFrameNs s := Nat.not_lt.2 due
  refine congrArg Host.Outcome.next ((if_neg (by simp [running, powered, ended])).trans ?_)
  dsimp only
  split
  next c fails =>
    have cause : frameCause s f = some c := fails
    rw [cause]
    rfl
  next good =>
    have cause : frameCause s f = none := good
    rw [cause]
    rfl

/-! ## Losses -/

/-- An event of class F1 is recorded and starts no reaction (R58). -/
theorem detect_class1 (d : Die) (code : Nat) (ps : List Int) (s : State) : detect d code 1 ps s = record d code 1 ps s := by
  unfold detect record
  split <;> rfl

/-- Every input is checked but those of single-ended Hall lines (R172). -/
theorem wireChecked_of {n : Nat} {s : State} (differential : 5 ≤ n → n < 8 → par s P.fbHallDiff = 1) :
    wireChecked s n = true := by
  rcases lt_or_ge n 5 with before | hall
  · simp [wireChecked, before]
  · rcases lt_or_ge n 8 with hallLine | after
    · simp [wireChecked, parOn, differential hall hallLine]
    · simp [wireChecked, after]

/-- An input that is checked and has disagreed past the filter is a wire fault: its source is lost, or at input Z the
index checks alone (R173). -/
theorem exec_wireFault_stood {n ns : Nat} {s : State} (input : n < 11) (checked : wireChecked s n = true)
    (stood : parN s P.fbWireFilter ≤ ns) (powered : s.supply.fcLock = false) (fresh : bitOf s.fb.wire n = false) :
    exec (.wireFault n ns) s = .next
      (let t := detect .fc 0x2811 1 [(n : Int)] { s with fb := { s.fb with wire := s.fb.wire + 2 ^ n } }
       if n == 2 then { t with fb := { t.fb with idxOff := true } }
       else loseSrc (if n < 2 then 1 else if n < 5 then 2 else if n < 8 then 4 else 3) t) :=
  congrArg Host.Outcome.next ((if_pos (by simp [checked, stood, powered])).trans (if_neg (by simp [input, fresh])))

/-- FB_RESTART with nothing busy clears the lost sources and waits for the end of the start (R171, R179). -/
theorem exec_fbRestart_starts {i : Nat} {r : FbStart} {s : State} (may : canStart s i 0x31 = true)
    (admits : s.op.state = .standby ∨ s.op.state = .ready ∨ s.op.state = .safeHold) (calm : s.sense.cal = none)
    (idle : s.fb.restart = none) : exec (.fbRestart i r) s = .next { start i s with
      fb := { s.fb with
        restart := some (i, r, s.pt.ns), lost := 0, posUncertain := false, idxOff := false, cref := none
        fallback := false, indexNo := 0, corr := 0 }
      mbx := { (start i s).mbx with rr := s.mbx.rr ++ [i] } } := by
  have state : ¬(!([OpState.standby, .ready, .safeHold].contains (start i s).op.state)) = true := by
    rcases admits with h | h | h <;> simp [start, h]
  have busy : ¬((start i s).sense.cal.isSome || (start i s).fb.restart.isSome) = true := by simp [start, calm, idle]
  exact congrArg Host.Outcome.next (longStep_inl (u := { start i s with fb := { s.fb with
    restart := some (i, r, s.pt.ns), lost := 0, posUncertain := false, idxOff := false, cref := none
    fallback := false, indexNo := 0, corr := 0 } }) may ((if_neg state).trans (if_neg busy)))

/-- Settles O32: an SSI frame by its end and its position, a wire by its input, the restart by its start, each other row by
its guard. -/
theorem absoluteSources : Obligations.AbsoluteSources := by
  unfold Obligations.AbsoluteSources
  refine ⟨?amplitude, ?tracking, ?excitation, ?received, ?failed, ?startLow, ?aborted, ?stale, ?wire, ?wireZ, ?disagreement,
    ?frozen, ?restart⟩
  case amplitude =>
    intro s count inUse
    exact congrArg Host.Outcome.next (if_pos (by simp [count, inUse]))
  case tracking =>
    intro s count inUse
    exact congrArg Host.Outcome.next (if_pos (by simp [count, inUse]))
  case excitation =>
    intro s count trusted inUse
    exact congrArg Host.Outcome.next (if_pos (by simp [hkRun, count, trusted, inUse]))
  case received =>
    intro f s running powered due good
    obtain ⟨ended, endAt, state, lost⟩ := ssiReceived_frame (framePos s f) (ssiEnded s)
    refine ⟨_, by rw [exec_ssiFrameDecoded_ends running powered due, good]; rfl, ended, endAt, state, lost, ?_, ?_⟩
    · intro first
      obtain ⟨near, next⟩ := ssi_first (raw := framePos s f) (s := ssiEnded s) first
      obtain ⟨known, pos, rest⟩ := ssiReceived_taken near
      exact ⟨known, pos.trans next, rest⟩
    · intro d known same low high close
      obtain ⟨near, next⟩ := ssi_later (s := ssiEnded s) known (ssiTurn_unique same low high) close
      obtain ⟨-, pos, rest⟩ := ssiReceived_taken near
      exact ⟨pos.trans next, rest⟩
  case failed =>
    intro f c s running powered due fails
    rw [exec_ssiFrameDecoded_ends running powered due, fails]
    rfl
  case startLow =>
    intro f s high
    exact if_pos (by simp [high])
  case aborted =>
    intro n s running powered aborts
    exact congrArg Host.Outcome.next (if_neg (by simp [running, powered, aborts]))
  case stale =>
    intro s count inUse
    exact congrArg Host.Outcome.next (if_pos (by simp [count, inUse]))
  case wire =>
    intro n ns s input notZ differential stood powered fresh
    rw [exec_wireFault_stood input (wireChecked_of differential) stood powered fresh]
    exact congrArg Host.Outcome.next (if_neg (by simp [notZ]))
  case wireZ =>
    intro ns s stood powered fresh
    refine ⟨_, exec_wireFault_stood (by decide) rfl stood powered fresh, ?_⟩
    rw [detect_class1]
    exact congrArg (fun b : FbBlock => { b with idxOff := true }) (record_fb _ _ _ _ _)
  case disagreement =>
    intro s count usable paired inUse
    exact congrArg Host.Outcome.next (if_pos (by simp [count, usable, paired, inUse]))
  case frozen =>
    intro n s first last inRole inUse count
    exact congrArg Host.Outcome.next (if_pos (by simp [first, last, inRole, inUse, count]))
  case restart =>
    intro i r s may admits calm idle
    exact ⟨_, exec_fbRestart_starts may admits calm idle, rfl, rfl, rfl⟩

end Sys2Proof.Laws
end

section
/-! Validity of the observers, the residual test and block commutation (R194 to R200, R204, R219 to R224). -/

namespace Sys2Proof.Laws
open Sys2Proof Sys2Proof.Machine Sys2Proof.Safety

/-! ## The residual test -/

/-- In RUN with all three angles valid, a count of the first pair at its limit declares anew; what follows is decided by
which pairs are declared (R198). -/
theorem exec_residualDisagreement_declares {a b c : Nat} {s : State} (counts : s.obs.resRun = [a, b, c])
    (first : parN s P.obsResCount ≤ a) (undeclared : s.obs.resDecl = [false, false, false]) (running : s.op.state = .run)
    (source : primaryUsable s = true) (valid0 : s.obs.oe0.valid = true) (valid1 : s.obs.oe1.valid = true) :
    exec .residualDisagreement s = .next
      (let d (n : Nat) : Bool := decide (parN s P.obsResCount ≤ n)
       let t := { s with obs := { s.obs with resDecl := [d a, d b, d c] } }
       if d a && d b && d c then lossOfSync t
       else if d a && d b then loseSrc (primary t) (detect .fc 0x3003 1 [] t)
       else if d a && d c then voteOut0 t
       else if d b && d c then voteOut1 t
       else record .fc 0x3004 0 [] t) := by
  change execResidualDisagreement s = _
  unfold execResidualDisagreement
  rw [counts, undeclared, source, valid0, valid1]
  refine congrArg Host.Outcome.next ((if_neg ?_).trans (if_pos rfl))
  simp [first, running, List.range_succ, nth]

/-! ## Times that have passed -/

/-- A time in ms given by a parameter has passed since `at_`, in the model's own terms. -/
theorem elapsed_parN {at_ : Nat} {k : Nat × Int} {s : State} (passed : at_ + (par s k).toNat * 1000000 ≤ s.pt.ns) :
    at_ + parN s k * 1000000 ≤ now s := passed

/-! ## The reacquisition -/

/-- A reacquisition past obs.fly.timeout in RUN keeps its pattern as the order (R204). -/
theorem exec_reacquisitionTimeout_passed {r : Nat} {s : State} (began : s.obs.reacq = some r)
    (due : r + parN s P.obsFlyTimeout * 1000000 ≤ now s) (running : s.op.state = .run) :
    exec .reacquisitionTimeout s = .next (issuePackage (patternOrder s.obs.pattern) 0x3024 (record .fc 0x3024 3 [] s)) := by
  have passed : s.obs.reacq.any (fun t => decide (t + parN s P.obsFlyTimeout * 1000000 ≤ now s)) = true := by
    rw [began, Option.any_some, decide_eq_true due]
  exact congrArg Host.Outcome.next (if_pos (by rw [passed, running]; rfl))

/-! ## Block commutation -/

/-- A commutation takes the next sector in the direction of turning, at the present instant (R220). -/
theorem commutate_obs (off : Int) (s : State) : (commutate off s).obs = { s.obs with
    sector := if s.obs.rev then (s.obs.sector + 5) % 6 else (s.obs.sector + 1) % 6
    commAt := s.pt.ns, turnAt := s.pt.ns } := rfl

@[simp] theorem commutate_par (off : Int) (s : State) : (commutate off s).par = s.par := rfl
@[simp] theorem commutate_evt (off : Int) (s : State) : (commutate off s).evt = s.evt := rfl
@[simp] theorem commutate_op (off : Int) (s : State) : (commutate off s).op = s.op := rfl

section
variable {s : State} (sectors : selfCommutated s = true)
include sectors

/-- A crossing newer than the last commutation commutates at t_comm, once that lies in the half period (R221, R334). -/
theorem exec_blockCommutation_atCrossing (synced : s.obs.phase ≠ .block) (crossed : s.obs.commAt < s.obs.tz)
    (reached : fromT0 s (commTime s) < s.mod.h) :
    exec .blockCommutation s = .next (commutate (fromT0 s (commTime s)) s) :=
  congrArg Host.Outcome.next ((if_neg (by simp [sectors])).trans
    ((if_neg (by simp [synced])).trans (if_pos (by simp [crossed, reached]))))

/-- The start schedule commutates when it has turned on, and arms the comparison of crossings at its speed (R223). -/
theorem exec_blockCommutation_onSchedule (starting : s.obs.phase = .block) (due : scheduleDue s = true) :
    exec .blockCommutation s = .next (commutate (fromT0 s (8 * now s)) { s with obs := { s.obs with
      sched := s.obs.sched + 1, lastW := signedW s (scheduleW s)
      armed := s.obs.armed || decide (par s P.obsBlkWMin * 100 ≤ scheduleW s) } }) :=
  congrArg Host.Outcome.next ((if_neg (by simp [sectors])).trans
    ((if_pos (by simp [starting])).trans (if_neg (by simp [due]))))

/-- A missed crossing short of the limit forces the commutation and no loss of the rotor (R222). -/
theorem exec_crossingMissed_forced (synced : s.obs.synced = true) (late : crossingLate s = true)
    (short : s.obs.missRun + 1 < parN s P.obsBlkMissMax) :
    exec .crossingMissed s = .next (record .fc 0x3051 0 []
      (commutate (fromT0 s (8 * s.pt.ns)) { s with obs := { s.obs with missRun := s.obs.missRun + 1 } })) := by
  refine congrArg Host.Outcome.next ((if_neg (by simp [sectors, synced, late])).trans (if_neg ?_))
  rw [parN_of_work (congrArg (·.work) (record_par ..))]
  exact Nat.not_le.2 short

end

/-- Settles O33: the residual test by its declarations, block commutation by its causes, each other row by its guard. -/
theorem observersAndBlock : Obligations.ObserversAndBlock := by
  unfold Obligations.ObserversAndBlock
  refine ⟨?valid0, ?valid1, ?allPairs, ?pairsOfOe0, ?rejoin0, ?rejoin1,
    fun r s began passed running => exec_reacquisitionTimeout_passed began (elapsed_parN passed) running, ?crossing, ?schedule,
    fun s => exec_crossingMissed_forced, ?startTimeout, ?sixStep⟩
  case valid0 =>
    intro s count inUse
    exact congrArg Host.Outcome.next (if_pos (by simp [count, inUse]))
  case valid1 =>
    intro s count inUse terminals currents
    exact congrArg Host.Outcome.next (if_pos (by simp [count, inUse, terminals, currents]))
  case allPairs =>
    intro a b c s counts pairA pairB pairC undeclared running source valid0 valid1
    refine ⟨{ s with obs := { s.obs with resDecl := [true, true, true] } }, rfl, rfl, rfl, rfl, ?_⟩
    rw [exec_residualDisagreement_declares counts pairA undeclared running source valid0 valid1]
    simp only [pairA, pairB, pairC, decide_true]
    rfl
  case pairsOfOe0 =>
    intro a b c s counts pairA pairB pairC undeclared running source valid0 valid1
    rw [exec_residualDisagreement_declares counts pairA undeclared running source valid0 valid1]
    simp only [pairA, Nat.not_le.2 pairB, pairC, decide_true, decide_false]
    rfl
  case rejoin0 =>
    intro s out count
    exact congrArg Host.Outcome.next ((if_neg Bool.false_ne_true).trans (if_pos (by simp [out, count])))
  case rejoin1 =>
    intro s out count
    exact congrArg Host.Outcome.next ((if_pos rfl).trans (if_pos (by simp [out, count])))
  case crossing =>
    intro s sectors synced crossed reached
    exact ⟨_, exec_blockCommutation_atCrossing sectors synced crossed reached, commutate_obs _ s, rfl, rfl⟩
  case schedule =>
    intro s sectors starting due
    exact ⟨_, exec_blockCommutation_onSchedule sectors starting due, rfl, rfl, rfl, rfl, rfl⟩
  case startTimeout =>
    intro s starting fast
    exact congrArg Host.Outcome.next (if_pos (by simp [starting, fast]))
  case sixStep =>
    intro s mode running boundary inBlock fast valid synchronous
    have guard : ¬(parN s P.obsCommMode != 2 || !s.mod.running || s.obs.turnAt != now s) = true := by
      simp [mode, running, boundary, now]
    refine congrArg Host.Outcome.next ((if_neg guard).trans (if_pos ?_))
    rw [inBlock, decide_eq_true fast, valid, decide_eq_true synchronous]
    rfl

end Sys2Proof.Laws
end

section
/-! Start measurement, probe, catch and the Awl (R207 to R216). -/

namespace Sys2Proof.Laws
open Sys2Proof Sys2Proof.Machine Sys2Proof.Safety

/-! ## The start measurement by terminal voltages -/

/-- The window of a measurement by terminal voltages has ended in RUN: its record, then the table of R209 (R208). -/
theorem exec_startMeasurementEnd_voltages {s u : State} (phase : s.obs.phase = .measV) (running : s.op.state = .run)
    (ended : windowOver s = true)
    (recorded : u = record .fc 0x3031 0 [2, ((fitFreq s.obs.meas).natAbs : Int), if fitFreq s.obs.meas < 0 then 1 else 0,
      voltParam (qfree 26 s.obs.meas.smag s.obs.meas.n)] s) :
    exec .startMeasurementEnd s = .next
      (let freq := fitFreq s.obs.meas
       let mag := qfree 26 s.obs.meas.smag s.obs.meas.n
       let side : Nat := if parOn u P.safetyAscSide then 3 else 2
       if mag < par u P.obsFlyEMin * 65536 then standstill u
       else if railed s.obs.meas = true ∨ 9 * vdcSel u ≤ 10 * mag then
         startPhase .settle { u with
           mod := { u.mod with running := true, pattern := side }
           obs := { u.obs with probe := false, again := false
                               pattern := if u.obs.reacq.isSome then side else u.obs.pattern } }
       else if fitOk u = false then
         if u.obs.again then detect .fc 0x3033 2 [] u else startPhase .measV { u with obs := { u.obs with again := true } }
       else catchAt 2 false ⟨mag, freq, ang16 (fitAngle s.obs.meas - if freq < 0 then -16384 else 16384)⟩ u) := by
  have direction : ((bit1 (decide (fitFreq s.obs.meas < 0)) : Nat) : Int) = if fitFreq s.obs.meas < 0 then 1 else 0 := by
    simp [bit1]
  have kept : u.obs.phase = .measV := by rw [recorded, record_obs, phase]
  change execStartMeasurementEnd s = _
  unfold execStartMeasurementEnd
  refine congrArg Host.Outcome.next ((if_neg (by simp [phase, running, ended])).trans ?_)
  have voltages : (s.obs.phase == .measI) = false := by rw [phase]; rfl
  simp only [voltages, Bool.false_eq_true, if_false, Nat.cast_ofNat, direction, ← recorded, kept, measuredAngle,
    Bool.not_false, Bool.true_and, decide_eq_true_eq, Bool.or_eq_true, Bool.not_eq_true']

/-! ## The catch and the settling -/

section
variable {s : State}

/-- A catch is judged once obs.fly.lock has passed (R210). -/
theorem catchLock_due (phase : s.obs.phase = .lock) (active : s.op.state = .run ∨ s.op.state = .stopping)
    (passed : s.obs.phaseAt + (par s P.obsFlyLock).toNat * 1000000 ≤ s.pt.ns) :
    ¬(s.obs.phase != .lock || !(s.op.state == .run || s.op.state == .stopping) ||
      decide (now s < s.obs.phaseAt + parN s P.obsFlyLock * 1000000)) = true := by
  have due := elapsed_parN passed
  rcases active with h | h <;> simp [phase, h, due]

/-- ASC is judged once obs.fly.asc_settle has passed in RUN (R211). -/
theorem ascSettle_due (phase : s.obs.phase = .settle) (running : s.op.state = .run)
    (passed : s.obs.phaseAt + (par s P.obsFlyAscSettle).toNat * 1000000 ≤ s.pt.ns) :
    ¬(s.obs.phase != .settle || s.op.state != .run ||
      decide (now s < s.obs.phaseAt + parN s P.obsFlyAscSettle * 1000000)) = true := by
  have due := elapsed_parN passed
  simp [phase, running, due]

/-- Without a reacquisition there is none to end. -/
theorem reacquired_none (idle : s.obs.reacq = none) : reacquired s = s := if_neg (by simp [idle])

/-! ## An F2 reaction from RUN -/

/-- An F2 fault in RUN stops, or leaves a running reaction of a higher class as it is (R59, R61). -/
theorem f2React_run_state (running : s.op.state = .run) (code : Nat) :
    (f2React code s).op.state = .run ∨ (f2React code s).op.state = .stopping := by
  unfold f2React
  split
  · exact .inl running
  · simp only [abortDiag_op_state, running]
    exact .inr (changeState_op_state _ _ _)

theorem detect_class2_run_state (running : s.op.state = .run) (d : Die) (code : Nat) (ps : List Int) :
    (detect d code 2 ps s).op.state = .run ∨ (detect d code 2 ps s).op.state = .stopping := by
  unfold detect
  split
  · exact .inl running
  · exact f2React_run_state (by rw [record_op_state, running]) code

/-! ## The Awl -/

/-- A sequence begun again stays in its phase (R215). -/
theorem startAwl_again (phase : s.obs.phase = .awl) : startAwl s = { s with obs := { s.obs with
    awl := 1, awlC := s.fb.c, awlTon := awlOnTime s, phaseAt := s.pt.ns, meas := .reset } } := by
  unfold startAwl startPhase
  rw [← phase]
  rfl

section
variable {r : AwlResp} (phase : s.obs.phase = .awl) (running : s.op.state = .run)
  (done : 8 * s.obs.phaseAt + awlLength s ≤ 8 * s.pt.ns)
include phase running done

/-- A sequence is judged when all its pulses are done (R215). -/
theorem awl_done : ¬(s.obs.phase != .awl || !(s.op.state == .run || s.op.state == .discharge) ||
    decide (8 * now s < 8 * s.obs.phaseAt + awlLength s)) = true := by
  have due : 8 * s.obs.phaseAt + awlLength s ≤ 8 * now s := done
  simp [phase, running, due]

/-- A failed sequence is repeated while repeats are left (R216). -/
theorem exec_awlSequenceEnd_repeats (fails : awlFails s r = true) (left : s.obs.awlRetries < parN s P.obsAwlRetry) :
    exec (.awlSequenceEnd r) s = .next
      (startAwl { s with obs := { s.obs with awlRetries := s.obs.awlRetries + 1 } }) :=
  congrArg Host.Outcome.next ((if_neg (awl_done phase running done)).trans ((if_pos fails).trans (if_pos left)))

/-- The last repeat has failed: the F2 event; in RUN no discharge waits for the sequence (R216). -/
theorem exec_awlSequenceEnd_fails (fails : awlFails s r = true) (spent : parN s P.obsAwlRetry ≤ s.obs.awlRetries) :
    exec (.awlSequenceEnd r) s = .next (detect .fc 0x3042 2 []
      { s with obs := { s.obs with awl := 4, awlDrive := none, phase := .idle } }) := by
  refine congrArg Host.Outcome.next ((if_neg (awl_done phase running done)).trans ((if_pos fails).trans
    ((if_neg (Nat.not_lt.2 spent)).trans (if_neg ?_))))
  rcases detect_class2_run_state (s := { s with obs := { s.obs with awl := 4, awlDrive := none, phase := .idle } })
    running .fc 0x3042 [] with h | h <;> simp [h]

/-- A sequence that passes is recorded with its angle, and control begins at rest (R214, R216). -/
theorem exec_awlSequenceEnd_passes (passes : awlFails s r = false) :
    exec (.awlSequenceEnd r) s = .next
      (let theta := ang16 (awlDir (awlAxis s r) (if 0 < awlMargin s r then 13 else 14))
       beginAtRest 4 (setOffset theta (record .fc 0x3041 0 [(theta : Int), (awlAniso s r : Int), awlMargin s r]
         { s with obs := { s.obs with
            awl := 3, awlTheta := theta, awlAniso := min 255 (awlAniso s r)
            awlMargin := min 255 (awlMargin s r).natAbs } }))) :=
  congrArg Host.Outcome.next ((if_neg (awl_done phase running done)).trans (if_neg (by simp [passes])))

end
end

/-- Settles O34: the measurement by the table of R209, the settling, the catch and the Awl each by its end. -/
theorem rotorStarts : Obligations.RotorStarts := by
  unfold Obligations.RotorStarts
  refine ⟨?measurement, ?probe, ?vector, ?agrees, ?differs, ?repeats, ?fails, ?passes⟩
  case measurement =>
    intro s u freq mag phase running ended recorded
    have ends := exec_startMeasurementEnd_voltages phase running ended recorded
    refine ⟨fun low => ?_, fun high rails side => ?_, fun high free below misfit => ?_, fun high free below fit => ?_⟩
    · rw [ends]
      exact congrArg Host.Outcome.next (if_pos low)
    · have settles := ends.trans (congrArg Host.Outcome.next ((if_neg (not_lt.2 high)).trans (if_pos rails)))
      refine ⟨_, settles, ?_, rfl, rfl, rfl, rfl⟩
      simp [startPhase, parOn, side]
    all_goals
      have clear : ¬(railed s.obs.meas = true ∨ 9 * vdcSel u ≤ 10 * mag) := by simp [free, below]
      refine ends.trans (congrArg Host.Outcome.next ((if_neg (not_lt.2 high)).trans ((if_neg clear).trans ?_)))
    · exact if_pos misfit
    · exact if_neg (by simp [fit])
  case probe =>
    intro s phase running passed probe small
    exact congrArg Host.Outcome.next ((if_neg (ascSettle_due phase running passed)).trans (if_pos (by simp [probe, small])))
  case vector =>
    intro s phase running passed current
    refine congrArg Host.Outcome.next ((if_neg (ascSettle_due phase running passed)).trans (if_neg ?_))
    rcases current with h | h <;> simp [h]
  case agrees =>
    intro s phase active idle passed near
    refine congrArg Host.Outcome.next ((if_neg (catchLock_due phase active passed)).trans
      ((if_neg (Nat.not_lt.2 near)).trans ?_))
    exact reacquired_none idle
  case differs =>
    intro s phase active passed far
    exact congrArg Host.Outcome.next ((if_neg (catchLock_due phase active passed)).trans (if_pos far))
  case repeats =>
    intro r s phase running done fails left
    exact (exec_awlSequenceEnd_repeats phase running done fails left).trans
      (congrArg Host.Outcome.next (startAwl_again
        (s := { s with obs := { s.obs with awlRetries := s.obs.awlRetries + 1 } }) phase))
  case fails =>
    intro r s phase running done fails spent _
    exact exec_awlSequenceEnd_fails phase running done fails spent
  case passes =>
    intro r s phase running done passes
    exact ⟨_, rfl, exec_awlSequenceEnd_passes phase running done passes⟩

end Sys2Proof.Laws
end

section
/-! The table commits, the change of mode and the faults of the loops (R242, R248, R254, R262, R264, R273). -/

namespace Sys2Proof.Laws
open Sys2Proof Sys2Proof.Machine

/-! ## Table commits -/

/-- The loops after the last pending table `n` has been copied into the active bank (R242). -/
def copiedLoop (n : Nat) (s : State) : LoopBlock :=
  { s.loop with
    commit := [], changed := s.loop.changed.filter (· != n)
    active := (s.par.work.filter (fun e => e.1 / 256 == n)).foldl
      (fun l e => putVal (e.1, if e.1 % 256 == 0x81 then 1 else 0) e.2 l) (s.loop.active.filter (fun e => e.1 / 256 != n))
    copied := s.loop.copied + 2 ^ tables.findIdx (· == n) }

/-- The copy of the last pending table ends the commit, which is then recorded (R242). -/
theorem exec_tableCommitCopy_last {n : Nat} {s : State} (last : s.loop.commit = [n]) (up : s.supply.fcLock = false)
    (runs : ownerRestarts s n = false) (checked : n ≠ P.loopMtpaIdTab) :
    exec (.tableCommitCopy n) s =
      .next (record .fc 0x3841 0 [((copiedLoop n s).copied : Int)] { s with loop := copiedLoop n s }) := by
  have goes : ¬(!s.loop.commit.contains n || s.supply.fcLock || ownerRestarts s n) = true := by simp [last, up, runs]
  have good : (n != P.loopMtpaIdTab || mtpaOk s) = true := by simp [checked]
  have rest : s.loop.commit.filter (· != n) = [] := by simp [last]
  refine congrArg Host.Outcome.next ((if_neg goes).trans ?_)
  simp only [good, rest]
  rfl

/-- A table waits while the pair that owns it restarts (R243). -/
theorem exec_tableCommitCopy_waits {n : Nat} {s : State} (restarts : ownerRestarts s n = true) :
    exec (.tableCommitCopy n) s = .next s :=
  congrArg Host.Outcome.next (if_pos (by simp [restarts]))

/-! ## The loop mode -/

/-- The loops take the mode `m`, which is recorded (R264). -/
def modeTaken (m : Nat) (s : State) : State :=
  record .fc 0x3843 0 [(s.loop.mode : Int), (m : Int)] { s with loop := { s.loop with mode := m } }

/-- A change of mode takes effect at a position update with no commit pending, outside STOPPING (R264). -/
theorem modeChange_due {m : Nat} {s : State} (new : parN s P.loopMode = m) (differs : s.loop.mode ≠ m)
    (up : s.supply.fcLock = false) (runs : s.op.state ≠ .stopping) (due : posDue s = true) (copied : s.loop.commit = []) :
    ¬(s.loop.mode == parN s P.loopMode || s.supply.fcLock || s.op.state == .stopping || !posDue s ||
      !s.loop.commit.isEmpty) = true := by
  simp [new, differs, up, runs, due, copied]

/-- From torque to speed, the integrator is what the other terms leave of T* (R264). -/
theorem exec_loopModeChange_speed {s : State} (old : s.loop.mode = 0) (new : parN s P.loopMode = 1)
    (up : s.supply.fcLock = false) (runs : s.op.state ≠ .stopping) (due : posDue s = true) (copied : s.loop.commit = []) :
    exec .loopModeChange s = .next { modeTaken 1 s with loop := { (modeTaken 1 s).loop with
      xw := (modeTaken 1 s).loop.tstar -
        sat32 (gainMul (modeTaken 1 s) P.loopSpdKpTab ((modeTaken 1 s).pe.velFf - mechW (modeTaken 1 s))) -
        mul (modeTaken 1 s).pe.accRef (par (modeTaken 1 s) P.loopSpdJRaw) (parN (modeTaken 1 s) P.loopSpdJS) } } := by
  refine congrArg Host.Outcome.next ((if_neg (modeChange_due new (by simp [old]) up runs due copied)).trans ?_)
  simp only [new, old, modeTaken]
  rfl

/-- Into position mode without a target in force, the present position is the reference (R264). -/
theorem exec_loopModeChange_position {s : State} (old : s.loop.mode ≠ 2) (new : parN s P.loopMode = 2)
    (up : s.supply.fcLock = false) (runs : s.op.state ≠ .stopping) (due : posDue s = true) (copied : s.loop.commit = [])
    (free : s.pe.source ≠ 1) :
    exec .loopModeChange s = .next { modeTaken 2 s with pe := { (modeTaken 2 s).pe with
      posRef := (modeTaken 2 s).fb.pos, p := fOfQ16 (machinePos (modeTaken 2 s)) } } := by
  have noTarget : ¬((modeTaken 2 s).pe.source == 1) = true := by simp [modeTaken, free]
  refine congrArg Host.Outcome.next ((if_neg (modeChange_due new old up runs due copied)).trans ?_)
  have notSpeed : ¬(s.loop.mode == 0 && 2 == 1) = true := by simp
  simp only [new, if_neg notSpeed]
  exact (if_pos (beq_self_eq_true 2)).trans (if_neg noTarget)

/-- Settles O35: the copy of the last table, each change of mode past its conditions, and each fault at its count or time. -/
theorem loopFaults : Obligations.LoopFaults := by
  unfold Obligations.LoopFaults
  refine ⟨?_, fun n s => exec_tableCommitCopy_waits, ?_, ?_,
    fun s count => congrArg Host.Outcome.next (if_pos count),
    fun s held => congrArg Host.Outcome.next (if_pos held),
    fun s due new => congrArg Host.Outcome.next (if_pos (by simp [due, new])),
    fun s held => congrArg Host.Outcome.next (if_pos held),
    fun s count => congrArg Host.Outcome.next (if_pos count),
    fun s held => congrArg Host.Outcome.next (if_pos held),
    fun s count => congrArg Host.Outcome.next (if_pos count)⟩
  case refine_1 =>
    intro n s last up runs checked
    exact ⟨{ s with loop := copiedLoop n s }, rfl, rfl, rfl, exec_tableCommitCopy_last last up runs checked⟩
  case refine_2 =>
    intro s old new up runs due copied
    refine ⟨modeTaken 1 s, ?_, exec_loopModeChange_speed old new up runs due copied⟩
    simp [modeTaken, old]
  case refine_3 =>
    intro s old new up runs due copied free
    exact ⟨modeTaken 2 s, rfl, exec_loopModeChange_position old new up runs due copied free⟩

end Sys2Proof.Laws
end

section
/-! The parameter commands: reads, writes, descriptors, blocks, stores (R242, R479, R542, R544, R545, R547, R552 to R554). -/

namespace Sys2Proof.Laws
open Sys2Proof Sys2Proof.Machine Sys2Proof.Safety

/-! ## A command that starts -/

theorem tag_opcode_of_canStart {i op : Nat} {s : State} (may : canStart s i op = true) : (tag s i).opcode = op := by
  simp only [canStart, Bool.and_eq_true, beq_iff_eq] at may
  exact may.1.2

theorem lt_of_canStart {i op : Nat} {s : State} (may : canStart s i op = true) : i < s.mbx.tags.length := by
  by_contra outside
  have reset : tag s i = TagInfo.reset := by simp [tag, nth, outside]
  simp [canStart, reset, TagInfo.reset] at may

/-- A start leaves the payload that the command came with. -/
theorem payload_start {i op : Nat} {s : State} (may : canStart s i op = true) : payload (start i s) i = payload s i := by
  unfold payload
  rw [start, tag_setTag (lt_of_canStart may)]
  rfl

theorem stepWhere_hb {i op : Nat} {f : State → Result × State} {s : State} (may : canStart s i op = true)
    (here : needsField op (payload s i) = false) :
    stepWhere i op f s = finish i (f (start i s)).1 (f (start i s)).2 :=
  (if_neg (by simp [here])).trans (oneStep_of may)

/-- On either side, what the step leaves differs from its effect in the mailbox alone. -/
theorem mailed_stepWhere {i op : Nat} {f : State → Result × State} {s : State} (may : canStart s i op = true) :
    Mailed (f (start i s)).2 (stepWhere i op f s) := by
  unfold stepWhere
  split
  · rw [fieldStep_of may]
    exact mailed_setTag _ _ _
  · rw [oneStep_of may]
    exact mailed_finish _ _ _

/-! ## The judgement of a write -/

theorem findRow_sub_lt {idx sub : Nat} {r : Dict.Row} (found : findRow idx sub = some r) : sub < 256 := by
  have small : Dict.rows.all (fun r => decide (r.hi < 256)) = true := by decide +kernel
  have top := List.all_eq_true.1 small r (List.mem_of_find?_eq_some found)
  have inRow := List.find?_some found
  simp only [Bool.and_eq_true, decide_eq_true_eq] at top inRow
  omega

/-- An entry without a failure has a row of the dictionary (R542, checks 1 and 2). -/
theorem findRow_of_judge {s : State} {ws : List Wr} {w : Wr} (passes : judge s ws w = none) :
    ∃ r, findRow w.idx w.sub = some r := by
  by_contra missing
  have noRow : findRow w.idx w.sub = none := Option.eq_none_iff_forall_ne_some.2 fun r h => missing ⟨r, h⟩
  simp only [judge, noRow, ite_self] at passes
  split at passes <;> cases passes

/-- An entry without a failure has the index and subindex that its key is made of (R533). -/
theorem key_split_of_judge {s : State} {ws : List Wr} {w : Wr} (passes : judge s ws w = none) :
    w.idx = w.key / 256 ∧ w.sub = w.key % 256 := by
  obtain ⟨r, found⟩ := findRow_of_judge passes
  have small := findRow_sub_lt found
  unfold Wr.key keyOf
  omega

theorem judge_of_firstFail {s : State} {ws : List Wr} {n : Nat} {l : List Wr} (passes : firstFail s ws n l = none) :
    ∀ w ∈ l, judge s ws w = none := by
  induction l generalizing n with
  | nil => simp
  | cons w l ih =>
    cases e : judge s ws w with
    | some st => simp [firstFail, e] at passes
    | none =>
      simp only [firstFail, e] at passes
      simpa [e] using ih passes

/-! ## Writes -/

theorem writeAll_fails {ws : List Wr} {s : State} {n st : Nat} (fails : firstFail s ws 1 ws = some (n, st))
    (other : (nth ws (n - 1) ⟨0, 0, 0, 0⟩).key ≠ P.safetyLastConfirm.1) : writeAll ws s = (⟨st, n, []⟩, s) := by
  simp [writeAll, fails, other]

/-- Entries without a failure take effect, whatever the status of their commit (R242, R542). -/
theorem writeAll_state {ws : List Wr} {s : State} (passes : firstFail s ws 1 ws = none) :
    (writeAll ws s).2 = ws.foldl applyWr s := by
  simp only [writeAll, passes]
  split <;> rfl

/-- Without a commit among them, the entries that pass end ST_OK (R542). -/
theorem writeAll_ok {ws : List Wr} {s : State} (passes : firstFail s ws 1 ws = none)
    (plain : ∀ w ∈ ws, fieldIndex w.idx = false) : writeAll ws s = (⟨0, 0, []⟩, ws.foldl applyWr s) := by
  have noCommit : ws.any (fun w => w.key == P.loopTabCommit.1) = false := by
    refine List.any_eq_false.2 fun w mem => ?_
    intro commit
    obtain ⟨idx, sub⟩ := key_split_of_judge (judge_of_firstFail passes w mem)
    rw [beq_iff_eq.1 commit] at idx
    have held : fieldIndex (P.loopTabCommit.1 / 256) = true := by decide +kernel
    simp [← idx, plain w mem] at held
  simp [writeAll, passes, commitRefused, noCommit, yes]

theorem unpackRun_idx {idx : Nat} (us : List Nat) (l : List Byte) : ∀ w ∈ unpackRun idx us l, w.idx = idx := by
  induction us generalizing l with
  | nil => simp [unpackRun]
  | cons u us ih => simpa [unpackRun] using ih _

/-- The entries of a BLOCK_WRITE lie at the index that its payload names (R554). -/
theorem blockEntries_idx {i : Nat} {s : State} {l : List Wr} (run : blockEntries i s = .inr l) :
    ∀ w ∈ l, w.idx = beNat (((payload s i).drop 2).take 2) := by
  unfold blockEntries at run
  dsimp only at run
  split at run
  · simp at run
  · split at run
    · simp at run
    · split at run
      · simp at run
      · obtain rfl := Sum.inr.inj run
        exact unpackRun_idx _ _

/-! ## Entries that act on other blocks -/

/-- The confirm seals the Last with the pending code and ends commissioning (R479). -/
theorem applyWr_confirm {s : State} {w : Wr} (confirm : w.key = P.safetyLastConfirm.1)
    (entry : w.idx = w.key / 256 ∧ w.sub = w.key % 256) : applyWr s w = sealLast s := by
  have volatile : (findRow (P.safetyLastConfirm.1 / 256) (P.safetyLastConfirm.1 % 256)).map Dict.Row.store = some 0 := by
    decide +kernel
  obtain ⟨r, found, store⟩ := Option.map_eq_some_iff.1 volatile
  unfold applyWr
  rw [entry.1, entry.2, confirm, found]
  simp [touchLast, store]

theorem touchLast_loop (r : Dict.Row) (s : State) : (touchLast r s).loop = s.loop := by
  unfold touchLast
  split <;> rfl

/-- The commit begins the copies of the changed tables and leaves the active bank (R242). -/
theorem applyWr_commit_loop {s : State} {w : Wr} {r : Dict.Row} (commit : w.key = P.loopTabCommit.1)
    (found : findRow w.idx w.sub = some r) :
    (applyWr s w).loop = { s.loop with commit := s.loop.changed, copied := 0 } := by
  have other : ¬(w.key == P.safetyLastConfirm.1) = true := by rw [commit]; decide
  unfold applyWr
  rw [found]
  dsimp only
  rw [if_neg other, if_pos (by simp [commit]), commitTables, touchLast_loop]

/-- The effect of a PARAM_WRITE of one entry that passes, on either side. -/
theorem mailed_paramWrite_single {i : Nat} {w : Wr} {s : State} (may : canStart s i 0x11 = true)
    (only : wrEntries (payload s i) = [w]) (passes : judge (start i s) [w] w = none) :
    Mailed (applyWr (start i s) w) (stepWhere i 0x11 (paramWrite i) s) := by
  have effect : (paramWrite i (start i s)).2 = applyWr (start i s) w := by
    rw [paramWrite, payload_start may, only, writeAll_state (by simp [firstFail, passes])]
    rfl
  exact effect ▸ mailed_stepWhere may

/-! ## The commands -/

theorem exec_paramRead_hb {i : Nat} {l : List Byte} {s : State} (may : canStart s i 0x10 = true)
    (here : needsField 0x10 (payload s i) = false)
    (read : readAll (start i s) 1 (rdEntries (payload (start i s) i)) = .inr l) :
    exec (.paramRead i) s = .next (finish i ⟨0, 0, l⟩ (start i s)) := by
  refine congrArg Host.Outcome.next ((stepWhere_hb may here).trans ?_)
  rw [paramRead, read]

theorem exec_paramWrite_fails {i n st : Nat} {s : State} (may : canStart s i 0x11 = true)
    (here : needsField 0x11 (payload s i) = false)
    (fails : firstFail (start i s) (wrEntries (payload (start i s) i)) 1 (wrEntries (payload (start i s) i)) = some (n, st))
    (other : (nth (wrEntries (payload (start i s) i)) (n - 1) ⟨0, 0, 0, 0⟩).key ≠ P.safetyLastConfirm.1) :
    exec (.paramWrite i) s = .next (finish i ⟨st, n, []⟩ (start i s)) := by
  refine congrArg Host.Outcome.next ((stepWhere_hb may here).trans ?_)
  rw [paramWrite, writeAll_fails fails other]

theorem exec_paramWrite_passes {i : Nat} {s : State} (may : canStart s i 0x11 = true)
    (here : needsField 0x11 (payload s i) = false)
    (passes : firstFail (start i s) (wrEntries (payload (start i s) i)) 1 (wrEntries (payload (start i s) i)) = none) :
    exec (.paramWrite i) s =
      .next (finish i ⟨0, 0, []⟩ ((wrEntries (payload (start i s) i)).foldl applyWr (start i s))) := by
  have plain : ∀ w ∈ wrEntries (payload (start i s) i), fieldIndex w.idx = false := by
    rw [payload_start may]
    simpa [needsField] using here
  refine congrArg Host.Outcome.next ((stepWhere_hb may here).trans ?_)
  rw [paramWrite, writeAll_ok passes plain]

theorem exec_blockRead_hb {i : Nat} {l : List Byte} {s : State} (may : canStart s i 0x13 = true)
    (here : needsField 0x13 (payload s i) = false)
    (read : blockRead (start i s) (nth (payload (start i s) i) 0 0).toNat
      (beNat (((payload (start i s) i).drop 2).take 2)) (beNat (((payload (start i s) i).drop 4).take 2))
      (beNat (((payload (start i s) i).drop 6).take 2)) = .inr l) :
    exec (.blockRead i) s = .next (finish i ⟨0, 0, l⟩ (start i s)) := by
  refine congrArg Host.Outcome.next ((stepWhere_hb may here).trans ?_)
  dsimp only
  rw [read]

theorem exec_blockWrite_passes {i : Nat} {l : List Wr} {s : State} (may : canStart s i 0x14 = true)
    (here : needsField 0x14 (payload s i) = false) (run : blockEntries i (start i s) = .inr l)
    (passes : firstFail (start i s) l 1 l = none) :
    exec (.blockWrite i) s = .next (finish i ⟨0, 0, []⟩ (l.foldl applyWr (start i s))) := by
  have plain : ∀ w ∈ l, fieldIndex w.idx = false := by
    intro w mem
    rw [blockEntries_idx run w mem, payload_start may]
    exact here
  refine congrArg Host.Outcome.next ((stepWhere_hb may here).trans ?_)
  rw [blockWrite, run]
  dsimp only
  rw [writeAll_ok passes plain]

/-- On the tag of a PARAM_WRITE, a write judged as one that carries a key is that PARAM_WRITE. -/
theorem writeCmd_of_paramWrite {i : Nat} {s : State} (k : Nat) (may : canStart s i 0x11 = true)
    (carries : (wrEntries (payload s i)).any (fun w => w.key == k) = true) :
    (if (wrOf i s).any (fun w => w.key == k) then writeCmd i s else s) = stepWhere i 0x11 (paramWrite i) s := by
  have opcode := tag_opcode_of_canStart may
  have entries : wrOf i s = wrEntries (payload s i) := by simp [wrOf, opcode]
  rw [entries, if_pos carries, writeCmd, opcode]
  rfl

theorem exec_lastConfirmWrite_of_paramWrite {i : Nat} {s : State} (may : canStart s i 0x11 = true)
    (carries : (wrEntries (payload s i)).any (fun w => w.key == P.safetyLastConfirm.1) = true) :
    exec (.lastConfirmWrite i) s = exec (.paramWrite i) s :=
  congrArg Host.Outcome.next (writeCmd_of_paramWrite P.safetyLastConfirm.1 may carries)

theorem exec_tableCommitWrite_of_paramWrite {i : Nat} {s : State} (may : canStart s i 0x11 = true)
    (carries : (wrEntries (payload s i)).any (fun w => w.key == P.loopTabCommit.1) = true) :
    exec (.tableCommitWrite i) s = exec (.paramWrite i) s :=
  congrArg Host.Outcome.next (writeCmd_of_paramWrite P.loopTabCommit.1 may carries)

/-- STORE takes the storable values and runs on (R545). -/
theorem exec_store_starts {i : Nat} {s : State} (may : canStart s i 0x18 = true) (idle : s.par.storing = none) :
    exec (.store i) s = .next { start i s with
      par := { s.par with storing := some (i, s.par.work.filter (fun e => storable s e.1)) }
      mbx := { (start i s).mbx with rr := s.mbx.rr ++ [i] } } := by
  have free : ¬(start i s).par.storing.isSome = true := by simp [start, idle]
  exact congrArg Host.Outcome.next (longStep_inl (u := { start i s with par := { s.par with
    storing := some (i, s.par.work.filter (fun e => storable s e.1)) } }) may (if_neg free))

theorem setCarrier_eq (s : State) : ∃ mod jx, setCarrier s = { s with mod := mod, jx := jx } := by
  obtain ⟨jx, e⟩ := closeBarrier_eq 2 { s with mod := { s.mod with
    h := halfOf (par s P.modFsw), origin := ptNow s + 2000, up := false } }
  exact ⟨_, jx, e⟩

/-- The defaults of the user store are the absence of its values, in both banks of the tables; the carrier may move with
mod.fsw (R242, R324, R547). -/
theorem restoreDefaults_user_eq (s : State) : ∃ mod jx, restoreDefaults 0 s = record .hb 0x1025 0 [0] (bothBanks { s with
    par := { s.par with work := s.par.work.filter (fun e => !restorable 0 e.1) }, mod := mod, jx := jx }) := by
  unfold restoreDefaults
  dsimp only
  rw [if_pos (beq_self_eq_true 0)]
  split
  · exact ⟨s.mod, s.jx, rfl⟩
  · obtain ⟨mod, jx, e⟩ := setCarrier_eq { s with
      par := { s.par with work := s.par.work.filter (fun e => !restorable 0 e.1) } }
    rw [e]
    exact ⟨mod, jx, rfl⟩

/-- RESTORE_DEFAULTS of the user store in STANDBY without a commit (R547). -/
theorem exec_restoreDefaults_user {i : Nat} {s : State} (may : canStart s i 0x19 = true)
    (user : (nth (payload (start i s) i) 0 0).toNat = 0) (standby : s.op.state = .standby) (idle : s.loop.commit = []) :
    exec (.restoreDefaults i) s =
      .next (setTag i (fun t => { t with reply := some ⟨0, 0, []⟩ }) (restoreDefaults 0 (start i s))) := by
  have state : ¬(!([OpState.standby, .ready, .safeHold].contains (start i s).op.state)) = true := by
    simp [start, standby]
  have busy : ¬(!(start i s).loop.commit.isEmpty) = true := by simp [start, idle]
  refine congrArg Host.Outcome.next ((fieldStep_of may).trans ?_)
  rw [user, if_neg state, if_neg busy]
  rfl

/-! ## The obligation -/

/-- Settles O50: each command past its checks, with the state that its completion or its reply leaves. -/
theorem parameterCommands : Obligations.ParameterCommands := by
  unfold Obligations.ParameterCommands
  refine ⟨fun i l s => exec_paramRead_hb, fun i n st s => exec_paramWrite_fails, fun i s => exec_paramWrite_passes,
    fun i s may => congrArg Host.Outcome.next (oneStep_of may), fun i l s => exec_blockRead_hb,
    fun i l s => exec_blockWrite_passes, fun i s => exec_lastConfirmWrite_of_paramWrite,
    fun i s may carries => ⟨exec_tableCommitWrite_of_paramWrite may carries, _, rfl⟩, ?confirm, ?commit, ?store, ?restore⟩
  case confirm =>
    intro i w s may _ only key passes
    obtain ⟨mbx, cp, left⟩ := mailed_paramWrite_single may only passes
    rw [exec_lastConfirmWrite_of_paramWrite may (by simp [only, key])]
    refine ⟨_, rfl, ?_⟩
    rw [left, applyWr_confirm key (key_split_of_judge passes)]
    simp [sealLast, start]
  case commit =>
    intro i w s may _ only key passes
    obtain ⟨mbx, cp, left⟩ := mailed_paramWrite_single may only passes
    obtain ⟨r, found⟩ := findRow_of_judge passes
    rw [exec_tableCommitWrite_of_paramWrite may (by simp [only, key])]
    refine ⟨_, rfl, ?_⟩
    rw [left, applyWr_commit_loop key found]
    exact ⟨rfl, rfl⟩
  case store =>
    intro i s may idle
    exact ⟨_, exec_store_starts may idle, rfl, rfl⟩
  case restore =>
    intro i s may inTable user standby idle
    obtain ⟨mod, jx, left⟩ := restoreDefaults_user_eq (start i s)
    refine ⟨_, exec_restoreDefaults_user may user standby idle, ?_, ?_⟩
    · rw [setTag_par, left, record_par]
      rfl
    · rw [tag_setTag (by simpa [left, bothBanks, start_tags_length] using inTable)]

end Sys2Proof.Laws
end

section
/-! Motion commands: their wait for the Profile Engine, the segment table, the stop (R277, R278, R282, R285, R297, R303,
R308, R314, R315). -/

namespace Sys2Proof.Laws
open Sys2Proof Sys2Proof.Machine Sys2Proof.Safety

/-! ## Commands that wait for the Profile Engine -/

section
variable {i op : Nat} {modes : List Nat} {f : State → MotionCmd ⊕ Nat} {m : MotionCmd} {s : State}
  (may : canStart s i op = true)
include may

/-- Outside RUN a motion command ends ST_STATE, with nothing queued (R277). -/
theorem motionCmd_refused (other : s.op.state ≠ .run) : motionCmd i op modes f s = finishSt i stState (start i s) := by
  have refuses : ((start i s).op.state != .run || !modes.contains (start i s).loop.mode) = true := by simp [start, other]
  exact (if_pos may).trans (if_pos refuses)

variable (running : s.op.state = .run) (mode : s.loop.mode ∈ modes) (takes : f (start i s) = .inl m)
include running mode takes

/-- In RUN and a mode of its own a motion command joins the queue behind those waiting; besides, it has started (R278). -/
theorem motionCmd_queues :
    motionCmd i op modes f s = { start i s with pe := { s.pe with queue := s.pe.queue ++ [m] } } := by
  have accepts : ¬((start i s).op.state != .run || !modes.contains (start i s).loop.mode) = true := by
    simp [start, running, mode]
  refine (if_pos may).trans ((if_neg accepts).trans ?_)
  rw [takes]
  rfl

/-- A long one joins the commands that the Command Processor steps as well (R520). -/
theorem motionLong_queues : motionLong i op modes f s = { start i s with
    pe := { s.pe with queue := s.pe.queue ++ [m] }, mbx := { (start i s).mbx with rr := s.mbx.rr ++ [i] } } := by
  have started : (tag (start i s) i).st = .running := by rw [start, tag_setTag (lt_of_canStart may)]
  have runs : (canStart s i op && (tag { start i s with pe := { s.pe with queue := s.pe.queue ++ [m] } } i).st == .running) =
      true := Bool.and_eq_true_iff.2 ⟨may, beq_iff_eq.2 started⟩
  unfold motionLong
  rw [motionCmd_queues may running mode takes]
  exact if_pos runs

end

/-! ## The segment table -/

/-- An empty SEG_LOAD at entry 0 empties the table, with event 0x4041 (R296, R298). -/
theorem segLoad_empties {i : Nat} {s : State} (free : s.pe.segTag = none) (offset : beNat ((payload s i).take 2) = 0)
    (count : beNat (((payload s i).drop 2).take 2) = 0) :
    segLoad i s = (⟨0, 0, []⟩, record .fc 0x4041 0 [0] { s with pe := { s.pe with segs := [] } }) := by
  simp [segLoad, free, offset, count, yes]

/-! ## What a change of the operating state keeps of motion -/

section
variable (s : State)

@[simp] theorem contactors_pe : (contactors s).pe = s.pe := by
  obtain ⟨cmd, at_, e⟩ := commanded_contactors s; rw [e]
@[simp] theorem brake_pe : (brake s).pe = s.pe := by
  obtain ⟨rel, hs, ls, test, at_, e⟩ := braked_brake s; rw [e]
@[simp] theorem settle_pe (new : OpState) : (settle new s).pe = s.pe := by
  obtain ⟨due, at_, test, testAt, e⟩ := settle_eq new s; rw [e]
@[simp] theorem changeState_pe (new : OpState) (cause : Nat) : (changeState new cause s).pe = s.pe := by
  rw [changeState_eq_settle]; simp [entering]

end

/-! ## What the stop of a stop command keeps -/

/-- What a stop command settles: the operating state and the one before it, the commands that wait, the size of the tag
table. -/
def stopView (s : State) : OpState × OpState × List MotionCmd × Nat :=
  (s.op.state, s.op.prev, s.pe.queue, s.mbx.tags.length)

theorem foldl_stopView {α : Type} {f : State → α → State} (kept : ∀ s a, stopView (f s a) = stopView s) (l : List α)
    (s : State) : stopView (l.foldl f s) = stopView s := by
  induction l generalizing s with
  | nil => rfl
  | cons a l ih => exact (ih (f s a)).trans (kept s a)

section
variable (s : State)

@[simp] theorem setTag_stopView (i : Nat) (f : TagInfo → TagInfo) : stopView (setTag i f s) = stopView s := by
  simp [stopView, setTag, upd]

@[simp] theorem answer_stopView (i : Nat) (r : Result) : stopView (answer i r s) = stopView s := by
  unfold answer
  split
  · exact setTag_stopView s i _
  · rfl

theorem answerQueued_stopView (r : Result) (l : List MotionCmd) : stopView (l.foldl (fun s m => match motionTag m with
    | some t => answer t r s
    | none => s) s) = stopView s := by
  refine foldl_stopView (fun s m => ?_) l s
  split
  · exact answer_stopView s _ r
  · rfl

@[simp] theorem endOpcodes_stopView (ops : List Nat) (status detail : Nat) :
    stopView (endOpcodes ops status detail s) = stopView s := by
  refine foldl_stopView (fun s o => ?_) ops s
  split
  · exact answer_stopView s _ _
  · rfl

@[simp] theorem record_stopView (d : Die) (code cls : Nat) (ps : List Int) :
    stopView (record d code cls ps s) = stopView s := by
  simp [stopView]

@[simp] theorem abortDiag_stopView (code : Nat) : stopView (abortDiag code s) = stopView s := by
  obtain e | ⟨d, gd, e⟩ := abortDiag_eq s code
  · rw [e]
  · rw [e, answer_stopView, record_stopView]
    rfl

theorem withLoop_stopView (loop : LoopBlock) : stopView { s with loop := loop } = stopView s := rfl

@[simp] theorem planFromMeasured_stopView : stopView (planFromMeasured s) = stopView s := rfl

@[simp] theorem startSs1_stopView : stopView (startSs1 s) = stopView s := rfl

@[simp] theorem setPoint_stopView : stopView (setPoint s) = stopView s := rfl

@[simp] theorem dropStart_stopView (keepLock : Bool) : stopView (dropStart keepLock s) = stopView s := rfl

@[simp] theorem homeEnd_stopView (status code : Nat) : stopView (homeEnd status code s) = stopView s := by
  unfold homeEnd
  split
  · rfl
  · dsimp only
    rw [answer_stopView]
    split <;> rfl

@[simp] theorem segEnd_stopView (status code : Nat) : stopView (segEnd status code s) = stopView s := by
  unfold segEnd
  split
  · rfl
  · exact answer_stopView _ _ _

@[simp] theorem endSource_stopView (status code : Nat) : stopView (endSource status code s) = stopView s :=
  (segEnd_stopView _ status code).trans (homeEnd_stopView s status code)

end

section
variable {s : State} {o p : OpState} {q : List MotionCmd} {n : Nat} (view : stopView s = (o, p, q, n))
include view

theorem stopView_withPe (pe : PeBlock) : stopView { s with pe := pe } = (o, p, pe.queue, n) := by
  simp only [stopView, Prod.mk.injEq] at view ⊢
  obtain ⟨state, prev, -, tags⟩ := view
  exact ⟨state, prev, True.intro, tags⟩

/-- A change of state leaves the queue and the tags (R53, R703). -/
theorem changeState_stopView (new : OpState) (cause : Nat) : stopView (changeState new cause s) = (new, o, q, n) := by
  simp only [stopView, Prod.mk.injEq] at view ⊢
  obtain ⟨state, -, waiting, tags⟩ := view
  exact ⟨changeState_op_state s new cause, (changeState_op_prev s new cause).trans state,
    (congrArg PeBlock.queue (changeState_pe s new cause)).trans waiting,
    (congrArg List.length (changeState_mbx_tags s new cause)).trans tags⟩

/-- The end of every motion source empties the queue (R309, R314). -/
theorem endMotion_stopView (status code : Nat) : stopView (endMotion status code s) = (o, p, [], n) := by
  unfold endMotion
  extract_lets s1 s2 homing s3
  have answered : stopView s2 = (o, p, q, n) :=
    (answerQueued_stopView s1 _ _).trans ((endOpcodes_stopView s _ status code).trans view)
  have shifted : stopView s3 = (o, p, q, n) := by
    simp only [s3]
    split <;> exact answered
  exact stopView_withPe shifted _

end

/-! ## The stop command -/

section
variable {s : State} {p : OpState} {n : Nat} (stopping : stopView s = (.stopping, p, [], n))
include stopping

/-- An F2 fault in STOPPING goes on with the stop (R61). -/
theorem f2React_stopView (code : Nat) : stopView (f2React code s) = (.stopping, p, [], n) := by
  have aborted := (abortDiag_stopView s code).trans stopping
  have state : (abortDiag code s).op.state = .stopping := congrArg Prod.fst aborted
  unfold f2React
  split
  · exact stopping
  · simp only [state]
    split
    · exact aborted
    · exact endMotion_stopView (s := raiseRun 3 (abortDiag code s)) aborted stFault code

theorem detect_class2_stopView (d : Die) (code : Nat) (ps : List Int) :
    stopView (detect d code 2 ps s) = (.stopping, p, [], n) := by
  unfold detect
  split
  · exact stopping
  · exact f2React_stopView ((record_stopView s d code 2 ps).trans stopping) code

/-- A limit stop, whether it holds the limit or not (R289, R290). -/
theorem limitStopAt_stopView (up : Bool) (lim : F64) : stopView (limitStopAt up lim s) = (.stopping, p, [], n) := by
  have ended (code : Nat) := (endSource_stopView s stFault code).trans stopping
  unfold limitStopAt
  extract_lets st jerk worst u pe planned
  have stops : stopView u = (.stopping, p, [], n) := ended _
  by_cases beyond : (if up then fLt lim worst else fLt worst lim) = true
  · rw [if_pos beyond]
    exact detect_class2_stopView (s := planned) stops _ _ _
  · rw [if_neg beyond, detect_class1, record_stopView]
    exact stops

theorem stopPlan_stopView : stopView (stopPlan s) = (.stopping, p, [], n) := by
  unfold stopPlan limitJudge
  split
  · exact stopping
  · have planned : stopView (planStop 5 (profDec s) (profJerk s) s) = (.stopping, p, [], n) := stopping
    dsimp only
    split
    · exact planned
    · split
      · exact limitStopAt_stopView planned _ _
      · split
        · exact limitStopAt_stopView planned _ _
        · exact planned

end

/-- STOP in RUN leaves STOPPING, entered from RUN, and no motion command waiting (R308, R314). -/
theorem stopNow_stopView {s : State} (running : s.op.state = .run) :
    stopView (stopNow s) = (.stopping, .run, [], s.mbx.tags.length) := by
  have view : stopView s = (.run, s.op.prev, s.pe.queue, s.mbx.tags.length) := by rw [← running]; rfl
  unfold stopNow
  extract_lets s1 s2 pe s3 reacq s4 point pw loop s5 s6 s7
  have answered : stopView s2 = (.run, s.op.prev, s.pe.queue, s.mbx.tags.length) :=
    (answerQueued_stopView s1 _ _).trans ((endSource_stopView s _ _).trans view)
  have emptied : stopView s3 = (.run, s.op.prev, [], s.mbx.tags.length) :=
    (endOpcodes_stopView _ _ _ _).trans (stopView_withPe answered _)
  have entered : stopView s4 = (.stopping, .run, [], s.mbx.tags.length) := changeState_stopView emptied .stopping 0
  have moded : stopView s5 = (.stopping, .run, [], s.mbx.tags.length) := by
    simp only [s5]
    split
    · rw [withLoop_stopView, setPoint_stopView, planFromMeasured_stopView, entered]
    · exact entered
  have planned : stopView s7 = (.stopping, .run, [], s.mbx.tags.length) :=
    (dropStart_stopView s6 true).trans (stopPlan_stopView moded)
  split
  · exact (startSs1_stopView s7).trans planned
  · exact planned

/-! ## The commands -/

/-- HOME past its checks (R303, R314). -/
theorem exec_home_queues {i : Nat} {s : State} (may : canStart s i 0x44 = true) (running : s.op.state = .run)
    (mode : s.loop.mode = 1 ∨ s.loop.mode = 2) (fast : par s P.profHomeVFast ≤ par s P.profVelMax)
    (slow : par s P.profHomeVSlow ≤ par s P.profVelMax) : exec (.home i) s = .next { start i s with
      pe := { s.pe with queue := s.pe.queue ++ [.home i] }, mbx := { (start i s).mbx with rr := s.mbx.rr ++ [i] } } := by
  have inRange : ¬(par (start i s) P.profVelMax < par (start i s) P.profHomeVFast ||
      par (start i s) P.profVelMax < par (start i s) P.profHomeVSlow) = true := by
    simpa using And.intro (show par (start i s) P.profHomeVFast ≤ par (start i s) P.profVelMax from fast)
      (show par (start i s) P.profHomeVSlow ≤ par (start i s) P.profVelMax from slow)
  exact congrArg Host.Outcome.next (motionLong_queues may running (by simpa using mode) (if_neg inRange))

/-- SEG_EXEC of a table with entries (R297, R314). -/
theorem exec_segExec_queues {i : Nat} {s : State} (may : canStart s i 0x46 = true) (running : s.op.state = .run)
    (mode : s.loop.mode = 2) (loaded : s.pe.segs ≠ []) : exec (.segExec i) s = .next { start i s with
      pe := { s.pe with queue := s.pe.queue ++ [.segExec i] }, mbx := { (start i s).mbx with rr := s.mbx.rr ++ [i] } } := by
  have entries : ¬(start i s).pe.segs.isEmpty = true := by simpa [start] using loaded
  exact congrArg Host.Outcome.next (motionLong_queues may running (by simp [mode]) (if_neg entries))

/-- SEG_LOAD of no entry at entry 0 (R296, R298). -/
theorem exec_segLoad_empties {i : Nat} {s : State} (may : canStart s i 0x45 = true) (free : s.pe.segTag = none)
    (offset : beNat ((payload (start i s) i).take 2) = 0) (count : beNat (((payload (start i s) i).drop 2).take 2) = 0) :
    exec (.segLoad i) s = .next (setTag i (fun t => { t with reply := some ⟨0, 0, []⟩ })
      (record .fc 0x4041 0 [0] { start i s with pe := { s.pe with segs := [] } })) := by
  refine congrArg Host.Outcome.next ((fieldStep_of may).trans ?_)
  rw [segLoad_empties (s := start i s) free offset count]
  rfl

/-- PE_PLAN takes the oldest command that waits (R278, R315). -/
theorem exec_pePlan_takes {m : MotionCmd} {r : List MotionCmd} {s : State} (up : s.supply.fcLock = false)
    (waiting : s.pe.queue = m :: r) : exec .pePlan s = .next (takeMotion m { s with pe := { s.pe with queue := r } }) := by
  refine congrArg Host.Outcome.next ((if_neg (by simp [up])).trans ?_)
  rw [waiting]

/-- STOP in RUN (R308). -/
theorem exec_stop_run {i : Nat} {s : State} (may : canStart s i 0x22 = true) (running : s.op.state = .run) :
    exec (.stop i) s = .next (setTag i (fun t => { t with reply := some ⟨0, 0, []⟩ }) (stopNow (start i s))) := by
  have allowed : [OpState.run].contains (start i s).op.state = true := by simp [start, running]
  have stopped : inStates [.run] (fun s => yes (stopNow s)) (start i s) = yes (stopNow (start i s)) := if_pos allowed
  refine congrArg Host.Outcome.next ((fieldStep_of may).trans ?_)
  rw [stopped]
  rfl

/-- Settles O36: a motion command past its checks joins the queue; the stop by what each of its parts leaves to it. -/
theorem motionCommands : Obligations.MotionCommands := by
  unfold Obligations.MotionCommands
  refine ⟨?moveAbs, ?moveRel, ?velTarget, ?torqueTarget, ?home, ?segExec, ?segLoad, fun m r s => exec_pePlan_takes,
    ?stop, ?outside⟩
  case moveAbs | moveRel =>
    intro i s may running mode
    exact ⟨_, congrArg Host.Outcome.next (motionCmd_queues may running (by simp [mode]) rfl), rfl, rfl, rfl⟩
  case velTarget =>
    intro i s may running mode
    exact ⟨_, congrArg Host.Outcome.next (motionCmd_queues may running (by simpa using mode) rfl), rfl, rfl, rfl⟩
  case torqueTarget =>
    intro i s may running mode
    exact ⟨_, congrArg Host.Outcome.next (motionCmd_queues may running (by simp [mode]) rfl), rfl, rfl, rfl⟩
  case home =>
    intro i s may _ running mode fast slow
    exact ⟨_, exec_home_queues may running mode fast slow, rfl, rfl, rfl⟩
  case segExec =>
    intro i s may _ running mode loaded
    exact ⟨_, exec_segExec_queues may running mode loaded, rfl, rfl, rfl⟩
  case segLoad =>
    intro i s may inTable free offset count
    refine ⟨_, exec_segLoad_empties may free offset count, ?_, ?_⟩
    · rw [setTag_pe, record_pe]
    · rw [tag_setTag (by simpa [start_tags_length] using inTable)]
  case stop =>
    intro i s may running inTable
    have stopped := stopNow_stopView (s := start i s) running
    have left := (setTag_stopView (stopNow (start i s)) i (fun t => { t with reply := some ⟨0, 0, []⟩ })).trans stopped
    simp only [stopView, Prod.mk.injEq] at stopped left
    obtain ⟨-, -, -, tags⟩ := stopped
    obtain ⟨state, prev, queue, -⟩ := left
    refine ⟨_, exec_stop_run may running, state, prev, queue, ?_⟩
    rw [tag_setTag (by rwa [tags, start_tags_length])]
  case outside =>
    intro i s may other inTable
    obtain ⟨mbx, cp, mailed⟩ := mailed_finish i ⟨stState, 0, []⟩ (start i s)
    have left : finishSt i stState (start i s) = { start i s with mbx := mbx, cp := cp } := mailed
    refine ⟨_, congrArg Host.Outcome.next (motionCmd_refused may other), ?_, tag_finish_st _ ?_, ?_⟩
    · rw [left]
      rfl
    · rwa [start_tags_length]
    · rw [left]
      rfl

end Sys2Proof.Laws
end

section
/-! Temperatures: the module sensor of a die, its two limits at FC, and the rows that follow a housekeeping round (R381,
R382, R633, R636, R639). -/

namespace Sys2Proof.Laws
open Sys2Proof Sys2Proof.Machine Sys2Proof.Safety

/-! ## The module sensor -/

/-- Before the tenth, a conversion of a running die's module sensor only joins the sum (R381). -/
theorem exec_ntcConversion_sums {p : GdPos} {c : Nat} {s : State} (up : dieUp s p = true) (inRange : c < 4096)
    (early : (s.gd.get p).ntcSamples < 9) :
    exec (.ntcConversion p c) s = .next (putDie p { s.gd.get p with
      ntcSamples := (s.gd.get p).ntcSamples + 1, ntcSum := (s.gd.get p).ntcSum + c } s) := by
  have taken : ¬(!dieUp s p || decide (4096 ≤ c)) = true := by simp [up, inRange]
  exact congrArg Host.Outcome.next ((if_neg taken).trans (if_pos early))

section
variable {p : GdPos} {s : State} (powered : s.supply.fcLock = false)
include powered

/-- The second round beyond a module sensor's warning level warns once and marks the die (R382). -/
theorem exec_moduleTempWarning_counted (count : 2 ≤ (sensor s (p.id + 6)).warnRun)
    (fresh : (sensor s (p.id + 6)).warned = false) :
    exec (.moduleTempWarning p) s = .next
      (let t := setSensor (p.id + 6) (fun x => { x with warned := true }) s
       detect .fc 0x4C11 1 [degC s (sensor s (p.id + 6))] (putDie p { t.gd.get p with ntcWarn := true } t)) :=
  congrArg Host.Outcome.next (if_pos (by simp [count, fresh, powered]))

/-- The second round beyond a module sensor's trip level trips once (R382). -/
theorem exec_moduleOvertemperature_counted (count : 2 ≤ (sensor s (p.id + 6)).stopRun)
    (fresh : (sensor s (p.id + 6)).stopped = false) :
    exec (.moduleOvertemperature p) s = .next (detect .fc 0x4C12 2 [degC s (sensor s (p.id + 6))]
      (setSensor (p.id + 6) (fun x => { x with stopped := true }) s)) :=
  congrArg Host.Outcome.next (if_pos (by simp [count, fresh, powered]))

end

/-! ## The sensors of a round -/

/-- The general rows judge the junction, winding and coolant sensors; the module sensors have rows of their own (R636). -/
theorem judged_iff (n : Nat) : judged n = true ↔ n < 8 ∨ n = 14 ∨ n = 15 ∨ n = 16 := by
  simp [judged]
  omega

theorem limitCode_junction {n : Nat} (junction : n < 8) : limitCode n = 0x5E11 := if_pos junction

section
variable {n : Nat} {s : State} (powered : s.supply.fcLock = false)
include powered

/-- A junction sensor found broken degrades the package; it is no module sensor, so 0x5E01 is its only event (R633). -/
theorem exec_sensorBroken_junction (junction : n < 8) (fresh : (sensor s n).broken = false)
    (found : isBroken s (sensor s n) = true) :
    exec (.sensorBroken n) s = .next (detect .fc 0x5E01 1 [(n : Int), (sensor s n).raw, estParam (sensor s n)]
      (degrade (setSensor n (fun x => { x with broken := true }) s))) := by
  have acts : ¬(decide (17 ≤ n) || (sensor s n).broken || !isBroken s (sensor s n) || s.supply.fcLock) = true := by
    simp only [fresh, found, powered, Bool.or_false, Bool.not_true, decide_eq_true_eq]
    omega
  have notModule : ¬(decide (8 ≤ n) && decide (n < 14) && (sensor s n).open_) = true := by
    simp [Nat.not_le.2 junction]
  exact congrArg Host.Outcome.next ((if_neg acts).trans (if_neg notModule))

/-- The second round beyond a judged sensor's warning level warns once (R636). -/
theorem exec_temperatureWarning_counted (isJudged : judged n = true) (count : 2 ≤ (sensor s n).warnRun)
    (fresh : (sensor s n).warned = false) :
    exec (.temperatureWarning n) s = .next (detect .fc (limitCode n) 1 [(n : Int), degC s (sensor s n)]
      (setSensor n (fun x => { x with warned := true }) s)) :=
  congrArg Host.Outcome.next (if_pos (by simp [isJudged, count, fresh, powered]))

/-- The second round below a judged sensor's warning level clears its warning (R636). -/
theorem exec_temperatureWarningClear_counted (isJudged : judged n = true) (count : 2 ≤ (sensor s n).clearRun) :
    exec (.temperatureWarningClear n) s = .next (setSensor n (fun x => { x with warned := false }) s) :=
  congrArg Host.Outcome.next (if_pos (by simp [isJudged, count, powered]))

/-- The second round beyond a judged sensor's stop level stops once (R636). -/
theorem exec_temperatureStopLevel_counted (isJudged : judged n = true) (count : 2 ≤ (sensor s n).stopRun)
    (fresh : (sensor s n).stopped = false) :
    exec (.temperatureStopLevel n) s = .next (detect .fc (limitCode n + 1) 2 [(n : Int), degC s (sensor s n)]
      (setSensor n (fun x => { x with stopped := true }) s)) :=
  congrArg Host.Outcome.next (if_pos (by simp [isJudged, count, fresh, powered]))

/-- The second round of a difference degrades the package, once: the count moves on to 3 (R639). -/
theorem exec_shutdownSensorDisagree_counted {d : Die} (count : nth s.thm.shdRun d.id 0 = 2) :
    exec (.shutdownSensorDisagree d) s = .next (detect .fc 0x5E03 1 [(d.id : Int), nth s.thm.shdDiff d.id 0]
      (degrade { s with thm := { s.thm with
        shdRun := upd s.thm.shdRun d.id (fun _ => 3), shdSuspect := true } })) :=
  congrArg Host.Outcome.next (if_pos (by simp [count, powered]))

end

/-- Settles O41: each row by its guard; the general limits take the junction's code, and the module warning marks the die
before it is recorded. -/
theorem moduleAndDieTemperatures : Obligations.ModuleAndDieTemperatures := by
  unfold Obligations.ModuleAndDieTemperatures
  refine ⟨fun p c s => exec_ntcConversion_sums, ?moduleWarning,
    fun p s count fresh powered => exec_moduleOvertemperature_counted powered count fresh,
    fun n s junction fresh found powered => exec_sensorBroken_junction powered junction fresh found,
    ?warning, ?clears, ?stop, fun d s count powered => exec_shutdownSensorDisagree_counted powered count⟩
  case moduleWarning =>
    intro p s count fresh powered
    refine ⟨_, ?marked, ?state, ?events, exec_moduleTempWarning_counted powered count fresh⟩
    case marked => exact congrArg GdDie.ntcWarn (putDie_get _ _ _)
    case state | events => rfl
  case warning =>
    intro n s junction count fresh powered
    rw [← limitCode_junction junction]
    exact exec_temperatureWarning_counted powered ((judged_iff n).2 (.inl junction)) count fresh
  case clears =>
    intro n s which count powered
    exact exec_temperatureWarningClear_counted powered ((judged_iff n).2 which) count
  case stop =>
    intro n s junction count fresh powered
    rw [exec_temperatureStopLevel_counted powered ((judged_iff n).2 (.inl junction)) count fresh,
      limitCode_junction junction]

end Sys2Proof.Laws
end

section
/-! The Safety Monitor: its hash slot, the torque comparison and the engines without a copy (R402, R410, R419 to R427). -/

namespace Sys2Proof.Laws
open Sys2Proof Sys2Proof.Machine Sys2Proof.Safety

/-! ## The hash slot -/

section
variable {s : State} (intact : ∀ i, i < 3 → (copyOf s i).isolated = false ∧ (copyOf s i).halted = false)
include intact

/-- Copies that are neither isolated nor halted all vote (R402). -/
theorem voters_intact (a b c : Option Nat) : voters s [a, b, c] = [(0, a), (1, b), (2, c)] := by
  obtain ⟨in0, runs0⟩ := intact 0 (by decide)
  obtain ⟨in1, runs1⟩ := intact 1 (by decide)
  obtain ⟨in2, runs2⟩ := intact 2 (by decide)
  simp [voters, List.range_succ, nth, in0, runs0, in1, runs1, in2, runs2]

theorem voteOf_intact_agree (n : Option Nat) : voteOf (voters s [n, n, n]) = .agree := by
  rw [voters_intact intact]
  exact if_pos (by simp)

/-- A hash slot in which the three copies agree notes the millisecond of PT in which it was held (R410). -/
theorem exec_hashSlot_agree (majority : s.sm.noMajority = false) (powered : s.supply.fcLock = false)
    (due : hashDue s = true) (n : Option Nat) :
    exec (.hashSlot n n n) s = .next { s with sm := { s.sm with hashMs := ptMs s, busySeq := some s.sense.seq } } := by
  have held : ¬(s.sm.noMajority || s.supply.fcLock || !hashDue s) = true := by simp [majority, powered, due]
  refine congrArg Host.Outcome.next ((if_neg held).trans ?_)
  have agree := voteOf_intact_agree
    (s := { s with sm := { s.sm with hashMs := ptMs s, busySeq := some s.sense.seq } }) intact n
  simp only [agree]

end

/-- PT has stepped forward by 1 ms: it stands in its millisecond 6, in an idle window, the count of ns in millisecond 5. -/
def ptSteppedForward : State := { State.reset with
  pt := { State.reset.pt with ns := 5003000, off := 1000000 }
  sense := { State.reset.sense with stamp := 6000000 }
  mod := { State.reset.mod with h := 400000 } }

theorem intact_ptSteppedForward (i : Nat) (copy : i < 3) :
    (copyOf ptSteppedForward i).isolated = false ∧ (copyOf ptSteppedForward i).halted = false := by
  interval_cases i <;> exact ⟨rfl, rfl⟩

theorem hashDue_ptSteppedForward : hashDue ptSteppedForward = true := by decide +kernel

/-- Refutes O42: the hash slot is held once in each millisecond of PT (R410), which is the count of ns and its forward
steps; once PT has stepped forward by 1 ms, the millisecond noted is not that of the count of ns. -/
theorem not_weltVotes : ¬Obligations.WeltVotes := by
  unfold Obligations.WeltVotes
  rintro ⟨slots, -⟩
  have claimed := (slots none 0 ptSteppedForward rfl rfl intact_ptSteppedForward).2 hashDue_ptSteppedForward
  have noted := exec_hashSlot_agree intact_ptSteppedForward rfl rfl hashDue_ptSteppedForward none
  have same := congrArg (fun t : State => t.sm.hashMs) (Host.Outcome.next.inj (noted.symm.trans claimed))
  exact absurd (show ptMs ptSteppedForward = ptSteppedForward.pt.ns / 1000000 from same) (by decide +kernel)

/-! ## The engines without a copy -/

/-- HK is reset once 25 ms have passed without a report (R427). -/
theorem exec_hkWatchdogExpiry_resets {s : State} (powered : s.supply.fcLock = false) (majority : s.sm.noMajority = false)
    (silent : s.sm.hkLast + 25000000 ≤ now s) : exec .hkWatchdogExpiry s = .next (hkReset s) := by
  refine congrArg Host.Outcome.next (if_neg ?_)
  simp [powered, majority, silent]

/-- Settles O43: each comparison by its count, the watchdog by the time since HK's last report. -/
theorem torqueSupervision : Obligations.TorqueSupervision := by
  unfold Obligations.TorqueSupervision
  refine ⟨fun s count => congrArg Host.Outcome.next (if_pos count),
    fun s count => congrArg Host.Outcome.next (if_pos count),
    fun s lasted => congrArg Host.Outcome.next (if_pos lasted),
    fun s count => congrArg Host.Outcome.next (if_pos count), ?_⟩
  intro l s powered majority silent resets
  rw [resets]
  exact exec_hkWatchdogExpiry_resets powered majority silent

end Sys2Proof.Laws
end

section
/-! The STO channels, the brake switches and the contactors (R439, R440, R443, R445, R446, R453 to R457, R459, R461, R462,
R466, R469). -/

namespace Sys2Proof.Laws
open Sys2Proof Sys2Proof.Machine Sys2Proof.Safety

/-! ## The STO channels -/

/-- Channel B's filtered level has risen to active and goes to FC as a status message (R439, R440). -/
def stoMessaged (s : State) : State := { s with
  op := { s.op with stoActive := s.saf.stoFilt.a || true }
  saf := { s.saf with
    stoFilt := ⟨s.saf.stoFilt.a, true⟩
    stoDiff := if s.saf.stoFilt.a != true then some (now s) else none
    stoBoth := s.saf.stoBoth || (s.saf.stoFilt.a && true)
    stoMsg := some true
    stoTxAt := now s } }

/-- The rise of channel B is the message and, when the demand is new, a record; the brake follows. -/
theorem exec_stoFilterChange_b {s : State} (powered : s.supply.hbLock = false) (noTest : s.saf.stoTest = none)
    (inactive : s.saf.stoFilt.b = false) (raw : s.saf.stoRaw.b = true)
    (held : s.saf.stoSince.b + parN s P.safetyStoFilter * 100000 ≤ now s) :
    ∃ v, exec (.stoFilterChange .b) s = .next (brake v) ∧ Recorded (stoMessaged s) v := by
  have guard : ¬(s.supply.hbLock || s.saf.stoTest.isSome || s.saf.stoFilt.get .b == true ||
      decide (now s < s.saf.stoSince.get .b + parN s P.safetyStoFilter * 100000)) = true := by
    have late : decide (now s < s.saf.stoSince.get .b + parN s P.safetyStoFilter * 100000) = false :=
      decide_eq_false (Nat.not_lt.2 held)
    rw [late, powered, noTest]
    simp [Two.get, inactive]
  have level : s.saf.stoRaw.get .b = true := raw
  change ∃ v, execStoFilterChange .b s = _ ∧ _
  delta execStoFilterChange
  dsimp only
  rw [level]
  refine ⟨_, congrArg Host.Outcome.next (if_neg guard), ?_⟩
  change Recorded _ (if (!stoNow s && true) = true then record _ _ _ _ (stoMessaged s) else stoMessaged s)
  split
  · exact recorded_record _ _ _ _ _
  · exact Recorded.refl _

/-- FC takes the level of a message that arrives, and an active one is PI (R440). -/
theorem exec_stoStatusReceived_taken {active : Bool} {s : State} (message : s.saf.stoMsg = some active)
    (powered : s.supply.fcLock = false) (linked : linkUp s.jx.hb = true) : exec .stoStatusReceived s = .next
      (let u := { s with saf := { s.saf with fcSto := active, stoMsg := none } }
       if active then brake (stoPi u) else u) := by
  have guard : ¬(s.supply.fcLock || !linkUp s.jx.hb) = true := by simp [powered, linked]
  change execStoStatusReceived s = _
  unfold execStoStatusReceived
  rw [message]
  exact congrArg Host.Outcome.next (if_neg guard)

/-- The forced test ends when its time has passed: no failure if both filtered paths registered the level, otherwise event
0x5303, which holds a boot as well (R446). -/
theorem exec_stoPathTestEnd_late {boot : Bool} {s : State} (test : s.saf.stoTest = some boot)
    (late : s.saf.stoTestAt + stoTestNs s ≤ now s) (x y : Option Nat) :
    exec (.stoPathTestEnd x y) s = .next
      (let okA := stoPathOk s x
       let okB := stoPathOk s y
       let u := { s with saf := { s.saf with stoTest := none, stoTestFail := !(okA && okB) } }
       if okA && okB then u
       else
         let u := detect .hb 0x5303 1 [(if okA then 1 else 0 : Int)] u
         if boot then { u with op := { u.op with faultHold := true } } else u) := by
  change execStoPathTestEnd x y s = _
  unfold execStoPathTestEnd
  rw [test]
  exact congrArg Host.Outcome.next (if_neg (Nat.not_lt.2 late))

/-- Settles O19: each row by its guard; the forced test is judged by its two paths. -/
theorem stoChannels : Obligations.StoChannels := by
  unfold Obligations.StoChannels
  refine ⟨?_, ?_, ?_, ?_, ?_, ?_, ?_, ?_⟩
  · intro c a s changed
    exact congrArg Host.Outcome.next (if_neg (by simpa using changed))
  · intro s powered noTest inactive raw held
    obtain ⟨v, e, evt, maxClass, irq, rfl⟩ := exec_stoFilterChange_b powered noTest inactive raw held
    obtain ⟨rel, hs, ls, test, at_, braked⟩ := braked_brake
      { stoMessaged s with evt := evt, op := { (stoMessaged s).op with maxClass := maxClass }
                           mbx := { (stoMessaged s).mbx with irq := irq } }
    refine ⟨_, e, ?_⟩
    rw [braked]
    refine ⟨rfl, Bool.or_true _, rfl, ?_, rfl⟩
    cases a : s.saf.stoFilt.a <;> simp [stoMessaged, a, now]
  · intro s powered linked due
    have guard : ¬(s.supply.hbLock || s.saf.fcLoss.isSome || decide (now s < s.saf.stoTxAt + 30000)) = true := by
      have late : decide (now s < s.saf.stoTxAt + 30000) = false := decide_eq_false (Nat.not_lt.2 due)
      simp [powered, linked, late]
    exact congrArg Host.Outcome.next (if_neg guard)
  · intro s message powered linked
    exact exec_stoStatusReceived_taken message powered linked
  · intro s message powered linked
    exact exec_stoStatusReceived_taken message powered linked
  · intro u s since late fresh
    have guard : (heldFor s.saf.stoDiff (parN s P.safetyStoDiscTime * 1000000) s && !s.saf.stoDisc) = true := by
      rw [heldFor_of_le since (elapsed_parN late), fresh]
      rfl
    exact congrArg Host.Outcome.next (if_pos guard)
  · intro b x y s test late inA inB
    have okA : stoPathOk s (some x) = true := decide_eq_true inA
    have okB : stoPathOk s (some y) = true := decide_eq_true inB
    rw [exec_stoPathTestEnd_late test late, okA, okB]
    rfl
  · intro x y s test late missed
    have okB : stoPathOk s y = false := by
      obtain rfl | ⟨n, rfl, out⟩ := missed
      · rfl
      · exact decide_eq_false (Nat.not_lt.2 out)
    rw [exec_stoPathTestEnd_late test late, okB]
    simp

/-! ## The brake switches -/

/-- The brake is enabled, powered and not under test, so a test pulse is admitted by what is left of its row (R456). -/
theorem brakeTest_admitted {s : State} (enabled : par s P.safetyBrkEnable = 1) (idle : s.saf.brkTest = none)
    (powered : s.supply.hbLock = false) :
    ¬(!parOn s P.safetyBrkEnable || s.saf.brkTest.isSome || s.supply.hbLock) = true := by
  simp [parOn_of_eq enabled, idle, powered]

/-- A test pulse that has ended: the switches follow the command again, and the feedback has been judged (R456). -/
def pulseEnded (x : BrkTest) (pass : Bool) (s : State) : State := { s with saf := { s.saf with
  brkTest := none, brkHs := s.saf.brkRel, brkLs := s.saf.brkRel
  brkFault := !pass || (x.close && s.saf.brkDue.isEmpty && s.saf.brkFault), brkMis := s.saf.brkMis && !pass
  brkFb := s.saf.brkRel
  brkNextHs := if x.close then s.saf.brkNextHs else !x.hs } }

theorem exec_brakeTestPulseEnd_late {x : BrkTest} {s : State} (test : s.saf.brkTest = some x)
    (late : x.since + parN s P.safetyBrkTestPulse * 1000 ≤ now s) (fb : Nat) :
    exec (.brakeTestPulseEnd fb) s = .next (if decide (fb < 10) then pulseEnded x (decide (fb < 10)) s
      else detect .hb 0x5331 (brakeClass s) [(bit1 (!x.hs) : Int), (fb : Int)] (pulseEnded x (decide (fb < 10)) s)) := by
  change execBrakeTestPulseEnd fb s = _
  unfold execBrakeTestPulseEnd
  rw [test]
  exact congrArg Host.Outcome.next (if_neg (Nat.not_lt.2 late))

/-- Settles O22: each row by its guard; the end of a pulse by its feedback. -/
theorem brakeSwitches : Obligations.BrakeSwitches := by
  unfold Obligations.BrakeSwitches
  refine ⟨?_, ?_, ?_, ?_, ?_, ?_, ?_⟩
  · intro u s run running released since late
    have guard : (s.op.state == .run && s.mod.running && !brakeApplied s &&
        heldFor s.saf.ctlAt (parN s P.safetyBrkReleaseDelay * 1000000) s) = true := by
      rw [run, running, released, heldFor_of_le since (elapsed_parN late)]
      rfl
    exact congrArg Host.Outcome.next (if_pos guard)
  · intro s applied
    exact congrArg Host.Outcome.next (if_pos applied)
  · intro s enabled idle powered released run late
    have due : (s.op.state == .run && s.saf.brkNextHs == s.saf.brkNextHs &&
        decide (s.saf.brkTestAt + parN s P.safetyBrkTestPeriod * 1000000000 ≤ now s)) = true := by
      have passed : s.saf.brkTestAt + parN s P.safetyBrkTestPeriod * 1000000000 ≤ now s := late
      simp [run, passed]
    exact congrArg Host.Outcome.next
      ((if_neg (brakeTest_admitted enabled idle powered)).trans ((if_pos released).trans (if_pos due)))
  · intro hs l s enabled idle powered applied ready turn
    have due : (s.op.state == .ready && s.saf.brkDue.head? == some hs) = true := by simp [ready, turn]
    have rest : s.saf.brkDue.drop 1 = l := by rw [turn]; rfl
    rw [← rest]
    exact congrArg Host.Outcome.next ((if_neg (brakeTest_admitted enabled idle powered)).trans
      ((if_neg (by simp [applied])).trans (if_pos due)))
  · intro fb x s test late low
    rw [exec_brakeTestPulseEnd_late test late, decide_eq_true low]
    exact ⟨_, rfl, rfl, rfl, rfl, rfl, Bool.and_false _, rfl, rfl⟩
  · intro fb x s test late high
    have fails : decide (fb < 10) = false := decide_eq_false (Nat.not_lt.2 high)
    refine ⟨pulseEnded x false s, rfl, rfl, ?_⟩
    rw [exec_brakeTestPulseEnd_late test late, fails]
    cases hs : x.hs <;> simp [bit1]
  · intro fb ns s enabled idle lasted wrong
    have contradicts : (if s.saf.brkRel then decide (fb < 50) else decide (10 < fb)) = true := by
      obtain ⟨applied, above⟩ | ⟨released, below⟩ := wrong
      · simp [applied, above]
      · simp [released, below]
    have guard : (decide (1000000 ≤ ns) && s.saf.brkTest.isNone && parOn s P.safetyBrkEnable &&
        (if s.saf.brkRel then decide (fb < 50) else decide (10 < fb))) = true := by
      rw [contradicts, parOn_of_eq enabled, idle, decide_eq_true lasted]
      rfl
    exact congrArg Host.Outcome.next (if_pos guard)

/-! ## The contactors -/

/-- Outside a discharge no time of K_POS opening is noted (R469). -/
theorem posOpened_of_none {s : State} (still : s.saf.dis = none) (k : Kont) (closed : Bool) : posOpened k closed s = s := by
  unfold posOpened
  split
  · have kept : s.saf.dis.map (fun d => { d with posOpen := some (now s) }) = s.saf.dis := by rw [still]; rfl
    rw [kept]
  · rfl

theorem preStep_of_none {s : State} (idle : s.saf.pre = none) : preStep s = s := by
  unfold preStep
  rw [idle]

theorem autoDischarge_of_ne {s : State} (other : s.op.state ≠ .safeHold) : autoDischarge s = s := if_neg (by simp [other])

/-- Without a precharge, a discharge or a SAFE_HOLD that could begin one, nothing waits for a feedback (R464, R466, R469). -/
theorem feedback_awaited_by_none {u : State} (noDischarge : u.saf.dis = none) (noPrecharge : u.saf.pre = none)
    (other : u.op.state ≠ .safeHold) (k : Kont) (closed : Bool) :
    autoDischarge (startWinding (preStep (posOpened k closed u))) = u := by
  rw [posOpened_of_none noDischarge, preStep_of_none noPrecharge, startWinding_of_none noDischarge, autoDischarge_of_ne other]

/-- A contactor whose time of a command change has been judged. -/
def judgedK (k : Kont) (s : State) : State := { s with saf := { s.saf with kAt := konSet s.saf.kAt k none } }

/-- Outside DISCHARGE a contactor commanded open is judged by its feedback alone (R461). -/
theorem judgeOpen_of_ne {s : State} (other : s.op.state ≠ .discharge) (k : Kont) :
    judgeOpen k s = if konGet s.saf.kFb k then .welded else .open_ := by
  simp [judgeOpen, other]

section
variable {k : Kont} {u : Nat} {s : State} (changed : konGet s.saf.kAt k = some u) (late : u + 100000000 ≤ now s)
  (powered : s.supply.hbLock = false)
include changed late powered

theorem contactorCheck_due : ¬(!heldFor (konGet s.saf.kAt k) 100000000 s || s.supply.hbLock) = true := by
  simp [heldFor_of_le changed late, powered]

/-- A contactor commanded closed follows, or is event 0x5341 (R459). -/
theorem exec_contactorCheckDue_closed (noCheck : s.saf.check = none) (closed : konGet s.saf.kCmd k = true) :
    exec (.contactorCheckDue k) s = .next (if konGet s.saf.kFb k then judgedK k s
      else detect .hb 0x5341 2 [(kontNum k : Int)] (judgedK k s)) := by
  refine congrArg Host.Outcome.next ((if_neg (contactorCheck_due changed late powered)).trans ?_)
  rw [noCheck]
  exact if_pos closed

/-- A contactor commanded open outside DISCHARGE follows, or is welded (R461). -/
theorem exec_contactorCheckDue_opened (noCheck : s.saf.check = none) (opened : konGet s.saf.kCmd k = false)
    (other : s.op.state ≠ .discharge) : exec (.contactorCheckDue k) s = .next (if konGet s.saf.kFb k
      then weldFound k (judgedK k s) else judgedK k s) := by
  refine congrArg Host.Outcome.next ((if_neg (contactorCheck_due changed late powered)).trans ?_)
  rw [noCheck]
  refine (if_neg (Bool.not_eq_true _ ▸ opened)).trans ?_
  rw [judgeOpen_of_ne other]
  cases konGet s.saf.kFb k <;> rfl

/-- A contactor under CONTACTOR_CHECK is judged by that check (R461). -/
theorem exec_contactorCheckDue_checked {i : Nat} {closing : Bool} (check : s.saf.check = some (i, kontNum k, closing)) :
    exec (.contactorCheckDue k) s = .next (contactorCheckStep i k closing s) := by
  refine congrArg Host.Outcome.next ((if_neg (contactorCheck_due changed late powered)).trans ?_)
  rw [check]
  exact if_pos (beq_self_eq_true _)

end

/-- The contactor that CONTACTOR_CHECK names, commanded closed (R461). -/
def checkCloses (i n : Nat) (u : State) : State :=
  let k : Kont := if n == 0 then .neg else if n == 1 then .pre else .pos
  { u with saf := { u.saf with
    kCmd := konSet u.saf.kCmd k true, kAt := konSet u.saf.kAt k (some (now u)), check := some (i, n, true) } }

theorem exec_contactorCheck_closes {i n : Nat} {s : State} (may : canStart s i 0x33 = true) (standby : s.op.state = .standby)
    (noCheck : s.saf.check = none) (names : (nth (payload (start i s) i) 0 0).toNat = n) (known : n ≤ 2) :
    exec (.contactorCheck i) s = .next { checkCloses i n (start i s) with
      mbx := { (start i s).mbx with rr := (start i s).mbx.rr ++ [i] } } := by
  subst names
  have inStandby : ¬((start i s).op.state != .standby) = true := by simp [start, standby]
  have free : ¬(start i s).saf.check.isSome = true := by simp [start, noCheck]
  exact congrArg Host.Outcome.next (longStep_inl may
    ((if_neg inStandby).trans ((if_neg (Nat.not_lt.2 known)).trans (if_neg free))))

/-- Settles O23: a feedback without a sequence under way is taken alone; each verdict by the command and the feedback. -/
theorem contactorsJudged : Obligations.Contactors := by
  unfold Obligations.Contactors
  refine ⟨?_, ?_, ?_, ?_, ?_, ?_, ?_, ?_⟩
  · intro k b s changed powered noDischarge noPrecharge other
    have guard : ¬(konGet s.saf.kFb k == b || s.supply.hbLock) = true := by simp [changed, powered]
    refine congrArg Host.Outcome.next ((if_neg guard).trans (feedback_awaited_by_none ?_ ?_ ?_ k b))
    exacts [noDischarge, noPrecharge, other]
  · intro k u s changed late powered noCheck follows other
    cases cmd : konGet s.saf.kCmd k with
    | true =>
      rw [exec_contactorCheckDue_closed changed late powered noCheck cmd, follows, cmd]
      rfl
    | false =>
      rw [exec_contactorCheckDue_opened changed late powered noCheck cmd other, follows, cmd]
      rfl
  · intro k u s changed late powered noCheck cmd opened
    rw [exec_contactorCheckDue_closed changed late powered noCheck cmd, opened]
    rfl
  · intro k u s changed late powered noCheck cmd closed other
    rw [exec_contactorCheckDue_opened changed late powered noCheck cmd other, closed]
    rfl
  · intro k i u s changed late powered check closed
    rw [exec_contactorCheckDue_checked changed late powered check]
    exact congrArg Host.Outcome.next (if_pos closed)
  · intro k i u s changed late powered check opened other
    have verdict : judgeOpen k s = .open_ := by rw [judgeOpen_of_ne other, opened]; rfl
    rw [exec_contactorCheckDue_checked changed late powered check]
    unfold contactorCheckStep
    rw [verdict]
    rfl
  · intro i n s may standby noCheck names known
    refine ⟨_, exec_contactorCheck_closes may standby noCheck names known, ?_⟩
    simp [checkCloses, start, setTag, now]
  · intro u s lost late
    have guard : heldFor s.saf.fcLoss (parN s P.safetyContFcLossHold * 1000000000) s = true := heldFor_of_le lost late
    exact ⟨_, congrArg Host.Outcome.next (if_pos guard), cmdK_kCmd s _ _ _, rfl, rfl⟩

end Sys2Proof.Laws
end

section
/-! DISCHARGE with its paths, and the safe messages (R450, R452, R460, R466, R468, R469, R471, R473 to R475). -/

namespace Sys2Proof.Laws
open Sys2Proof Sys2Proof.Machine Sys2Proof.Safety

/-! ## DISCHARGE begins -/

/-- The end of the charge pulses at READY leaves time and the safety functions' block (R54). -/
theorem leaveReady_keeps (s : State) : (leaveReady s).pt = s.pt ∧ (leaveReady s).saf = s.saf := by
  unfold leaveReady
  split
  · obtain ⟨tags, journal, e⟩ := answered_endOpcodes [0x21] stState 0 s
    rw [e]
    exact ⟨rfl, rfl⟩
  · exact ⟨rfl, rfl⟩

/-- DIS_ON is on and the resistor path has begun (R466). -/
def resistorOn (tag : Option Nat) (s : State) : State := { s with saf := { s.saf with
  dis := some ⟨tag, now s, false, false, some (now s), 0, false, 0, 0, 0, if s.saf.kFb.pos then none else some (now s)⟩
  disOn := true, disPath := 1 } }

/-- The winding path starts only where it is waited for (R469). -/
theorem startWinding_of_notWaiting {d : DisRun} {s : State} (dis : s.saf.dis = some d) (wait : d.wait = false) :
    startWinding s = s := by
  unfold startWinding
  rw [dis]
  exact if_neg (by simp [wait])

/-- With a resistor a discharge that does not ask for the winding alone begins with the resistor path (R466). -/
theorem beginDischarge_resistor {s : State} (resistor : parN s P.safetyDisR ≠ 0) (tag : Option Nat) :
    beginDischarge tag false s = record .fc 0x5351 0 [0] (resistorOn tag (changeState .discharge 0 (leaveReady s))) := by
  have on : (!false && parN s P.safetyDisR != 0) = true := by simp [resistor]
  delta beginDischarge
  dsimp only
  rw [on]
  exact startWinding_of_notWaiting (by rw [record_saf]) rfl

/-- A DISCHARGE by the resistor in STANDBY (R466). -/
theorem exec_discharge_begins {i : Nat} {s : State} (may : canStart s i 0x24 = true) (standby : s.op.state = .standby)
    (path : (nth (payload (start i s) i) 0 0).toNat = 0) (resistor : parN s P.safetyDisR ≠ 0) :
    exec (.discharge i) s = .next { beginDischarge (some i) false (start i s) with
      mbx := { (beginDischarge (some i) false (start i s)).mbx with
        rr := (beginDischarge (some i) false (start i s)).mbx.rr ++ [i] } } := by
  have admitted : ¬(!(List.contains [OpState.standby, .ready, .safeHold] (start i s).op.state)) = true := by simp [start, standby]
  have present : parN (start i s) P.safetyDisR ≠ 0 := resistor
  have paths : ¬(parN (start i s) P.safetyDisId == 0 && (0 == 1 || parN (start i s) P.safetyDisR == 0)) = true := by
    simp [present]
  refine congrArg Host.Outcome.next (longStep_inl may ((if_neg admitted).trans ?_))
  rw [path]
  exact (if_neg (Nat.not_lt_zero 1)).trans (if_neg paths)

/-! ## Its failures -/

/-- A record changes nothing that the winding path waits for (R469). -/
theorem windingAllowed_record (d : Die) (code cls : Nat) (ps : List Int) (s : State) :
    windingAllowed (record d code cls ps s) = windingAllowed s := by
  obtain ⟨evt, maxClass, irq, e⟩ := recorded_record d code cls ps s
  rw [e]
  rfl

/-- The resistor path is given up with event 0x5352, and the winding path is due (R468). -/
def resistorGivenUp (d : DisRun) (s : State) : State :=
  record .fc 0x5352 1 (disParams d) { s with saf := { s.saf with
    disOn := false, disPath := 2, dis := some { d with resFailed := true, wait := true, onSince := none } } }

/-- After two failed rounds a winding path that is not allowed fails at once (R468, R471). -/
theorem exec_dischargeResistorFailed_twice {d : DisRun} {s : State} (dis : s.saf.dis = some d) (on : s.saf.disOn = true)
    (rounds : 2 ≤ d.fails) (barred : windingAllowed s = false) :
    exec .dischargeResistorFailed s = .next (detect .fc 0x5353 3 []
      { resistorGivenUp d s with saf := { (resistorGivenUp d s).saf with disPath := 3 } }) := by
  have guard : (s.saf.disOn && decide (2 ≤ d.fails)) = true := by simp [on, rounds]
  have stillBarred : ¬windingAllowed (resistorGivenUp d s) = true := by
    rw [resistorGivenUp, windingAllowed_record]
    exact Bool.not_eq_true _ ▸ barred
  change execDischargeResistorFailed s = _
  unfold execDischargeResistorFailed
  rw [dis]
  exact congrArg Host.Outcome.next ((if_pos guard).trans (if_neg stillBarred))

/-- The two time bounds of the winding path (R469). -/
theorem windingFails_of_late {d : DisRun} {u : Nat} {s : State} (winding : d.winding = true)
    (late : (d.onSince = some u ∧ u + 210000000 ≤ now s ∧ 9 * d.v0 < 10 * vdcSel s) ∨
      (d.posOpen = some u ∧ u + 3000000000 ≤ now s ∧ 60 * 65536 ≤ vdcSel s)) : windingFails d s = true := by
  unfold windingFails
  obtain ⟨since, passed, high⟩ | ⟨since, passed, high⟩ := late
  · rw [winding, heldFor_of_le since passed, decide_eq_true high]
    rfl
  · rw [winding, heldFor_of_le since passed, decide_eq_true high]
    exact Bool.or_true _

/-! ## Its end -/

/-- DIS_ON and the path that FC reports, which only a discharge changes. -/
def disView (s : State) : Bool × Nat := (s.saf.disOn, s.saf.disPath)

section
variable (s : State)

@[simp] theorem record_disView (d : Die) (code cls : Nat) (ps : List Int) : disView (record d code cls ps s) = disView s := by
  rw [disView, record_saf, disView]
@[simp] theorem contactors_disView : disView (contactors s) = disView s := by
  obtain ⟨cmd, at_, e⟩ := commanded_contactors s; rw [e]; rfl
@[simp] theorem brake_disView : disView (brake s) = disView s := by
  obtain ⟨rel, hs, ls, test, at_, e⟩ := braked_brake s; rw [e]; rfl
@[simp] theorem settle_disView (new : OpState) : disView (settle new s) = disView s := by
  obtain ⟨due, at_, test, testAt, e⟩ := settle_eq new s; rw [e]; rfl
@[simp] theorem changeState_disView (new : OpState) (cause : Nat) : disView (changeState new cause s) = disView s := by
  rw [changeState_eq_settle, settle_disView, brake_disView, contactors_disView, record_disView]; rfl

end

/-- The discharge is over: DIS_ON off, gates off, STANDBY (R471). -/
def discharged (d : DisRun) (s : State) : State :=
  let u := record .fc 0x5354 0 [(bit1 d.winding : Int), ((now s - d.start) / 1000000 : Nat)] s
  changeState .standby 0 (endControl { u with saf := { u.saf with dis := none, disOn := false, disPath := 0 } })

/-- With VDC below 60 V the discharge ends, and the command that began it is answered. -/
theorem exec_dischargeComplete_low {d : DisRun} {s : State} (dis : s.saf.dis = some d) (state : s.op.state = .discharge)
    (low : vdcSel s < 60 * 65536) : ∃ t, exec .dischargeComplete s = .next t ∧ Answered (discharged d s) t := by
  have guard : (s.op.state == .discharge && decide (vdcSel s < 60 * 65536)) = true := by
    rw [state, decide_eq_true low]
    rfl
  change ∃ t, execDischargeComplete s = .next t ∧ _
  unfold execDischargeComplete
  rw [dis]
  refine ⟨_, congrArg Host.Outcome.next (if_pos guard), ?_⟩
  split
  · exact answered_answer _ _ (discharged d s)
  · exact Answered.refl (discharged d s)

/-- Settles O25: DISCHARGE by its first path, its failures by their guards, its end by the change to STANDBY. -/
theorem dischargePaths : Obligations.DischargePaths := by
  unfold Obligations.DischargePaths
  refine ⟨?_, ?_, ?_, ?_⟩
  · intro i s may standby path resistor
    obtain ⟨pt, saf⟩ : (leaveReady (start i s)).pt = s.pt ∧ (leaveReady (start i s)).saf = s.saf :=
      leaveReady_keeps (start i s)
    refine ⟨_, exec_discharge_begins may standby path resistor, ?_⟩
    rw [beginDischarge_resistor (s := start i s) resistor]
    simp [resistorOn, pt, saf, now]
  · intro d s dis on rounds barred
    exact exec_dischargeResistorFailed_twice dis on rounds barred
  · intro d u s dis winding late
    change execDischargeWindingFailed s = _
    unfold execDischargeWindingFailed
    conv_lhs => rw [dis]
    exact congrArg Host.Outcome.next (if_pos (windingFails_of_late winding late))
  · intro d s dis state low
    obtain ⟨t, e, tags, journal, rfl⟩ := exec_dischargeComplete_low dis state low
    have view : disView (discharged d s) = (false, 0) := changeState_disView _ _ _
    exact ⟨_, e, by simp [discharged], by simp [discharged, endControl, dropStart], congrArg Prod.fst view,
      congrArg Prod.snd view, by simp [discharged, endControl]⟩

/-! ## The safe messages -/

/-- A frame of 16 bytes with the drive's own safe ID is a copy of a safe message (R473). -/
theorem safeMessage_addressed {b : List Byte} {s : State} (enabled : par s P.safetyCmsgEnable = 1)
    (powered : s.supply.hbLock = false) (size : b.length = 16) (own : beNat (b.take 2) = parN s P.safetyCmsgRxId) :
    ¬(!parOn s P.safetyCmsgEnable || s.supply.hbLock || b.length != 16 ||
      beNat (b.take 2) != parN s P.safetyCmsgRxId) = true := by
  simp [parOn_of_eq enabled, powered, size, own]

/-- The message of a copy received now (R473). -/
def copyOfBytes (b : List Byte) (s : State) : SafeMsg :=
  ⟨beNat ((b.drop 2).take 2), bitOf (nth b 8 0).toNat 0, bitOf (nth b 8 0).toNat 1, beNat ((b.drop 10).take 2), now s⟩

section
variable {s : State} (waiting : s.saf.cand = ⟨none, none⟩)
include waiting

/-- Before the first message every sequence number is in sequence (R475). -/
theorem seqOk_first (first : s.saf.msgSeq = none) (c : Ch) (q : Nat) : seqOk c q s = true := by
  cases c <;> simp [seqOk, waiting, first, Two.get]

/-- A copy without a partner waits for it (R475). -/
theorem pairCopy_first (c : Ch) (m : SafeMsg) :
    pairCopy c m s = { s with saf := { s.saf with cand := s.saf.cand.set c (some m) } } := by
  cases c <;> simp [pairCopy, waiting, Two.get]

end

/-- Settles O26: a copy by its code, its age and its sequence; the deadline by its guard. -/
theorem safeMessages : Obligations.SafeMessages := by
  unfold Obligations.SafeMessages
  refine ⟨?_, ?_, ?_⟩
  · intro c b s enabled powered size own bad
    have wrong : (crc32c (b.take 12) != beNat (b.drop 12)) = true := bne_iff_ne.2 bad
    exact congrArg Host.Outcome.next ((if_neg (safeMessage_addressed enabled powered size own)).trans (if_pos wrong))
  · intro c b s enabled powered size own good free waiting first
    have right : ¬(crc32c (b.take 12) != beNat (b.drop 12)) = true := by simp [good]
    have fresh : ¬(s.nt.aligned && decide (par s P.safetyCmsgAgeMax * 1000 < msgAge s (beNat ((b.drop 4).take 4)))) = true := by
      simp [free]
    have inSequence : ¬(!seqOk c (beNat ((b.drop 2).take 2)) s) = true := by simp [seqOk_first waiting first]
    exact congrArg Host.Outcome.next ((if_neg (safeMessage_addressed enabled powered size own)).trans ((if_neg right).trans
      ((if_neg fresh).trans ((if_neg inSequence).trans (pairCopy_first waiting c (copyOfBytes b s))))))
  · intro s enabled fresh booted late
    have guard : (parOn s P.safetyCmsgEnable && !s.saf.cmsgMissed && s.boot.done &&
        decide (s.saf.msgAt + parN s P.safetyCmsgDeadline * 1000000 ≤ now s)) = true := by
      rw [parOn_of_eq enabled, fresh, booted, decide_eq_true (elapsed_parN late)]
      rfl
    exact congrArg Host.Outcome.next (if_pos guard)

end Sys2Proof.Laws
end

section
/-! The end of a transmit attempt on a CAN channel (R57, R579, R583). -/

namespace Sys2Proof.Laws
open Sys2Proof Sys2Proof.Machine Sys2Proof.Safety

/-- A classic frame with identifier 0x123 and no data, sent by CAN_TX on tag 0. -/
def plainFrame : CanTx := ⟨⟨0x123, 0, false, false, false, List.replicate 8 0, [], 0⟩, some 0, false, false, none, false, none, 0⟩

/-- Channel A is ON and error passive by one count, and buffer 2 holds the frame; no event has been recorded yet. -/
def passiveByOne : State := { State.reset with
  can := { State.reset.can with a := { CanCh.reset with
    mode := .on, tec := 128, tx := upd CanCh.reset.tx 2 (fun _ => some plainFrame), fresh := [2] } } }

/-- The frame is sent: TEC falls to 127, the channel leaves error passive, and the record of event 0x5813, of class F0, makes
MAX_CLASS 1 (R57, R583). -/
theorem exec_canAttemptEnd_leavesPassive :
    ∃ t, exec (.canAttemptEnd .a 2 (.sent 0 0)) passiveByOne = .next t ∧ t.op.maxClass = 1 :=
  ⟨_, rfl, by decide +kernel⟩

/-- Refutes O46: an attempt that succeeds can end error passive, whose event 0x5813 raises MAX_CLASS from 0, so the block of
the operating state does not stay as it was. -/
theorem not_canTraffic : ¬Obligations.CanTraffic := by
  unfold Obligations.CanTraffic
  rintro ⟨-, -, -, sent, -⟩
  obtain ⟨u, answered, -, -, -, kept⟩ := sent .a 2 0 0 0 plainFrame passiveByOne rfl rfl rfl (by decide +kernel) rfl rfl
    (by decide) rfl rfl rfl
  obtain ⟨t, ends, raised⟩ := exec_canAttemptEnd_leavesPassive
  rw [Host.Outcome.next.inj (ends.symm.trans answered), answer_op, kept] at raised
  exact absurd raised (by decide)

end Sys2Proof.Laws
end

section
/-! The queue, the bounds of the logs and the lock of debug, read off `Sound` (R520, R660 to R665, R683, R684), and the
instructions of the test access port (R683 to R685, R702). -/

namespace Sys2Proof.Laws
open Sys2Proof Sys2Proof.Machine Sys2Proof.Safety

variable {s t : State}

/-- Settles O1: the queue is not empty, so the step takes its front command. -/
theorem stepRunsFront : Obligations.StepRunsFront := by
  unfold Obligations.StepRunsFront
  intro c s
  unfold step
  rfl

theorem Kept.after_queue (q : Kept) (c : Instr) : (q.after c).queue = q.queue := by
  unfold Kept.after
  split <;> rfl

/-- Settles O3: the queue is followed by `Sound` through every command. -/
theorem queueKept : Obligations.QueueKept := by
  unfold Obligations.QueueKept
  intro c s t e
  have kept := (sound_exec c (sound_severity (s := s)) t e).queue
  rw [Kept.after_queue] at kept
  exact kept

/-- The bounds of the logs alone are asked. -/
def Kept.recorder (p : List Instr) : Kept :=
  { queue := p, fused := 0, locked := false, rank := 0, mail := false, logs := true, sec := false, num := false }

theorem sound_recorder (h : logsBounded s) : Sound (.recorder s.pending) s := by
  obtain ⟨vol, per, waiting, field, next⟩ := h
  exact { queue := rfl, wf := nofun, log := nofun, count := nofun, next := fun _ => next, vol := fun _ => vol,
          waiting := fun _ => waiting, field := fun _ => field, per := fun _ => per, fuse := nofun, toRaise := nofun,
          number := nofun, lock := nofun, rank := Nat.zero_le _ }

/-- Settles O6: the bounds of the logs and the reservation of SEQ are among the invariants that every step keeps. -/
theorem logInvariant : Obligations.LogInvariant := by
  unfold Obligations.LogInvariant
  intro s t bounded e
  obtain ⟨p, ht⟩ := sound_step (sound_recorder bounded) rfl rfl e
  exact ⟨ht.vol rfl, ht.per rfl, ht.waiting rfl, ht.field rfl, ht.next rfl⟩

/-! ## The debug unlock -/

/-- The lock of debug alone is asked. -/
def Kept.debug (p : List Instr) : Kept :=
  { queue := p, fused := 0, locked := true, rank := 0, mail := false, logs := false, sec := false, num := false }

theorem sound_debug (h : s.tap.unlocked = false) : Sound (.debug s.pending) s where
  queue := rfl
  wf := nofun
  log := nofun
  count := nofun
  next := nofun
  vol := nofun
  waiting := nofun
  field := nofun
  per := nofun
  fuse := nofun
  toRaise := nofun
  number := nofun
  lock _ := h
  rank := Nat.zero_le _

/-- DBG_RESP alone drops the lock of debug from what a command keeps. -/
theorem Kept.after_locked (q : Kept) {c : Instr} (other : ∀ v, c ≠ .dbgResp v) : (q.after c).locked = q.locked := by
  unfold Kept.after
  split
  case h_12 v => exact absurd rfl (other v)
  all_goals rfl

/-- What DBG_RESP asks before it unlocks debug: a signature that verifies over an open challenge, in recovery or in the states
of R684. -/
def respAccepted (v : Bool) (s : State) : Bool :=
  v && (s.tap.challenge.isSome && !s.tap.chalUsed) &&
    (s.boot.recovery || s.op.state == .boot || s.op.state == .standby || s.op.state == .shutdown)

theorem respAccepted_iff {v : Bool} : respAccepted v s = true ↔
    v = true ∧ s.tap.challenge.isSome = true ∧ s.tap.chalUsed = false ∧
      (s.boot.recovery = true ∨ s.op.state = .boot ∨ s.op.state = .standby ∨ s.op.state = .shutdown) := by
  simp only [respAccepted, Bool.and_eq_true, Bool.or_eq_true, Bool.not_eq_true', beq_iff_eq, and_assoc, or_assoc]

/-- DBG_RESP uses the challenge up; it unlocks debug or sets REFUSED. -/
theorem exec_dbgResp (v : Bool) (powered : s.supply.hbLock = false) :
    exec (.dbgResp v) s = .next { s with tap := { s.tap with
      ir := 0x11, extest := false, chalUsed := true
      unlocked := s.tap.unlocked || respAccepted v s, refused := s.tap.refused || !respAccepted v s } } := by
  have allowed : (match s.op.state with
      | .boot | .standby | .shutdown => true
      | _ => false) = (s.op.state == .boot || s.op.state == .standby || s.op.state == .shutdown) := by
    cases s.op.state <;> rfl
  have accepted : respAccepted v s = (v && (s.tap.challenge.isSome && !s.tap.chalUsed) && (s.boot.recovery ||
      (match s.op.state with
        | .boot | .standby | .shutdown => true
        | _ => false))) := by
    rw [allowed, respAccepted, Bool.or_assoc, Bool.or_assoc, Bool.or_assoc]
  rw [accepted]
  exact congrArg Host.Outcome.next (if_neg (by rw [powered]; exact Bool.false_ne_true))

/-- Settles O9: every command but DBG_RESP keeps debug locked, and DBG_RESP unlocks it with an accepted response alone. -/
theorem debugUnlockOnlyByResponse : Obligations.DebugUnlockOnlyByResponse := by
  unfold Obligations.DebugUnlockOnlyByResponse
  intro c s t locked e opened
  by_cases resp : ∃ v, c = .dbgResp v
  · obtain ⟨v, rfl⟩ := resp
    have powered : s.supply.hbLock = false := by
      refine Bool.eq_false_iff.2 fun down => ?_
      have stays : exec (.dbgResp v) s = .next s := congrArg Host.Outcome.next (if_pos down)
      obtain rfl := Host.Outcome.next.inj (stays.symm.trans e)
      exact Bool.false_ne_true (locked.symm.trans opened)
    obtain rfl := Host.Outcome.next.inj ((exec_dbgResp v powered).symm.trans e)
    have accepted : (s.tap.unlocked || respAccepted v s) = true := opened
    rw [locked, Bool.false_or, respAccepted_iff] at accepted
    obtain ⟨rfl, made, unused, place⟩ := accepted
    exact ⟨rfl, powered, made, unused, place⟩
  · have kept := (sound_exec c (sound_debug locked) t e).lock
    rw [Kept.after_locked _ fun v h => resp ⟨v, h⟩] at kept
    exact absurd ((kept rfl).symm.trans opened) Bool.false_ne_true

/-! ## The test access port -/

/-- The port's operation runs while HB is powered. -/
theorem tapOp_powered (f : State → State) (powered : s.supply.hbLock = false) : tapOp f s = f s :=
  if_neg (by rw [powered]; exact Bool.false_ne_true)

/-- Without HB's power the port's operation does nothing. -/
theorem tapOp_unpowered (f : State → State) (down : s.supply.hbLock = true) : tapOp f s = s := if_pos down

theorem unlockedOp_unlocked (code : Nat) (opened : s.tap.unlocked = true) : unlockedOp code s = loadIr code s := if_pos opened

theorem unlockedOp_locked (code : Nat) (locked : s.tap.unlocked = false) : unlockedOp code s = replaced s :=
  if_neg (by rw [locked]; exact Bool.false_ne_true)

/-- EXTEST outside recovery, or while debug is locked, is replaced by BYPASS. -/
theorem exec_tapExtest_replaced (powered : s.supply.hbLock = false) (bars : (s.tap.unlocked && s.boot.recovery) = false) :
    exec .tapExtest s = .next (replaced s) :=
  congrArg Host.Outcome.next ((tapOp_powered _ powered).trans (if_neg (by rw [bars]; exact Bool.false_ne_true)))

/-- Settles O53: each instruction by HB's power and the lock of debug, DBG_RESP by what it asks. -/
theorem tapDebug : Obligations.TapDebug := by
  unfold Obligations.TapDebug
  refine ⟨?_, rfl, ?_, ?_, ?_, ?_, ?_⟩
  · intro s powered
    exact ⟨congrArg Host.Outcome.next (tapOp_powered _ powered), congrArg Host.Outcome.next (tapOp_powered _ powered),
      congrArg Host.Outcome.next (tapOp_powered _ powered)⟩
  · intro s powered opened
    refine ⟨?_, fun recovery => ?_, fun normal => ?_, ?_⟩
    · exact congrArg Host.Outcome.next ((tapOp_powered _ powered).trans (unlockedOp_unlocked 0x02 opened))
    · exact congrArg Host.Outcome.next ((tapOp_powered _ powered).trans (if_pos (by rw [opened, recovery]; rfl)))
    · exact exec_tapExtest_replaced powered (by rw [normal, Bool.and_false])
    · exact congrArg Host.Outcome.next ((tapOp_powered _ powered).trans (unlockedOp_unlocked 0x12 opened))
  · rintro c s powered locked (rfl | rfl | rfl)
    · exact congrArg Host.Outcome.next ((tapOp_powered _ powered).trans (unlockedOp_locked 0x02 locked))
    · exact exec_tapExtest_replaced powered (by rw [locked, Bool.false_and])
    · exact congrArg Host.Outcome.next ((tapOp_powered _ powered).trans (unlockedOp_locked 0x12 locked))
  · intro s powered
    exact congrArg Host.Outcome.next (tapOp_powered _ powered)
  · intro v s powered
    refine ⟨fun good => ?_, fun bad => ?_⟩
    · rw [exec_dbgResp v powered, respAccepted_iff.2 good, Bool.or_true, Bool.not_true, Bool.or_false]
    · have refused : respAccepted v s = false := by
        refine Bool.eq_false_iff.2 fun good => ?_
        obtain ⟨rfl, made, unused, place⟩ := respAccepted_iff.1 good
        simp_all
      rw [exec_dbgResp v powered, refused, Bool.or_false, Bool.not_false, Bool.or_true]
  · rintro c v s down (rfl | rfl | rfl | rfl | rfl | rfl | rfl | rfl) <;>
      exact congrArg Host.Outcome.next (tapOp_unpowered _ down)

end Sys2Proof.Laws
end

section
/-! What the frames leave that only read, fail or negotiate (R496 to R503, R514, R525 to R527). -/

namespace Sys2Proof.Laws
open Sys2Proof Sys2Proof.Machine Sys2Proof.Safety

/-- The mailbox keeps its tags, its doorbells, its head and the Command Processor's order of steps. -/
def QueuesKept (m n : MbxBlock) : Prop := n.tags = m.tags ∧ n.bells = m.bells ∧ n.head = m.head ∧ n.rr = m.rr

/-- `u` with the port, the recorder, MAX_CLASS and the mailbox of `s`. -/
def withPortOf (s u : State) : State :=
  { u with port := s.port, evt := s.evt, mbx := s.mbx, op := { u.op with maxClass := s.op.maxClass } }

/-- `t` is `s` but for the port, the recorder, MAX_CLASS and the mailbox outside its queues. -/
structure Ported (s t : State) : Prop where
  queues : QueuesKept s.mbx t.mbx
  rest : withPortOf s t = s

variable {s t u : State}

theorem Ported.refl (s : State) : Ported s s := ⟨⟨rfl, rfl, rfl, rfl⟩, rfl⟩

theorem Ported.trans (h : Ported s t) (k : Ported t u) : Ported s u := by
  obtain ⟨⟨tags, bells, head, rr⟩, rest⟩ := h
  obtain ⟨⟨tags', bells', head', rr'⟩, rest'⟩ := k
  exact ⟨⟨tags'.trans tags, bells'.trans bells, head'.trans head, rr'.trans rr⟩,
    (congrArg (withPortOf s) rest').trans rest⟩

theorem Noted.ported (h : Noted s t) : Ported s t := by
  obtain ⟨e, m, i, l, rfl⟩ := h
  exact ⟨⟨rfl, rfl, rfl, rfl⟩, rfl⟩

theorem ported_port {p : PortBlock} (h : Ported s u) : Ported s { u with port := p } :=
  h.trans ⟨⟨rfl, rfl, rfl, rfl⟩, rfl⟩

theorem ported_mbx {m : MbxBlock} (h : Ported s u) (kept : QueuesKept u.mbx m) : Ported s { u with mbx := m } :=
  h.trans ⟨kept, rfl⟩

theorem ported_setSticky {b : Nat} (h : Ported s u) : Ported s (setSticky b u) :=
  h.trans ⟨⟨rfl, rfl, rfl, rfl⟩, rfl⟩

theorem ported_respond {code : Nat} {words : List Word} (h : Ported s u) : Ported s (respond code words u) :=
  ported_port h

theorem ported_recordPort {code cls : Nat} {ps : List Int} (h : Ported s u) : Ported s (recordPort code cls ps u) :=
  h.trans (noted_recordPort code cls ps u).ported

theorem ported_badHeader {f : Frame} {code : Nat} (h : Ported s u) : Ported s (badHeader f code u) :=
  ported_recordPort (ported_setSticky (ported_port h))

theorem ported_refuseFrame {kind addr code : Nat} (h : Ported s u) : Ported s (refuseFrame kind addr code u) := by
  unfold refuseFrame
  refine ported_respond (ported_recordPort ?_)
  split
  · exact ported_port h
  · exact h

/-- A frame does what its act does, or fails its checks. -/
theorem ported_frame {act : State → State} (acts : ∀ u, Ported s u → Ported s (act u)) (f : Frame) (kind addr : Nat)
    (data : List Word) (addrOk : Bool) : Ported s (frame f kind addr data addrOk act s) := by
  have begun : Ported s (beginFrame f s) := ported_port (Ported.refl s)
  unfold frame
  split
  · exact Ported.refl s
  · dsimp only
    split
    · exact ported_badHeader begun
    · split
      · exact ported_badHeader begun
      · split
        · exact ported_refuseFrame (ported_port begun)
        · split
          · exact ported_refuseFrame (ported_port begun)
          · exact acts _ (ported_port begun)

theorem ported_postEntry {e : Entry} (h : Ported s u) : Ported s (postEntry e u) := by
  unfold postEntry writeMem
  exact h.trans ⟨⟨rfl, rfl, rfl, rfl⟩, rfl⟩

/-- A violation report goes to the completion ring, or is counted as lost (R517). -/
theorem ported_violation {i status : Nat} (h : Ported s u) : Ported s (violation i status u) := by
  unfold violation
  dsimp only
  split
  · have posted := ported_postEntry (e := ⟨true, i, status, 0, false, false, 0, 0, 0⟩) h
    generalize postEntry ⟨true, i, status, 0, false, false, 0, 0, 0⟩ u = v at posted ⊢
    exact ported_mbx posted ⟨rfl, rfl, rfl, rfl⟩
  · exact ported_recordPort (ported_mbx h ⟨rfl, rfl, rfl, rfl⟩)

theorem ported_doHello {cap : Nat} (h : Ported s u) : Ported s (doHello cap u) := by
  unfold doHello
  dsimp only
  split
  · exact ported_respond (ported_recordPort h)
  · exact ported_respond (ported_recordPort (ported_port h))

/-- A passed header of an abandoned frame ends the run of bad ones. -/
theorem ported_passedHeader {passed : Bool} (h : Ported s u) :
    Ported s (if passed then { u with port := { u.port with badRun := 0 } } else u) := by
  split
  · exact ported_port h
  · exact h

theorem ported_abandon (sticky code : Nat) (f : Frame) (kind addr bytes : Nat) (s : State) :
    Ported s (abandon sticky code f kind addr bytes s) := by
  unfold abandon
  split
  · exact Ported.refl s
  · dsimp only
    have begun : Ported s (beginFrame f s) := ported_port (Ported.refl s)
    have passed := ported_passedHeader (passed := decide (6 ≤ bytes) && headOk f && kindOk f) begun
    generalize (if (decide (6 ≤ bytes) && headOk f && kindOk f) = true then
      { beginFrame f s with port := { (beginFrame f s).port with badRun := 0 } } else beginFrame f s) = u at passed ⊢
    have reported := ported_recordPort (code := code) (cls := 0) (ps := [(kind : Int), (bytes : Int),
      ((if kind == 3 then eyeletTag addr else 0 : Nat) : Int)]) (ported_setSticky (b := sticky)
        (ported_port (p := { u.port with stalls := satInc 255 u.port.stalls }) passed))
    generalize recordPort code 0 [(kind : Int), (bytes : Int), ((if kind == 3 then eyeletTag addr else 0 : Nat) : Int)]
      (setSticky sticky { u with port := { u.port with stalls := satInc 255 u.port.stalls } }) = v at reported ⊢
    split
    · exact ported_violation (ported_mbx reported ⟨rfl, rfl, rfl, rfl⟩)
    · exact reported

theorem ported_portFallback (s : State) : ∃ t, exec .portFallback s = .next t ∧ Ported s t := by
  refine ⟨_, rfl, ?_⟩
  split
  · exact ported_recordPort (ported_setSticky (ported_port (Ported.refl s)))
  · exact Ported.refl s

theorem ported_waitTimeout (s : State) : ∃ t, exec .waitTimeout s = .next t ∧ Ported s t := by
  refine ⟨_, rfl, ?_⟩
  split
  · split
    · exact Ported.refl s
    · exact ported_respond (ported_recordPort (ported_port (Ported.refl s)))
  · exact Ported.refl s

/-- Settles O58: each command is built of operations that lie in `Ported`. -/
theorem portFrame : Obligations.PortFrame := by
  unfold Obligations.PortFrame
  intro c f addr n kind d s command
  suffices ported : ∃ t, exec c s = .next t ∧ Ported s t by
    obtain ⟨t, runs, ⟨tags, bells, head, rr⟩, rest⟩ := ported
    exact ⟨t, runs, tags, bells, head, rr, rest⟩
  rcases command with rfl | rfl | rfl | ⟨ns, rfl⟩ | rfl | rfl | rfl
  case inl =>
    refine ⟨_, rfl, ported_frame (fun u h => ?_) _ _ _ _ _⟩
    split <;> exact ported_respond h
  case inr.inl =>
    refine ⟨_, rfl, ported_frame (fun u h => ?_) _ _ _ _ _⟩
    split <;> exact ported_respond h
  case inr.inr.inl => exact ⟨_, rfl, ported_frame (fun u => ported_doHello) _ _ _ _ _⟩
  case inr.inr.inr.inl =>
    refine ⟨_, rfl, ?_⟩
    split
    · exact Ported.refl s
    · exact ported_abandon _ _ _ _ _ _ s
  case inr.inr.inr.inr.inl => exact ⟨_, rfl, ported_abandon _ _ _ _ _ _ s⟩
  case inr.inr.inr.inr.inr.inl => exact ported_portFallback s
  case inr.inr.inr.inr.inr.inr => exact ported_waitTimeout s

end Sys2Proof.Laws
end

section
/-! The recorder: the logs grow at their end alone (R660 to R665, R668), and what reads, clears and writes them (R658, R664,
R666, R667, R669). -/

namespace Sys2Proof.Laws
open Sys2Proof Sys2Proof.Machine Sys2Proof.Safety

/-! ## Records added at the end -/

/-- `t` has the records `v` more in the volatile log and `p` more in the persistent log than `s`, after those of `s`, and its
cursors. -/
structure Adds (v p : List EventRec) (s t : State) : Prop where
  vol : t.evt.vlog = s.evt.vlog ++ v
  per : t.evt.plog = s.evt.plog ++ p
  volCursor : t.evt.vCur = s.evt.vCur
  perCursor : t.evt.pCur = s.evt.pCur

theorem Adds.none {s t : State} (vol : t.evt.vlog = s.evt.vlog) (per : t.evt.plog = s.evt.plog)
    (volCursor : t.evt.vCur = s.evt.vCur) (perCursor : t.evt.pCur = s.evt.pCur) : Adds [] [] s t :=
  ⟨vol.trans (List.append_nil _).symm, per.trans (List.append_nil _).symm, volCursor, perCursor⟩

theorem Adds.refl (s : State) : Adds [] [] s s := .none rfl rfl rfl rfl

theorem Adds.trans {v p v' p' : List EventRec} {s t u : State} (h : Adds v p s t) (k : Adds v' p' t u) :
    Adds (v ++ v') (p ++ p') s u :=
  ⟨by rw [k.vol, h.vol, List.append_assoc], by rw [k.per, h.per, List.append_assoc], k.volCursor.trans h.volCursor,
    k.perCursor.trans h.perCursor⟩

/-- `t` has more records in the volatile log alone. -/
def Extends (s t : State) : Prop := ∃ v, Adds v [] s t

theorem Extends.refl (s : State) : Extends s s := ⟨[], .refl s⟩

theorem Extends.trans {s t u : State} (h : Extends s t) (k : Extends t u) : Extends s u := by
  obtain ⟨v, h⟩ := h
  obtain ⟨w, k⟩ := k
  exact ⟨v ++ w, h.trans k⟩

/-- A change of the recorder outside its logs and cursors. -/
theorem Extends.of_same {s t : State} (vol : t.evt.vlog = s.evt.vlog) (per : t.evt.plog = s.evt.plog)
    (volCursor : t.evt.vCur = s.evt.vCur) (perCursor : t.evt.pCur = s.evt.pCur) : Extends s t :=
  ⟨[], .none vol per volCursor perCursor⟩

theorem extends_noteClass (cls : Nat) (s : State) : Extends s (noteClass cls s) := .of_same rfl rfl rfl rfl

/-- The loss at a full persistent queue is recorded in the volatile log (R663, R665). -/
theorem extends_enqueueP (r : EventRec) (s : State) : Extends s (enqueueP r s) := by
  unfold enqueueP
  dsimp only
  split
  · exact .of_same rfl rfl rfl rfl
  · split
    · refine Extends.trans ?_ (extends_noteClass _ _)
      split
      · exact ⟨[_], rfl, (List.append_nil _).symm, rfl, rfl⟩
      · split
        · split <;> exact ⟨[_], rfl, (List.append_nil _).symm, rfl, rfl⟩
        · exact .of_same rfl rfl rfl rfl
    · exact .of_same rfl rfl rfl rfl

theorem extends_putV (r : EventRec) (s : State) : Extends s (putV r s) := by
  unfold putV
  dsimp only
  split
  · exact ⟨[r], rfl, (List.append_nil _).symm, rfl, rfl⟩
  · split
    · have reserved : ∀ q : EventRec, Extends s (noteClass 1 { s with evt :=
            (nextSeq { s.evt with vlog := s.evt.vlog ++ [q], vOver := 1 }) }) :=
        fun q => ⟨[q], rfl, (List.append_nil _).symm, rfl, rfl⟩
      split
      · exact (reserved _).trans (extends_enqueueP _ _)
      · exact reserved _
    · exact .of_same rfl rfl rfl rfl

theorem extends_arrive (r : EventRec) (s : State) : Extends s (arrive r s) := by
  have numbered : Extends s { s with evt := nextSeq s.evt } := .of_same rfl rfl rfl rfl
  unfold arrive
  dsimp only
  split
  · exact (numbered.trans (extends_putV _ _)).trans (extends_enqueueP _ _)
  · exact numbered.trans (extends_putV _ _)

theorem extends_fcPush (r : EventRec) (s : State) : Extends s (fcPush r s) := by
  unfold fcPush
  split <;> exact .of_same rfl rfl rfl rfl

theorem extends_record (d : Die) (code cls : Nat) (ps : List Int) (s : State) : Extends s (record d code cls ps s) := by
  unfold record
  dsimp only
  split
  · exact Extends.refl s
  · split
    · exact (extends_noteClass _ _).trans (extends_arrive _ _)
    · exact (extends_noteClass _ _).trans (extends_fcPush _ _)

/-- The oldest record of FC's queue, taken from it (R660). -/
def dequeued (r : EventRec) (q : List EventRec) (s : State) : State :=
  if r.late then noteClass r.cls { s with evt := { s.evt with fcq := q } } else { s with evt := { s.evt with fcq := q } }

theorem extends_dequeued (r : EventRec) (q : List EventRec) (s : State) : Extends s (dequeued r q s) := by
  unfold dequeued
  split <;> exact .of_same rfl rfl rfl rfl

theorem extends_recordArrival (s : State) : ∃ t, exec .recordArrival s = .next t ∧ Extends s t := by
  refine ⟨_, rfl, ?_⟩
  split
  · exact Extends.refl s
  · split
    · exact Extends.refl s
    · next r q _ => exact (extends_dequeued r q s).trans (extends_arrive r (dequeued r q s))

/-- The fill count takes in the record that a write cut short has left (R664). -/
theorem adds_countTail (s : State) : ∃ p, Adds [] p s (countTail s) := by
  unfold countTail
  split
  · split
    · exact ⟨[_], (List.append_nil _).symm, rfl, rfl, rfl⟩
    · exact ⟨[], .refl s⟩
  · exact ⟨[], .refl s⟩

theorem adds_putP (r : EventRec) (s : State) : ∃ v p, Adds v p s (putP r s) := by
  unfold putP
  dsimp only
  split
  · exact ⟨[], [r], (List.append_nil _).symm, rfl, rfl, rfl⟩
  · split
    · obtain ⟨v, more⟩ := extends_putV { mkRec .hb 0x6003 1 [(r.code : Int)] s with seq := s.evt.seq } (noteClass 1 { s with
        evt := { nextSeq s.evt with
          plog := s.evt.plog ++ [{ mkRec .hb 0x6003 1 [(r.code : Int)] s with seq := s.evt.seq }]
          pOver := satInc (2 ^ 32 - 1) s.evt.pOver } })
      exact ⟨v, [_], more.vol, more.per.trans (List.append_nil _), more.volCursor, more.perCursor⟩
    · exact ⟨[], [], .none rfl rfl rfl rfl⟩

theorem adds_persistentLogWrite (cut : Bool) (s : State) :
    ∃ t v p, exec (.persistentLogWrite cut) s = .next t ∧ Adds v p s t := by
  suffices added : ∃ v p, Adds v p s _ by
    obtain ⟨v, p, added⟩ := added
    exact ⟨_, v, p, rfl, added⟩
  obtain ⟨p, counted⟩ := adds_countTail s
  dsimp only
  split
  · exact ⟨_, p, counted⟩
  · next r q waiting =>
    have taken : Adds [] [] (countTail s) { countTail s with evt := { (countTail s).evt with pq := q } } := .none rfl rfl rfl rfl
    split
    · exact ⟨_, _, counted.trans (.none rfl rfl rfl rfl)⟩
    · obtain ⟨v, p', put⟩ := adds_putP r { countTail s with evt := { (countTail s).evt with pq := q } }
      exact ⟨_, _, counted.trans (taken.trans put)⟩

/-- Settles O56: the cursor by the write of its register, the logs by what each operation adds at their end. -/
theorem cursorRule : Obligations.CursorRule := by
  unfold Obligations.CursorRule
  refine ⟨?_, ?_, ?_⟩
  · intro f w s up head known sound running
    obtain ⟨cur, other, vlog, plog⟩ := setCur_cursors s.evt.logSel
      (min (w.toNat % 65536) (logOf s s.evt.logSel).length) (framed f s)
    exact ⟨_, evtCursorWrite_eq up head known sound running, cur, other, vlog, plog⟩
  · intro d code cls ps s
    obtain ⟨v, added⟩ := extends_record d code cls ps s
    exact ⟨v, added.vol, added.per.trans (List.append_nil _), added.volCursor, added.perCursor⟩
  · rintro c s (rfl | ⟨cut, rfl⟩)
    · obtain ⟨t, runs, v, added⟩ := extends_recordArrival s
      exact ⟨t, v, [], runs, added.vol, added.per, added.volCursor, added.perCursor⟩
    · obtain ⟨t, v, p, runs, added⟩ := adds_persistentLogWrite cut s
      exact ⟨t, v, p, runs, added.vol, added.per, added.volCursor, added.perCursor⟩

/-! ## Records with room -/

theorem enqueueP_room {r : EventRec} {s : State} (room : s.evt.pq.length < 64) : enqueueP r s =
    { s with evt := { s.evt with pq := s.evt.pq ++ [r], pqLost := 0 } } :=
  if_pos room

theorem putV_room {r : EventRec} {s : State} (room : s.evt.vlog.length < 4095) : putV r s =
    { s with evt := { s.evt with vlog := s.evt.vlog ++ [r] } } :=
  if_pos room

/-- The record of a loss at the persistent queue leaves the overflow count of a volatile log with room. -/
theorem enqueueP_vOver {r : EventRec} {s : State} (room : s.evt.vlog.length < 4095) :
    (enqueueP r s).evt.vOver = s.evt.vOver := by
  unfold enqueueP
  dsimp only
  split
  · rfl
  · split
    · simp [noteClass, nextSeq, room]
    · rfl

/-- A record that reaches HB with the number of its arrival (R661, R662). -/
def arrived (r : EventRec) (s : State) : EventRec := { r with seq := s.evt.seq, persist := persists s r.code r.cls }

/-- A record that reaches HB with room in both places takes the next SEQ (R661 to R663). -/
theorem arrive_room {r : EventRec} {s : State} (vol : s.evt.vlog.length < 4095) (queue : s.evt.pq.length < 64) :
    ∃ lost, arrive r s = { s with evt := { nextSeq s.evt with
      vlog := s.evt.vlog ++ [arrived r s], pqLost := lost
      pq := if persists s r.code r.cls then s.evt.pq ++ [arrived r s] else s.evt.pq } } := by
  have put : putV (arrived r s) { s with evt := nextSeq s.evt } = { s with evt := { nextSeq s.evt with
      vlog := s.evt.vlog ++ [arrived r s] } } := putV_room vol
  cases keeps : persists s r.code r.cls with
  | false =>
    refine ⟨s.evt.pqLost, Eq.trans (b := putV (arrived r s) { s with evt := nextSeq s.evt }) ?_ put⟩
    exact if_neg (by rw [keeps]; exact Bool.false_ne_true)
  | true =>
    refine ⟨0, Eq.trans (b := enqueueP (arrived r s) (putV (arrived r s) { s with evt := nextSeq s.evt })) ?_ ?_⟩
    · exact if_pos keeps
    · rw [put]
      exact enqueueP_room queue

/-- The first record of an empty volatile log stays its first, whatever the persistent queue has lost. -/
theorem arrive_emptyLog {r : EventRec} {s : State} (empty : s.evt.vlog = []) :
    (arrive r s).evt.vlog.head? = some (arrived r s) ∧ (arrive r s).evt.vOver = s.evt.vOver := by
  have room : s.evt.vlog.length < 4095 := by rw [empty]; decide
  have put : putV (arrived r s) { s with evt := nextSeq s.evt } = { s with evt := { nextSeq s.evt with
      vlog := [arrived r s] } } := by
    refine (putV_room (s := { s with evt := nextSeq s.evt }) room).trans ?_
    rw [show (nextSeq s.evt).vlog = [] from empty]
    rfl
  have here : arrive r s = if persists s r.code r.cls then
      enqueueP (arrived r s) { s with evt := { nextSeq s.evt with vlog := [arrived r s] } }
      else { s with evt := { nextSeq s.evt with vlog := [arrived r s] } } := by
    rw [← put]
    rfl
  rw [here]
  split
  · obtain ⟨v, added⟩ := extends_enqueueP (arrived r s) { s with evt := { nextSeq s.evt with vlog := [arrived r s] } }
    refine ⟨?_, enqueueP_vOver (show 1 < 4095 by decide)⟩
    rw [added.vol]
    rfl
  · exact ⟨rfl, rfl⟩

theorem record_hb {code cls : Nat} {ps : List Int} {s : State} (up : dieDown s .hb = false) :
    record .hb code cls ps s = arrive (mkRec .hb code cls ps s) (noteClass cls s) :=
  if_neg (by rw [up]; exact Bool.false_ne_true)

theorem record_fc_room {code cls : Nat} {ps : List Int} {s : State} (up : dieDown s .fc = false)
    (room : s.evt.fcq.length < 256) : record .fc code cls ps s = { noteClass cls s with
      evt := { s.evt with fcq := s.evt.fcq ++ [mkRec .fc code cls ps s] } } :=
  (if_neg (by rw [up]; exact Bool.false_ne_true)).trans (if_pos room)

/-! ## EVENT_READ and EVENT_CLEAR (R666, R669) -/

@[simp] theorem finish_evt (i : Nat) (r : Result) (s : State) : (finish i r s).evt = s.evt := by
  obtain ⟨mbx, cp, e⟩ := mailed_finish i r s
  rw [e]

@[simp] theorem finish_par (i : Nat) (r : Result) (s : State) : (finish i r s).par = s.par := by
  obtain ⟨mbx, cp, e⟩ := mailed_finish i r s
  rw [e]

/-- The command is in the range that EVENT_READ takes: a log that exists and 31 records at most. -/
theorem exec_eventRead_inRange {i log n : Nat} {s : State} (may : canStart s i 0x70 = true)
    (named : log = (nth (payload (start i s) i) 0 0).toNat) (count : n = (nth (payload (start i s) i) 1 0).toNat)
    (exists_ : log ≤ 1) (few : n ≤ 31) : exec (.eventRead i) s = .next (finish i
      ⟨0, 0, beBytes 2 (curOf s (log == 1) + (((logOf s (log == 1)).drop (curOf s (log == 1))).take n).length) ++
        beBytes 2 (logOf s (log == 1)).length ++ beBytes 4 (overOf s (log == 1)) ++
        (((logOf s (log == 1)).drop (curOf s (log == 1))).take n).flatMap recBytes⟩
      (setCur (log == 1) (curOf s (log == 1) + (((logOf s (log == 1)).drop (curOf s (log == 1))).take n).length)
        (start i s))) := by
  subst named count
  have range : ¬(decide (1 < (nth (payload (start i s) i) 0 0).toNat) ||
      decide (31 < (nth (payload (start i s) i) 1 0).toNat)) = true := by
    rw [decide_eq_false (Nat.not_lt.2 exists_), decide_eq_false (Nat.not_lt.2 few)]
    exact Bool.false_ne_true
  refine congrArg Host.Outcome.next ((oneStep_of may).trans ?_)
  dsimp only
  rw [if_neg range]
  rfl

theorem exec_eventRead_outOfRange {i : Nat} {s : State} (may : canStart s i 0x70 = true)
    (outside : 1 < (nth (payload (start i s) i) 0 0).toNat ∨ 31 < (nth (payload (start i s) i) 1 0).toNat) :
    exec (.eventRead i) s = .next (finish i ⟨0x13, 0, []⟩ (start i s)) := by
  have range : (decide (1 < (nth (payload (start i s) i) 0 0).toNat) ||
      decide (31 < (nth (payload (start i s) i) 1 0).toNat)) = true := by
    simpa using outside
  refine congrArg Host.Outcome.next ((oneStep_of may).trans ?_)
  dsimp only
  rw [if_pos range]
  rfl

theorem exec_eventClear_volatile {i : Nat} {s : State} (may : canStart s i 0x71 = true)
    (log : (nth (payload (start i s) i) 0 0).toNat = 0) :
    exec (.eventClear i) s = .next (finish i ⟨0, 0, []⟩ (clearLog false (start i s))) := by
  refine congrArg Host.Outcome.next ((oneStep_of may).trans ?_)
  rw [log]
  rfl

/-- What EVENT_CLEAR of the persistent log asks first: the Last unsealed, then STANDBY (R669). -/
theorem exec_eventClear_persistent {i : Nat} {s : State} (may : canStart s i 0x71 = true)
    (log : (nth (payload (start i s) i) 0 0).toNat = 1) : exec (.eventClear i) s = .next (
      if s.last.sealed then finish i ⟨0x15, 0, []⟩ (start i s)
      else if s.op.state ≠ .standby then finish i ⟨0x16, 0, []⟩ (start i s)
      else finish i ⟨0, 0, []⟩ (clearLog true (start i s))) := by
  refine congrArg Host.Outcome.next ((oneStep_of may).trans ?_)
  rw [log]
  cases sealed : s.last.sealed <;> by_cases standby : s.op.state = .standby <;>
    simp [start, setTag, sealed, standby, no, yes, stLocked, stState]

/-- The record that opens the volatile log once EVENT_CLEAR has emptied it (R669). -/
theorem clearLog_volatile {s : State} (up : dieDown s .hb = false) : ∃ r, (clearLog false s).evt.vlog.head? = some r ∧
    r.code = 0x6002 ∧ r.cls = 0 ∧ r.seq = s.evt.seq ∧
    r.params = [0, satParam (s.evt.vlog.length : Nat), satParam (s.evt.vOver : Nat)] ∧ (clearLog false s).evt.vCur = 0 ∧
    (clearLog false s).evt.vOver = 0 ∧ (clearLog false s).evt.plog = s.evt.plog := by
  have cleared : clearLog false s = record .hb 0x6002 0 [(bit1 false : Int), (s.evt.vlog.length : Int), (s.evt.vOver : Int)]
      { s with evt := { s.evt with vlog := [], vCur := 0, vOver := 0 } } := rfl
  obtain ⟨v, added⟩ := extends_record .hb 0x6002 0 [(bit1 false : Int), (s.evt.vlog.length : Int), (s.evt.vOver : Int)]
    { s with evt := { s.evt with vlog := [], vCur := 0, vOver := 0 } }
  rw [← cleared] at added
  have recorded := record_hb (code := 0x6002) (cls := 0)
    (ps := [(bit1 false : Int), (s.evt.vlog.length : Int), (s.evt.vOver : Int)])
    (s := { s with evt := { s.evt with vlog := [], vCur := 0, vOver := 0 } }) up
  obtain ⟨first, overflow⟩ := arrive_emptyLog
    (r := mkRec .hb 0x6002 0 [(bit1 false : Int), (s.evt.vlog.length : Int), (s.evt.vOver : Int)]
      { s with evt := { s.evt with vlog := [], vCur := 0, vOver := 0 } })
    (s := noteClass 0 { s with evt := { s.evt with vlog := [], vCur := 0, vOver := 0 } }) rfl
  rw [← recorded, ← cleared] at first overflow
  exact ⟨_, first, rfl, rfl, rfl, rfl, added.volCursor, overflow, added.per.trans (List.append_nil _)⟩

/-- The record of EVENT_CLEAR on the persistent log (R669). -/
def clearRec (s : State) : EventRec :=
  { mkRec .hb 0x6002 0 [(bit1 true : Int), (s.evt.plog.length : Int), (s.evt.pOver : Int)] s with seq := s.evt.seq }

/-- The record that opens the persistent log once EVENT_CLEAR has emptied it, and reaches the volatile log too (R669). -/
theorem clearLog_persistent {s : State} (room : s.evt.vlog.length < 4095) : ∃ r, (clearLog true s).evt.plog = [r] ∧
    r.code = 0x6002 ∧ r.seq = s.evt.seq ∧ (clearLog true s).evt.pCur = 0 ∧ (clearLog true s).evt.pOver = 0 ∧
    (clearLog true s).evt.vlog = s.evt.vlog ++ [r] ∧ (clearLog true s).evt.vCur = s.evt.vCur := by
  have cleared : clearLog true s = _ := putV_room (r := clearRec s) (s := noteClass 0 { s with evt := { nextSeq s.evt with
    plog := [clearRec s], pTail := none, pCur := 0, pOver := 0 } }) room
  rw [cleared]
  exact ⟨_, rfl, rfl, rfl, rfl, rfl, rfl, rfl⟩

/-! ## Records that wait (R660 to R665) -/

theorem exec_recordArrival_front {r : EventRec} {q : List EventRec} {s : State} (up : fieldUp s = true)
    (powered : s.supply.hbLock = false) (waiting : s.evt.fcq = r :: q) :
    exec .recordArrival s = .next (arrive r (dequeued r q s)) := by
  have open_ : ¬(!fieldUp s || s.supply.hbLock) = true := by simp [up, powered]
  refine congrArg Host.Outcome.next ((if_neg open_).trans ?_)
  rw [waiting]
  rfl

theorem exec_fcRecordQueueRoom_sends {s : State} (dropped : s.evt.fcDropped ≠ 0) (room : s.evt.fcq.length < 256)
    (up : dieDown s .fc = false) : exec .fcRecordQueueRoom s = .next { noteClass 1 s with evt := { s.evt with
      fcq := s.evt.fcq ++ [mkRec .fc 0x6005 1 [(s.evt.fcDropped : Int)] s], fcDropped := 0, fcLostBit := true } } := by
  have sends : (s.evt.fcDropped != 0 && decide (s.evt.fcq.length < 256)) = true := by simp [dropped, room]
  refine congrArg Host.Outcome.next ((if_pos sends).trans ?_)
  exact record_fc_room (s := { s with evt := { s.evt with fcDropped := 0, fcLostBit := true } }) up room

theorem countTail_none {s : State} (complete : s.evt.pTail = none) : countTail s = s := by
  unfold countTail
  rw [complete]

/-- Without a record left by a write cut short, the oldest record that waits is put to the log (R663, R664). -/
theorem exec_persistentLogWrite_front {r : EventRec} {q : List EventRec} {s : State} (waiting : s.evt.pq = r :: q)
    (complete : s.evt.pTail = none) : exec (.persistentLogWrite false) s = .next (putP r { s with evt := { s.evt with pq := q } }) := by
  refine congrArg Host.Outcome.next ?_
  rw [countTail_none complete]
  dsimp only
  rw [waiting]
  rfl

theorem exec_persistentLogWrite_cut {r : EventRec} {q : List EventRec} {s : State} (waiting : s.evt.pq = r :: q)
    (complete : s.evt.pTail = none) (room : s.evt.plog.length < 16383) :
    exec (.persistentLogWrite true) s = .next { s with evt := { s.evt with pq := q, pTail := some r } } := by
  refine congrArg Host.Outcome.next ?_
  rw [countTail_none complete]
  dsimp only
  rw [waiting]
  exact if_pos (by simp [room])

theorem exec_persistentLogWrite_counts {r : EventRec} {b : Bool} {s : State} (idle : s.evt.pq = [])
    (left : s.evt.pTail = some r) (room : s.evt.plog.length < 16384) : exec (.persistentLogWrite b) s =
      .next { s with evt := { s.evt with plog := s.evt.plog ++ [r], pTail := none } } := by
  have counted : countTail s = { s with evt := { s.evt with plog := s.evt.plog ++ [r], pTail := none } } := by
    unfold countTail
    rw [left]
    exact if_pos room
  refine congrArg Host.Outcome.next ?_
  rw [counted]
  dsimp only
  rw [idle]

theorem dequeued_eq (r : EventRec) (q : List EventRec) (s : State) : ∃ m irq, dequeued r q s = { s with
    evt := { s.evt with fcq := q }, op := { s.op with maxClass := m }, mbx := { s.mbx with irq := irq } } := by
  unfold dequeued
  split
  · exact ⟨_, _, rfl⟩
  · exact ⟨s.op.maxClass, s.mbx.irq, rfl⟩

/-- The last record of the persistent log is its reserved one (R665). -/
theorem putP_reserved {r : EventRec} {s : State} (last : s.evt.plog.length = 16383) : ∃ x,
    (putP r s).evt.plog = s.evt.plog ++ [x] ∧ x.code = 0x6003 ∧ x.seq = s.evt.seq ∧ x.params = [satParam (r.code : Nat)] := by
  unfold putP
  dsimp only
  rw [if_neg (by simp [last]), if_pos (by simp [last])]
  obtain ⟨v, added⟩ := extends_putV { mkRec .hb 0x6003 1 [(r.code : Int)] s with seq := s.evt.seq } (noteClass 1 { s with
    evt := { nextSeq s.evt with
      plog := s.evt.plog ++ [{ mkRec .hb 0x6003 1 [(r.code : Int)] s with seq := s.evt.seq }]
      pOver := satInc (2 ^ 32 - 1) s.evt.pOver } })
  exact ⟨_, added.per.trans (List.append_nil _), rfl, rfl, rfl⟩

theorem putP_full {r : EventRec} {s : State} (full : 16383 < s.evt.plog.length) : putP r s =
    { s with evt := { s.evt with pOver := satInc (2 ^ 32 - 1) s.evt.pOver } } := by
  have other : ¬(s.evt.plog.length == 16383) = true := by
    rw [beq_iff_eq]
    exact Nat.ne_of_gt full
  exact (if_neg (Nat.not_lt.2 full.le)).trans (if_neg other)

/-- Settles O52: EVENT_READ and EVENT_CLEAR past their checks, the records that wait by the room they find. -/
theorem eventLog : Obligations.EventLog := by
  unfold Obligations.EventLog
  refine ⟨fun i log n s => exec_eventRead_inRange, fun i s => exec_eventRead_outOfRange, ?_, ?_, ?_, ?_, ?_,
    fun r b s => exec_persistentLogWrite_counts, ?_, ?_⟩
  · intro i s may inTable log up
    obtain ⟨r, first, code, cls, seq, params, cur, overflow, plog⟩ := clearLog_volatile (s := start i s) up
    refine ⟨_, r, exec_eventClear_volatile may log, ?_, code, cls, seq, params, ?_, ?_, ?_, ?_, ?_⟩
    · rw [finish_evt, first]
    · rw [finish_evt, cur]
    · rw [finish_evt, overflow]
    · rw [finish_evt, plog]
      rfl
    · exact tag_finish_st _ (by simpa [clearLog, start_tags_length] using inTable)
    · simp [clearLog, start]
  · intro i s may log
    rw [exec_eventClear_persistent may log]
    refine ⟨fun sealed => ?_, fun opened other => ?_, fun opened standby room => ?_⟩
    · rw [if_pos sealed]
    · rw [if_neg (by simp [opened]), if_pos other]
    · rw [if_neg (by simp [opened]), if_neg (by simp [standby])]
      obtain ⟨r, only, code, seq, cur, overflow, vlog, vCur⟩ := clearLog_persistent (s := start i s) room
      refine ⟨_, r, rfl, ?_, code, seq, ?_, ?_, ?_, ?_⟩
      all_goals rw [finish_evt]
      all_goals assumption
  · intro r q s up powered waiting vol queue
    obtain ⟨m, irq, taken⟩ := dequeued_eq r q s
    obtain ⟨lost, arrives⟩ := arrive_room (r := r) (s := dequeued r q s) (by rw [taken]; exact vol) (by rw [taken]; exact queue)
    refine ⟨_, exec_recordArrival_front up powered waiting, ?_⟩
    have same : persists (dequeued r q s) r.code r.cls = persists s r.code r.cls := by
      rw [taken]
      rfl
    rw [arrives, arrived, same, taken]
    refine ⟨rfl, rfl, rfl, ?_, rfl, rfl, rfl, rfl⟩
    dsimp only
    split
    · next keeps => rw [keeps]
    · rfl
  · intro s dropped room up
    exact ⟨_, _, exec_fcRecordQueueRoom_sends dropped room up, rfl, rfl, rfl, rfl, rfl, rfl, rfl, rfl⟩
  · intro r q s waiting complete room
    refine ⟨?_, exec_persistentLogWrite_cut waiting complete room⟩
    rw [exec_persistentLogWrite_front waiting complete]
    exact congrArg Host.Outcome.next (if_pos room)
  · intro r q s waiting complete last
    obtain ⟨x, added, code, seq, params⟩ := putP_reserved (r := r) (s := { s with evt := { s.evt with pq := q } }) last
    exact ⟨_, x, exec_persistentLogWrite_front waiting complete, added, code, seq, params⟩
  · intro r q s waiting complete full
    rw [exec_persistentLogWrite_front waiting complete, putP_full (s := { s with evt := { s.evt with pq := q } }) full]

end Sys2Proof.Laws
end

section
/-! Admission, steps, replies and the cancellation of commands (R507, R508, R513, R515, R519, R520, R523). -/

namespace Sys2Proof.Laws
open Sys2Proof Sys2Proof.Machine Sys2Proof.Safety

/-! ## Tags -/

theorem tag_setTag_of_ne {i k : Nat} {s : State} (other : k ≠ i) (f : TagInfo → TagInfo) : tag (setTag i f s) k = tag s k := by
  simp [tag, setTag, nth, upd, List.getElem?_modify_ne _ _ other.symm]

theorem tag_start_of_ne {i k : Nat} {s : State} (other : k ≠ i) : tag (start i s) k = tag s k := tag_setTag_of_ne other _

theorem finish_tags_length (i : Nat) (r : Result) (s : State) : (finish i r s).mbx.tags.length = s.mbx.tags.length := by
  rw [finish_mbx_tags, upd, List.length_modify]

theorem tag_finish_of_ne {i k : Nat} {s : State} (r : Result) (other : k ≠ i) : tag (finish i r s) k = tag s k := by
  simp [tag, finish_mbx_tags, nth, upd, List.getElem?_modify_ne _ _ other.symm]

theorem tag_finish {i : Nat} {s : State} (r : Result) (inTable : i < s.mbx.tags.length) :
    tag (finish i r s) i = { tag s i with st := .done, final := some s.mbx.tail, reply := none } := by
  simp [tag, finish_mbx_tags, nth, upd, inTable]

section
variable (noIrq : Bool) (s : State)

@[simp] theorem countCq_mbx_completed : (countCq noIrq s).mbx.completed = s.mbx.completed := by
  unfold countCq
  split <;> rfl
@[simp] theorem countCq_mbx_errCrc : (countCq noIrq s).mbx.errCrc = s.mbx.errCrc := by
  unfold countCq
  split <;> rfl
@[simp] theorem countCq_mbx_bells : (countCq noIrq s).mbx.bells = s.mbx.bells := by
  unfold countCq
  split <;> rfl

end

/-- The counts that a final completion changes and leaves (R515). -/
theorem finish_counts (i : Nat) (r : Result) (s : State) : (finish i r s).mbx.completed = satInc (2 ^ 32 - 1) s.mbx.completed ∧
    (finish i r s).mbx.errCrc = s.mbx.errCrc ∧ (finish i r s).mbx.bells = s.mbx.bells := by
  simp [finish, postEntry, setTag, writeMem]

@[simp] theorem finish_op (i : Nat) (r : Result) (s : State) : (finish i r s).op = s.op := by
  obtain ⟨mbx, cp, e⟩ := mailed_finish i r s
  rw [e]

/-! ## Admission (R513) -/

section
variable {i : Nat} {r : List Nat} {s : State} (up : cpDown s = false) (running : s.pairs.cp.restarting = false)
include up running

/-- The Command Processor takes the oldest doorbell. -/
theorem cpRuns : ¬(cpDown s || s.pairs.cp.restarting) = true := by
  rw [up, running]
  exact Bool.false_ne_true

theorem exec_commandAdmission_admits (oldest : s.mbx.bells = i :: r)
    (passes : admissionFail { s with mbx := { s.mbx with bells := r } } i = none) : exec .commandAdmission s =
      .next (admitCmd i (readHeader i { s with mbx := { s.mbx with bells := r } })) := by
  refine congrArg Host.Outcome.next ((if_neg (cpRuns up running)).trans ?_)
  rw [oldest]
  dsimp only
  rw [passes]

theorem exec_commandAdmission_empty (oldest : s.mbx.bells = i :: r) (empty : nth s.mbx.empty i true = true) :
    exec .commandAdmission s = .next (finish i ⟨stCrc, 0, []⟩ (recordPort 0x1411 0 [(i : Int), ((1 : Nat) : Int)] { s with
      mbx := { s.mbx with bells := r, errCrc := satInc 255 s.mbx.errCrc } })) := by
  have fails : admissionFail { s with mbx := { s.mbx with bells := r } } i = some (stCrc, 1) := if_pos empty
  have unread : readHeader i { s with mbx := { s.mbx with bells := r } } = { s with mbx := { s.mbx with bells := r } } :=
    if_pos empty
  refine congrArg Host.Outcome.next ((if_neg (cpRuns up running)).trans ?_)
  rw [oldest]
  dsimp only
  rw [fails, unread]
  rfl

end

theorem readHeader_full {i : Nat} {s : State} (full : nth s.mbx.empty i true = false) : readHeader i s =
    setTag i (fun t => { t with opcode := (header s i).opcode, seq := (header s i).seq, ordered := (header s i).ordered,
                                noIrq := (header s i).noIrq, interim := (header s i).interim, len := (header s i).len }) s :=
  if_neg (by rw [full]; exact Bool.false_ne_true)

/-- A command admitted without ORDERED is RUNNING with its header's fields. -/
theorem tag_admitCmd_readHeader {i : Nat} {s : State} (full : nth s.mbx.empty i true = false)
    (inTable : i < s.mbx.tags.length) (plain : (header s i).ordered = false) :
    tag (admitCmd i (readHeader i s)) i = { tag s i with
      opcode := (header s i).opcode, seq := (header s i).seq, ordered := false, noIrq := (header s i).noIrq
      interim := (header s i).interim, len := (header s i).len, admitted := true, at_ := now s, st := .running } := by
  have length : i < (readHeader i s).mbx.tags.length := by
    rw [readHeader_full full]
    simpa [setTag, upd] using inTable
  rw [admitCmd, tag_setTag length, readHeader_full full, tag_setTag inTable, plain]
  rfl

/-! ## CANCEL (R523) -/

theorem exec_cancel_free {i k : Nat} {b : Bool} {s : State} (may : canStart s i 0x01 = true)
    (target : cancelTarget (start i s) i = k) (other : k ≠ i) (free : (tag (start i s) k).st = .free) :
    exec (.cancel i b) s = .next (finish i ⟨0x12, 0, []⟩ (start i s)) := by
  refine congrArg Host.Outcome.next ((if_pos may).trans ?_)
  dsimp only
  rw [target, if_neg (by simpa using other), free]
  rfl

theorem exec_cancel_waiting {i k : Nat} {b : Bool} {s : State} (may : canStart s i 0x01 = true)
    (target : cancelTarget (start i s) i = k) (other : k ≠ i) (runs : (tag s k).st = .running)
    (waits : (tag s k).started = false) :
    exec (.cancel i b) s = .next (finish i ⟨0, 0, []⟩ (finish k ⟨0x1A, 0, []⟩ (start i s))) := by
  refine congrArg Host.Outcome.next ((if_pos may).trans ?_)
  dsimp only
  rw [target, if_neg (by simpa using other), tag_start_of_ne other, runs]
  dsimp only
  rw [if_neg (by rw [waits]; exact Bool.false_ne_true)]
  rfl

/-! ## Replies and steps (R520) -/

/-- The reply of a short command, when no CANCEL waits for it, is its completion. -/
theorem exec_fieldSideReply_short {i : Nat} {x : Result} {s : State} (up : cpDown s = false)
    (running : s.pairs.cp.restarting = false) (runs : (tag s i).st = .running) (reply : (tag s i).reply = some x)
    (short : longOps.contains (tag s i).opcode = false) (other : (tag s i).opcode ≠ 0x01)
    (alone : ∀ k, k < 128 → cancels s i k = false) : exec (.fieldSideReply i) s = .next (finish i x s) := by
  have noCancel : (List.range 128).filter (cancels s i) = [] := by
    rw [List.filter_eq_nil_iff]
    intro k inRange
    rw [alone k (List.mem_range.1 inRange)]
    exact Bool.false_ne_true
  refine congrArg Host.Outcome.next ((if_neg (cpRuns up running)).trans ?_)
  dsimp only
  rw [if_neg (by simpa using other), noCancel, if_pos (by simp)]
  simp only [takeOne, runs, reply, short, List.foldl_nil]
  rfl

/-- A long command that waits for FC goes to the end of the order (R520). -/
theorem exec_commandStep_waiting {i : Nat} {r : List Nat} {s : State} (up : cpDown s = false)
    (running : s.pairs.cp.restarting = false) (quiet : s.mbx.bells = []) (noShort : shortWaiting s = false)
    (front : s.mbx.rr = i :: r) (home : (tag s i).opcode = 0x44) (plain : (tag s i).interim = false) :
    i < s.mbx.tags.length ∧ exec (.commandStep i) s = .next { setTag i (fun t => { t with steps := t.steps + 1 }) s with
      mbx := { (setTag i (fun t => { t with steps := t.steps + 1 }) s).mbx with rr := r.filter (· != i) ++ [i] } } := by
  have inTable : i < s.mbx.tags.length := by
    by_contra outside
    have reset : tag s i = TagInfo.reset := by simp [tag, nth, outside]
    rw [reset] at home
    exact absurd home (by decide)
  have acts : ¬(cpDown s || s.pairs.cp.restarting || !s.mbx.bells.isEmpty || shortWaiting s || s.mbx.rr.head? != some i) = true := by
    simp [up, running, quiet, noShort, front]
  have noInterim : postInterim i (setTag i (fun t => { t with steps := t.steps + 1 }) s) =
      setTag i (fun t => { t with steps := t.steps + 1 }) s := by
    refine if_neg ?_
    rw [tag_setTag inTable, plain]
    exact Bool.false_ne_true
  refine ⟨inTable, congrArg Host.Outcome.next ((if_neg acts).trans ?_)⟩
  dsimp only
  rw [noInterim]
  have opcode : ∀ rr : List Nat, (tag { setTag i (fun t => { t with steps := t.steps + 1 }) s with
      mbx := { (setTag i (fun t => { t with steps := t.steps + 1 }) s).mbx with rr := rr } } i).opcode = 0x44 := by
    intro rr
    exact (congrArg TagInfo.opcode (tag_setTag inTable _)).trans home
  have order : (setTag i (fun t => { t with steps := t.steps + 1 }) s).mbx.rr.filter (· != i) = r.filter (· != i) := by
    change s.mbx.rr.filter (· != i) = _
    rw [front]
    simp
  rw [order, longBody, opcode]
  rfl

/-- Settles O49: each command past its guard, its tags by what a completion and a start make of them. -/
theorem commandFlow : Obligations.CommandFlow := by
  unfold Obligations.CommandFlow
  refine ⟨?_, ?_, ?_, fun i k b s may _ => exec_cancel_free may, ?_, fun i x s => exec_fieldSideReply_short, ?_, ?_⟩
  · intro i r s up running oldest passes inTable plain full
    refine ⟨_, exec_commandAdmission_admits up running oldest passes, ?_⟩
    have tagged := tag_admitCmd_readHeader (s := { s with mbx := { s.mbx with bells := r } }) full inTable plain
    rw [tagged, admitCmd, readHeader_full (s := { s with mbx := { s.mbx with bells := r } }) full]
    exact ⟨rfl, rfl, rfl, rfl, rfl, rfl, rfl, rfl, rfl⟩
  · intro i r s up running oldest empty inTable
    obtain ⟨e, m, irq, l, noted⟩ := noted_recordPort 0x1411 0 [(i : Int), ((1 : Nat) : Int)] { s with
      mbx := { s.mbx with bells := r, errCrc := satInc 255 s.mbx.errCrc } }
    obtain ⟨completed, crc, bells⟩ := finish_counts i ⟨stCrc, 0, []⟩ (recordPort 0x1411 0 [(i : Int), ((1 : Nat) : Int)] { s with
      mbx := { s.mbx with bells := r, errCrc := satInc 255 s.mbx.errCrc } })
    refine ⟨_, exec_commandAdmission_empty up running oldest empty, ?_, ?_, ?_, ?_, ?_⟩
    · rw [bells, noted]
    · exact tag_finish_st _ (by rw [noted]; exact inTable)
    · rw [crc, noted]
    · rw [completed, noted]
    · rw [finish_par, noted]
  · intro i s may inTable
    have length : i < (start i s).mbx.tags.length := by rwa [start_tags_length]
    refine ⟨_, congrArg Host.Outcome.next (oneStep_of may), ?_, ?_, ?_, ?_, ?_, ?_⟩
    · exact tag_finish_st _ length
    · exact congrArg TagInfo.final (tag_finish _ length)
    · exact (finish_counts i _ _).1
    · exact finish_par _ _ _
    · exact finish_op _ _ _
    · exact finish_evt _ _ _
  · intro i k b s may inTable target other kInTable runs waits
    refine ⟨_, exec_cancel_waiting may target other runs waits, ?_, ?_, rfl⟩
    · rw [tag_finish_of_ne _ other, tag_finish _ (by rwa [start_tags_length])]
    · exact tag_finish_st _ (by rwa [finish_tags_length, start_tags_length])
  · intro i r s up running quiet noShort front home plain
    obtain ⟨inTable, steps⟩ := exec_commandStep_waiting up running quiet noShort front home plain
    exact ⟨_, steps, rfl, rfl, rfl, fun _ => congrArg TagInfo.steps (tag_setTag inTable _)⟩
  · intro c s since passed timed
    have due : (heldFor s.mbx.coalSince (parN s P.portIrqCoalUs * 1000) s && parN s P.portIrqCoalUs != 0) = true := by
      rw [heldFor_of_le since passed]
      simpa using timed
    exact congrArg Host.Outcome.next (if_pos due)

end Sys2Proof.Laws
end

section
/-! EYELET_WRITE at a full merge buffer (R506, R606, R607, R611). -/

namespace Sys2Proof.Laws
open Sys2Proof Sys2Proof.Machine Sys2Proof.Safety

/-- A frame header 0x30000000, EYELET_WRITE, with its CRC, and the CRC of one data word 0. -/
def soundFrame : Frame := { raw := 0x30000000, hcrc := crc16 (beBytes 4 0x30000000), dcrc := crc16 (wordBytes 0)
                            mode3 := false, clocked := true, busErr := false }

/-- The merge buffer of HB SRAM holds eight entries of half words, and the word of the oldest is poisoned. -/
def mergeFull : State := { State.reset with mem := { State.reset.mem with ctl := upd State.reset.mem.ctl 0 (fun m => { m with
  merge := (List.range 8).map (fun k => ⟨0x8000 + 8 * k, 0x0F⟩), poisoned := [(0x8000, 1)] }) } }

/-- The write of an Eyelet's word takes a ninth entry, so the oldest is written; its read finds the poisoned word, whose record
0x5C04, of class F0, makes MAX_CLASS 1 (R57, R606, R611). -/
theorem exec_eyeletWrite_mergeFull :
    ∃ t, exec (.eyeletWrite soundFrame false 0 [0]) mergeFull = .next t ∧ t.op.maxClass = 1 :=
  ⟨_, rfl, by decide +kernel⟩

/-- Refutes O54: an EYELET_WRITE to a FREE tag can write another word from the full merge buffer, whose poison is an event
then, so neither the block of the operating state nor the recorder stays as it was. -/
theorem not_hostPortFrames : ¬Obligations.HostPortFrames := by
  unfold Obligations.HostPortFrames
  rintro ⟨-, -, -, -, -, -, write, -⟩
  obtain ⟨t, answered, -, -, -, -, -, op, -⟩ := write soundFrame false 0 0 [0] mergeFull (by decide +kernel) (by decide +kernel)
    (by decide +kernel) (.inr (by decide +kernel)) (by decide) (by decide) (by decide) rfl rfl rfl
  obtain ⟨u, writes, raised⟩ := exec_eyeletWrite_mergeFull
  rw [Host.Outcome.next.inj (writes.symm.trans answered), op] at raised
  exact absurd raised (by decide)

end Sys2Proof.Laws
end

section
/-! What the CAN channels and Network Time leave of the drive (R561, R568, R574, R577, R581, R584, R588, R593, R597). One
rule per operation, in the order of the model's files. -/

namespace Sys2Proof.Laws
open Sys2Proof Sys2Proof.Machine Sys2Proof.Safety

/-! ## What is looked at -/

/-- What the two channels leave, the modulator and the links where they are asked. -/
structure Drive where
  state : OpState
  degraded : Bool
  heel : HeelBlock
  gd : Six GdDie
  pe : PeBlock
  loop : LoopBlock
  obs : ObsBlock
  fb : FbBlock
  sense : SenseBlock
  sm : SmBlock
  carrier : Option (ModBlock × JxBlock)
  kCmd : Kon Bool
  brkRel : Bool
  stoFilt : Two Bool
  held : Nat
  supply : SupplyBlock
  rst : RstBlock
  boot : BootBlock
  last : LastBlock
  tap : TapBlock
  gdSelect : Nat

def driveOf (all : Bool) (state : OpState) (degraded : Bool) (heel : HeelBlock) (gd : Six GdDie) (pe : PeBlock) (loop : LoopBlock)
    (obs : ObsBlock) (fb : FbBlock) (sense : SenseBlock) (sm : SmBlock) (mod : ModBlock) (jx : JxBlock) (kCmd : Kon Bool)
    (brkRel : Bool) (stoFilt : Two Bool) (held : Nat) (supply : SupplyBlock) (rst : RstBlock) (boot : BootBlock)
    (last : LastBlock) (tap : TapBlock) (gdSelect : Nat) : Drive :=
  ⟨state, degraded, heel, gd, pe, loop, obs, fb, sense, sm, if all then some (mod, jx) else none, kCmd, brkRel, stoFilt, held,
    supply, rst, boot, last, tap, gdSelect⟩

def drive (all : Bool) (s : State) : Drive :=
  driveOf all s.op.state s.op.degraded s.heel s.gd s.pe s.loop s.obs s.fb s.sense s.sm s.mod s.jx s.saf.kCmd s.saf.brkRel
    s.saf.stoFilt s.saf.held s.supply s.rst s.boot s.last s.tap s.gdSelect

variable {all : Bool}

@[simp] theorem drive_mk {pending free gdSelect pt op id rst boot supply pairs cp clk jx snap heel port mbx par last evt saf
    sense fb obs loop pe mod gd diag sm can nt mem thm bist tap} : drive all ⟨pending, free, gdSelect, pt, op, id, rst, boot,
      supply, pairs, cp, clk, jx, snap, heel, port, mbx, par, last, evt, saf, sense, fb, obs, loop, pe, mod, gd, diag, sm, can,
      nt, mem, thm, bist, tap⟩ = driveOf all op.state op.degraded heel gd pe loop obs fb sense sm mod jx saf.kCmd saf.brkRel
        saf.stoFilt saf.held supply rst boot last tap gdSelect := (rfl)

@[simp] theorem driveOf_self (s : State) : driveOf all s.op.state s.op.degraded s.heel s.gd s.pe s.loop s.obs s.fb s.sense s.sm
    s.mod s.jx s.saf.kCmd s.saf.brkRel s.saf.stoFilt s.saf.held s.supply s.rst s.boot s.last s.tap s.gdSelect = drive all s := (rfl)

/-- Where the carrier is not asked, the modulator and the links do not matter. -/
@[simp] theorem driveOf_false (s : State) (mod : ModBlock) (jx : JxBlock) : driveOf false s.op.state s.op.degraded s.heel s.gd
    s.pe s.loop s.obs s.fb s.sense s.sm mod jx s.saf.kCmd s.saf.brkRel s.saf.stoFilt s.saf.held s.supply s.rst s.boot s.last
    s.tap s.gdSelect = drive false s := (rfl)

@[simp] theorem drive_ite {c : Prop} [Decidable c] (t u : State) :
    drive all (if c then t else u) = if c then drive all t else drive all u := apply_ite (drive all) c t u

@[simp] theorem foldl_drive {α : Type} {f : State → α → State} (l : List α) (s : State)
    (h : ∀ s a, drive all (f s a) = drive all s) : drive all (l.foldl f s) = drive all s := by
  induction l generalizing s with
  | nil => rfl
  | cons a l ih => exact (ih (f s a)).trans (h s a)

/-! ## Answers, records and completions -/

@[simp] theorem setPar_drive (k v) (s : State) : drive all (setPar k v s) = drive all s := by
  simp [setPar]
@[simp] theorem takeFree_drive (s : State) : drive all (takeFree s).2 = drive all s := by
  simp [takeFree]
@[simp] theorem writeMem_drive (a l) (s : State) : drive all (writeMem a l s) = drive all s := by
  simp [writeMem]
@[simp] theorem noteClass_drive (cls) (s : State) : drive all (noteClass cls s) = drive all s := by
  simp [noteClass]

theorem Answered.drive {s t : State} (h : Answered s t) : drive all t = drive all s := by
  obtain ⟨tags, journal, rfl⟩ := h
  rfl

@[simp] theorem answer_drive (i r) (s : State) : drive all (answer i r s) = drive all s := (answered_answer i r s).drive
@[simp] theorem answerOk_drive (i) (s : State) : drive all (answerOk i s) = drive all s := answer_drive _ _ _
@[simp] theorem start_drive (i) (s : State) : drive all (start i s) = drive all s := (answered_setTag _ _ s).drive

@[simp] theorem record_drive (d code cls ps) (s : State) : drive all (record d code cls ps s) = drive all s := by
  obtain ⟨e, m, i, h⟩ := recorded_record d code cls ps s
  rw [h]
  rfl

/-- An event of class F0 or F1 has no reaction (R58). -/
theorem detect_low_drive {cls : Nat} (low : cls < 2) (d code ps) (s : State) :
    drive all (detect d code cls ps s) = drive all s := by
  unfold detect
  dsimp only
  split
  · rfl
  · split
    · omega
    · omega
    · simp

@[simp] theorem detect_f0_drive (d code ps) (s : State) : drive all (detect d code 0 ps s) = drive all s :=
  detect_low_drive (by decide) d code ps s
@[simp] theorem detect_f1_drive (d code ps) (s : State) : drive all (detect d code 1 ps s) = drive all s :=
  detect_low_drive (by decide) d code ps s

@[simp] theorem finish_drive (i r) (s : State) : drive all (finish i r s) = drive all s := by
  obtain ⟨mbx, cp, h⟩ := mailed_finish i r s
  rw [h]
  rfl

theorem oneStep_drive (i op f) (s : State) (h : ∀ u, drive all (f u).2 = drive all u) :
    drive all (oneStep i op f s) = drive all s := by
  simp [oneStep, h]

/-- The state that a long command's first step leaves, whether it refuses or goes on. -/
def firstLeft : State ⊕ (Result × State) → State
  | .inl u => u
  | .inr r => r.2

theorem longStep_drive (i op f) (s : State) (h : ∀ u, drive all (firstLeft (f u)) = drive all u) :
    drive all (longStep i op f s) = drive all s := by
  have begun := (h (start i s)).trans (start_drive i s)
  unfold longStep
  split
  · split
    · next e =>
      rw [e] at begun
      exact begun
    · next e =>
      rw [e] at begun
      exact (finish_drive _ _ _).trans begun
  · rfl

/-! ## The channels -/

@[simp] theorem dropTx_drive (status detail cancelled s x) : drive all (dropTx status detail cancelled s x) = drive all s := by
  unfold dropTx
  dsimp only
  repeat' split
  all_goals simp

@[simp] theorem setCh_drive (c x) (s : State) : drive all (setCh c x s) = drive all s := by
  simp [setCh]
@[simp] theorem setTx_drive (c b t) (s : State) : drive all (setTx c b t s) = drive all s := by
  simp [setTx]
@[simp] theorem addTx_drive (c b t) (s : State) : drive all (addTx c b t s) = drive all s := by
  simp [addTx]
@[simp] theorem setCounters_drive (c tec rec_) (s : State) : drive all (setCounters c tec rec_ s) = drive all s := by
  simp [setCounters]
@[simp] theorem recDown_drive (c) (s : State) : drive all (recDown c s) = drive all s := by
  simp [recDown]
@[simp] theorem beginJoin_drive (c tag) (s : State) : drive all (beginJoin c tag s) = drive all s := by
  simp [beginJoin]

@[simp] theorem nowOn_drive (c) (s : State) : drive all (nowOn c s) = drive all s := by
  unfold nowOn
  dsimp only
  split <;> simp

@[simp] theorem candFails_drive (c d) (s : State) : drive all (candFails c d s) = drive all s := by
  simp [candFails]

@[simp] theorem candHit_drive (c d) (s : State) : drive all (candHit c d s) = drive all s := by
  unfold candHit
  dsimp only
  split
  · simp
  · split <;> simp

@[simp] theorem countFlag_drive (c kind) (s : State) : drive all (countFlag c kind s) = drive all s := by
  simp [countFlag]
@[simp] theorem fifoLost_drive (c) (s : State) : drive all (fifoLost c s) = drive all s := by
  simp [fifoLost]
@[simp] theorem busOff_drive (c) (s : State) : drive all (busOff c s) = drive all s := by
  simp [busOff]

@[simp] theorem attemptSent_drive (c b t stamp) (s : State) : drive all (attemptSent c b t stamp s) = drive all s := by
  unfold attemptSent
  repeat' split
  all_goals simp

@[simp] theorem attemptFailed_drive (c b t cause) (s : State) : drive all (attemptFailed c b t cause s) = drive all s := by
  unfold attemptFailed
  repeat' split
  all_goals simp

@[simp] theorem noAckCount_drive (c t) (s : State) : drive all (noAckCount c t s) = drive all s := by
  simp [noAckCount]
@[simp] theorem attemptErred_drive (c b t) (s : State) : drive all (attemptErred c b t s) = drive all s := by
  simp [attemptErred]

@[simp] theorem queueStatus_drive (c attempt f) (s : State) : drive all (queueStatus c attempt f s) = drive all s := by
  unfold queueStatus
  repeat' split
  all_goals simp

/-! ## Network Time -/

@[simp] theorem changeRole_drive (master) (s : State) : drive all (changeRole master s) = drive all s := by
  simp [changeRole]
@[simp] theorem driftCheck_drive (f) (s : State) : drive all (driftCheck f s) = drive all s := by
  simp [driftCheck]

@[simp] theorem closeBarrier_drive (op) (s : State) : drive false (closeBarrier op s) = drive false s := by
  simp [closeBarrier]
@[simp] theorem setCarrier_drive (s : State) : drive false (setCarrier s) = drive false s := by
  simp [setCarrier]

/-- A forward step of PT gives the carrier a new origin and closes a barrier, and no more of the drive (R47, R593). -/
@[simp] theorem stepPt_drive (d) (s : State) : drive false (stepPt d s) = drive false s := by
  unfold stepPt
  dsimp only
  repeat' split
  all_goals simp

@[simp] theorem align_drive (nt pt) (s : State) : drive false (align nt pt s) = drive false s := by
  simp [align]

/-! ## The rows -/

/-- A command that leaves the drive. -/
def DriveKept (all : Bool) (s : State) (o : Host.Outcome State Fault Refusal) : Prop :=
  ∀ t, o = .next t → drive all t = drive all s

theorem driveKept_ok {s t : State} (h : drive all t = drive all s) : DriveKept all s (ok t) := by
  intro u e
  cases e
  exact h

section
variable (s : State)

theorem canBusOn_driveKept (i) : DriveKept all s (execCanBusOn i s) := by
  refine driveKept_ok (longStep_drive _ _ _ _ fun u => ?_)
  dsimp only
  repeat' split
  all_goals simp [firstLeft, no, noD, yes]

theorem canRateDetect_driveKept (i) : DriveKept all s (execCanRateDetect i s) := by
  refine driveKept_ok (longStep_drive _ _ _ _ fun u => ?_)
  dsimp only
  repeat' split
  all_goals simp [firstLeft, no]

theorem canTx_driveKept (i) : DriveKept all s (execCanTx i s) := by
  refine driveKept_ok (longStep_drive _ _ _ _ fun u => ?_)
  dsimp only
  repeat' split
  all_goals simp [firstLeft, no, noD]

theorem canFilterLoad_driveKept (i) : DriveKept all s (execCanFilterLoad i s) := by
  refine driveKept_ok (oneStep_drive _ _ _ _ fun u => ?_)
  dsimp only
  split <;> simp [no, yes]

theorem canRxRead_driveKept (i) : DriveKept all s (execCanRxRead i s) := by
  refine driveKept_ok (oneStep_drive _ _ _ _ fun u => ?_)
  dsimp only
  split <;> simp [no]

theorem canBufWrite_driveKept (i) : DriveKept all s (execCanBufWrite i s) := by
  refine driveKept_ok (oneStep_drive _ _ _ _ fun u => ?_)
  dsimp only
  repeat' split
  all_goals simp [no, yes]

theorem safeStatusTransmit_driveKept (a b) : DriveKept all s (execSafeStatusTransmit a b s) := by
  refine driveKept_ok ?_
  split <;> simp

theorem canFrameReceived_driveKept (c f) : DriveKept all s (execCanFrameReceived c f s) := by
  refine driveKept_ok ?_
  dsimp only
  repeat' split
  all_goals simp

theorem canFrameFiltering_driveKept (c) : DriveKept all s (execCanFrameFiltering c s) := by
  refine driveKept_ok ?_
  dsimp only
  repeat' split
  all_goals simp

theorem canAttemptEnd_driveKept (c b o) : DriveKept all s (execCanAttemptEnd c b o s) := by
  refine driveKept_ok ?_
  dsimp only
  repeat' split
  all_goals simp

theorem canTxDeadline_driveKept (c b running) : DriveKept all s (execCanTxDeadline c b running s) := by
  refine driveKept_ok ?_
  split
  · rfl
  · simp

theorem canErrorFlag_driveKept (c kind asTx) : DriveKept all s (execCanErrorFlag c kind asTx s) := by
  refine driveKept_ok ?_
  dsimp only
  repeat' split
  all_goals simp

theorem canRecessiveIdle_driveKept (c) : DriveKept all s (execCanRecessiveIdle c s) := by
  refine driveKept_ok ?_
  dsimp only
  repeat' split
  all_goals simp

theorem canRecoveryDone_driveKept (c) : DriveKept all s (execCanRecoveryDone c s) := by
  refine driveKept_ok ?_
  split <;> simp

theorem canOnTimeout_driveKept (c) : DriveKept all s (execCanOnTimeout c s) := by
  refine driveKept_ok ?_
  dsimp only
  repeat' split
  all_goals simp

theorem canDetectWindowEnd_driveKept (c) : DriveKept all s (execCanDetectWindowEnd c s) := by
  refine driveKept_ok ?_
  split
  · simp
  · rfl

theorem referenceMessageDue_driveKept : DriveKept all s (execReferenceMessageDue s) := by
  refine driveKept_ok ?_
  dsimp only
  repeat' split
  all_goals simp

theorem timeMasterTimeout_driveKept : DriveKept all s (execTimeMasterTimeout s) := by
  refine driveKept_ok ?_
  dsimp only
  split <;> simp

theorem networkTimeLost_driveKept : DriveKept all s (execNetworkTimeLost s) := by
  refine driveKept_ok ?_
  dsimp only
  split <;> simp

theorem referenceMessageReceived_driveKept (f) : DriveKept false s (execReferenceMessageReceived f s) := by
  refine driveKept_ok ?_
  dsimp only
  repeat' split
  all_goals simp

end

/-- A command that leaves the whole drive leaves it with and without the carrier. -/
theorem driveKept_both {s t : State} {o : Host.Outcome State Fault Refusal} {p : Prop} (h : ∀ all, DriveKept all s o)
    (e : o = .next t) : drive false t = drive false s ∧ (p → drive true t = drive true s) :=
  ⟨h false t e, fun _ => h true t e⟩

/-- Settles O59: each row leaves what `drive` looks at, the reference message all but the carrier. -/
theorem canLeavesTheDrive : Obligations.CanLeavesTheDrive := by
  unfold Obligations.CanLeavesTheDrive
  intro c s t e listed
  have kept : drive false t = drive false s ∧
      ((∀ f, c ≠ .referenceMessageReceived f) → drive true t = drive true s) := by
    cases c with
    | canTx i => exact driveKept_both (fun _ => canTx_driveKept s i) e
    | canRxRead i => exact driveKept_both (fun _ => canRxRead_driveKept s i) e
    | canFilterLoad i => exact driveKept_both (fun _ => canFilterLoad_driveKept s i) e
    | canBusOn i => exact driveKept_both (fun _ => canBusOn_driveKept s i) e
    | canRateDetect i => exact driveKept_both (fun _ => canRateDetect_driveKept s i) e
    | canBufWrite i => exact driveKept_both (fun _ => canBufWrite_driveKept s i) e
    | safeStatusTransmit a b => exact driveKept_both (fun _ => safeStatusTransmit_driveKept s a b) e
    | canFrameReceived ch f => exact driveKept_both (fun _ => canFrameReceived_driveKept s ch f) e
    | canFrameFiltering ch => exact driveKept_both (fun _ => canFrameFiltering_driveKept s ch) e
    | canAttemptEnd ch b o => exact driveKept_both (fun _ => canAttemptEnd_driveKept s ch b o) e
    | canTxDeadline ch b r => exact driveKept_both (fun _ => canTxDeadline_driveKept s ch b r) e
    | canErrorFlag ch k b => exact driveKept_both (fun _ => canErrorFlag_driveKept s ch k b) e
    | canRecessiveIdle ch => exact driveKept_both (fun _ => canRecessiveIdle_driveKept s ch) e
    | canRecoveryDone ch => exact driveKept_both (fun _ => canRecoveryDone_driveKept s ch) e
    | canOnTimeout ch => exact driveKept_both (fun _ => canOnTimeout_driveKept s ch) e
    | canDetectWindowEnd ch => exact driveKept_both (fun _ => canDetectWindowEnd_driveKept s ch) e
    | referenceMessageDue => exact driveKept_both (fun _ => referenceMessageDue_driveKept s) e
    | referenceMessageReceived f => exact ⟨referenceMessageReceived_driveKept s f t e, fun other => absurd rfl (other f)⟩
    | timeMasterTimeout => exact driveKept_both (fun _ => timeMasterTimeout_driveKept s) e
    | networkTimeLost => exact driveKept_both (fun _ => networkTimeLost_driveKept s) e
    | _ => exact listed.elim
  obtain ⟨rest, carrier⟩ := kept
  refine ⟨congrArg Drive.state rest, congrArg Drive.degraded rest, congrArg Drive.heel rest, congrArg Drive.gd rest,
    congrArg Drive.pe rest, congrArg Drive.loop rest, congrArg Drive.obs rest, congrArg Drive.fb rest,
    congrArg Drive.sense rest, congrArg Drive.sm rest, fun other => ?_, congrArg Drive.kCmd rest, congrArg Drive.brkRel rest,
    congrArg Drive.stoFilt rest, congrArg Drive.held rest, congrArg Drive.supply rest, congrArg Drive.rst rest,
    congrArg Drive.boot rest, congrArg Drive.last rest, congrArg Drive.tap rest, congrArg Drive.gdSelect rest⟩
  exact Prod.mk.inj (Option.some.inj (congrArg Drive.carrier (carrier other)))

end Sys2Proof.Laws
end

section
/-! The CAN commands and what ends them (R555, R568, R569, R571, R572, R576, R578, R579). -/

namespace Sys2Proof.Laws
open Sys2Proof Sys2Proof.Machine Sys2Proof.Safety

/-! ## A channel's entry -/

@[simp] theorem two_get_set {α : Type} (t : Two α) (c : Ch) (x : α) : (t.set c x).get c = x := by
  cases c <;> rfl

@[simp] theorem chOf_idx (c : Ch) : chOf c.idx = c := by
  cases c <;> rfl

theorem idx_lt (c : Ch) : c.idx < 2 := by
  cases c <;> decide

@[simp] theorem finish_can (i : Nat) (r : Result) (s : State) : (finish i r s).can = s.can := by
  obtain ⟨mbx, cp, e⟩ := mailed_finish i r s
  rw [e]

@[simp] theorem answer_can (i : Nat) (r : Result) (s : State) : (answer i r s).can = s.can := by
  obtain ⟨tags, journal, e⟩ := answered_answer i r s
  rw [e]

/-! ## Joining (R564, R567, R568, R587) -/

/-- A join from OFF with a timing that passes every check (R564, R568). -/
theorem exec_canBusOn_joins {i : Nat} {c : Ch} {s : State} (may : canStart s i 0x83 = true)
    (named : (nth (payload (start i s) i) 0 0).toNat = c.idx) (off : (s.can.get c).mode = .off)
    (clock : s.clk.hclkRc = false) (timing : timingFault (start i s) (c.idx + 1) = none)
    (normal : parN s (P.canChMode (c.idx + 1)) = 0) : exec (.canBusOn i) s = .next { beginJoin c (some i) (start i s) with
      mbx := { (start i s).mbx with rr := s.mbx.rr ++ [i] } } := by
  refine congrArg Host.Outcome.next (longStep_inl (u := beginJoin c (some i) (start i s)) may ?_)
  have inRange : ¬2 ≤ c.idx := Nat.not_le.2 (idx_lt c)
  have state : (chan (start i s) c).mode = .off := off
  have running : ¬(start i s).clk.hclkRc = true := by simp [start, clock]
  have mode : ¬((chan (start i s) c).mode != .busOff && parN (start i s) (P.canChMode (chSub c)) == 1) = true := by
    have join : parN (start i s) (P.canChMode (chSub c)) = 0 := normal
    rw [join, Bool.and_comm]
    exact Bool.false_ne_true
  dsimp only
  rw [named, chOf_idx, if_neg inRange, if_neg (by rw [state]; decide), if_neg running,
    show timingFault (start i s) (chSub c) = none from timing]
  exact if_neg mode

theorem beginJoin_entry (c : Ch) (tag : Option Nat) {s : State} (off : (s.can.get c).mode = .off) :
    ((beginJoin c tag s).can.get c).mode = .joining ∧ ((beginJoin c tag s).can.get c).prev = .off ∧
      ((beginJoin c tag s).can.get c).onTag = tag := by
  have here : (chan s c).mode = .off := off
  simp [beginJoin, setCh, here]

/-- The channel is ON without a command that waits for it. -/
theorem nowOn_untagged {c : Ch} {s : State} (untagged : (s.can.get c).onTag = none) : nowOn c s =
    record .hb 0x5802 0 [(c.idx : Int), divRound 80000000 (nomBit s (c.idx + 1))]
      { s with can := s.can.set c { s.can.get c with mode := .on } } := by
  have entry : ({ s.can.get c with mode := .on, onTag := none } : CanCh) = { s.can.get c with mode := .on } := by
    rw [← untagged]
  have here : (chan s c).onTag = none := untagged
  unfold nowOn
  dsimp only
  rw [here]
  change record .hb 0x5802 0 [(c.idx : Int), divRound 80000000 (nomBit s (c.idx + 1))]
    { s with can := s.can.set c { s.can.get c with mode := .on, onTag := none } } = _
  rw [entry]

theorem nowOn_entry (c : Ch) (s : State) : (nowOn c s).can.get c = { s.can.get c with mode := .on, onTag := none } := by
  unfold nowOn
  dsimp only
  split <;> simp [setCh, answerOk, chan]

theorem exec_canRecessiveIdle_joined {c : Ch} {s : State} (joining : (s.can.get c).mode = .joining)
    (powered : s.supply.hbLock = false) (untagged : (s.can.get c).onTag = none) :
    exec (.canRecessiveIdle c) s = .next (record .hb 0x5802 0 [(c.idx : Int), divRound 80000000 (nomBit s (c.idx + 1))]
      { s with can := s.can.set c { s.can.get c with mode := .on } }) := by
  have here : (chan s c).mode = .joining := joining
  refine congrArg Host.Outcome.next ((if_neg (by rw [powered]; exact Bool.false_ne_true)).trans ?_)
  rw [here]
  exact nowOn_untagged untagged

theorem exec_canRecessiveIdle_counts {c : Ch} {s : State} (recovering : (s.can.get c).mode = .recovering)
    (powered : s.supply.hbLock = false) : exec (.canRecessiveIdle c) s = .next { s with can := s.can.set c { s.can.get c with
      idle := satInc 128 (s.can.get c).idle } } := by
  have here : (chan s c).mode = .recovering := recovering
  refine congrArg Host.Outcome.next ((if_neg (by rw [powered]; exact Bool.false_ne_true)).trans ?_)
  split
  case h_1 joining => exact absurd (here.symm.trans joining) (by decide)
  case h_2 => rfl
  case h_3 neither => exact absurd here neither

theorem exec_canRecoveryDone_complete {c : Ch} {s : State} (recovering : (s.can.get c).mode = .recovering)
    (full : (s.can.get c).idle = 128) (powered : s.supply.hbLock = false) : exec (.canRecoveryDone c) s =
      .next (nowOn c (setCh c { s.can.get c with tec := 0, rec_ := 0, idle := 0 } s)) :=
  congrArg Host.Outcome.next (if_pos (by simp [chan, recovering, full, powered]))

theorem exec_canOnTimeout_passed {c : Ch} {i : Nat} {s : State} (timed : parN s (P.canOnTimeout (c.idx + 1)) ≠ 0)
    (joining : (s.can.get c).mode = .joining)
    (passed : (s.can.get c).joinAt + parN s (P.canOnTimeout (c.idx + 1)) * 1000000 ≤ s.pt.ns)
    (powered : s.supply.hbLock = false) (waits : (s.can.get c).onTag = some i) :
    exec (.canOnTimeout c) s = .next (answer i ⟨0x20, 0x5803, []⟩ (record .hb 0x5803 0 [(c.idx : Int), 0]
      { s with can := s.can.set c { s.can.get c with mode := (s.can.get c).prev, onTag := none } })) := by
  have guard : (parN s (P.canOnTimeout (chSub c)) != 0 && ((chan s c).mode == .joining || (chan s c).mode == .recovering) &&
      decide ((chan s c).joinAt + parN s (P.canOnTimeout (chSub c)) * 1000000 ≤ now s) && !s.supply.hbLock) = true := by
    rw [decide_eq_true (show (chan s c).joinAt + parN s (P.canOnTimeout (chSub c)) * 1000000 ≤ now s from passed), powered]
    simpa [chan, chSub, joining] using timed
  have tagged : (chan s c).onTag = some i := waits
  refine congrArg Host.Outcome.next ((if_pos guard).trans ?_)
  dsimp only
  rw [tagged]
  rfl

/-! ## Rate detection (R569) -/

theorem exec_canRateDetect_detects {i : Nat} {c : Ch} {s : State} (may : canStart s i 0x84 = true)
    (named : (nth (payload (start i s) i) 0 0).toNat = c.idx)
    (good : ∀ r ∈ ratesOf ((payload (start i s) i).drop 4), (candTiming (parN s (P.canNomSp (c.idx + 1))) r).isSome = true)
    (off : (s.can.get c).mode = .off) : exec (.canRateDetect i) s = .next { setCh c { s.can.get c with
      mode := .detect, prev := .off, det := some ⟨i, ratesOf ((payload (start i s) i).drop 4), 0, 0, 0, s.pt.ns⟩ }
      (start i s) with mbx := { (start i s).mbx with rr := s.mbx.rr ++ [i] } } := by
  have candidates : (ratesOf ((payload (start i s) i).drop 4)).any
      (fun r => (candTiming (parN (start i s) (P.canNomSp (chSub c))) r).isNone) = false := by
    refine List.any_eq_false.2 fun r mem => ?_
    have some_ : (candTiming (parN (start i s) (P.canNomSp (chSub c))) r).isSome = true := good r mem
    rw [← Option.not_isSome, some_]
    exact Bool.false_ne_true
  have state : (chan (start i s) c).mode = .off := off
  refine congrArg Host.Outcome.next (longStep_inl (u := setCh c { s.can.get c with
      mode := .detect, prev := .off, det := some ⟨i, ratesOf ((payload (start i s) i).drop 4), 0, 0, 0, s.pt.ns⟩ }
      (start i s)) may ?_)
  dsimp only
  rw [named, chOf_idx, candidates, if_neg (by simp [idx_lt c]), if_neg (by rw [state]; decide), state]
  rfl

theorem exec_canDetectWindowEnd_fails {c : Ch} {d : CanDet} {s : State} (runs : (s.can.get c).det = some d)
    (powered : s.supply.hbLock = false) (passed : d.since + parN s P.canDetWindow * 1000000 ≤ s.pt.ns)
    (last : d.rates.length ≤ d.idx + 1) (lastPass : parN s P.canDetPasses ≤ d.pass + 1) :
    exec (.canDetectWindowEnd c) s = .next (answer d.tag ⟨0x20, 0x5804, []⟩ (detect .hb 0x5804 1 [(c.idx : Int)]
      { s with can := s.can.set c { s.can.get c with mode := .listen, det := none } })) := by
  have here : (chan s c).det = some d := runs
  have open_ : ¬(s.supply.hbLock || decide (now s < d.since + parN s P.canDetWindow * 1000000)) = true := by
    rw [decide_eq_false (Nat.not_lt.2 (show _ ≤ now s from passed)), powered]
    exact Bool.false_ne_true
  refine congrArg Host.Outcome.next ?_
  rw [here]
  dsimp only
  rw [if_neg open_]
  exact (if_neg (Nat.not_lt.2 last)).trans (if_neg (Nat.not_lt.2 lastPass))

/-! ## Filters, buffers and frames (R571, R572, R576, R578, R579) -/

theorem exec_canFilterLoad_loads {i : Nat} {c : Ch} {s : State} (may : canStart s i 0x82 = true)
    (named : (nth (payload (start i s) i) 0 0).toNat = c.idx) (zero : nth (payload (start i s) i) 1 0 = 0)
    (first : beNat (((payload (start i s) i).drop 2).take 2) ≤ (s.can.get c).filt.length)
    (short : beNat (((payload (start i s) i).drop 2).take 2) + (filterEntries ((payload (start i s) i).drop 4)).length ≤ 512)
    (legal : ∀ e ∈ filterEntries ((payload (start i s) i).drop 4), bitOf e.1 29 = false ∧ bitOf e.2 29 = false) :
    exec (.canFilterLoad i) s = .next (finish i ⟨0, 0, []⟩ (setCh c { s.can.get c with
      filt := (s.can.get c).filt.take (beNat (((payload (start i s) i).drop 2).take 2)) ++
        filterEntries ((payload (start i s) i).drop 4) ++
        (s.can.get c).filt.drop (beNat (((payload (start i s) i).drop 2).take 2) +
          (filterEntries ((payload (start i s) i).drop 4)).length) } (start i s))) := by
  have entries : (filterEntries ((payload (start i s) i).drop 4)).any (fun e => bitOf e.1 29 || bitOf e.2 29) = false := by
    refine List.any_eq_false.2 fun e mem => ?_
    obtain ⟨id, mask⟩ := legal e mem
    rw [id, mask]
    exact Bool.false_ne_true
  refine congrArg Host.Outcome.next ((oneStep_of may).trans ?_)
  dsimp only
  rw [named, chOf_idx, zero, entries, decide_eq_false (Nat.not_le.2 (idx_lt c)),
    decide_eq_false (Nat.not_lt.2 (show _ ≤ (chan (start i s) c).filt.length from first)), decide_eq_false (Nat.not_lt.2 short)]
  rfl

/-- The free buffers of a channel that sends nothing: the first host buffer is 2 (R578). -/
theorem freeBuf_of_idle {x : CanCh} (idle : x.tx = List.replicate 8 none) : freeBuf x = some 2 := by
  simp [freeBuf, txAt, idle, nth]

/-- The entry of a CAN_TX's frame in its host buffer, the data taken from the payload (R578). -/
def txEntry (i : Nat) (x : TxOp) (since : Nat) : CanTx :=
  ⟨⟨x.ident, x.kind, x.brs, false, false, x.xl, x.data, 0⟩, some i, x.oneShot, false, none, false, none, since⟩

theorem tag_start_at {i : Nat} {s : State} (h : i < s.mbx.tags.length) : (tag (start i s) i).at_ = (tag s i).at_ := by
  unfold start
  rw [tag_setTag h]

theorem exec_canTx_pends {i : Nat} {c : Ch} {s : State} (may : canStart s i 0x80 = true)
    (named : (txOp (payload (start i s) i)).chan = c.idx)
    (good : (txOp (payload (start i s) i)).inRange (s.can.get c).stageLen = true) (on : (s.can.get c).mode = .on)
    (plain : (txOp (payload (start i s) i)).buf = false) (idle : (s.can.get c).tx = List.replicate 8 none) :
    exec (.canTx i) s = .next { addTx c 2 (txEntry i (txOp (payload (start i s) i)) (tag s i).at_) (start i s) with
      mbx := { (start i s).mbx with rr := s.mbx.rr ++ [i] } } := by
  have state : (chan (start i s) c).mode = .on := on
  have range : (txOp (payload (start i s) i)).inRange (chan (start i s) c).stageLen = true := good
  have free : freeBuf (chan (start i s) c) = some 2 := freeBuf_of_idle idle
  refine congrArg Host.Outcome.next (longStep_inl
    (u := addTx c 2 (txEntry i (txOp (payload (start i s) i)) (tag s i).at_) (start i s)) may ?_)
  dsimp only
  rw [named, chOf_idx, range, if_neg (by decide), if_neg (by rw [state]; decide), free]
  dsimp only
  rw [plain, tag_start_at (lt_of_canStart may)]
  rfl

theorem exec_canBufWrite_loads {i : Nat} {c : Ch} {s : State} (may : canStart s i 0x85 = true)
    (named : (nth (payload (start i s) i) 0 0).toNat = c.idx) (zero : nth (payload (start i s) i) 1 0 = 0)
    (short : beNat (((payload (start i s) i).drop 2).take 2) + ((payload (start i s) i).drop 4).length ≤ 2048)
    (free : bufPending (s.can.get c) = false) : exec (.canBufWrite i) s = .next (finish i ⟨0, 0, []⟩
      (writeMem (stageAt c + beNat (((payload (start i s) i).drop 2).take 2)) ((payload (start i s) i).drop 4)
        (setCh c { s.can.get c with stageLen := (max (s.can.get c).stageLen
          (beNat (((payload (start i s) i).drop 2).take 2) + ((payload (start i s) i).drop 4).length)) } (start i s)))) := by
  refine congrArg Host.Outcome.next ((oneStep_of may).trans ?_)
  dsimp only
  rw [named, chOf_idx, zero, decide_eq_false (Nat.not_le.2 (idx_lt c)), decide_eq_false (Nat.not_lt.2 short),
    show bufPending (chan (start i s) c) = false from free]
  rfl

/-- The answer of CAN_RX_READ: the frames read, those that stay, the overflow count and the records (R576). -/
def rxAnswer (n : Nat) (x : CanCh) : Result :=
  let out := readFrames n 1004 x.fifo
  ⟨0, 0, beBytes 1 out.2.1 ++ beBytes 1 (out.2.2.filter (fun e => e.filtered)).length ++ beBytes 2 x.ovCount ++ out.1⟩

theorem exec_canRxRead_reads {i : Nat} {c : Ch} {s : State} (may : canStart s i 0x81 = true)
    (named : (nth (payload (start i s) i) 0 0).toNat = c.idx) (few : (nth (payload (start i s) i) 1 0).toNat ≤ 63) :
    exec (.canRxRead i) s = .next (finish i (rxAnswer (nth (payload (start i s) i) 1 0).toNat (s.can.get c))
      (setCh c { s.can.get c with
        fifo := (readFrames (nth (payload (start i s) i) 1 0).toNat 1004 (s.can.get c).fifo).2.2, ovCount := 0, ovRecorded := false }
        (start i s))) := by
  refine congrArg Host.Outcome.next ((oneStep_of may).trans ?_)
  dsimp only
  rw [named, chOf_idx, decide_eq_false (Nat.not_le.2 (idx_lt c)), decide_eq_false (Nat.not_lt.2 few)]
  rfl

/-- Settles O45: each command past its refusals, each row past its guard, with the channel's entry that it leaves. -/
theorem canCommands : Obligations.CanCommands := by
  unfold Obligations.CanCommands
  refine ⟨?_, fun c s => exec_canRecessiveIdle_joined, fun c s => exec_canRecessiveIdle_counts, ?_,
    fun c i s => exec_canOnTimeout_passed, ?_, fun c d s => exec_canDetectWindowEnd_fails, ?_, ?_, ?_, ?_⟩
  · intro i c s may named off clock timing normal
    obtain ⟨mode, prev, tagged⟩ := beginJoin_entry c (some i) (s := start i s) off
    exact ⟨_, exec_canBusOn_joins may named off clock timing normal, mode, prev, tagged, rfl⟩
  · intro c s recovering full powered
    have entry := nowOn_entry c (setCh c { s.can.get c with tec := 0, rec_ := 0, idle := 0 } s)
    refine ⟨_, exec_canRecoveryDone_complete recovering full powered, ?_⟩
    rw [entry, setCh, two_get_set]
    exact ⟨rfl, rfl, rfl⟩
  · rintro i c l s may named rfl good off
    refine ⟨_, exec_canRateDetect_detects may named good off, ?_⟩
    simp [setCh]
  · rintro i n c l s may inTable named zero rfl rfl first short legal
    refine ⟨_, exec_canFilterLoad_loads may named zero first short legal, ?_, ?_⟩
    · exact tag_finish_st _ (by simpa [setCh, start_tags_length] using inTable)
    · simp [setCh]
  · rintro i c x s may rfl named good on plain idle
    refine ⟨_, exec_canTx_pends may named good on plain idle, ?_, rfl⟩
    simp [addTx, setCh]
    rfl
  · rintro i n c s may named zero rfl short free
    refine ⟨_, exec_canBufWrite_loads may named zero short free, ?_⟩
    simp [writeMem, setCh]
  · intro i c s may named few
    refine ⟨_, exec_canRxRead_reads may named few, ?_⟩
    simp [setCh]

end Sys2Proof.Laws
end

section
/-! Corrections, poisoned words, scrubbing, spare rows and memory tests (R606 to R621, R646, R649, R652). -/

namespace Sys2Proof.Laws
open Sys2Proof Sys2Proof.Machine Sys2Proof.Safety

/-! ## Controllers -/

theorem ctlOf_fc {m : Nat} (h : m < 12) : ctlOf .fc m = some (2 + m) :=
  if_pos h

theorem ctlDie_fc {m : Nat} (h : m < 12) : ctlDie (2 + m) = .fc := by
  unfold ctlDie
  rw [if_neg (by omega), if_pos (by omega)]

theorem memParams_fc {m : Nat} (h : m < 12) (a : Nat) (l : List Int) :
    memParams (2 + m) a l = [1, (m : Int), (a : Int)] ++ l := by
  unfold memParams ctlMem
  rw [ctlDie_fc h, if_neg (by omega), if_pos (by omega), Nat.add_sub_cancel_left]
  rfl

theorem isMram_fc (m : Nat) : isMram (2 + m) = false :=
  beq_eq_false_iff_ne.2 (by omega)

/-- The controller's entry after it was set, where the table has it. -/
theorem memCtl_setCtl {c : Nat} {s : State} (inTable : c < s.mem.ctl.length) (m : MemCtl) : memCtl (setCtl c m s) c = m := by
  simp [memCtl, setCtl, nth, upd, inTable]

/-- The guard of a memory's command or row: the die is up and the address in the memory. -/
theorem reachable {d : Die} {c a : Nat} {s : State} (up : dieDown s d = false) (inside : a < ctlSize c) :
    (dieDown s d || decide (ctlSize c ≤ a)) = false := by
  rw [up, decide_eq_false (Nat.not_le.2 inside)]
  rfl

/-! ## Corrected and lost words (R608, R611, R613) -/

theorem exec_eccCorrection {d : Die} {m a c : Nat} {s : State} (y : Nat) (named : ctlOf d m = some c) (up : dieDown s d = false)
    (inside : a < ctlSize c) : exec (.eccCorrection d m a y) s = .next (correct1 c (a / 8 * 8) y s) := by
  refine congrArg Host.Outcome.next ?_
  rw [named]
  dsimp only
  rw [reachable up inside]
  rfl

theorem exec_eccUncorrectable_fc {m a : Nat} {s : State} (r : MemRegion) (b : Bool) (h : m < 12) (up : dieDown s .fc = false)
    (inside : a < ctlSize (2 + m)) : exec (.eccUncorrectable .fc m a r b) s = .next (demandBad (2 + m) (a / 8 * 8) r b s) := by
  refine congrArg Host.Outcome.next ?_
  rw [ctlOf_fc h]
  dsimp only
  rw [reachable up inside]
  rfl

theorem demandBad_fcSafety {m : Nat} (a : Nat) (b : Bool) (s : State) (h : m < 12) :
    demandBad (2 + m) a .fcSafety b s = detect .fc 0x5C07 3 [1, (m : Int), (a : Int)]
      (record .fc 0x5C04 0 [1, (m : Int), (a : Int), 7] (poison (2 + m) a 7 (countBad (2 + m) s))) := by
  unfold demandBad demandOutcome
  dsimp only
  rw [ctlDie_fc h, memParams_fc h, memParams_fc h]
  rfl

/-! ## The merge buffer (R606, R607) -/

/-- The bytes of an entry that a flush writes: those held, and those of the write. -/
def flushMask (held : Option MergeEntry) (mask : Nat) : Nat :=
  ((match held with | some e => e.mask | none => 0) ||| mask) % 256

theorem flushMask_full (held : Option MergeEntry) : flushMask held 255 = 255 := by
  refine Nat.eq_of_testBit_eq fun k => ?_
  have all : Nat.testBit 255 k = decide (k < 8) := Nat.testBit_two_pow_sub_one 8 k
  unfold flushMask
  rw [show (256 : Nat) = 2 ^ 8 from rfl, Nat.testBit_mod_two_pow, Nat.testBit_or, all]
  cases decide (k < 8) <;> simp

theorem exec_mergeBufferFlush_fc {m a mask : Nat} {s : State} (r : Option MemRegion) (h : m < 12) (up : dieDown s .fc = false)
    (inside : a < ctlSize (2 + m))
    (some_ : flushMask ((memCtl s (2 + m)).merge.find? (fun e => e.addr == a / 8 * 8)) mask ≠ 0) :
    exec (.mergeBufferFlush .fc m a mask r) s = .next (writeEntry (2 + m)
      ⟨a / 8 * 8, flushMask ((memCtl s (2 + m)).merge.find? (fun e => e.addr == a / 8 * 8)) mask⟩ (r.map regionCode) s) := by
  refine congrArg Host.Outcome.next ?_
  rw [ctlOf_fc h]
  dsimp only
  rw [reachable up inside, isMram_fc, if_neg (by decide)]
  exact if_neg (fun nothing => some_ (beq_iff_eq.1 nothing))

theorem writeEntry_whole (c a : Nat) (bad : Option Nat) (s : State) : writeEntry c ⟨a, 255⟩ bad s =
    unpoison c a (cancelBack c a (setCtl c { memCtl s c with merge := (memCtl s c).merge.filter (fun e => e.addr != a) } s)) :=
  rfl

theorem writeEntry_lost {c a mask : Nat} (k : Nat) (s : State) (part : mask ≠ 255) : writeEntry c ⟨a, mask⟩ (some k) s =
    poison c a k (record (ctlDie c) 0x5C04 0 (memParams c a [(k : Int)]) (countBad c
      (cancelBack c a (setCtl c { memCtl s c with merge := (memCtl s c).merge.filter (fun e => e.addr != a) } s)))) :=
  if_neg (by simpa using part)

theorem writeEntries_empty {c : Nat} {s : State} (f : MergeEntry → Bool) (empty : (memCtl s c).merge = []) :
    writeEntries c f s = s := by
  unfold writeEntries
  rw [empty]
  rfl

/-! ## Passes of the scrubber (R615, R616) -/

theorem passDue_pos {s : State} {c a : Nat} (due : passDue s c a = true) : a = 8 * (memCtl s c).pos := by
  obtain ⟨⟨-, next⟩, -⟩ : (passRuns s c = true ∧ a = 8 * (memCtl s c).pos) ∧ _ := by simpa [passDue] using due
  exact next

theorem passOn_last {c : Nat} {s : State} (last : ctlWords c ≤ (memCtl s c).pos + 1) : passOn c s =
    setCtl c { startPass (max ((memCtl s c).passAt + (memCtl s c).period * 1000000000) (now s)) (parN s P.memScrubPeriod)
      (memCtl s c) with pass := (memCtl s c).pass + 1 } s :=
  if_neg (Nat.not_lt.2 last)

theorem exec_scrubRead_good {m a : Nat} {s : State} (h : m < 12) (up : dieDown s .fc = false) (inside : a < ctlSize (2 + m))
    (due : passDue s (2 + m) (a / 8 * 8) = true) (empty : (memCtl s (2 + m)).merge = []) :
    exec (.scrubRead .fc m a .good) s = .next (passOn (2 + m) s) := by
  refine congrArg Host.Outcome.next ?_
  rw [ctlOf_fc h]
  dsimp only
  rw [reachable up inside, writeEntries_empty _ empty, show wordOf a = a / 8 * 8 from rfl, due]
  rfl

theorem exec_scrubPassLate_fc {m : Nat} {s : State} (h : m < 12) (up : dieDown s .fc = false)
    (on : (memCtl s (2 + m)).on = true) (enabled : par s P.memScrubEnable = 1)
    (late : (memCtl s (2 + m)).passAt + (memCtl s (2 + m)).period * 1250000000 ≤ s.pt.ns) :
    exec (.scrubPassLate .fc m) s = .next (detect .fc 0x5C09 1 [1, (m : Int), 0, ((memCtl s (2 + m)).pass : Int)]
      (setCtl (2 + m) { startPass s.pt.ns (parN s P.memScrubPeriod) (memCtl s (2 + m)) with
        late := true, pass := (memCtl s (2 + m)).pass + 1 } s)) := by
  refine congrArg Host.Outcome.next ?_
  have runs : passRuns s (2 + m) = true := by simp [passRuns, parOn, on, enabled]
  rw [ctlOf_fc h]
  dsimp only
  rw [runs, up, memParams_fc h, decide_eq_true (show _ ≤ now s from late)]
  rfl

theorem exec_rowMigration_fc {m a : Nat} {s : State} (h : m < 12) (up : dieDown s .fc = false)
    (waits : (memCtl s (2 + m)).migrate.any (fun x => x / 64 == a / 64) = true)
    (spare : spareUsed (memCtl s (2 + m)) (a / 65536) < 4) (idle : engineIdle s (2 + m) = true) :
    exec (.rowMigration .fc m a) s = .next (migrateRow (2 + m) (a / 8 * 8)
      (writeEntries (2 + m) (fun e => e.addr / 64 == a / 64) s)) := by
  refine congrArg Host.Outcome.next ?_
  rw [ctlOf_fc h]
  dsimp only
  rw [up, waits, idle]
  exact if_pos spare

theorem exec_gdLatchCheck {p : GdPos} {s : State} (l : List Nat) (b : Bool) (up : dieDown s (.gd p) = false)
    (runs : passRuns s (12 + p.id) = true) (first : (memCtl s (12 + p.id)).latched = false) :
    exec (.gdLatchCheck p l b) s = .next (l.foldl (latchDiffers p b)
      (setCtl (12 + p.id) { memCtl s (12 + p.id) with latched := true } s)) := by
  refine congrArg Host.Outcome.next ?_
  dsimp only
  rw [up, runs, first]
  rfl

/-! ## SCRUB_RANGE and the memory tests (R618, R646, R649, R652) -/

theorem longStep_refused {i op : Nat} {f : State → State ⊕ (Result × State)} {s : State} {r : Result × State}
    (may : canStart s i op = true) (refused : f (start i s) = .inr r) : longStep i op f s = finish i r.1 r.2 := by
  unfold longStep
  rw [if_pos may, refused]

@[simp] theorem finish_mem (i : Nat) (r : Result) (s : State) : (finish i r s).mem = s.mem := by
  obtain ⟨mbx, cp, e⟩ := mailed_finish i r s
  rw [e]

theorem exec_scrubRange_empty {i c : Nat} {s : State} (may : canStart s i 0x78 = true)
    (named : ctlNamed (payload (start i s) i) = some c) (empty : beNat (((payload (start i s) i).drop 6).take 4) = 0) :
    exec (.scrubRange i) s = .next (finish i ⟨0, 0, []⟩ (start i s)) := by
  refine congrArg Host.Outcome.next (longStep_refused (r := yes (start i s)) may ?_)
  dsimp only
  rw [named, empty]
  rfl

/-- A range of the memory waits to be scrubbed, from its first word to the end of its last. -/
theorem exec_scrubRange_waits {i c : Nat} {s : State} (may : canStart s i 0x78 = true)
    (named : ctlNamed (payload (start i s) i) = some c) (some_ : beNat (((payload (start i s) i).drop 6).take 4) ≠ 0)
    (inside : beNat (((payload (start i s) i).drop 2).take 4) + beNat (((payload (start i s) i).drop 6).take 4) ≤ ctlSize c) :
    ∃ mbx, exec (.scrubRange i) s = .next { start i s with mbx := mbx, mem := { s.mem with scrubs := s.mem.scrubs ++
      [⟨i, c, beNat (((payload (start i s) i).drop 2).take 4) / 8 * 8, (beNat (((payload (start i s) i).drop 2).take 4) +
        beNat (((payload (start i s) i).drop 6).take 4) + 7) / 8 * 8⟩] } } := by
  refine ⟨_, congrArg Host.Outcome.next (longStep_inl (u := { start i s with mem := { s.mem with scrubs := s.mem.scrubs ++
      [⟨i, c, beNat (((payload (start i s) i).drop 2).take 4) / 8 * 8, (beNat (((payload (start i s) i).drop 2).take 4) +
        beNat (((payload (start i s) i).drop 6).take 4) + 7) / 8 * 8⟩] } }) may ?_)⟩
  dsimp only
  rw [named]
  dsimp only
  rw [beq_false_of_ne some_, if_neg Bool.false_ne_true, if_neg (Nat.not_lt.2 inside)]
  rfl

theorem exec_memTest_starts {i c : Nat} {s : State} (may : canStart s i 0x79 = true)
    (named : ctlNamed (payload (start i s) i) = some c) (standby : s.op.state = .standby) (free : s.bist.job = none)
    (up : dieDown s (ctlDie c) = false) : ∃ mbx, exec (.memTest i) s = .next { start i s with mbx := mbx, bist := { s.bist with
      job := some ⟨some i, c, 0, 0, none, false, false, none, none⟩, memFail := false, records := [] } } := by
  refine ⟨_, congrArg Host.Outcome.next (longStep_inl (u := { start i s with bist := { s.bist with
      job := some ⟨some i, c, 0, 0, none, false, false, none, none⟩, memFail := false, records := [] } }) may ?_)⟩
  have state : (start i s).op.state = .standby := standby
  have job : (start i s).bist.job = none := free
  have die : dieDown (start i s) (ctlDie c) = false := up
  dsimp only
  rw [named, state, job]
  dsimp only
  rw [die, show (OpState.standby == OpState.run) = false from rfl, Bool.and_false]
  rfl

theorem exec_periodicMemoryTest_starts {s : State} (timed : parN s P.bistMemPeriod ≠ 0)
    (passed : s.bist.memAt + parN s P.bistMemPeriod * 1000000000 ≤ s.pt.ns) (free : s.bist.job = none)
    (powered : s.supply.fcLock = false) : exec .periodicMemoryTest s = .next { s with bist := { s.bist with
      job := some ⟨none, 3 + s.bist.due % 11, 0, 0, none, false, false, none, none⟩, memAt := s.pt.ns, memFail := false, records := []
      due := (s.bist.due + 1) % 11 } } := by
  refine congrArg Host.Outcome.next (if_neg ?_)
  rw [beq_false_of_ne timed, decide_eq_false (Nat.not_lt.2 (show _ ≤ now s from passed)), free, powered]
  exact Bool.false_ne_true

theorem memResult_clean (i c n : Nat) (l : Option Nat) :
    memResult ⟨some i, c, n, 0, none, false, false, none, l⟩ = [0, 255, 0, 0, 0, 0, 0, 0] := by
  simp [memResult]
  decide

/-- The last block of a job without a failure ends it (R645, R649). -/
theorem exec_memoryTestBlock_last {i c : Nat} {l : Option Nat} {s : State}
    (runs : s.bist.job = some ⟨some i, c, ctlBlocks c - 1, 0, none, false, false, none, l⟩) (nonempty : 0 < ctlBlocks c)
    (up : dieDown s (ctlDie c) = false)
    (window : blockWindow s ⟨some i, c, ctlBlocks c - 1, 0, none, false, false, none, l⟩ = true) :
    exec (.memoryTestBlock [] none) s = .next
      (answer i ⟨0, 0, [0, 255, 0, 0, 0, 0, 0, 0]⟩
        (record .fc 0x5F11 0 [((ctlDie c).id : Int), (ctlMem c : Int)] { s with bist := { s.bist with job := none } })) := by
  refine congrArg Host.Outcome.next ?_
  rw [runs]
  dsimp only
  rw [up, window]
  change jobGoes { s with bist := { s.bist with
    job := some ⟨some i, c, ctlBlocks c - 1 + 1, 0, none, false, false, none, some s.sense.seq⟩ } } = _
  rw [Nat.sub_add_cancel nonempty]
  rw [← memResult_clean i c (ctlBlocks c) (some s.sense.seq)]
  refine if_neg ?_
  rw [decide_eq_false (Nat.lt_irrefl _)]
  exact Bool.false_ne_true

/-- Settles O44: each row past its guard, with the word's or the job's operation that it comes to. -/
theorem memoryIntegrity : Obligations.MemoryIntegrity := by
  unfold Obligations.MemoryIntegrity
  refine ⟨fun d m a y c s => exec_eccCorrection y, ?_, ?_, ?_, ?_, fun m s => exec_scrubPassLate_fc,
    fun m a s => exec_rowMigration_fc, fun p l s => exec_gdLatchCheck [l] true, fun p b s => exec_gdLatchCheck [] b,
    ?_, ?_, ?_, fun s => exec_periodicMemoryTest_starts, fun i c l s => exec_memoryTestBlock_last⟩
  · intro m a b s h up inside
    rw [exec_eccUncorrectable_fc _ _ h up inside, demandBad_fcSafety _ _ _ h]
  · intro m a r s h up inside
    have full := flushMask_full ((memCtl s (2 + m)).merge.find? (fun e => e.addr == a / 8 * 8))
    rw [exec_mergeBufferFlush_fc r h up inside (by rw [full]; decide), full, writeEntry_whole]
  · intro m a r s h up inside empty
    have part : flushMask ((memCtl s (2 + m)).merge.find? (fun e => e.addr == a / 8 * 8)) 1 = 1 := by
      rw [empty]
      simp [flushMask]
    rw [exec_mergeBufferFlush_fc (some r) h up inside (by rw [part]; decide), part]
    change Host.Outcome.next (writeEntry (2 + m) ⟨a / 8 * 8, 1⟩ (some (regionCode r)) s) = _
    rw [writeEntry_lost _ _ (by decide), empty, ctlDie_fc h, memParams_fc h]
    rfl
  · intro m a s h up due last inTable empty
    have pos := passDue_pos due
    have inside : a < ctlSize (2 + m) := by
      unfold ctlWords at last
      omega
    refine ⟨_, exec_scrubRead_good h up inside due empty, ?_⟩
    rw [passOn_last (by omega), memCtl_setCtl inTable]
    exact ⟨rfl, rfl, rfl⟩
  · intro i c s may inTable named empty
    refine ⟨_, exec_scrubRange_empty may named empty, by simp [start], tag_finish_st _ ?_⟩
    rwa [start_tags_length]
  · rintro i c n l s may named rfl rfl some_ inside
    obtain ⟨mbx, waits⟩ := exec_scrubRange_waits may named some_ inside
    exact ⟨_, waits, rfl, rfl⟩
  · intro i c s may named standby free up
    obtain ⟨mbx, starts⟩ := exec_memTest_starts may named standby free up
    exact ⟨_, starts, rfl, rfl⟩

end Sys2Proof.Laws
end
